-- ==== Sys2Proof/Word.lean ====
section
/-!
DEFINITION. The word types of the Tillia GLD-3 (spec 00_scope.md R11, R16) and the enumerations the spec names.
Bit vectors hold what software reads and writes as words; measured and counted quantities are `Nat` or `Int`.
-/
namespace Sys2Proof

/-- A management register word (R16). -/
abbrev W32 := BitVec 32
/-- A 64-bit beat or packet (R60, R155). -/
abbrev W64 := BitVec 64
abbrev Byte := BitVec 8

/-- Voltage domains (00_scope.md "Voltage domains"; FLT_CFG.DOMAIN codes 0 to 3). -/
inductive Domain where
  | logic | array | link | mif
  deriving DecidableEq, Repr

/-- Zone states (R20), in code order 0 to 5. -/
inductive ZState where
  | off | retain | mist | run | hold | safe
  deriving DecidableEq, Repr

/-- Tile states (R139), in code order 0 to 5. -/
inductive TState where
  | off | start | reg | quiet | isolated | test
  deriving DecidableEq, Repr

/-- MSF states (06 "MSF states"), in code order 0 to 5. -/
inductive MsfState where
  | off | soft | settle | run | hiccup | latched
  deriving DecidableEq, Repr

/-- Fault classes (R402), in code order 0 to 4. -/
inductive Cls where
  | note | degrade | zoneSafe | instSafe | halt
  deriving DecidableEq, Repr

/-- Life-cycle states (R103). -/
inductive LifeCycle where
  | manufacture | provisioned | deployed | returned
  deriving DecidableEq, Repr

/-- Cross-check outcomes (R369), in code order 0 to 5. -/
inductive XOut where
  | all | eOut | bOut | aOut | noneM | noneE
  deriving DecidableEq, Repr

/-- Control-core tasks (R38), the ones the deadline rule R39 tells apart. -/
inductive Task where
  | currentCap | powerCap | energyThermal | group | adaptation | learning | calibration | housekeeping
  deriving DecidableEq, Repr

end Sys2Proof
end

