-- ==== Sys2Proof/Config.lean ====
section
/-!
DEFINITION. What an implementation, a fuse load or an image fixes: the configuration records the image carries
(03_startup_fuses_and_image.md and the register field maps marked "Image" of every chapter), the records that the
physical world supplies to a command, and the free values the spec leaves open.
-/
namespace Sys2Proof

/-! ## Free values (assumption 9) -/

/-- The temperature result of a tile in TEST is undefined (R330): a free value of the tile's global number and a counter. -/
opaque Config.testTemp : Nat → Nat → Int
/-- A quotient whose divisor is zero has no stated value (R190, R223, R309, R310, R354, R362, R369 corners): a free value of the site and the dividend. -/
opaque Config.divByZero : Nat → Int → Int
/-- A limiting to [0, hi] whose hi is negative has no stated value (R190 with RIPH above ILIMC): a free value of the site and the
limited value. -/
opaque Config.emptySat : Nat → Int → Int
/-- NONCE is drawn at each start from the ring oscillators (R391): a free value of the start's number. -/
opaque Config.nonce : Nat → BitVec 16
/-- What cell i of the n-th boundary-scan capture takes from its pin (R420): a free value. -/
opaque Config.boundaryCell : Nat → Nat → Bool

/-- The 32 bits of source detail of a report (R399) whose rule states no content: a free value of code, unit and stamp. -/
opaque Config.faultDetail : Nat → Nat → Nat → BitVec 32

/-- FAIL of a start whose step overran its bound where the spec states no failure code (R95): a free value of the step and its part. -/
opaque Config.startFail : Nat → Nat → Nat
/-- Whether a low pulse of RESET_N between 100 ns and 1 µs resets the block (R51): a free value of the start's number and the length. -/
opaque Config.resetPulse : Nat → Nat → Bool
/-- Whether the firmware section's bytes are signed for revision 3.1 (R3, R119): a free value of the bytes. -/
opaque Config.firmware31 : List Nat → Bool

/-! ## Records of the image -/

/-- Factory trim word of a tile (03 "Tile trim word"), signed fields. -/
structure Trim where
  vofs : Int := 0
  vgain : Int := 0
  tofs : Int := 0
  igain : Int := 0
  deriving DecidableEq, Repr

/-- User calibration of a tile (R109, R110). -/
structure UserCal where
  vratio : Nat := 0x8000
  iratio : Nat := 0x8000
  vofsU : Int := 0
  tofsU : Int := 0
  deriving DecidableEq, Repr

/-- One waveform row (R149), 10 ps units and eighths. -/
structure WaveRow where
  tonMin : Nat := 35
  drive : Nat := 8
  dtLh : Nat := 20
  dtHl : Nat := 16
  deriving DecidableEq, Repr

/-- TIL_CFG0 to TIL_CFG3 (04 "Tile registers") and the user calibration of a tile. -/
structure TileCfg where
  gf : Nat := 0
  ilim : Nat := 180
  slope : Nat := 0
  minph : Nat := 1
  angle : Nat := 0
  droopMv : Nat := 18
  releaseMv : Nat := 10
  taintMv : Nat := 30
  nbrs : List Nat := []
  user : UserCal := {}
  deriving DecidableEq, Repr

/-- FLT_SWARR, FLT_SWMASK and the image ageing correction of a host array (R281, R111). -/
structure ArrayCfg where
  cw : Nat := 1
  sag : Nat := 1
  pb : Nat := 0
  minLen : Nat := 1
  mask : BitVec 64 := 0
  age : Nat := 0
  deriving DecidableEq, Repr

/-- The zone's configuration: FLT_CFG, FLT_LAWCFG, FLT_SAFE, FLT_SWCFG, FLT_FCFG, FLT_STRETCH.FZMAX, TIL_WAVE, TIL_ZCFG,
FCE_ZCFG, THM_ZSENS, and the values pair 0 sends in limit updates (R164, R316). -/
structure ZoneCfg where
  pupSlew : Nat := 1
  partition : Nat := 0
  domain : Domain := .logic
  field : Nat := 0
  psh : Nat := 80
  shedDwell : Nat := 8
  fgain : Nat := 0
  bshift : Nat := 2
  gshift : Nat := 0
  safeIlim : Nat := 0
  safeVcode : Nat := 60
  waves : List WaveRow := []
  swait : Nat := 1
  imarg : Nat := 0
  pblead : Nat := 1
  agek : Nat := 0
  fboot : Nat := 1
  vt : Nat := 0
  fzmax : Nat := 0
  mult : Nat := 100
  sense : BitVec 64 := 0
  eta : Nat := 255
  defset : Nat := 0
  iref : Nat := 1
  vset : Nat := 60
  slew : Nat := 1
  vmin : Nat := 60
  vmax : Nat := 300
  ilimPol : Nat := 0
  stage : Nat := 0
  deriving DecidableEq, Repr

/-- A zone as the image describes it, with its table words (R168). -/
structure ZoneImage where
  cfg : ZoneCfg := {}
  tiles : List TileCfg := []
  arrays : List ArrayCfg := []
  gain : List W32 := []
  spatial : List W32 := []
  step : List W32 := []
  deriving DecidableEq, Repr

/-- MSF configuration (R208). -/
structure MsfCfg where
  nch : Nat := 1
  ngroup : Nat := 0
  src : Nat := 0
  ssStep : Nat := 0
  ssSlew : Nat := 1
  fcOfsMax : Nat := 0
  dly : Nat := 0
  imonGain : Nat := 100
  imonOfs : Nat := 600
  slopeTrack : Bool := false
  riph : Nat := 0
  ilimc : Nat := 0
  tonMin : Nat := 30
  dmax : Nat := 25
  slope : Nat := 0
  vgain : Nat := 0
  ki : Nat := 0
  kp : Nat := 0
  ovMargin : Nat := 100
  vimMax : Nat := 2000
  vimMin : Nat := 1500
  divs : List Nat := [1]
  vimSet : Nat := 1800
  slew : Nat := 20
  shedDwell : Nat := 50
  stepMv : Nat := 15
  shedA : Nat := 28
  addA : Nat := 36
  tshutStg : Nat := 125
  twarnStg : Nat := 110
  tmonSlope : Nat := 50
  tmon25 : Nat := 120
  deriving DecidableEq, Repr, Inhabited

/-- Cap configuration (R328). -/
structure CapCfg where
  ceil : Nat := 0
  floor : Nat := 0
  degMargin : Nat := 0
  etaM : Nat := 255
  icap : Nat := 0
  pFix : Nat := 0
  pri : List Nat := []
  dstep : Nat := 1
  cthrMax : Nat := 0
  relMargin : Nat := 0
  relDwell : Nat := 1
  gateDwell : Nat := 1
  swPower : Nat := 0
  swEnergy : Nat := 0
  lmin : List Nat := []
  deriving DecidableEq, Repr, Inhabited

/-- Selections of a band (R336, R337). -/
structure BandCfg where
  mofs : Nat := 0
  rofs : Int := 0
  chop : Nat := 0
  deriving DecidableEq, Repr

/-- EN and ZONE of THM_DIODE and the ideality factor of TCV_DCFG (R331, R363). -/
structure DiodeCfg where
  en : Bool := false
  zone : Nat := 63
  nf : Nat := 32768
  deriving DecidableEq, Repr

/-- Thermal configuration (R349). -/
structure ThmCfg where
  tNom : Int := 15
  tWarm : Int := 70
  tHot : Int := 95
  tCrit : Int := 115
  tRestart : Int := 70
  bands : List BandCfg := []
  thrStep : Nat := 4
  tstep : Nat := 1
  tlmin : Nat := 6
  grace : Nat := 20
  retLogic : Nat := 120
  retArray : Nat := 120
  retLink : Nat := 120
  retMif : Nat := 160
  diodes : List DiodeCfg := []
  deriving DecidableEq, Repr, Inhabited

/-- Converter configuration (R372). -/
structure TcvCfg where
  owLim : Nat := 100
  chkTol : Nat := 20
  xtol : Nat := 8
  xfrac : Nat := 0
  vinDiv : Nat := 41943
  iinGain : Nat := 100
  scan : List Nat := []
  rotMask : W32 := 0
  owMask : BitVec 16 := 0
  winHi : List (BitVec 16) := []
  winLo : List (BitVec 16) := []
  deriving DecidableEq, Repr, Inhabited

/-- Forecast engine configuration (07 "Registers"). -/
structure FceCfg where
  ofsHold : Nat := 0
  phLead : Nat := 0
  qmin : Nat := 1
  qdelta : Nat := 0
  ofsStep : Nat := 1
  ofsDb : Nat := 0
  deriving DecidableEq, Repr, Inhabited

/-- PCX_CFG and PCX_SPILL (R267). -/
structure PcxCfg where
  suspendMax : Nat := 1
  claimMax : Nat := 1
  lrate : Nat := 1
  spillDur : List Nat := []
  spillFloor : List Nat := []
  deriving DecidableEq, Repr, Inhabited

/-- SNG_CFG and the quiet periods (R417). -/
structure SnagCfg where
  latchWin : Nat := 600
  permN : Nat := 2
  latchN : Nat := 3
  aliveHalf : Nat := 50
  quietZ : Nat := 1000
  quietD : Nat := 100
  quietI : Nat := 10000
  deriving DecidableEq, Repr, Inhabited

/-- CSC_CFG and CSC_KEY (R398). -/
structure CscCfg where
  cap : Nat := 0
  ninst : Nat := 1
  key : W32 := 0
  deriving DecidableEq, Repr, Inhabited

/-- BST_CFG and the topology counts Plarad reports (R421, R433). `memSlices` lists the slices of the five memories. -/
structure BistCfg where
  head : Nat := 205
  mgap : Nat := 100
  tperiod : Nat := 168
  memSlices : List Nat := []
  links : Nat := 0
  seams : Nat := 0
  deriving DecidableEq, Repr, Inhabited

/-- One section entry of the header (R116, R117). -/
structure Section where
  type : Nat := 0
  offset : Nat := 0
  length : Nat := 0
  deriving DecidableEq, Repr

/-- The image header (R116). `magicOk` says MAGIC is the table's, `otherZero` that every byte the table does not name is 0. -/
structure Header where
  magicOk : Bool := true
  format : Nat := 1
  part : Nat := 0x06D3
  major : Nat := 3
  minor : Nat := 1
  deploy : Bool := false
  ret : Bool := false
  flagsOther : Bool := false
  imageLen : Nat := 8192
  nvMode : Nat := 0
  nvSckDiv : Nat := 10
  configId : W32 := 0
  logBase : Nat := 0x600000
  fhSectors : Nat := 16
  sdSectors : Nat := 16
  cntSectors : Nat := 16
  sections : List Section := []
  pubkey : List Nat := []
  otherZero : Bool := true
  deriving DecidableEq, Repr, Inhabited

/-- The parsed content of the image: its configuration section, contexts, model sets and user calibration. -/
structure Image where
  zones : List ZoneImage := []
  msf : MsfCfg := {}
  caps : CapCfg := {}
  thm : ThmCfg := {}
  tcv : TcvCfg := {}
  fce : FceCfg := {}
  pcx : PcxCfg := {}
  snag : SnagCfg := {}
  csc : CscCfg := {}
  bist : BistCfg := {}
  startSlew : Nat := 5
  contexts : List (List W32) := []
  sets : List (List W32) := []
  deriving DecidableEq, Repr, Inhabited

/-- What the bytes of a configuration section configure: their layout is Plarad's and is not in the spec, so it is a free value of the
bytes (assumption 6). -/
opaque Config.configOf : List Nat → Image

/-! ## Fuses -/

/-- The fuse fields (03 "Fuses"). -/
structure FuseFields where
  vmaxLogic : Nat := 240
  vmaxArray : Nat := 260
  vmaxMif : Nat := 220
  vmaxLink : Nat := 240
  tshut : Nat := 125
  capCeil : Nat := 2600
  faultInj : Nat := 1
  succession : Bool := false
  testDeny : Bool := false
  keyroot : List W32 := []
  trims : List W32 := []
  fmax : List Nat := []
  deriving DecidableEq, Repr, Inhabited

/-- The fields the words of the fuse array hold, by word address: the map of fuse words is not in the spec, so it is a free value of the
words (assumption 5). -/
opaque Config.fuseFields : (Nat → BitVec 128) → FuseFields

/-! ## Records that the physical world supplies to a command -/

/-- The fuse read of step 2 (R107): the cells that read otherwise than they were programmed, by word address. -/
structure FuseRead where
  flips : List (Nat × BitVec 144) := []
  deriving DecidableEq, Repr

/-- What the SFDP Basic Flash Parameter Table tells (R113). -/
structure Discovery where
  sfdpValid : Bool := true
  erase4k : Bool := true
  /-- the 4 KiB erase instruction -/
  eraseInstr : Nat := 0x20
  /-- the table's code of the quad-enable method -/
  quadEnable : Nat := 0
  densityLog2 : Nat := 26
  quad114 : Bool := false
  quad144 : Bool := true
  /-- dummy cycles of 1-1-4 and 1-4-4 fast read -/
  dummy114 : Nat := 8
  dummy144 : Nat := 6
  /-- 4-byte-address instructions are offered -/
  table4 : Bool := false
  deriving DecidableEq, Repr

/-- A shutdown record's content (R347). -/
structure ShutRecord where
  type : Nat := 0
  zone : Nat := 0
  source : Nat := 0
  time : Nat := 0
  temp : Int := 0
  tCrit : Int := 0
  tRestart : Int := 0
  cause : Nat := 0
  configId : W32 := 0
  bandmap : List Nat := []
  deriving DecidableEq, Repr

/-- A counters snapshot (R414, R415): recovery counters, tile and zone summaries, ageing bytes, run time in READY. -/
structure Snapshot where
  configId : W32 := 0
  hours : Nat := 0
  recov : List Nat := []
  tiles : List (BitVec 16) := []
  zones : List Nat := []
  ageing : List Nat := []
  deriving DecidableEq, Repr

/-- The raw sensor results of one tile over a sample slot (R150): voltage and the four phase currents. -/
structure RawTile where
  v : Int := 0
  ip : List Int := []
  deriving DecidableEq, Repr

/-- What every tile and the MSF sense capture at a sample instant (R28, R190): raw tile results by zone, the VIM sense result
in 0.25 mV, and the zones whose SAFE or windows need nothing else. -/
structure SampleInput where
  zones : List (List RawTile) := []
  vsns : Nat := 0
  deriving DecidableEq, Repr

/-- One phase's physical quantities in a switching cycle (R126, R127, R140, R145). -/
structure CycleInput where
  /-- latest result of the fast probe, 0.25 mV -/
  vfast : Int := 0
  /-- sensed inductor current in mA, every 10 ps from the turn-on; beyond the list it keeps its last value -/
  sense : List Int := []
  /-- the phase's current falls to 0 before its next turn-on -/
  zero : Bool := false
  /-- average current of this phase over the cycle, mA -/
  avg : Int := 0
  deriving DecidableEq, Repr

/-- SYNC_IN as a phase generator sees it (R134, R186), in ps: the time since its latest edge, and the latest period. -/
structure SyncIn where
  since : Nat := 0
  period : Nat := 1000000
  /-- the MSF's turn-ons stand this many taps after their relocked angles (R186) -/
  shift : Nat := 0
  deriving DecidableEq, Repr

/-- One channel's physical quantities in a SYNC_IN period (R187 to R189, R204). -/
structure ChanInput where
  /-- IMON voltage in 0.1 mV, every ns from the placed turn-on; beyond the list it keeps its last value -/
  imon : List Nat := []
  /-- IMON falls to IMON_OFS or below before the next turn-on -/
  zero : Bool := false
  deriving DecidableEq, Repr

/-- The modulator bits of the 16 ZERO and the 16 CALREF results of one modulator (R362), each over the 10,240 cycles of its result. -/
structure CalSpans where
  zero : List (BitVec 10240) := []
  ref : List (BitVec 10240) := []
  deriving DecidableEq, Repr

/-- Result of one start-up BIST class (R421, R422). -/
structure BistResult where
  /-- the failing units: slice, link, modulator, channel or global tile number -/
  failed : List Nat := []
  /-- LATH: the failures that are a single seam lane, as (crossing, lane B) -/
  lanes : List (Nat × Bool) := []
  /-- TILE: the failing step of each failed tile -/
  steps : List Nat := []
  /-- measured duration, µs -/
  dur : Nat := 0
  deriving DecidableEq, Repr

end Sys2Proof
end

