-- ==== Sys2Proof/Syntax.lean ====
section
/-!
DEFINITION. The commands of the block: one constructor per row of spec/opcode_table.json, family by family. The table
gives its rows no bits and no operands; the operands here are what the row's rules name (a zone, a tile, a register word, a
beat, a physical reading). A command happens at the present time-base count; no operand is a stamp.
-/
namespace Sys2Proof

/-- The commands and events of the GLD-3. Operand names: `z` zone, `t` tile, `a` array, `p` partition, `q` queue, `w` register word. -/
inductive Instr where
  -- starts and start-up (R51, R95, R458)
  | powerOnResetRelease (cascId : Nat) (cascMaster : Bool)
  | vbiasLoss
  | resetNFall (low : Nat)
  | resetNRise
  | fuseLoadDone (r : FuseRead)
  | timebaseLock (locked : Bool)
  | flashDiscoveryDone (d : Discovery)
  | imageBodyReadDone
  | imageCheckDone
  | logScanDone (ok : Bool)
  | userCalDone
  | thermalRestartCheck
  | msfBaseReached
  | msfSettleEnd
  | startupBistDone
  | startupBistClassDone (r : BistResult)
  | formationTimeout
  | zoneStageDone
  -- the sample grid and forecasts
  | sampleInstant (i : SampleInput)
  | updateOverrun (z : Nat)
  | forecastRound
  | forecastPacketRx (z : Nat)
  | fpvRx
  | forecastExpiry (z : Option Nat)
  | forecastAbsentDegrade
  | limitUpdate (z : Nat)
  | leaseExpiry (z : Nat)
  -- the forecast port (08)
  | submitPp (b0 b1 : W64) (b2 : Option W64)
  | submitCb (b0 b1 : W64) (b2 : Option W64)
  | step (b0 b1 : W64)
  | done (b0 : W64)
  | doneLast (b0 : W64)
  | preempt (b0 : W64)
  | resume (b0 : W64)
  | malformedRecord (beats : List W64)
  | contextFetchDone (p : Nat) (uncorrectable : Bool) (directory : Bool)
  | stepMarkTaken (p : Nat)
  | cadenceLost (p : Nat)
  | claimExpiry (q sid : Nat)
  | genRetire (pcx : Nat)
  | pcxHomeMove (pcx : Nat)
  | leaseEnd (q sid : Nat)
  | suspendExpiry (q : Nat)
  | hintExpiry (p : Nat)
  | pcxStagingReset
  | pcxStageWrite (w : W32)
  | pcxCommit (pcx : Nat)
  | pcxDrop (pcx : Nat)
  | pcxDirSwitch
  -- model sets (07)
  | fceStagingReset (slot : Nat)
  | fceLoadData (w : W32)
  | fceCommit (slot : Nat)
  | fceClear (slot : Nat)
  | fceCopyDone
  | fceSlotLost (slot : Nat)
  | adaptationRun
  -- droop, stretch, taint (04, 10)
  | droopCrossing (z t : Nat)
  | droopRelease (z t : Nat)
  | stretchTimeout (z : Nat)
  | stretchAckCheck (z : Nat) (ack : Bool)
  | taintExcursionEnd (z t fine : Nat)
  | taintIntervalSplit (z t : Nat)
  | taintEventRx (z : Nat)
  | taintStrobeEnd (z : Nat)
  | tntRecordSend
  | tntOverflowRecord
  | freqReq (z code : Nat)
  | freqIncreaseGrant (z : Nat)
  | freqReqFall (z : Nat)
  -- set windows (09)
  | setReq (z a dur : Nat)
  | setWindowSchedule (z a : Nat)
  | setWaitExpiry (z a : Nat)
  | setReqFall (z a : Nat)
  | windowStart (z a : Nat)
  | windowEnd (z a : Nat)
  -- host acknowledgements and zone states (05, 11, 12)
  | gateAck (z a : Nat) (level : Bool)
  | gateAckLate (z a : Nat)
  | zoneGateTimeout (z : Nat)
  | thrAckToggle
  | fltReqWrite (z : Nat) (w : W32)
  | pupDeferExpiry (z : Nat)
  | zoneRampDone (z : Nat)
  | zoneRampTimeout (z : Nat)
  | fltTblDataAccess (z : Nat) (write : Option W32)
  | zoneRunExitDone (z : Nat)
  | holdTimeout (z : Nat)
  | floatTableEccError (z : Nat) (shadow corrected : Bool)
  | zoneStrobeLoss (z : Nat)
  -- tiles (04)
  | tileTripShort (z t : Nat)
  | tileSwitchFail (z t : Nat)
  | tileOverloadSet (z t : Nat)
  | tileOverloadClear (z t : Nat)
  | tileLoadStep (z t : Nat)
  | ageingUpdate
  | tileWatchEnd (z t : Nat)
  | tileTempResult (z t : Nat) (raw : Int)
  | tileRegEntry (z t : Nat)
  | tileAgeResult (z t age : Nat)
  | tileStopDone (z t : Nat)
  | tileTestDone (z t : Nat) (failStep : Nat)
  | zoneSyncLost (z : Nat) (i : SyncIn)
  | zoneSyncRelock (z : Nat) (i : SyncIn)
  -- module stage (06)
  | msfSyncLost (i : SyncIn)
  | msfSyncRelock (i : SyncIn)
  | vsetInLost
  | vsetFallback
  | vsetInReturn
  | msfVsetWrite (w : W32)
  | msfShedArm
  | msfShedCommit
  | msfWatchEnd
  | msfShort
  | msfHiccupEnd
  | msfTriesReset
  | msfOvervoltage
  | msfChannelExclude (k : Nat)
  | pgFault
  | pgRestore
  -- caps and energy (11)
  | enforcementBoundary
  | energySegmentRx (z : Nat) (delivered : Bool)
  | powerWindowBoundary
  | graceEnd
  | calibrationWindow
  | capSwWrite (w : W32)
  | capGroupWrite (g : Nat) (w : W32)
  | groupProposalRx (src g code gbLen decided : Nat) (emergency : Bool)
  | groupBoundary (g : Nat)
  | nrgLoRead (offset : Nat)
  | userWindowEnergyRead (q : Nat)
  | userWindowWrite (q offset : Nat)
  -- time base and cores (01)
  | tbsNowLoRead
  | refclkLost
  | holdoverTimeout
  | taskDeadlineMiss (pair : Nat) (task : Task)
  | lockstepDisagree (pair : Nat)
  | corePairRestartDone (pair : Nat)
  -- converter (13)
  | tcvResult (modB : Bool) (bits : BitVec 10240)
  | tcvSelfCal
  | tcvSelfCalDone (a b : CalSpans)
  | tcvUrgent (ch : Nat)
  | tcvCapture
  | tcvAdmission
  | tcvQLoRead
  | tcvStopped
  -- Lath and cascade (14)
  | lathTransferRx (rx : Nat) (zoneNet : Option Nat) (kind : Nat) (header : BitVec 44) (word : BitVec 80) (waiting : List (Nat × Bool))
  | lathAckRx (zoneNet : Option Nat) (header : BitVec 44)
  | lathRetry (zoneNet : Option Nat) (src dest cls seq kind : Nat) (zone : Option Nat)
  | seamLaneFail (j : Nat) (laneB : Bool)
  | lthInjCtlWrite (w : W32)
  | cxLinkUp (cxb : Bool)
  | cxLinkDown (cxb : Bool)
  | cxLathFrameRx (cxb : Bool) (kind : Nat) (frame : BitVec 144)
  | heartbeatSend
  | heartbeatRx (hb : W64)
  | timeExchangeStart
  | timeRequestRx (src : Nat)
  | timeAnswerRx (t1 t2 t3 t4 : Int)
  | peerLost (i : Nat)
  | masterSuccession
  | shareReportRx (src pset floor p1ms : Nat)
  | shareRx (w : Nat)
  -- Snag unit (15)
  | faultReport
  | faultRecovery (code unit : Nat)
  | haltStageOff
  | haltMsfOff
  | aliveToggle
  | sngCmdHalt (confirm : Nat)
  | sngCmdSnapshot
  | sngForceWrite (k : Nat) (w : W32)
  | sngLogLoRead
  | snapshotTimer
  | cleanPeriod
  -- flash (03)
  | nvmErase
  | nvmProgram
  | nvmVerify
  | nvmCommandDone (flashError : Bool)
  | nvmProgDataWrite (w : W32)
  | logClearFh
  | logClearShut
  | logClearCnt
  -- BIST (16)
  | bstRun (cls target : Nat)
  | bstRequestDrop
  | memSliceTest
  | memSliceDone (oneSymbol twoSymbols : Bool)
  | tileTestOverdue (z : Nat)
  -- register port (02, 17)
  | unoccupiedAccess (write : Bool) (offset : Nat)
  | registerWrite (offset : Nat) (w : W32)
  | rpTimeout
  -- PMBus (17); `some` data is a write
  | page (write : Option Nat)
  | operation (write : Option Nat) (pec : Option Bool)
  | clearFaults
  | writeProtect (write : Option Nat)
  | capability
  | voutMode
  | statusByte
  | statusWord
  | statusTemperature
  | statusCml
  | statusMfrSpecific
  | readVin
  | readIin
  | readVout
  | readIout
  | readTemperature1
  | readTemperature2
  | readPin
  | pmbusRevision
  | mfrId
  | mfrModel
  | mfrRevision
  | mfrPowerCap (write : Option Nat)
  | mfrEnergyCap (write : Option Nat)
  | mfrCapEff
  | mfrCapLimits
  | mfrReadEnergy
  | mfrBlk
  | mfrSnag
  | pmbusInvalid (write : Bool) (bit : Nat)
  | smbusTimeout
  | alertResponse
  -- test access port (16)
  | extest (pins : List Bool)
  | samplePreload (pins : List Bool)
  | idcode
  | highz
  | rpAccess (write : Bool) (space : Bool) (addr : W32) (data : W32)
  | fuseProg (addr : W32) (data : BitVec 128)
  | fuseProvision
  | bypass
  | tapReset
  -- rows added at the table's end
  | refclkReturn
  | vsetInSample (mvs : List Nat) (periods : List (Nat × Nat))
  | logWriteDone (ok : Bool)
  | startupStepTimeout
  | tileSwitchingCycle (z t ph : Nat) (c : CycleInput)
  | msfChannelCycle (k : Nat) (c : ChanInput)
  | taintExcursionStart (z t fine : Nat)
  deriving DecidableEq, Repr

end Sys2Proof
end

