-- ==== Sys2Proof/Decode.lean ====
section
/-!
DEFINITION. The host's word interface. The command table gives none of its rows bits, so no word spells a command.
-/
namespace Sys2Proof

/-- The command a table word spells: none, since no row of the table has bits. -/
def decodeTableWord (_nbits _w : Nat) : Option Instr := none

end Sys2Proof
end

