-- ==== Sys2Proof/Machine/Arith.lean ====
section
/-!
DEFINITION. The arithmetic the chapters share: rounding, saturation, bit fields, the CRC-32C of R123, R217 and R237, the
integer square root of R234, and IEEE binary32 rounding (R231, R363).
-/
namespace Sys2Proof.Machine

/-- `x` limited to [lo, hi]; `lo` where the bounds cross. -/
def clampN (lo hi x : Nat) : Nat := if x < lo then lo else if hi < x then max lo hi else x
/-- `x` limited to [lo, hi]. -/
def clampI (lo hi x : Int) : Int := if x < lo then lo else if hi < x then hi else x
/-- `x` limited to [0, hi], a free value of site `site` where hi is negative (assumption 9). -/
def satTo (site : Nat) (hi x : Int) : Int := if hi < 0 then Config.emptySat site x else clampI 0 hi x
/-- A counter of the given maximum saturates. -/
def satAdd (mx x n : Nat) : Nat := min mx (x + n)
/-- A saturating count by one. -/
def satInc (mx x : Nat) : Nat := satAdd mx x 1

/-- Quotient rounded down, with the free value of site `site` where the divisor is 0 (assumption 9). -/
def qdiv (site : Nat) (n : Int) (d : Nat) : Int := if d = 0 then Config.divByZero site n else n / (d : Int)
/-- Quotient of naturals rounded down; the free value, made natural, where the divisor is 0. -/
def qdivN (site : Nat) (n d : Nat) : Nat := if d = 0 then (Config.divByZero site n).toNat else n / d
/-- Quotient rounded to nearest, halves up. -/
def rdiv (site : Nat) (n : Int) (d : Nat) : Int :=
  if d = 0 then Config.divByZero site n else (2 * n + d) / (2 * (d : Int))
/-- Quotient rounded up. -/
def ceilDiv (site : Nat) (n d : Nat) : Nat := if d = 0 then (Config.divByZero site n).toNat else (n + d - 1) / d
/-- Quotient truncated towards zero. -/
def tdiv (site : Nat) (n : Int) (d : Nat) : Int := if d = 0 then Config.divByZero site n else n.tdiv d

/-- The low `w` bits of a two's-complement number, as a natural. -/
def twos (w : Nat) (x : Int) : Nat := (x % (2 ^ w : Nat)).toNat
/-- The signed value of the low `w` bits of a natural. -/
def signed (w : Nat) (x : Nat) : Int :=
  let y := x % 2 ^ w
  if y < 2 ^ (w - 1) then y else (y : Int) - (2 ^ w : Nat)
/-- Bits [lo + w − 1 : lo] of a natural. -/
def bitsOf (x lo w : Nat) : Nat := x / 2 ^ lo % 2 ^ w
/-- A Bool as a bit. -/
def b2n (b : Bool) : Nat := if b then 1 else 0
/-- Fields (value, lowest bit, width) laid into a word; a value above its field keeps its low bits. -/
def fields (fs : List (Nat × Nat × Nat)) : Nat := fs.foldl (fun a f => a + f.1 % 2 ^ f.2.2 * 2 ^ f.2.1) 0
/-- A 32-bit word of fields. -/
def word (fs : List (Nat × Nat × Nat)) : W32 := BitVec.ofNat 32 (fields fs)
/-- A number as a word. -/
def w32 (x : Nat) : W32 := BitVec.ofNat 32 x
/-- A value that saturates at its field's maximum. -/
def satF (w x : Nat) : Nat := min (2 ^ w - 1) x
/-- Field of a register word. -/
def fld (w : W32) (lo n : Nat) : Nat := bitsOf w.toNat lo n

/-- Serial-number comparison of R15: `a` comes after `b` in the half range of `w` bits. -/
def serialAfter (w a b : Nat) : Bool :=
  let d := (a + 2 ^ w - b % 2 ^ w) % 2 ^ w
  0 < d && d < 2 ^ (w - 1)

/-- The largest multiple of `p` at or below `x`. -/
def floorTo (p x : Nat) : Nat := if p = 0 then x else x / p * p
/-- The smallest multiple of `p` at or above `x`. -/
def ceilTo (p x : Nat) : Nat := if p = 0 then x else (x + p - 1) / p * p

/-- Sum of a list of integers. -/
def sumI (l : List Int) : Int := l.foldl (· + ·) 0
/-- Sum of a list of naturals. -/
def sumN (l : List Nat) : Nat := l.foldl (· + ·) 0
/-- Largest of a list, `d` when empty. -/
def maxI (d : Int) (l : List Int) : Int := l.foldl max d
/-- Largest of a list, 0 when empty. -/
def maxN (l : List Nat) : Nat := l.foldl max 0

/-- One bit step of the reflected CRC-32C. -/
def crcBit (c : Nat) : Nat := (c / 2) ^^^ (c % 2 * 0x82F63B78)
/-- `f c`, with `c` evaluated to a numeral first, so that a long computation stays flat in the kernel. -/
def evalThen (c : Nat) (f : Nat → Nat) : Nat := match c with
  | 0 => f 0
  | n + 1 => f (n + 1)
/-- The bytes of a list taken into a running CRC. -/
def crcBytes (c : Nat) : List Nat → Nat
  | [] => c
  | b :: bs => evalThen (crcBit (crcBit (crcBit (crcBit (crcBit (crcBit (crcBit (crcBit (c ^^^ b))))))))) fun d => crcBytes d bs
/-- CRC-32C of a list of bytes (R123): reflected, initial value and final complement all ones. -/
def crc32c (bytes : List Nat) : W32 := w32 (crcBytes 0xFFFFFFFF bytes ^^^ 0xFFFFFFFF)
/-- Little-endian bytes of a list of words. -/
def bytesOf (ws : List W32) : List Nat :=
  ws.flatMap fun w => [bitsOf w.toNat 0 8, bitsOf w.toNat 8 8, bitsOf w.toNat 16 8, bitsOf w.toNat 24 8]
/-- Byte at an offset of a word list, 0 beyond its end. -/
def byteAt (ws : List W32) (o : Nat) : Nat := bitsOf (ws.getD (o / 4) 0).toNat (8 * (o % 4)) 8
/-- Little-endian 16-bit field at a byte offset. -/
def halfAt (ws : List W32) (o : Nat) : Nat := byteAt ws o + 256 * byteAt ws (o + 1)
/-- Little-endian 32-bit field at a byte offset. -/
def wordAt (ws : List W32) (o : Nat) : Nat := halfAt ws o + 65536 * halfAt ws (o + 2)
/-- A byte of a word list replaced. -/
def setByteAt (ws : List W32) (o v : Nat) : List W32 :=
  ws.modify (o / 4) fun w =>
    let sh := 2 ^ (8 * (o % 4))
    w32 (w.toNat - w.toNat / sh % 256 * sh + v % 256 * sh)

/-- Bits tried from `k` − 1 down for the integer square root. -/
def isqrtGo (n : Nat) : Nat → Nat → Nat
  | 0, r => r
  | k + 1, r => if (r + 2 ^ k) * (r + 2 ^ k) ≤ n then isqrtGo n k (r + 2 ^ k) else isqrtGo n k r
/-- Integer square root, rounded down. -/
def isqrt (n : Nat) : Nat := isqrtGo n (Nat.log2 n / 2 + 1) 0

/-- Numerator over denominator rounded to the nearest integer, ties to even. -/
def roundEven (n d : Nat) : Nat :=
  let q := n / d
  let r := n % d
  if 2 * r < d then q else if d < 2 * r then q + 1 else if q % 2 = 0 then q else q + 1
/-- 2^e for an integer exponent. -/
def pow2 (e : Int) : Rat := if 0 ≤ e then (2 ^ e.toNat : Nat) else 1 / ((2 ^ (-e).toNat : Nat) : Rat)
/-- The exponent of the unit in the last place of binary32 for a positive rational. -/
def ulpExp (n d : Nat) : Int :=
  let e0 : Int := (Nat.log2 n : Int) - Nat.log2 d - 23
  let lt (e : Int) : Bool :=  -- n/d < 2^(e+23)
    if 0 ≤ e + 23 then n < d * 2 ^ (e + 23).toNat else n * 2 ^ (-(e + 23)).toNat < d
  max (-149) (if lt e0 then e0 - 1 else e0)
/-- Rounding of an exact rational to IEEE binary32, nearest even, with gradual underflow. The exponent is not limited above:
the spec's quantities stay far below 2^127. -/
def f32 (x : Rat) : Rat :=
  if x.num = 0 then 0 else
  let n := x.num.natAbs
  let e := ulpExp n x.den
  let m := if 0 ≤ e then roundEven n (x.den * 2 ^ e.toNat) else roundEven (n * 2 ^ (-e).toNat) x.den
  let r : Rat := (m : Rat) * pow2 e
  if x.num < 0 then -r else r
/-- A rational rounded to the nearest integer, halves up. -/
def roundRat (x : Rat) : Int := (x + 1 / 2).floor
/-- A rational rounded to the nearest integer, ties to even. -/
def roundRatEven (x : Rat) : Int :=
  let m : Int := roundEven x.num.natAbs x.den
  if x.num < 0 then -m else m

/-- Set bits of a word as a list of positions below `n`. -/
def setBits (x n : Nat) : List Nat := (List.range n).filter fun i => x.testBit i
/-- A word with the given bit positions set. -/
def ofBits (l : List Nat) : Nat := l.foldl (fun a i => a ||| 2 ^ i) 0
/-- The population count of a number below 2^n. -/
def popcount (x n : Nat) : Nat := (setBits x n).length

end Sys2Proof.Machine
end

