-- ==== Sys2Proof/Machine/State.lean ====
section
/-!
DEFINITION. The state of one GLD-3 block with the macros it owns, as plain data. A field's docstring ends with
[width; file and rule of spec/; reset value]; "log n" names a row of notes/assumptions where the spec gives no value.
-/
namespace Sys2Proof.Machine

/-! ## Time base and partitions (01) -/

/-- The naming record (SUBMIT_PP, SUBMIT_CB, STEP) of a partition as later rules need it (R209, R247, R296, R308). -/
structure NamingRec where
  /-- acceptance stamp [64; 08 R60; 0] -/
  at_ : Nat := 0
  /-- queue [8; 08 R243; 0] -/
  queue : Nat := 0
  /-- context named [12; 08 R243; 0] -/
  pcx : Nat := 0
  /-- generation named [16; 08 R243; 0] -/
  gen : Nat := 0
  /-- submission number [16; 08 R243; 0] -/
  sid : Nat := 0
  /-- operation class [4; 08 R247; 0] -/
  opclass : Nat := 0
  /-- learning key [32; 08 R244; 0] -/
  key : W32 := 0
  /-- REPLAY flag [1; 08 R244; 0] -/
  replay : Bool := false
  /-- the directory held the generation at acceptance [1; 08 R248; 0] -/
  hasCtx : Bool := false
  /-- instant the context fetch completed, or acceptance for a record with no context [64; 08 R209; none] -/
  fetchedAt : Option Nat := none
  /-- the 144 words of the generation the fetch delivers, as resolved at acceptance [32 each; 08 R248; none] -/
  ctx : List W32 := []
  deriving DecidableEq, Repr

/-- A pending step mark (R246). -/
structure Mark where
  /-- instant a + SLEAD [64; 08 R246; 0] -/
  at_ : Nat := 0
  /-- the record that carries it [-; 08 R258; empty] -/
  src : NamingRec := {}
  deriving DecidableEq, Repr

/-- The step clock of a partition (R43, R44) and its records. -/
structure Part where
  /-- TBS_EPOCH [32; 01 R43; 0] -/
  epoch : W32 := 0
  /-- last step start of the present run [64; 01 R43; none] -/
  lastStart : Option Nat := none
  /-- the last intervals, newest first, at most 8 [64 each; 01 R43; none] -/
  intervals : List Nat := []
  /-- cadence valid [1; 01 R44; 0] -/
  cadence : Bool := false
  /-- step period, 0 while the cadence is lost [24 read; 01 R43; 0] -/
  period : Nat := 0
  /-- pending marks, at most 4 [-; 08 R246; none] -/
  marks : List Mark := []
  /-- latest mark, pending or taken [64; 08 R246; none] -/
  latestMark : Option Nat := none
  /-- naming records, newest first, as far back as a rule looks [-; 08 R209, R212; none] -/
  recs : List NamingRec := []
  /-- the record that marked the present step [-; 08 R258; none] -/
  stepRec : Option NamingRec := none
  /-- a REPLAY record was accepted in the present step [1; 08 R260; 0] -/
  replayInStep : Bool := false
  /-- epochs at recent step starts, newest first: (instant, epoch from there) [-; 10 R296; none] -/
  epochLog : List (Nat × W32) := []
  /-- pending pre-emption hints: (queue, end) [-; 08 R261; none] -/
  hints : List (Nat × Nat) := []
  deriving DecidableEq, Repr

structure TimeBase where
  /-- time-base count in TBT [64; 01 R41; 0] -/
  count : Nat := 0
  /-- the multiplier has locked in the present start, so the count runs [1; 01 R41; 0] -/
  running : Bool := false
  /-- TBS_STATUS.LOCK [1; 01 R46; 0] -/
  lock : Bool := false
  /-- TBS_STATUS.HOLDOVER [1; 01 R45; 0] -/
  holdover : Bool := false
  /-- TBS_STATUS.HOLDOVER_SEEN [1; 01 R45; 0] -/
  holdoverSeen : Bool := false
  /-- start of the present holdover [64; 01 R45; 0] -/
  holdoverAt : Nat := 0
  /-- TBS_NOW_HI copy [32; 01 R46; 0] -/
  hiCopy : W32 := 0
  /-- the 16 partitions [-; 01 R43; every one empty] -/
  parts : List Part := List.replicate 16 {}
  deriving DecidableEq, Repr

/-! ## Start-up, pins, fuses, flash (02, 03) -/

/-- The four conditions of the boundary (R50). -/
inductive BlockCond where
  | unpowered | inReset | run | safe
  deriving DecidableEq, Repr

structure StartUp where
  /-- condition seen at the boundary [2; 02 R50; in reset] -/
  cond : BlockCond := .inReset
  /-- power-on reset active [1; 03 R95; 1] -/
  por : Bool := true
  /-- filtered level of RESET_N [1; 02 R51; 1, log 3] -/
  resetN : Bool := true
  /-- start of the step, or part of step 3, in progress [64; 03 R95; 0] -/
  stepAt : Nat := 0
  /-- NVM_START_STATUS.STEP: 1 in reset before the first step [4; 03 R95; 2 (1 before release)] -/
  stepNo : Nat := 2
  /-- part of step 3 in progress: 0 3a, 1 3b, 2 3c, 3 3d [2; 03 R95; 0] -/
  sub : Nat := 0
  /-- the parts of step 2 that are complete: fuses loaded, time base locked [2; 03 R95; 0] -/
  fusesDone : Bool := false
  /-- see fusesDone [1; 03 R95; 0] -/
  lockDone : Bool := false
  /-- NVM_START_STATUS.FAIL [8; 03 R96; 0] -/
  fail : Nat := 0
  /-- NVM_START_STATUS.WAIT_THERMAL [1; 03 R99; 0] -/
  waitThermal : Bool := false
  /-- instant of the latest thermal restart measurement [64; 03 R99; none] -/
  thermalAt : Option Nat := none
  /-- start-up stage in progress in step 8 [3; 03 R101; 0] -/
  stage : Nat := 0
  /-- start instant of that stage [64; 03 R101; 0] -/
  stageAt : Nat := 0
  /-- READY has risen in the present start [1; 00 R458; 0] -/
  readyEver : Bool := false
  /-- count at the first rise of READY [64; 03 NVM_START_TIME; none] -/
  readyAt : Option Nat := none
  /-- start-up slew, 0.1 mV/µs [5; 03 R101; image] -/
  startSlew : Nat := 5
  /-- the MSF samples: step 6 has begun in the present start [1; 01 R28; 0] -/
  msfGrid : Bool := false
  /-- the Floats sample: step 7 has begun in the present start [1; 01 R28; 0] -/
  grid : Bool := false
  /-- integration parameter ZONES [6; 00 R24; 30] -/
  zones : Nat := 30
  /-- integration parameter TILES [12; 00 R24; 992] -/
  tiles : Nat := 992
  /-- integration parameter FIELDS [3; 00 R24; 4] -/
  fields : Nat := 4
  /-- integration parameter: tiles of each zone [7 each; 00 R24, reference host; 16 × 40, 8 × 24, 4 × 24, 2 × 32] -/
  zoneTiles : List Nat := List.replicate 16 40 ++ List.replicate 12 24 ++ List.replicate 2 32
  /-- tiles, by zone and index, whose latest result was at or above TSHUT while no image is loaded [-; 12 R345; none] -/
  hotTiles : List (Nat × Nat) := []
  /-- sampled strap CASC_ID [3; 00 R24; 0] -/
  cascId : Nat := 0
  /-- sampled strap CASC_MASTER [1; 00 R24; 1] -/
  cascMaster : Bool := true
  /-- the model's own count of starts, the argument of the free NONCE [-; log 9; 0] -/
  starts : Nat := 0
  deriving DecidableEq, Repr

structure Pins where
  /-- READY [1; 02 R55; 0] -/
  ready : Bool := false
  /-- BIAS_OK [1; 02 R54; 1] -/
  biasOk : Bool := true
  /-- ALIVE [1; 15 R410; 0] -/
  alive : Bool := false
  /-- THR_REQ [3; 02 R66; 7] -/
  thrReq : Nat := 7
  /-- THR_ACK level [1; 12 R340; 0 log 3] -/
  thrAck : Bool := false
  /-- PG_OUT [1; 06 R206; 0] -/
  pgOut : Bool := false
  /-- every output pin high impedance by HIGHZ [1; 16 R420; 0] -/
  highz : Bool := false
  /-- pins driven from the boundary scan register by EXTEST [-; 16 R420; none] -/
  extest : Option (List Bool) := none
  deriving DecidableEq, Repr

structure Fuses where
  /-- the four life-cycle bits, three cells each, bit i in cells 3i to 3i+2 [12; 03 R103; DEPLOYED, log 3] -/
  lcCells : BitVec 12 := 0x03F
  /-- blown words of the array, by fuse word address [128 each; 16 R420; none, log 5] -/
  words : List (Nat × BitVec 128) := []
  /-- FUS_STATUS.LOADED [1; 03 R107; 0] -/
  loaded : Bool := false
  /-- FUS_STATUS.UNCORRECTABLE [1; 03 R107; 0] -/
  uncorrectable : Bool := false
  /-- FUS_STATUS.CORRECTED [8; 03 R107; 0] -/
  corrected : Nat := 0
  /-- shadow of LC_RAW, 0 until loaded [4; 03 R103; 0] -/
  lcRaw : BitVec 4 := 0
  /-- fuse shadow registers [-; 03 R107; not loaded, log 5] -/
  shadow : FuseFields := {}
  /-- FUS_CAL_INDEX [32; 03; 0] -/
  calIndex : W32 := 0
  deriving DecidableEq, Repr

/-- A fault-history record (R413). -/
structure FhRec where
  /-- 1 event, 2 fold summary [16; 15 R413; 0] -/
  type : Nat := 0
  /-- source code [8; 15 R413; 0] -/
  code : Nat := 0
  /-- class code [8; 15 R413; 0] -/
  cls : Nat := 0
  /-- unit number [16; 15 R413; 0] -/
  unit : Nat := 0
  /-- FORCED, LATCHED, RECOVERY, before READY [8; 15 R413; 0] -/
  flags : Nat := 0
  /-- stamp [64; 15 R413; 0] -/
  time : Nat := 0
  /-- source detail [32; 15 R413; 0] -/
  detail : W32 := 0
  /-- CONFIG_ID [32; 15 R413; 0] -/
  configId : W32 := 0
  /-- recovery counter after this record [16; 15 R413; 0] -/
  recov : Nat := 0
  /-- last folded stamp [64; 15 R413; 0] -/
  last : Nat := 0
  /-- records folded [32; 15 R413; 0] -/
  folded : Nat := 0
  deriving DecidableEq, Repr

/-- A record waiting for the flash (R121, R123). -/
inductive LogRec where
  | fh (r : FhRec)
  | shut (r : ShutRecord)
  | snap (s : Snapshot)
  deriving DecidableEq, Repr

/-- A command that runs on the flash (R121, R122). -/
inductive NvmRun where
  | erase (addr : Nat)
  | program (addr : Nat) (page : List W32)
  | verify
  deriving DecidableEq, Repr

structure Nvm where
  /-- the flash has been discovered in the present start [1; 03 R113; 0] -/
  discovered : Bool := false
  /-- what the SFDP table told: erase instruction, quad-enable method, read modes with dummy cycles [-; 03 R113; none] -/
  disc : Option Discovery := none
  /-- the image header that passed the checks of step 3a [-; 03 R116, R119; none] -/
  hdr : Option Header := none
  /-- the flash has been put in 4-byte address mode [1; 03 R113; 0] -/
  mode4 : Bool := false
  /-- NVM_FLASH_INFO.SCK_DIV [8; 03; 0x28] -/
  sckDiv : Nat := 0x28
  /-- NVM_FLASH_INFO.MODE [2; 03; 0] -/
  mode : Nat := 0
  /-- NVM_FLASH_INFO.ADDR4 [1; 03 R113; 0] -/
  addr4 : Bool := false
  /-- NVM_FLASH_INFO.DENSITY_LOG2 [8; 03; 0] -/
  densityLog2 : Nat := 0
  /-- NVM_IMAGE_ID [32; 03; 0] -/
  imageId : W32 := 0
  /-- LOG_BASE when known [32; 03 R121; none] -/
  logBase : Option Nat := none
  /-- NVM_PROG_ADDR [32; 03; 0] -/
  progAddr : W32 := 0
  /-- page buffer, 64 words [32 each; 03; 0 log 3] -/
  page : List W32 := List.replicate 64 0
  /-- page-buffer pointer, words [6; 03; 0] -/
  ptr : Nat := 0
  /-- command in progress (BUSY) [-; 03 R121; none] -/
  busy : Option NvmRun := none
  /-- NVM_PROG_STATUS.VERIFY_CODE [8; 03 R122; 0] -/
  verifyCode : Nat := 0
  /-- NVM_PROG_STATUS.VERIFY_DONE [1; 03 R122; 0] -/
  verifyDone : Bool := false
  /-- NVM_PROG_STATUS.REFUSED [1; 03 R121; 0] -/
  refused : Bool := false
  /-- NVM_PROG_STATUS.ERROR [1; 03; 0] -/
  error : Bool := false
  /-- flash bytes, the image and the log area, canonical, unlisted bytes read 0xFF [8 each; 03 R116, R121, R123; all 0xFF, log 4] -/
  flash : List Host.Cell := []
  /-- NVM_LOG_STATUS.LOG_OK [1; 03 R124; 0] -/
  logOk : Bool := false
  /-- NVM_LOG_STATUS.TORN [1; 03 R124; 0] -/
  torn : Bool := false
  /-- NVM_LOG_STATUS.FOLDED [1; 03 R123; 0] -/
  folded : Bool := false
  /-- NVM_LOG_STATUS.ERASE_MAX [16; 03; 0] -/
  eraseMax : Nat := 0
  /-- number of the next counters snapshot [32; 15 R414; 0] -/
  snapNo : Nat := 0
  /-- next part of the snapshot that is being written [7; 15 R414; 0] -/
  part : Nat := 0
  /-- log records waiting for the flash [-; 03 R121; none] -/
  queue : List LogRec := []
  /-- records that waited at the latest 1 ms boundary and are still to be written in its window [6; 01 R38; 0] -/
  batch : Nat := 0
  /-- fault-history burst allowance left, in quarter seconds of the sustained rate [9; 03 R123; 256] -/
  burst : Nat := 256
  /-- stamp of the latest refill of the burst allowance [64; 03 R123; 0] -/
  burstAt : Nat := 0
  /-- the summary of folded records in progress: first, last stamp, count [-; 03 R123; none] -/
  fold : Option (Nat × Nat × Nat) := none
  deriving DecidableEq, Repr

/-! ## Tiles (04) -/

/-- The tile command word (R155). -/
structure Cmd where
  vcode : Nat := 60
  slew : Nat := 0
  icmd : Nat := 0
  nph : Nat := 1
  shed : Nat := 0
  band : Nat := 7
  run : Bool := false
  isolate : Bool := false
  win : BitVec 14 := 0
  /-- BIST selection carried beside the word, which has no bit for it (R425; assumption 98) -/
  test : Bool := false
  deriving DecidableEq, Repr

/-- The tile sample report (R156). -/
structure Report where
  v : Nat := 0
  i : Int := 0
  t : Int := 0
  nact : Nat := 0
  armed : Bool := false
  droop : Bool := false
  taint : Bool := false
  trips : Nat := 0
  st : TState := .off
  overload : Bool := false
  cancelled : Bool := false
  /-- VCODE in force, waveform row, isolation cause, AGE and DROOPS of the same sample (R158) -/
  vcode : Nat := 0
  row : Nat := 0
  cause : Nat := 0
  age : Nat := 0
  droops : Nat := 0
  deriving DecidableEq, Repr

/-- A reference that ramps in 0.25 mV steps (R135): present value, and the fraction of a step in 1/2500. -/
structure Ramp where
  q : Nat := 0
  frac : Nat := 0
  deriving DecidableEq, Repr

/-- An armed or running set window at a tile (R277). -/
structure TileWin where
  /-- window start w -/
  w : Nat
  /-- window end w + g -/
  e : Nat
  deriving DecidableEq, Repr

/-- A tile test in progress (R424). -/
structure TileTest where
  /-- start instant -/
  at_ : Nat := 0
  /-- abandoned: step 8 runs at once (R430) -/
  abandoned : Bool := false
  /-- a driver or tester request -/
  req : Bool := false
  /-- part of start-up step 7 -/
  startup : Bool := false
  deriving DecidableEq, Repr

structure Tile where
  /-- configuration registers TIL_CFG0 to 3 [32 each; 04; image] -/
  cfg : TileCfg := {}
  /-- factory trim word [32; 03 R109; fuse] -/
  fac : Trim := {}
  /-- user calibration in force [64; 03 R109; neutral] -/
  usr : UserCal := {}
  /-- tile state [3; 04 R139; OFF] -/
  st : TState := .off
  /-- isolation cause [4; 04 TIL_HEALTH; 0] -/
  cause : Nat := 0
  /-- command in force [64; 04 R155; stop] -/
  cmd : Cmd := {}
  /-- VCODE of the command received before [9; 04 R136; 0 log 3] -/
  vcodeRx : Nat := 0
  /-- VCODE in force after the clamp [9; 04 R136; 0] -/
  vcode : Nat := 0
  /-- command held in QUIET [64; 04 R142; none] -/
  held : Option Cmd := none
  /-- reference vref [13; 04 R135; 0] -/
  vref : Ramp := {}
  /-- instant of which vref is the value [64; 04 R135; 0] -/
  vrefAt : Nat := 0
  /-- active phases NACT [3; 04 R144; 0] -/
  nact : Nat := 0
  /-- armed shed: target count and arming instant [-; 04 R144; none] -/
  armed : Option (Nat × Nat) := none
  /-- restart watches, newest first: end instant and the count to restart to [-; 04 R146; none] -/
  watch : List (Nat × Nat) := []
  /-- load step sensed in the present slot [1; 04 R145; 0] -/
  cancelled : Bool := false
  /-- droop comparator output [1; 04 R151; 0] -/
  droopOut : Bool := false
  /-- droop output high at any time in the present slot [1; 04 R156; 0] -/
  droopSlot : Bool := false
  /-- taint event sent in the present slot [1; 04 R156; 0] -/
  taintSlot : Bool := false
  /-- trips in the present slot [4; 04 R128; 0] -/
  tripsSlot : Nat := 0
  /-- trips counted by the short rule [5; 04 R141; 0] -/
  tripsShort : Nat := 0
  /-- overload count [8; 04 R129; 0] -/
  overCount : Nat := 0
  /-- OVERLOAD [1; 04 R129; 0] -/
  overload : Bool := false
  /-- the overload clamp lowered ic in the present slot [1; 04 R129; 0] -/
  clampActed : Bool := false
  /-- waveform row selected by BAND [3; 04 R148; 0] -/
  row : Nat := 0
  /-- a row is in use: RUN = 1 has been applied since the tile was initialised [1; 04 R148; 0] -/
  rowHeld : Bool := false
  /-- waveform row in use by each phase [3 each; 04 R148; 0] -/
  phRow : List Nat := [0, 0, 0, 0]
  /-- present turn-on offset of each phase, taps [8 each; 04 R133; 0] -/
  phOff : List Nat := [0, 0, 0, 0]
  /-- which phases have switched since they started [1 each; 04 R133; 0] -/
  phRun : List Bool := [false, false, false, false]
  /-- on-time of each phase's latest cycle, 10 ps [11 each; 04 R127; 0] -/
  onT : List Nat := [0, 0, 0, 0]
  /-- the low-side switch stands on at the end of each phase's latest cycle [1 each; 04 R140, 09 R277; 0] -/
  low : List Bool := [false, false, false, false]
  /-- control current ic of each phase's latest cycle, mA [13 each; 04 R126; 0] -/
  ic : List Int := [0, 0, 0, 0]
  /-- average current of each phase's latest cycle, mA [12 each; 04 R145; 0] -/
  avg : List Int := [0, 0, 0, 0]
  /-- current estimate, mA [-; 04 R145; 0] -/
  est : Int := 0
  /-- output voltage result, 0.25 mV [13; 04 R150; 0] -/
  v : Nat := 0
  /-- phase current results, mA [12 each; 04 R150; 0] -/
  ip : List Int := [0, 0, 0, 0]
  /-- tile current result, mA [14; 04 R150; 0] -/
  i : Int := 0
  /-- temperature result, 0.125 °C [12; 04 R150; 0] -/
  t : Int := 0
  /-- stamp of the temperature result [64; 12 R332; none] -/
  tAt : Option Nat := none
  /-- the result before was at or above TSHUT [1; 12 R345; 0] -/
  hotBefore : Bool := false
  /-- the result before, taken as a valid sense result, was at or above T_CRIT [1; 12 R345; 0] -/
  critBefore : Bool := false
  /-- AGE, 10 ppm [16; 04 R150; 0] -/
  age : Nat := 0
  /-- consecutive samples with the output within ±10 mV of VCODE [2; 04 R139; 0] -/
  startCnt : Nat := 0
  /-- pre-boost in set-point codes, 0 when none [3; 09 R277; 0] -/
  boost : Nat := 0
  /-- a BOOST or an ARM is in force [1; 09 R277; 0] -/
  boosted : Bool := false
  /-- armed or open set window [-; 09 R277; none] -/
  win : Option TileWin := none
  /-- open taint interval: start count and fine part [-; 04 R153; none] -/
  taintOpen : Option (Nat × Nat) := none
  /-- TIL_HEALTH.DROOPS [8; 04; 0] -/
  droops : Nat := 0
  /-- RUN = 0 in progress, and whether TEST follows [-; 04 R139; none] -/
  stopping : Option Bool := none
  /-- test in progress [-; 16 R424; none] -/
  test : Option TileTest := none
  /-- failed a start-up test: the failing step [8; 16 R422; none] -/
  bistFail : Option Nat := none
  /-- latest sample report [64; 04 R156; empty] -/
  rep : Report := {}
  /-- ISO_N, PERM, LAST_CAUSE, CLEAN [16; 15 R415; 0 log 3] -/
  summary : BitVec 16 := 0
  /-- SNG run time in READY (ns) at the latest completed test [64; 16 R427; 0] -/
  testRun : Nat := 0
  /-- run time in READY at the start of the present 24 h period of CLEAN [64; 15 R415; 0] -/
  cleanRun : Nat := 0
  /-- latest test result: 0 pass, 1 fail, 2 abandoned, 3 not tested [2; 16 BST_TILE.LAST; 0] -/
  testLast : Nat := 0
  /-- failing step of the latest failure [8; 16 BST_TILE.STEP; 0] -/
  testStep : Nat := 0
  /-- latest offer refused under R181 [1; 16 BST_TILE.REFUSED; 0] -/
  testRefused : Bool := false
  deriving DecidableEq, Repr

/-! ## Host arrays, Floats (05, 09, 10) -/

/-- Set-window state of an array (FLT_SWLAST.STATE). -/
inductive SwState where
  | idle | pending | boosting | armed | open_
  deriving DecidableEq, Repr

structure Arr where
  /-- configuration FLT_SWARR, FLT_SWMASK, AGE [-; 09 R281; image] -/
  cfg : ArrayCfg := {}
  /-- fused Fmax code [8; 10 R111; fuse] -/
  fused : Nat := 0
  /-- logged ageing value [8; 10 R286; 0] -/
  logged : Nat := 0
  /-- ISSUE_LIMIT_a [4; 02 ZHP; 0] -/
  issue : Nat := 0
  /-- GATE_REQ[a] [1; 02 ZHP; 1] -/
  gateReq : Bool := true
  /-- instant GATE_REQ[a] rose [64; 11 R317; 0] -/
  gateReqAt : Nat := 0
  /-- GATE_ACK[a] level [1; 02 ZHP; 0 log 3] -/
  gateAck : Bool := false
  /-- instant of the latest change of GATE_ACK[a] [64; 05 R175; 0] -/
  gateAckAt : Nat := 0
  /-- SET_REQ[a] level [1; 02 ZHP; 0] -/
  setReq : Bool := false
  /-- instant of the latest change of SET_REQ[a] [64; 02 R57; 0] -/
  setReqAt : Nat := 0
  /-- level of SET_REQ[a] as the latest sample saw it [1; 02 R57; 0] -/
  setSeen : Bool := false
  /-- SET_DUR_a at the request [5; 09 R268; 0] -/
  setDur : Nat := 0
  /-- instant kr the request was taken [64; 09 R268; 0] -/
  kr : Nat := 0
  /-- set-window state [3; 09 FLT_SWLAST; idle] -/
  sw : SwState := .idle
  /-- scheduled start w [64; 09 R273; 0] -/
  w : Nat := 0
  /-- granted g in 20 ns [5; 09 R274; 0] -/
  g : Nat := 0
  /-- tiles of the scheduled window set [64; 09 R275; 0] -/
  set : List Nat := []
  /-- SET_GNT[a] [1; 02 ZHP; 0] -/
  gnt : Bool := false
  /-- SET_GNT_DUR_a [5; 02 ZHP; 0] -/
  gntDur : Nat := 0
  /-- a sample has seen SET_REQ fall while SET_GNT is high [1; 09 R270; 0] -/
  fallen : Bool := false
  /-- a window is scheduled for the request; its first command is still to come or under way [1; 09 R273; 0] -/
  sched : Bool := false
  /-- a window has started and its last slot is still to be judged [1; 09 R279; 0] -/
  watch : Bool := false
  /-- start of the taint of a window that breaks at the next instant [64; 09 R279; none] -/
  brk : Option Nat := none
  /-- FLT_SWLAST.GNT_DUR [5; 09; 0] -/
  lastDur : Nat := 0
  /-- TAINT[a] [1; 02 ZHP; 0] -/
  taint : Bool := false
  deriving DecidableEq, Repr

/-- A limit update of pair 0 (R163, R164, R287, R320, R335). -/
structure Limit where
  /-- policy current limit, mA [-; 05 R163; 0] -/
  ilimPol : Nat := 0
  /-- set-point code with the band offset [9; 05 R164; 0] -/
  vz : Nat := 0
  /-- slew, 0.1 mV/µs [9; 05 R164; 0] -/
  slew : Nat := 0
  /-- VMIN code [9; 05 R164; 0] -/
  vmin : Nat := 0
  /-- VMAX code [9; 05 R164; 0] -/
  vmax : Nat := 0
  /-- retention code [9; 12 R335; 0] -/
  ret : Nat := 0
  /-- band offset carried [4; 10 R287; 0] -/
  mofs : Nat := 0
  /-- band [3; 12 R335; 0] -/
  band : Nat := 0
  /-- FCAP [8; 10 R287; 255] -/
  fcap : Nat := 255
  /-- cap code [4; 11 R320; 15] -/
  capCode : Nat := 15
  /-- thermal code [4; 11 R320; 15] -/
  thermCode : Nat := 15
  /-- thermal gate mask [8; 11 R320; 0] -/
  thermMask : BitVec 8 := 0
  /-- cap-loop gate mask [8; 11 R320; 0] -/
  capMask : BitVec 8 := 0
  deriving DecidableEq, Repr

/-- A forecast in force at a Float (R228, R229). -/
structure Fcst where
  /-- round start s [64; 07 R228; 0] -/
  s : Nat := 0
  /-- arrival [64; 07 R229; 0] -/
  at_ : Nat := 0
  /-- F0 to F3 in mA [-; 07 R227; 0] -/
  f0 : Nat := 0
  f1 : Nat := 0
  f2 : Nat := 0
  f3 : Nat := 0
  /-- PLAN, PLAN_AT as an instant [-; 07 R225; 0] -/
  plan : Nat := 1
  planAt : Nat := 0
  /-- QVALID, QUIET_AT, QLEN, DI [-; 07 R226; 0] -/
  qvalid : Bool := false
  quietAt : Nat := 0
  qlen : Nat := 0
  di : Nat := 0
  deriving DecidableEq, Repr

/-- A zone ramp towards MIST or RETAIN (R175, R183). -/
structure ZRamp where
  /-- towards RETAIN rather than MIST -/
  toRetain : Bool := false
  /-- instant r the target was applied -/
  r : Nat := 0
  /-- instant the ramp started; none while it is deferred -/
  started : Option Nat := none
  /-- slew of the started ramp, 0.1 mV/µs -/
  slew : Nat := 0
  /-- consecutive samples within ±10 mV after the arrival of vref -/
  within : Nat := 0
  /-- part of start-up step 8 -/
  startup : Bool := false
  deriving DecidableEq, Repr

/-- A taint interval as a tile stamps it (R153, R154). -/
structure TaintEv where
  start : Nat
  startFine : Nat
  stop : Nat
  stopFine : Nat
  tile : Nat
  deriving DecidableEq, Repr

/-- An interval in a gathering (R295): cause 0 excursion or 1 broken window, its arrays, and its ends with their fine parts. -/
structure Gathered where
  cause : Nat
  arrays : List Nat
  start : Nat
  startFine : Nat
  stop : Nat
  stopFine : Nat
  deriving DecidableEq, Repr

/-- Shed bookkeeping of a tile at its Float (R173). -/
structure ShedSt where
  /-- consecutive samples with dn below nact -/
  dwell : Nat := 0
  /-- instant PREP was applied and its count -/
  prep : Option (Nat × Nat) := none
  /-- R172 has acted since the PREP -/
  acted : Bool := false
  deriving DecidableEq, Repr

/-- An energy segment of a window (R308): owner queue and budget class, sum of v·i, and energy carried in 2⁻¹⁶ nJ. -/
structure Seg where
  owner : Option (Nat × Nat) := none
  sum : Int := 0
  carried : Nat := 0
  deriving DecidableEq, Repr

/-- A tile marked failed, or in TEST, with the weight it gave to others (R178, R181); `due`: no tile was live to take it yet. -/
structure LawMark where
  tile : Nat
  test : Bool := false
  due : Bool := false
  grants : List (Nat × Nat) := []
  deriving DecidableEq, Repr

/-- Law registers of a Float (05). -/
structure Law where
  /-- zref [13; 05 R160; 0] -/
  zref : Ramp := {}
  /-- set-point code and slew of the commands in force, towards which zref moves [9 each; 05 R160; 0] -/
  vzIn : Nat := 60
  slewIn : Nat := 0
  /-- tiles that were live at the latest sample [64; 05 R166; none] -/
  wasLive : List Nat := []
  /-- integrator acc, 1/1024 mA [-; 05 R160; 0] -/
  acc : Int := 0
  /-- zone error e, 0.25 mV [13; 05 R160; 0] -/
  e : Int := 0
  /-- zone current iz, mA [-; 05 R160; 0] -/
  iz : Int := 0
  /-- demand d, mA [18; 05 R160; 0] -/
  d : Nat := 0
  /-- step position used [6; 05 R162; 0] -/
  pos : Nat := 0
  /-- effective limit, mA [-; 05 R163; 0] -/
  ilimEff : Nat := 0
  /-- set-point code in force [9; 05 R164; 0] -/
  vz : Nat := 0
  /-- effective weights we [9 each; 05 R165; 0] -/
  we : List Nat := []
  /-- balance trims b, mA [9 each; 05 R166; 0] -/
  b : List Int := []
  /-- tiles marked failed and tiles in TEST, in the order of marking [-; 05 R178, R181; none] -/
  marks : List LawMark := []
  /-- shed state of each tile [-; 05 R173; idle] -/
  shed : List ShedSt := []
  /-- end of the span without PREP [64; 05 R172; 0] -/
  noPrepUntil : Nat := 0
  /-- commands computed for the next sample instant, none where a tile gets no command [64 each; 05 R160; none] -/
  cmds : List (Option Cmd) := []
  /-- those commands start the zone's tiles from OFF [1; 05 R160; 0] -/
  starting : Bool := false
  /-- slew of the commands computed last [9; 05 R167; 0] -/
  slew : Nat := 0
  /-- fraction published: iz and ilim_eff of the latest update [-; 05 R182; 0] -/
  pub : Int × Nat := (0, 0)
  /-- failed-tile report of R180 already made [1; 05 R180; 0] -/
  reported : Bool := false
  deriving DecidableEq, Repr

/-- Tables of a Float (R168 to R170). -/
structure Tables where
  gain : List W32 := []
  spatial : List W32 := []
  step : List W32 := []
  deriving DecidableEq, Repr

/-- Stretch, frequency and taint state of a Float (10). -/
structure Sft where
  /-- STRETCH_REQ level [1; 02 R58; 1] -/
  req : Bool := true
  /-- hold input of the zone OR [1; 04 R138; 1] -/
  hold : Bool := true
  /-- start of the continuous assertion as R59 measures it [64; 02 R59; none] -/
  since : Option Nat := none
  /-- stamps of recent STRETCH_REQ edges, newest first: (stamp, rising) [-; 10 R282; none] -/
  edges : List (Nat × Bool) := []
  /-- edges waiting for their 16 ns check: (stamp, rising, STRETCH_REQ has risen again within 16 ns) [-; 10 R284; none] -/
  judge : List (Nat × Bool × Bool) := []
  /-- STRETCH_ACK level [1; 10; 0 log 3] -/
  ack : Bool := false
  /-- stamps of recent STRETCH_ACK edges, newest first: (stamp, rising) [-; 10 R282; none] -/
  ackEdges : List (Nat × Bool) := []
  /-- ACK_LATE_SEEN [1; 10 R284; 0] -/
  ackLateSeen : Bool := false
  /-- FLT_SCOUNT.STRETCHES, ACK_LATE, INVALID [16, 8, 8; 10; 0] -/
  stretches : Nat := 0
  ackLate : Nat := 0
  invalid : Nat := 0
  /-- granted code G [8; 10 R289; 0] -/
  g : Nat := 0
  /-- FREQ_REQ level and code [9; 10 R289; 0] -/
  freqReq : Bool := false
  freqCode : Nat := 0
  /-- instant of the latest change of FREQ_REQ, and its level as the latest sample saw it [65; 02 R57; 0] -/
  freqAt : Nat := 0
  freqSeen : Bool := false
  /-- request pending: code and kr [-; 10 R290; none] -/
  pending : Option (Nat × Nat) := none
  /-- FREQ_ACK [1; 02 ZHP; 0] -/
  freqAck : Bool := false
  /-- code whose floor applies (the granted code after FREQ_REQ fell) [8; 10 R289; 0] -/
  floorG : Nat := 0
  /-- FCEIL [8; 10 R287; 0] -/
  fceil : Nat := 0
  /-- FREQ_OVER [1; 10 R288; 0] -/
  freqOver : Bool := false
  /-- taint events in flight to the Float [64 each; 04 R154, R156; none] -/
  inflight : List W64 := []
  /-- gathering: arrival of its first event, events [-; 10 R295; none] -/
  gather : Option (Nat × List Gathered) := none
  /-- end of the TAINT strobe [64; 10 R295; none] -/
  strobeEnd : Option Nat := none
  /-- FLT_TCOUNT.RECORDS, BROKEN, UNMAPPED [16, 8, 8; 10; 0] -/
  records : Nat := 0
  brokenRecs : Nat := 0
  unmapped : Nat := 0
  /-- FLT_TLAST: start, end, arrays of the latest record [-; 10; 0] -/
  lastStart : Nat := 0
  lastEnd : Nat := 0
  lastArrays : Nat := 0
  deriving DecidableEq, Repr

/-- What a Float's summary of a sample carries to the forecast engine (R212): the sample instant k, `iz` and `e`, the sum of
NACT, the band, the issue-code sum, whether a window is open, and whether the zone is in RUN (R230). -/
structure Summary where
  k : Nat
  band : Nat := 0
  run : Bool := false
  iz : Int := 0
  e : Int := 0
  nact : Nat := 0
  nlive : Nat := 0
  issue : Nat := 0
  win : Bool := false
  deriving DecidableEq, Repr

structure Zone where
  /-- configuration registers of the zone [-; 05, 09, 10; image] -/
  cfg : ZoneCfg := {}
  /-- the zone's tiles [-; 04; image count] -/
  tiles : List Tile := []
  /-- the zone's host arrays [-; 09; image count] -/
  arrays : List Arr := []
  /-- active and shadow tables [32 each; 05 R168; image] -/
  active : Tables := {}
  shadow : Tables := {}
  /-- shadow words still to be rewritten before COMMIT: (table, index) [-; 05 R170; none] -/
  shadowBad : List (Nat × Nat) := []
  /-- FLT_TBL_ADDR [9; 05; 0] -/
  tblAddr : BitVec 9 := 0
  /-- zone state [3; 05 R174; OFF] -/
  st : ZState := .off
  /-- FLT_REQ.TARGET [3; 05; 2] -/
  target : Nat := 2
  /-- FLT_REQ.COMMIT [1; 05; 0] -/
  commit : Bool := false
  /-- ramp towards MIST or RETAIN [-; 05 R175; none] -/
  ramp : Option ZRamp := none
  /-- state the zone enters at the next sample instant [3; 05 R175; none] -/
  nextSt : Option ZState := none
  /-- tiles that get CLEAR at the next instant [6 each; 09 R271, R279; none] -/
  clr : List Nat := []
  /-- samples at issue code 0 of a zone leaving RUN [5; 05 R175; none] -/
  exitCnt : Option Nat := none
  /-- start of a gating walk beyond MIST [64; 05 R175; none] -/
  gateAt : Option Nat := none
  /-- state towards which that walk goes [3; 05 R175; HOLD] -/
  gateTo : ZState := .hold
  /-- a gating attempt has timed out for the present target [1; 05 R175; 0] -/
  gateFailed : Bool := false
  /-- entry instant of HOLD, outside which it is none [64; 05 R176; none] -/
  holdAt : Option Nat := none
  /-- FLT_STATE.SLOWED, DEFERRED [2; 05 R183; 0] -/
  slowed : Bool := false
  deferred : Bool := false
  /-- out of service until the next start by the orderly power-down [1; 05 R175; 0] -/
  halted : Bool := false
  /-- a Snag action holds the zone in SAFE [1; 15 R403; 0] -/
  snagSafe : Bool := false
  /-- an action has arrived that takes the zone to SAFE at the next instant [1; 05 R175; 0] -/
  safeDue : Bool := false
  /-- tiles boosted, armed or in QUIET at the latest sample [6; 09 FLT_SWSTAT.QUIET_TILES; 0] -/
  quietTiles : Nat := 0
  /-- ZONE_READY [1; 02 R55; 0] -/
  ready : Bool := false
  /-- law state [-; 05 R160; 0] -/
  law : Law := {}
  /-- latest limit update [-; 05 R163; none received] -/
  lim : Limit := {}
  /-- arrival of the latest limit update [64; 01 R47; 0] -/
  leaseAt : Nat := 0
  /-- LEASE_LOST [1; 01 R47; 0] -/
  leaseLost : Bool := false
  /-- forecast in force [-; 07 R229; none] -/
  fc : Option Fcst := none
  /-- start of the present absence of forecasts [64; 01 R48; none] -/
  absentAt : Option Nat := none
  /-- FLT_STATUS sticky bits 0 to 7 [8; 05; 0] -/
  status : BitVec 8 := 0
  /-- FLT_COUNT [32; 05; 0] -/
  leaseExpiries : Nat := 0
  overruns : Nat := 0
  /-- sample of the latest overrun [64; 01 R30; none] -/
  overrunAt : Option Nat := none
  /-- FLT_SWSTAT sticky bits: DENIED 1, SHORTENED 2, BROKEN 3 [4; 09; 0] -/
  swSeen : BitVec 4 := 0
  /-- FLT_SWCOUNT0/1 [32; 09; 0] -/
  swGranted : Nat := 0
  swDenied : Nat := 0
  swShort : Nat := 0
  swBroken : Nat := 0
  /-- stretch, frequency, taint [-; 10; reset] -/
  sft : Sft := {}
  /-- zone phase generator locked [1; 04 TIL_ZSTAT; 0] -/
  syncLock : Bool := false
  /-- period of SYNC_IN at which it locked, ps [22; 04 R131, R134; 0] -/
  syncPer : Nat := 0
  /-- SYNC_LOST, SYNC_LOST_SEEN [2; 04 R134; 0] -/
  syncLost : Bool := false
  syncLostSeen : Bool := false
  /-- energy segments of the window in progress [-; 11 R308; none] -/
  segs : List Seg := []
  /-- energy segments of the closed window on their way to pair 0, energies in 2⁻¹⁶ nJ [-; 11 R308; none] -/
  sent : List Seg := []
  /-- sum and count of iz over the window [-; 11 R319; 0] -/
  izSum : Int := 0
  izCnt : Nat := 0
  /-- summaries, newest first, at most 512 [-; 07 R212; none] -/
  summaries : List Summary := []
  /-- zone current per step position for learning: sums and counts [-; 08 R258; none] -/
  learn : List (Int × Nat) := []
  /-- the zone stayed in RUN and unlimited in the present step [2; 08 R260; 1] -/
  learnRun : Bool := true
  learnIssue : Bool := true
  /-- instant up to which an array of the zone has been tainted [64; 08 R260; 0] -/
  taintTo : Nat := 0
  /-- THM-independent zone summary: entries to ZONE-SAFE [16; 15 R415; 0 log 3] -/
  zsafeN : Nat := 0
  deriving DecidableEq, Repr

/-! ## Module stage (06) -/

structure Chan where
  /-- excluded until the next start [1; 06 R204; 0] -/
  excluded : Bool := false
  /-- measured current, 10 mA [-; 06 R188; 0] -/
  im : Int := 0
  /-- tripped or skipped in the latest period [1; 06 R187; 0] -/
  trip : Bool := false
  /-- consecutive periods tripping with VSNS at 80% or above [11; 06 R204; 0] -/
  trips : Nat := 0
  /-- consecutive periods with IMON out of range [5; 06 R204; 0] -/
  bad : Nat := 0
  /-- the channel switched at its latest placed turn-on [1; 06 R187; 0] -/
  on : Bool := false
  /-- a commit has dropped the channel and its cycle has not ended yet [1; 06 R201; 0] -/
  tail : Bool := false
  /-- turn-on angle of its latest cycle, taps after the SYNC_IN edge [10; 06 R185, R186; 0] -/
  tap : Nat := 0
  /-- peak DAC current of its latest on-time, 10 mA [16; 06 R187; 0] -/
  peak : Int := 0
  /-- latest on-time, ns [11; 06 R187; 0] -/
  onT : Nat := 0
  /-- the low-side switch stands on at the end of its latest cycle [1; 06 R189; 0] -/
  low : Bool := false
  deriving DecidableEq, Repr

structure Msf where
  /-- configuration [-; 06 R208; image] -/
  cfg : MsfCfg := {}
  /-- MSF state [3; 06 R197; OFF] -/
  st : MsfState := .off
  /-- MSF_VSET.VIM_SET and SLEW, and the pair in force [-; 06 R196; image] -/
  vimSet : Nat := 1800
  slew : Nat := 20
  vimSetIn : Nat := 1800
  slewIn : Nat := 20
  /-- target tgt, mV [12; 06 R191; 0] -/
  tgt : Nat := 0
  /-- base and off parts of the reference [13 each; 06 R195; 0] -/
  base : Ramp := {}
  off : Ramp := {}
  /-- instant of which base and off are the values [64; 06 R195; 0] -/
  refAt : Nat := 0
  /-- forecast offset fo, mV [6; 06 R195; 0] -/
  fo : Nat := 0
  /-- vref_q of the latest sample [13; 06 R195; 0] -/
  vrefQ : Nat := 0
  /-- VSNS of the latest sample [13; 06 R190; 0] -/
  vsns : Nat := 0
  /-- integrator, 1/1024 of 10 mA [-; 06 R190; 0] -/
  acc : Int := 0
  /-- measured current im and demand dm, 10 mA [-; 06 R190; 0] -/
  im : Int := 0
  dm : Nat := 0
  /-- per-channel peak in force and computed for the next sample, 10 mA [16; 06 R190; 0] -/
  ipk : Int := 0
  ipkNext : Int := 0
  /-- channels [-; 06; 48 idle] -/
  chans : List Chan := List.replicate 48 {}
  /-- ladder level in force [3; 06 R200; 0] -/
  level : Nat := 0
  /-- channel-0 periods counted since the latest soft start [-; 06 R201, R202; 0] -/
  per : Nat := 0
  /-- stamp of channel 0's latest turn-on, the boundary of its periods [64; 06 R201; none] -/
  perAt : Option Nat := none
  /-- VSNS has stayed below 20% of tgt since that boundary [1; 06 R202; 0] -/
  lowAll : Bool := false
  /-- restart watches, newest first: level before the commit, level of the commit, and the channel-0 period count at which it closes [-; 06 R201; none] -/
  watch : List (Nat × Nat × Nat) := []
  /-- armed shed: level, and the channel-0 period count at arming [-; 06 R201; none] -/
  armed : Option (Nat × Nat) := none
  /-- instant since when dn has stood above the level, and dn [-; 06 R201; none] -/
  dwellAt : Option Nat := none
  dn : Nat := 0
  /-- entry instant of the present state [64; 06 R197; 0] -/
  stAt : Nat := 0
  /-- the soft start waits for its VSNS capture [1; 06 R197; 0] -/
  capture : Bool := false
  /-- base has reached tgt at a sample [1; 06 R197; 0] -/
  reached : Bool := false
  /-- short detections TRIES and instant of the latest [2; 06 R202; 0] -/
  tries : Nat := 0
  shortAt : Nat := 0
  /-- consecutive counting periods [7; 06 R202; 0] -/
  shortCnt : Nat := 0
  /-- consecutive samples above the overvoltage level [2; 06 R203; 0] -/
  ovCnt : Nat := 0
  /-- SYNC_IN: locked, lost [2; 06 R186; 0] -/
  lock : Bool := false
  syncLost : Bool := false
  /-- period of SYNC_IN at which it locked, ps [22; 06 R186; 0] -/
  syncPer : Nat := 0
  /-- MSF_STATUS sticky bits 0 to 7 [8; 06; 0] -/
  status : BitVec 8 := 0
  /-- stage group temperatures, WARN and SHUT [12+2 each; 06 R205; 0] -/
  stgT : List Int := List.replicate 6 0
  stgWarn : List Bool := List.replicate 6 false
  stgShut : List Bool := List.replicate 6 false
  /-- VSET_IN: last valid target, lost since, fallen back, valid since [-; 06 R194; none] -/
  vsetVal : Option Nat := none
  vsetLostAt : Option Nat := none
  vsetFallen : Bool := false
  vsetValidAt : Option Nat := none
  /-- VSET_IN: analogue average below 100 mV since; latest rising edge; a duty out of 5% to 95% since [64 each; 06 R192, R193; none] -/
  vsetLowAt : Option Nat := none
  vsetEdgeAt : Option Nat := none
  vsetBadAt : Option Nat := none
  /-- FPV forecast in force: fv0..fv3 in A, arrival [-; 06 R190; none] -/
  fv : Option (Nat × Nat × Nat × Nat × Nat) := none
  /-- start of the MSF's absence of forecasts [64; 01 R48; none] -/
  absentAt : Option Nat := none
  /-- VSNS outside ±5% since, within ±2% since [64; 06 R206; none] -/
  outAt : Option Nat := none
  inAt : Option Nat := none
  /-- sum and count of im over the 10 µs window [-; 11 R309; 0] -/
  imSum : Int := 0
  imCnt : Nat := 0
  deriving DecidableEq, Repr

/-! ## Forecast engine (07) -/

/-- A forecast round's packets to a Float on their way (R227). -/
structure FcPkt where
  zone : Nat
  s : Nat
  fp0 : W64
  fp1 : W64
  deriving DecidableEq, Repr

structure FceZone where
  /-- hidden values h [16 each; 07 R210; 0] -/
  h : List Int := List.replicate 32 0
  /-- FAMILY of the set of the previous evaluation [8; 07 R210; none] -/
  family : Option Nat := none
  /-- FCE_ZSTAT: SET, CTX, FLOOR, PLAN, F1 (mA) [-; 07; 0] -/
  set : Nat := 0
  ctx : Bool := false
  floorOn : Bool := false
  plan : Nat := 0
  f1 : Nat := 0
  /-- floor in mA and its expiry [-; 07 R216; none] -/
  floor : Option (Nat × Nat) := none
  /-- kept hidden values of the last 128 rounds: (s, set, h) [-; 07 R230; none] -/
  kept : List (Nat × Nat × List Int) := []
  /-- adaptation runs of the zone [16; 07 FCE_ERR; 0] -/
  runs : Nat := 0
  /-- errors and targets of the last 64 runs [-; 07 R234; none] -/
  errs : List (Rat × Rat) := []
  deriving DecidableEq, Repr

/-- Adaptation working copy of a set (R231): q rows and the upper triangle of P by rows. -/
structure Adapt where
  slot : Nat
  q : List (List Rat)
  p : List (List Rat)
  deriving DecidableEq, Repr

structure Fce where
  /-- configuration [-; 07; image] -/
  cfg : FceCfg := {}
  /-- 64 slots of 1,024 words, empty list = empty slot [32 each; 07 R217; empty] -/
  slots : List (List W32) := List.replicate 64 []
  /-- instant each slot was last loaded or cleared [64; 07 R230; 0] -/
  slotAt : List Nat := List.replicate 64 0
  /-- per-zone state [-; 07 R210; 0] -/
  zones : List FceZone := List.replicate 48 {}
  /-- packets on their way to the Floats and the MSF [-; 07 R227; none] -/
  out : List FcPkt := []
  fpv : Option (Nat × W64) := none
  /-- fo_raw of recent rounds: (s, fo_raw) [-; 07 R223; none] -/
  foLog : List (Nat × Nat) := []
  /-- RUNNING [1; 07 FCE_STATUS; 0] -/
  running : Bool := false
  /-- ABSENT_SEEN 1, FAMILY_RESET_SEEN 2, SLOT_LOST_SEEN 3 [4; 07 FCE_STATUS; 0] -/
  status : BitVec 4 := 0
  /-- staging words, newest first [32 each; 07 R220; none] -/
  staged : List W32 := []
  /-- FCE_LOAD_CTL.SLOT [6; 07; 0] -/
  slotSel : Nat := 0
  /-- FCE_LOAD_STATUS FAIL, DONE [9; 07; 0] -/
  fail : Nat := 0
  done : Bool := false
  /-- copy in progress: slot, words ([] clears) [-; 07 R220; none] -/
  copy : Option (Nat × List W32) := none
  /-- FCE_WIN_SLOT [6; 07; 0] -/
  winSlot : Nat := 0
  /-- FCE_CTRL.FREEZE [1; 07; 0] -/
  freeze : Bool := false
  /-- FCE_ADAPT_COUNT [32; 07; 0] -/
  runs : Nat := 0
  skipped : Nat := 0
  /-- next zone of the adaptation round robin [6; 07 R230; 0] -/
  nextZone : Nat := 0
  /-- working copies of the adapted sets [-; 07 R231; none] -/
  adapt : List Adapt := []
  /-- absence of forecasts has become DEGRADE [1; 01 R48; 0] -/
  absentDeg : Bool := false
  deriving DecidableEq, Repr

/-! ## Context store and forecast port (08) -/

/-- A live generation of a context. -/
structure Gen where
  /-- the record's 144 words [32 each; 08 R237; -] -/
  words : List W32 := []
  /-- patch-pool entry, none in the home slot [8; 08 R254; none] -/
  pool : Option Nat := none
  /-- hold-until time [64; 08 R249; 0] -/
  holdUntil : Nat := 0
  deriving DecidableEq, Repr

/-- A context's directory entry: its generations, older first, and a home-slot copy in progress. -/
structure Pcx where
  no : Nat
  gens : List Gen := []
  /-- instant the copy into the home slot completes at the latest (R255) -/
  homing : Option Nat := none
  deriving DecidableEq, Repr

/-- A claim (R249). -/
structure Claim where
  queue : Nat
  sid : Nat
  pcx : Nat
  gen : Nat
  /-- expiry; none while its lease is suspended -/
  expiry : Option Nat
  deriving DecidableEq, Repr

/-- An energy lease (R252); `susp` holds the revocation instant and the time left of a suspended one (R261). -/
structure Lease where
  queue : Nat
  sid : Nat
  start : Nat
  stop : Nat
  /-- unspent reservation in 2⁻¹⁶ nJ -/
  left : Nat
  susp : Option (Nat × Nat) := none
  /-- no later submission has reused its (QUEUE, SID): claims follow its end (R249) -/
  cur : Bool := true
  deriving DecidableEq, Repr

structure PcxStore where
  /-- configuration [-; 08 R267; image] -/
  cfg : PcxCfg := {}
  /-- contexts that are not empty, by number [-; 08 R236; none] -/
  dir : List Pcx := []
  /-- patch-pool entries in use [8 each; 08 R254; none] -/
  pool : List Nat := []
  /-- claim table, at most 1,024 [-; 08 R249; none] -/
  claims : List Claim := []
  /-- active and suspended leases [-; 08 R252; none] -/
  leases : List Lease := []
  /-- directory or claim table uncorrectable: every PCX is empty [1; 08 R248; 0] -/
  dead : Bool := false
  /-- PCX_STATUS sticky bits 0 to 5 [6; 08; 0] -/
  status : BitVec 6 := 0
  /-- staging words, newest first [32 each; 08 R253; none] -/
  staged : List W32 := []
  /-- PCX_RESULT FAIL, DONE [9; 08; 0] -/
  fail : Nat := 0
  done : Bool := false
  /-- commit in progress: target, words, pool entry, instant of CMD 2 [-; 08 R254; none] -/
  copy : Option (Nat × List W32 × Option Nat × Nat) := none
  /-- PCX_SEL [13; 08; 0] -/
  sel : BitVec 13 := 0
  /-- PCX_CTRL.LEARN_FREEZE [1; 08; 0] -/
  freeze : Bool := false
  /-- PCX_COUNT0 to 2 [16 each; 08; 0] -/
  malformed : Nat := 0
  fcpLost : Nat := 0
  leaseRefused : Nat := 0
  genMiss : Nat := 0
  learnSkip : Nat := 0
  learned : Nat := 0
  deriving DecidableEq, Repr

/-! ## Taint port (02, 10) -/

/-- A TNT record by its four beats (R296). -/
structure TntRec where
  zone : Nat
  start : Nat
  stop : Nat
  b0 : W64
  b1 : W64
  b2 : W64
  b3 : W64
  deriving DecidableEq, Repr

structure Tnt where
  /-- record queue, oldest first, at most 32 [256 each; 02 R68; none] -/
  queue : List TntRec := []
  /-- records the host has received, newest first, as far as the model keeps them: the last one [256; 02 R67; none] -/
  last : Option TntRec := none
  /-- overflow mark: zones, first start and fine, last end and fine, count lost [-; 02 R68; none] -/
  ovf : Option (BitVec 48 × Nat × Nat × Nat × Nat × Nat) := none
  /-- SNG_TNT.OVERFLOWS, OVERFLOW_SEEN [17; 10; 0] -/
  overflows : Nat := 0
  ovfSeen : Bool := false
  deriving DecidableEq, Repr

/-! ## Caps and energy (11) -/

/-- A collective group (R322). -/
structure Group where
  en : Bool := false
  code : Nat := 15
  gbLen : Nat := 10
  members : BitVec 16 := 0
  /-- register value written, waiting for the group's boundary -/
  newEn : Bool := false
  newLen : Nat := 10
  newMembers : BitVec 16 := 0
  /-- stamp of the latest write -/
  newAt : Nat := 0
  /-- disable at the next boundary (R324) -/
  disable : Bool := false
  /-- latest proposals: (instance, code, decided at), own instance included -/
  props : List (Nat × Nat × Nat) := []
  /-- the own latest proposal is an emergency (R323) -/
  emg : Bool := false
  deriving DecidableEq, Repr

/-- Per-zone state of the cap loop in pair 0. -/
structure CapZone where
  /-- zone code Z [4; 11 R319; 15] -/
  zcode : Nat := 15
  /-- set-point pair 0 sends without the band offset [9; 11 R316; image] -/
  vz : Nat := 0
  /-- FCAP frozen by stage 2 [8; 11 R316; 255] -/
  fcap : Nat := 255
  /-- arrays gated by the cap loop [8; 11 R317; 0] -/
  gated : BitVec 8 := 0
  deriving DecidableEq, Repr

structure Caps where
  /-- configuration [-; 11 R328; image] -/
  cfg : CapCfg := {}
  /-- CAP_SW in force and as written (takes effect at the next boundary) [32; 11 R305; image] -/
  swPower : Nat := 0
  swEnergy : Nat := 0
  swPowerIn : Nat := 0
  swEnergyIn : Nat := 0
  /-- stamp of the latest write of CAP_SW [64; 11 R305; none] -/
  swAt : Option Nat := none
  /-- class codes L [4 each; 11 R314; 15] -/
  codes : List Nat := List.replicate 16 15
  /-- groups [-; 11 R322; off] -/
  groups : List Group := List.replicate 16 {}
  /-- zones [-; 11 R319; 15] -/
  zones : List CapZone := []
  /-- CTHR and stage 2 engaged [4; 11 R316; 0] -/
  cthr : Nat := 0
  stage2 : Bool := false
  /-- arrays gated by the loop, newest first: (zone, array) [-; 11 R317; none] -/
  gateOrder : List (Nat × Nat) := []
  /-- boundaries in a row at which a test was over, at which the current test was over with stage 1 exhausted, and at which the release test passed [8 each; 11 R313, R317, R318; 0] -/
  overDwell : Nat := 0
  curDwell : Nat := 0
  relDwell : Nat := 0
  /-- a test was over at the latest boundary; the current test was over [2; 11 R312; 0] -/
  isOver : Bool := false
  overI : Bool := false
  /-- CAP_STATUS sticky bits 2 to 7 [8; 11; 0] -/
  status : BitVec 8 := 0
  /-- UNCAL, KCAL, KCAL waiting for its boundary [-; 11 R310; 1, 0x4000] -/
  uncal : Bool := true
  kcal : Nat := 0x4000
  kcalNext : Option Nat := none
  /-- rejections in a row, instant of the latest accepted update [-; 11 R310; 0, none] -/
  rejects : Nat := 0
  calAt : Option Nat := none
  /-- instant of the latest accepted calibration, which CAP_CAL.AGE counts from [64; 11 CAP_CAL; none] -/
  calAcc : Option Nat := none
  /-- effective caps in force, W [16 each; 11 R304; 0] -/
  pEff : Nat := 0
  eEff : Nat := 0
  /-- effective current cap and I_WIN, A [12 each; 11 R306; 0] -/
  icapEff : Nat := 0
  iWin : Nat := 0
  /-- p_win, P_1MS, P_1S, W [16 each; 11 R309; 0] -/
  pWin : Nat := 0
  p1ms : Nat := 0
  p1s : Nat := 0
  /-- a whole 1 ms window and a whole 1 s window have passed since READY [1 each; 11 R309; 0] -/
  haveMs : Bool := false
  haveS : Bool := false
  /-- 10 µs windows completed since READY in the present 1 ms and 1 s window: sums of p_win and counts [-; 11 R309; 0] -/
  sumMs : Nat := 0
  cntMs : Nat := 0
  sumS : Nat := 0
  cntS : Nat := 0
  /-- windows completed since READY and their sum, for P_1MS and P_1S before their first whole window [-; 11 R309; 0] -/
  sumAll : Nat := 0
  cntAll : Nat := 0
  /-- 1 ms and 1 s window energies U_P and U_E in 2⁻¹⁶ nJ [-; 11 R312; 0] -/
  uP : Nat := 0
  uE : Nat := 0
  /-- estimate of the 100 ms window with KCAL 0x4000, and with KCAL in force: energy and windows [-; 11 R310; 0] -/
  prSum : Nat := 0
  peSum : Nat := 0
  prCnt : Nat := 0
  /-- p_win of the latest 160 windows, newest first [-; 13 R368; none] -/
  pLog : List Nat := []
  /-- CAP_COUNT OVER_P, OVER_E, CAL_REJECT [16, 8, 8; 11; 0] -/
  overP : Nat := 0
  overE : Nat := 0
  calReject : Nat := 0
  /-- segments received by pair 0 for the boundary being processed: (zone, segment) [-; 11 R308; none] -/
  rxSegs : List (Nat × Seg) := []
  /-- limit updates formed and on their way, by zone [-; 11 R320; none] -/
  out : List (Nat × Limit) := []
  /-- 10 µs windows in which the current-cap task completed, latest four [1 each; 15 R410; 0] -/
  taskDone : List Bool := []
  deriving DecidableEq, Repr

/-- A 64-bit energy counter with its hidden fraction (R325), and the copies its _LO read takes (R326). -/
structure Ctr where
  /-- energy in 2⁻¹⁶ nJ [80; 11 R325; 0] -/
  e : Nat := 0
  /-- copied upper half [32; 11 R326; 0] -/
  hi : W32 := 0
  /-- copied NRG_STAMP [64; 11 R326; 0] -/
  stampCopy : Nat := 0
  deriving DecidableEq, Repr

/-- A queue's counters and the copies of its user-window page (R327). -/
structure QCtr where
  q : Nat
  energy : Ctr := {}
  spill : Ctr := {}
  /-- page copies: ENERGY_HI, STAMP, SPILL [32, 64, 64; 11 R327; 0] -/
  pageHi : W32 := 0
  pageStamp : Nat := 0
  pageSpill : Nat := 0
  deriving DecidableEq, Repr

structure Nrg where
  /-- NRG_INST, NRG_OVH [80; 11 R325; 0] -/
  inst : Ctr := {}
  ovh : Ctr := {}
  /-- NRG_PART [80 each; 11 R325; 0] -/
  parts : List Ctr := List.replicate 16 {}
  /-- queues that have a counter that is not 0 or a copy taken [-; 11 R325; none] -/
  queues : List QCtr := []
  /-- NRG_STAMP [64; 11 R325; 0] -/
  stamp : Nat := 0
  /-- the copies of NRG_STAMP's own pair [32; 11 R326; 0] -/
  stampHi : W32 := 0
  deriving DecidableEq, Repr

/-! ## Thermal (12) -/

structure ThmZone where
  /-- band [3; 12 R334; 0] -/
  band : Nat := 0
  /-- Tz of the latest 1 ms boundary [12; 12; 0] -/
  tz : Int := 0
  /-- its highest since READY; the register reads 0 before the first [12; 12; none] -/
  tmax : Option Int := none
  /-- source of Tz: diode flag and number [7; 12; 0] -/
  srcDiode : Bool := false
  src : Nat := 0
  /-- NOSRC [1; 12 R332; 0] -/
  nosrc : Bool := false
  /-- the sources valid at the latest look: tiles and diodes [-; 12 R332; none] -/
  validTiles : BitVec 64 := 0
  validDiodes : BitVec 8 := 0
  /-- watch start e [64; 12 R341; none] -/
  watch : Option Nat := none
  /-- ENF: the zone is under enforcement [1; 12 R342; 0] -/
  enf : Bool := false
  /-- the band rose to HOT at the latest 1 ms boundary under enforcement, which resumes at the next one [1; 12 R341; 0] -/
  skip : Bool := false
  /-- thermal code, gate order newest first [4; 12 R342; 15] -/
  code : Nat := 15
  gated : List Nat := []
  /-- request level lz [3; 12 R338; 0] -/
  lz : Nat := 0
  /-- GREF [8; 12 R339; 0] -/
  gref : Nat := 0
  deriving DecidableEq, Repr

structure Diode where
  /-- latest result and its stamp, OPEN flag [12; 12 R331; 0] -/
  t : Int := 0
  at_ : Option Nat := none
  open_ : Bool := false
  deriving DecidableEq, Repr

structure Thm where
  /-- configuration [-; 12 R349; image] -/
  cfg : ThmCfg := {}
  zones : List ThmZone := List.replicate 48 {}
  diodes : List Diode := List.replicate 8 {}
  /-- bands have been formed in the present start [1; 12 R334; 0] -/
  formed : Bool := false
  /-- thermal request TREQ [3; 12 R338; 0] -/
  treq : Nat := 0
  /-- throttle level sent, the boundary it left at, and the level in force before it [3, 64, 3; 12 R338; 0] -/
  level : Nat := 0
  levelAt : Nat := 0
  levelOld : Nat := 0
  /-- latest change of THR_REQ, and latest toggle of THR_ACK [64 each; 12 R340; 0, none] -/
  chgAt : Nat := 0
  ackAt : Option Nat := none
  /-- CRITICAL latched and the recorded zone [-; 12 R346; 0] -/
  critical : Bool := false
  critZone : Nat := 0
  /-- THM_STATUS sticky bits 0 to 2 [3; 12; 0] -/
  status : BitVec 3 := 0
  /-- THM_COUNT HOT_ENTRIES, ENFORCED, ACK_LATE [16, 8, 8; 12; 0] -/
  hotEntries : Nat := 0
  enforced : Nat := 0
  ackLate : Nat := 0
  /-- latest valid shutdown record found by the scan [-; 12 R348; none] -/
  lastShut : Option ShutRecord := none
  deriving DecidableEq, Repr

/-! ## Converter (13) -/

/-- What a modulator converts. -/
structure Conv where
  /-- channel code [5; 13 R354; 1] -/
  ch : Nat := 1
  /-- 0 ordinary, 1 diode, 2 open wire, 3 calibration [2; 13; 0] -/
  method : Nat := 0
  /-- 0 slot, 1 cross-check slot, 2 urgent, 3 capture [2; 13; 0] -/
  kind : Nat := 0
  /-- chop code [2; 13 R353; 0] -/
  chop : Nat := 0
  /-- start instant and result instant [64 each; 13 R352; 0] -/
  start : Nat := 0
  due : Nat := 0
  deriving DecidableEq, Repr

/-- A queue entry (TCV_Q_LO, TCV_Q_HI). -/
structure TcvQ where
  spec : Bool
  modB : Bool
  ch : Nat
  r : Int
  xchk : Bool
  stamp : Nat
  deriving DecidableEq, Repr

structure TcvRes where
  /-- VALID, MOD, OPEN, R [27; 13 TCV_RESULT; 0] -/
  valid : Bool := false
  modB : Bool := false
  open_ : Bool := false
  r : Int := 0
  /-- stamp [64; 13 R352; 0] -/
  at_ : Nat := 0
  /-- window comparator: outside [1; 13 R367; 0] -/
  outside : Bool := false
  deriving DecidableEq, Repr

structure Tcv where
  /-- configuration [-; 13 R372; image] -/
  cfg : TcvCfg := {}
  /-- both modulators converting [1; 13 TCV_STATUS.RUN; 0] -/
  run : Bool := false
  /-- self-calibration in progress since c0 [64; 13 R362; none] -/
  calAt : Option Nat := none
  /-- chop code of the self-calibration's conversions [2; 13 R353; 0] -/
  calChop : Nat := 0
  /-- factors OFS and GAIN of A and B [24 each; 13 R361; 0, 0x400000] -/
  ofsA : Int := 0
  gainA : Nat := 0x400000
  ofsB : Int := 0
  gainB : Nat := 0x400000
  /-- CAL_DONE, LOST [2; 13; 0] -/
  calDone : Bool := false
  lost : Bool := false
  /-- TCV_STATUS sticky bits 4 to 8 [9; 13; 0] -/
  status : BitVec 9 := 0
  /-- running conversions of A and B [-; 13 R355; idle] -/
  a : Conv := {}
  b : Conv := {}
  /-- slot counter n, scan index, rotation index [-; 13 R356; 0] -/
  slot : Nat := 0
  scanIdx : Nat := 0
  rotIdx : Nat := 0
  /-- the next use of each scan entry as a ROT entry is odd-numbered [1 each; 13 R356; 0] -/
  rotUse : List Bool := List.replicate 10 false
  /-- conversion aborted by an urgent request, to restart [-; 13 R358; none] -/
  aborted : Option Conv := none
  /-- request waiting for admission: channel, or capture (none) [-; 13 R359; none] -/
  waiting : Option (Option Nat) := none
  /-- an urgent request answered by a running conversion of A or B [-; 13 R358; none] -/
  rideA : Bool := false
  rideB : Bool := false
  /-- admitted request runs [1; 13 R359; 0] -/
  running : Bool := false
  /-- capture: start r and results delivered [-; 13 R360; none] -/
  capture : Option (Nat × Nat) := none
  /-- instant of the latest admission [64; 13 R359; none] -/
  admitAt : Option Nat := none
  /-- TCV_URES [32; 13; 0] -/
  uValid : Bool := false
  uRefused : Bool := false
  uCh : Nat := 0
  uR : Int := 0
  /-- TCV_QMASK [32; 13; 0] -/
  qmask : W32 := 0
  /-- result queue, oldest first, at most 64 [-; 13 R366; none] -/
  queue : List TcvQ := []
  /-- TCV_Q_HI copy [32; 13 R366; 0] -/
  qHi : W32 := 0
  /-- OVF [16; 13 TCV_QSTAT; 0] -/
  ovf : Nat := 0
  /-- TCV_WSTAT [32; 13 R367; 0] -/
  wstat : W32 := 0
  /-- TCV_OWSTAT [16; 13 R364; 0] -/
  owstat : BitVec 16 := 0
  /-- TCV_WIN HI and LO [16 each; 13 R367; image] -/
  winHi : List (BitVec 16) := List.replicate 23 0
  winLo : List (BitVec 16) := List.replicate 23 0
  /-- results by channel [-; 13; none] -/
  res : List TcvRes := List.replicate 23 {}
  /-- TCV_XCHK: outcome, IA, IB [32; 13; 0] -/
  xOut : XOut := .all
  xIa : Nat := 0
  xIb : Nat := 0
  /-- cross-check outcomes of the 100 ms window where the estimate won, slots held [-; 13 R370; 0] -/
  winEst : Bool := false
  winSlots : Nat := 0
  /-- sum over A's results of the window of that result times the latest AIN0 result, and their count; gaps [-; 13 R370; 0] -/
  pmSum : Int := 0
  pmCnt : Nat := 0
  /-- A's latest corrected result [24; 13 R352; 0] -/
  aR : Int := 0
  pmGap : Bool := false
  /-- ESTIMATE windows in a row [2; 13 R371; 0] -/
  estRow : Nat := 0
  /-- TCV_PM: outcome, VIN 10 mV, PM W [32; 13; 0] -/
  pmOut : Nat := 0
  pmVin : Nat := 0
  pm : Nat := 0
  /-- TCV_COUNT XCHKS, OUTVOTED, URGENT [16, 8, 8; 13; 0] -/
  xchks : Nat := 0
  outvoted : Nat := 0
  urgent : Nat := 0
  /-- latest result instants of A and B [64 each; 13 R371; none] -/
  aAt : Option Nat := none
  bAt : Option Nat := none
  deriving DecidableEq, Repr

/-! ## Lath and cascade (14) -/

/-- A stream's receiver (R381): network (none = main Lath), cascade source, SRC, DEST, CLASS, and L. -/
structure Stream where
  net : Option Nat
  cx : Option Nat
  src : Nat
  dest : Nat
  cls : Nat
  last : Nat
  deriving DecidableEq, Repr

/-- An acknowledged transfer under way at its sender (R382). -/
structure TxWait where
  net : Option Nat
  src : Nat
  dest : Nat
  cls : Nat
  seq : Nat
  /-- what it carries: 0 fault report, 1 Snag action, 2 energy segment, 3 register access, 4 BULK -/
  kind : Nat
  tries : Nat
  at_ : Nat
  deriving DecidableEq, Repr

/-- A transfer at a receiver's input: receiver, network, sending instance of a cascade frame, traffic kind as in TxWait (5: not
acknowledged), header and word as received, and the cascade frame that brought it. -/
structure LathRx where
  rx : Nat
  net : Option Nat
  cx : Option Nat
  kind : Nat
  header : BitVec 44
  word : BitVec 80
  frame : BitVec 144 := 0
  deriving DecidableEq, Repr

structure Lth where
  /-- LTH_STATUS sticky bits 0 to 3 [4; 14; 0] -/
  status : BitVec 4 := 0
  /-- LTH_COUNT0, LTH_COUNT1 [16 each; 14; 0] -/
  corr : Nat := 0
  uncorr : Nat := 0
  lost : Nat := 0
  repeats : Nat := 0
  /-- LTH_SEAM [32; 14 R384; 0] -/
  seam : W32 := 0
  /-- streams seen [-; 14 R381; none] -/
  streams : List Stream := []
  /-- transfers waiting for their acknowledgement [-; 14 R382; none] -/
  waits : List TxWait := []
  /-- stamps of uncorrectable words by receiver within 1 ms [-; 14 R383; none] -/
  bad : List (Nat × Nat) := []
  /-- packet slots of each receiver's link since its last BULK packet, up to 15: (net, rx, slots) [4 each; 01_architecture.md R36; none] -/
  slots : List (Option Nat × Nat × Nat) := []
  /-- words delivered by the Lath: (rx, class, data) newest first, the last one [-; 14 R378; none] -/
  delivered : Option (Nat × Nat × W64) := none
  /-- acknowledgement sent last: header and word [-; 14 R382; none] -/
  ackOut : Option (BitVec 44 × BitVec 80) := none
  /-- LTH_INJ_CTL, LTH_INJ_PAT [32 each; 14 R386; 0] -/
  injCtl : W32 := 0
  injPat : W32 := 0
  /-- injection progress: transfers skipped and affected [-; 14 R386; 0] -/
  injSkip : Nat := 0
  injDone : Nat := 0
  /-- transfer held by REORDER [-; 14 R386; none] -/
  injHeld : Option LathRx := none
  deriving DecidableEq, Repr

structure Peer where
  /-- latest heartbeat: seen, NONCE, TERM, MASTER, STATE, arrival [-; 14 CSC_PEER; none] -/
  seen : Bool := false
  nonce : BitVec 16 := 0
  term : Nat := 0
  master : Bool := false
  state : Nat := 0
  at_ : Nat := 0
  /-- taken as lost [1; 14 R394; 0] -/
  lost : Bool := false
  /-- latest 1 ms report: p_set, FLOOR_CFG, P_1MS [-; 14 R396; none] -/
  report : Option (Nat × Nat × Nat) := none
  deriving DecidableEq, Repr

/-- What an instance sends on both cascade links. The layouts of the messages whose bits the spec does not give stay as fields. -/
inductive CxMsg where
  /-- heartbeat word (R391) -/
  | heartbeat (w : W64)
  /-- time request with its t1, and time answer to an instance with t2 and t3 (R393) -/
  | timeRequest (t1 : Nat)
  | timeAnswer (tgt t2 t3 : Nat)
  /-- group proposal: group, code, GB_LEN, decision boundary, emergency (R323, R397) -/
  | proposal (g code gbLen decided : Nat) (emergency : Bool)
  /-- 1 ms report to the master: p_set, FLOOR_CFG, P_1MS; and a share for an instance (R396) -/
  | report (pset floor p1ms : Nat)
  | share (tgt w : Nat)
  deriving DecidableEq, Repr

structure Csc where
  /-- configuration [-; 14 R398; image] -/
  cfg : CscCfg := {}
  /-- own NONCE [16; 14 R391; free] -/
  nonce : BitVec 16 := 0
  /-- CXA_UP, CXB_UP [2; 14 R388; 0] -/
  cxaUp : Bool := false
  cxbUp : Bool := false
  /-- FORMING, ALIGNED, FAIL [4; 14 R392; 0] -/
  forming : Bool := false
  formAt : Nat := 0
  aligned : Bool := false
  fail : Nat := 0
  /-- acting master: known, MASTER_ID, TERM, IS_MASTER [9; 14 R395; 0] -/
  hasMaster : Bool := false
  masterId : Nat := 0
  term : Nat := 0
  isMaster : Bool := false
  /-- formation complete [1; 14 R392; 0] -/
  formed : Bool := false
  peers : List Peer := List.replicate 8 {}
  /-- CSC_SHARE: share that came last; share in force, from the boundary after it; arrival of the last [-; 14 R396; none] -/
  share : Option Nat := none
  shareIn : Option Nat := none
  shareAt : Option Nat := none
  /-- CSC_TIME: exchanges, latest θ; exchanges in a row within 20 ns; correction left [-; 14 R393; 0] -/
  exchanges : Nat := 0
  theta : Int := 0
  alignRow : Nat := 0
  slew : Int := 0
  /-- a time request is out since t1 [64; 14 R393; none] -/
  reqAt : Option Nat := none
  /-- shares the master answered with: (instance, W) [-; 14 R396; none] -/
  sharesOut : List (Nat × Nat) := []
  /-- ticks since the latest added or skipped tick [11; 14 R393; 0] -/
  slewCnt : Nat := 0
  /-- CXA, CXB have gone down since they were up [2; 14 R388; 0] -/
  cxaDown : Bool := false
  cxbDown : Bool := false
  /-- messages the latest sending step sent on both links, and the next SEQ of each kind [-; 14 R390; none] -/
  out : List CxMsg := []
  txSeq : List (Nat × Nat) := []
  /-- frame forwarded last: on CXB, frame [144; 14 R390; none] -/
  fwd : Option (Bool × BitVec 144) := none
  deriving DecidableEq, Repr

/-! ## Snag unit (15) -/

/-- What a CRITICAL report brings for the shutdown record (R345, R347). -/
structure CritRep where
  /-- SOURCE byte: bit 7 diode, bits [5:0] tile index or diode number -/
  source : Nat
  /-- result that raised the source, 0.125 °C -/
  temp : Int
  /-- 0 band evaluation, 1 Float, 2 diode, 3 TSHUT in a tile -/
  cause : Nat
  /-- band of every zone at the report -/
  bandmap : List Nat
  deriving DecidableEq, Repr

/-- A fault report on its way to the Snag unit (R399). -/
structure FaultRep where
  stamp : Nat
  code : Nat
  unit : Nat
  cls : Cls
  detail : W32 := 0
  forced : Bool := false
  /-- stamp of the last assertion so far (R404) -/
  l : Nat := 0
  /-- the reporting part asks for a latch (R346, R400 "the third short latches") -/
  latch : Bool := false
  /-- for the CRITICAL source only -/
  crit : Option CritRep := none
  deriving DecidableEq, Repr

/-- A held pair (R401, R404). -/
structure Held where
  code : Nat
  unit : Nat
  cls : Cls
  /-- stamp of the last assertion -/
  l : Nat
  latched : Bool := false
  preReady : Bool := false
  forced : Bool := false
  deriving DecidableEq, Repr

/-- A RAM log entry (R412). -/
structure LogEnt where
  forced : Bool
  latched : Bool
  recov : Bool
  cls : Nat
  code : Nat
  unit : Nat
  stamp : Nat
  deriving DecidableEq, Repr

structure Snag where
  /-- configuration [-; 15 R417; image] -/
  cfg : SnagCfg := {}
  /-- reports on their way, in stamp, code, unit order [-; 15 R403; none] -/
  inbox : List FaultRep := []
  /-- conditions asserted now: (code, unit) [-; 15 R401; none] -/
  conds : List (Nat × Nat) := []
  /-- held pairs [-; 15 R401; none] -/
  held : List Held := []
  /-- stamps of the last eight recoveries of each pair: (code, unit, stamps newest first) [-; 15 R407; none] -/
  recLog : List (Nat × Nat × List Nat) := []
  /-- recovery counters by code [16 each; 15 R408; 0] -/
  recov : List Nat := List.replicate 256 0
  /-- class and unit of the latest raise by code [-; 15 SNG_SRC; none] -/
  latest : List (Nat × Nat × Nat) := []
  /-- RAM log, oldest first, at most 256 [-; 15 R412; none] -/
  log : List LogEnt := []
  /-- SNG_LOG_HI copy [32; 15; 0] -/
  logHi : W32 := 0
  /-- LOGQ_OVF_SEEN [1; 15; 0] -/
  ovfSeen : Bool := false
  /-- SNG_ALERT.CLASS_SEEN [5; 15 R412; 0] -/
  alert : BitVec 5 := 0
  /-- stamp of the latest raise that set each bit of SNG_ALERT [64 each; 17 R445; 0] -/
  alertAt : List Nat := [0, 0, 0, 0, 0]
  /-- SNG_ALERT_MASK [5; 15; 0x1E] -/
  mask : BitVec 5 := 0x1E
  /-- SNG_COUNT RAISED, NOTES [16 each; 15; 0] -/
  raised : Nat := 0
  notes : Nat := 0
  /-- SNG_FORCE bits and the units taken: (code, unit) [-; 15 R411; none] -/
  forced : List (Nat × Nat) := []
  forceUnit : Nat := 0
  /-- SNG_SRC_SEL, SNG_TILE_SEL [8, 11; 15; 0] -/
  srcSel : Nat := 0
  tileSel : Nat := 0
  /-- HALT decided at h, its next stage step, MSF off [-; 15 R409; none] -/
  haltAt : Option Nat := none
  haltStep : Nat := 0
  haltMsf : Bool := false
  /-- run time in READY, ns, in the present life [64; 15 R414; 0 log 3] -/
  runNs : Nat := 0
  /-- instant of the latest snapshot [64; 15 R414; 0] -/
  snapAt : Nat := 0
  /-- ageing bytes of the counters region by global array [8 each; 03 R111; none, log 3] -/
  ageing : List Nat := []
  /-- tile summaries loaded from the counters snapshot, for zones not yet configured [16 each; 15 R415; none] -/
  tileSums : List (BitVec 16) := []
  /-- zone summaries loaded from the counters snapshot [16 each; 15 R415; none] -/
  zoneSums : List Nat := []
  deriving DecidableEq, Repr

/-! ## BIST, cores, ports (16, 01, 17) -/

structure Bist where
  /-- configuration [-; 16 R433; image] -/
  cfg : BistCfg := {}
  /-- STARTUP_CLASS [4; 16; 0xF]; 16 once step 7's classes are complete -/
  startCls : Nat := 15
  /-- BST_STATUS sticky bits: FAIL_SEEN, ABANDON_SEEN; REFUSED [3; 16; 0] -/
  failSeen : Bool := false
  abandonSeen : Bool := false
  refused : Bool := false
  /-- driver request: class, target, write instant, running [-; 16 R431; none] -/
  req : Option (Nat × Nat × Nat) := none
  reqRun : Bool := false
  /-- BST_RESULT [32; 16; 0] -/
  result : W32 := 0
  /-- the first failure of step 7 has been recorded in BST_RESULT [1; 16 R422; 0] -/
  resFixed : Bool := false
  /-- BST_COUNT [16, 8, 8; 16; 0] -/
  done : Nat := 0
  failed : Nat := 0
  abandoned : Nat := 0
  /-- BST_TILE_SEL [11; 16; 0] -/
  tileSel : Nat := 0
  /-- BST_MEM: memory, slice, passes, fails; slice test under way [-; 16 R426; 0] -/
  memNo : Nat := 0
  slice : Nat := 0
  passes : Nat := 0
  fails : Nat := 0
  sliceRun : Bool := false
  /-- next slice of a driver's pass over one memory [13; 16 R431; 0] -/
  reqSlice : Nat := 0
  /-- instant of the latest scheduled slice start [64; 16 R426; 0] -/
  sliceAt : Nat := 0
  /-- BST_CLASS.DUR, µs [22 each; 16; 0] -/
  durs : List Nat := List.replicate 6 0
  deriving DecidableEq, Repr

/-- What pair 0 restarts from (R40): the cap loop's and the enforcement's own settings (log 60). -/
structure Ckpt where
  /-- class codes, zone settings, CTHR, stage 2, gating order [-; 01 R40; none] -/
  codes : List Nat
  zones : List CapZone
  cthr : Nat
  stage2 : Bool
  gateOrder : List (Nat × Nat)
  /-- boundaries counted towards gating and a release: overDwell, curDwell, relDwell [-; 01 R40; none] -/
  dwell : Nat × Nat × Nat
  /-- groups [-; 01 R40; none] -/
  groups : List Group
  /-- thermal settings of the zones, and the thermal request [-; 01 R40; none] -/
  therm : List ThmZone
  treq : Nat
  deriving DecidableEq, Repr

/-- What stood before the latest run of each task, to which a run that misses its deadline gives way (R39). -/
structure Undo where
  /-- pair 0's settings before its 10 µs and its 1 ms run [-; 01 R39; none] -/
  cap : Option Ckpt := none
  ms : Option Ckpt := none
  /-- adaptation: slot, its words and the working copies [-; 01 R39; none] -/
  adapt : Option (Nat × List W32 × List Adapt) := none
  /-- context learning: context, generation and its words [-; 01 R39; none] -/
  learn : Option (Nat × Nat × List W32) := none
  /-- calibration: KCAL, UNCAL, rejections, stamps of the latest update [-; 01 R39; none] -/
  cal : Option (Nat × Bool × Nat × Option Nat × Option Nat) := none
  deriving DecidableEq, Repr

structure Cores where
  /-- each pair runs (not stopped or restarting) [1 each; 01 R40; 1] -/
  run0 : Bool := true
  run1 : Bool := true
  /-- latest lockstep disagreement of each pair [64; 01 R40; none] -/
  dis0 : Option Nat := none
  dis1 : Option Nat := none
  /-- what pair 0's checkpoint holds [-; 01 R40; none, log 60] -/
  ck0 : Option Ckpt := none
  /-- pair 1's checkpoint: its instant and the working copies of the adapted sets [-; 01 R40; none, log 60] -/
  ck1 : Option (Nat × List Adapt) := none
  /-- what stood before the latest runs [-; 01 R39; none] -/
  undo : Undo := {}
  /-- current-cap misses in a row [2; 01 R39; 0] -/
  misses : Nat := 0
  deriving DecidableEq, Repr

structure Rp where
  /-- read data of the latest completed access [32; 02 R69; 0] -/
  rdata : W32 := 0
  /-- pulses of RPW_ERR so far, each of one RP_CLK cycle [-; 02 R72; 0] -/
  pulses : Nat := 0
  deriving DecidableEq, Repr

structure Pmb where
  /-- PAGE [8; 17 R442; 0xFF] -/
  page : Nat := 0xFF
  /-- WRITE_PROTECT [8; 17 R440; 0] -/
  wp : Nat := 0
  /-- STATUS_CML [8; 17 R440; 0] -/
  cml : BitVec 8 := 0
  /-- OV, OC, IN latches [3; 17 R444; 0] -/
  ov : Bool := false
  oc : Bool := false
  inp : Bool := false
  /-- stamps of the raises that set the OV, OC and IN latches last [64 each; 17 R445; 0] -/
  ovAt : Nat := 0
  ocAt : Nat := 0
  inAt : Nat := 0
  /-- stamp c of the latest CLEAR_FAULTS [64; 17 R445; 0] -/
  clearAt : Nat := 0
  /-- data bytes of the latest answer, first sent first; a block's count and the PEC are framing [8 each; 17 R441; none] -/
  resp : List Byte := []
  /-- the latest command byte was acknowledged [1; 17 R440; 1] -/
  acked : Bool := true
  deriving DecidableEq, Repr

structure Tap where
  /-- instruction register; TAP reset selects IDCODE [8; 16 R420; 0x02 log 3] -/
  ir : BitVec 8 := 0x02
  /-- the selected instruction acts (test access permitted) [1; 02 R81; 0] -/
  acts : Bool := false
  /-- data register: the identification, or the read data of the latest RP_ACCESS [32; 02 R81, 16 R420; 0 log 3] -/
  dr : W32 := 0
  /-- boundary scan register as preloaded [-; 16 R420; none] -/
  bsr : List Bool := []
  /-- boundary cells captured by SAMPLE [-; 16 R420; none] -/
  captured : List Bool := []
  /-- the model's own counter of free captures [-; log 9; 0] -/
  frees : Nat := 0
  deriving DecidableEq, Repr

/-! ## The whole block -/

structure State where
  tb : TimeBase := {}
  su : StartUp := {}
  pins : Pins := {}
  fus : Fuses := {}
  nvm : Nvm := {}
  zones : List Zone := []
  msf : Msf := {}
  fce : Fce := {}
  pcx : PcxStore := {}
  tnt : Tnt := {}
  caps : Caps := {}
  nrg : Nrg := { stamp := 0 }
  thm : Thm := {}
  tcv : Tcv := {}
  lth : Lth := {}
  csc : Csc := {}
  snag : Snag := { inbox := [] }
  bist : Bist := {}
  cores : Cores := {}
  rp : Rp := {}
  pmb : Pmb := {}
  tap : Tap := {}
  /-- commands that wait, first in, first out [-; the block model; empty] -/
  pending : List Instr := []
  deriving DecidableEq, Repr

/-- Faults of a step. The spec gives the block no step that stops it, so none is raised: a protection, an error flag or a
SAFE entry is an effect on the state. -/
inductive Fault where
  /-- Raised by no meaning (safe). -/
  | none_
  deriving DecidableEq, Repr

/-- Refusals of a step. -/
inductive Refusal where
  /-- The command has no meaning in this model yet; raised by the dispatch arms only (safe). -/
  | notModelled (mnemonic : String)
  deriving DecidableEq, Repr

/-- The block right after reset: VBIAS in range, power-on reset active, every output at its in-reset level (R50), every
register at its reset value. -/
def State.reset : State := {}

end Sys2Proof.Machine
end

