-- ==== Sys2Proof/Machine/Ops.lean ====
section
/-!
DEFINITION. Operations every family shares: the present instant, access to zones, tiles and arrays, global numbers (R13), life-cycle
permissions (R103, R104), reports to the Snag unit (R399 to R401), and the flash's log queue (R121, R123).
-/
namespace Sys2Proof.Machine

/-- What a meaning answers. -/
abbrev Out := Host.Outcome State Fault Refusal

/-- The present time-base count (R28). -/
def now (s : State) : Nat := s.tb.count
/-- Sample instants are the multiples of 64 TBT (R28). -/
def atSample (s : State) : Bool := now s % 64 = 0
/-- The first sample instant after `t` (R28). -/
def nextSample (t : Nat) : Nat := (t / 64 + 1) * 64
/-- The first sample instant at or after `t` (R28). -/
def sampleFrom (t : Nat) : Nat := ceilTo 64 t

/-- The block carries out commands other than its starts: powered, not in reset (R50). -/
def alive (s : State) : Bool := s.su.cond = .run || s.su.cond = .safe
/-- A start is in progress or complete and has not ended in SAFE (R50). -/
def running (s : State) : Bool := s.su.cond = .run
/-- READY is high (R55). -/
def ready (s : State) : Bool := s.pins.ready
/-- READY has risen in the present start (R458). -/
def sinceReady (s : State) : Bool := s.su.readyEver

/-! ## Zones, tiles, arrays -/

/-- Zone z changed. -/
def modZone (s : State) (z : Nat) (f : Zone → Zone) : State := { s with zones := s.zones.modify z f }
/-- Every zone changed, with its number. -/
def mapZones (s : State) (f : Nat → Zone → Zone) : State := { s with zones := s.zones.mapIdx f }
/-- Zone z, or an empty zone where the image has none. -/
def zoneD (s : State) (z : Nat) : Zone := s.zones.getD z {}
/-- Tile t of a zone changed. -/
def Zone.modTile (zn : Zone) (t : Nat) (f : Tile → Tile) : Zone := { zn with tiles := zn.tiles.modify t f }
/-- Array a of a zone changed. -/
def Zone.modArr (zn : Zone) (a : Nat) (f : Arr → Arr) : Zone := { zn with arrays := zn.arrays.modify a f }
/-- Tile t of zone z changed. -/
def modTile (s : State) (z t : Nat) (f : Tile → Tile) : State := modZone s z fun zn => zn.modTile t f
/-- Array a of zone z changed. -/
def modArr (s : State) (z a : Nat) (f : Arr → Arr) : State := modZone s z fun zn => zn.modArr a f
/-- Tile t of zone z. -/
def tileD (s : State) (z t : Nat) : Tile := (zoneD s z).tiles.getD t {}
/-- Array a of zone z. -/
def arrD (s : State) (z a : Nat) : Arr := (zoneD s z).arrays.getD a {}
/-- Zone z exists. -/
def hasZone (s : State) (z : Nat) : Bool := z < s.zones.length
/-- Tile t of zone z exists. -/
def hasTile (s : State) (z t : Nat) : Bool := t < (zoneD s z).tiles.length
/-- Array a of zone z exists. -/
def hasArr (s : State) (z a : Nat) : Bool := a < (zoneD s z).arrays.length

/-- Global number of tile t of zone z (R13). -/
def gTile (s : State) (z t : Nat) : Nat := sumN ((s.zones.take z).map fun zn => zn.tiles.length) + t
/-- Global number of array a of zone z (R13). -/
def gArr (s : State) (z a : Nat) : Nat := sumN ((s.zones.take z).map fun zn => zn.arrays.length) + a
/-- Zone and local number of the `g`-th of items counted zone by zone in ascending z (R13). -/
def locate : List Nat → Nat → Nat → Option (Nat × Nat)
  | [], _, _ => none
  | n :: ns, z, g => if g < n then some (z, g) else locate ns (z + 1) (g - n)
/-- Zone and local number of global tile `g`. -/
def ofGTile (s : State) (g : Nat) : Option (Nat × Nat) := locate (s.zones.map fun zn => zn.tiles.length) 0 g
/-- Zone and local number of global array `g`. -/
def ofGArr (s : State) (g : Nat) : Option (Nat × Nat) := locate (s.zones.map fun zn => zn.arrays.length) 0 g

/-! ## Life cycle and permissions -/

/-- One life-cycle bit by majority of its three cells (R103). -/
def lcMajority (c : BitVec 12) (i : Nat) : Bool :=
  2 ≤ b2n (c.getLsbD (3 * i)) + b2n (c.getLsbD (3 * i + 1)) + b2n (c.getLsbD (3 * i + 2))
/-- The four life-cycle bits as read (R103). -/
def lcRead (c : BitVec 12) : BitVec 4 := BitVec.ofNat 4 (ofBits ((List.range 4).filter fun i => lcMajority c i))
/-- The life-cycle state a thermometer value codes; other values code none (R103). -/
def lcOf (r : BitVec 4) : Option LifeCycle :=
  if r = 0 then some .manufacture else if r = 1 then some .provisioned
  else if r = 3 then some .deployed else if r = 7 then some .returned else none
/-- The life-cycle state of the present start, once the fuses are loaded. -/
def life (s : State) : Option LifeCycle := if s.fus.loaded then lcOf s.fus.lcRaw else none
/-- Blow the three cells of life-cycle bit i; a fuse only goes from 0 to 1 (R103). -/
def lcBlow (c : BitVec 12) (i : Nat) : BitVec 12 := c ||| BitVec.ofNat 12 (7 * 2 ^ (3 * i))

/-- "Force bits and Lath fault injection" (R104); FAULT_INJ 3 counts as 0. -/
def injectPermitted (s : State) : Bool :=
  match life s with
  | some .manufacture | some .returned => true
  | some .provisioned => s.fus.shadow.faultInj = 1 || s.fus.shadow.faultInj = 2
  | some .deployed => s.fus.shadow.faultInj = 2
  | none => false
/-- "External BIST and private test instructions" (R104, R81). -/
def testPermitted (s : State) : Bool :=
  match life s with
  | some .manufacture => true
  | some .returned => !s.fus.shadow.testDeny
  | _ => false
/-- "Driver-requested in-field tests" (R104). -/
def driverTests (s : State) : Bool := (life s).isSome && life s ≠ some .deployed
/-- "Log writes" (R104). -/
def logWrites (s : State) : Bool := life s = some .provisioned || life s = some .deployed
/-- "Driver log clear" (R104). -/
def logClears (s : State) : Bool := life s = some .provisioned

/-! ## Reports to the Snag unit -/

/-- Class codes of R402. -/
def clsCode : Cls → Nat
  | .note => 0 | .degrade => 1 | .zoneSafe => 2 | .instSafe => 3 | .halt => 4

/-- Processing order of R403: stamp, then code, then unit. -/
def FaultRep.before (a b : FaultRep) : Bool :=
  a.stamp < b.stamp || (a.stamp = b.stamp && (a.code < b.code || (a.code = b.code && a.unit < b.unit)))
/-- A report put in its place of the processing order. -/
def insRep (r : FaultRep) : List FaultRep → List FaultRep
  | [] => [r]
  | x :: xs => if r.before x then r :: x :: xs else x :: insRep r xs

/-- A report leaves for the Snag unit, stamped now (R399); FAULT_REPORT is its arrival. `detail` is the content a rule states, else
the free value of log 9. -/
def report (s : State) (code unit : Nat) (cls : Cls) (detail : Option W32 := none) (latch : Bool := false)
    (crit : Option CritRep := none) : State :=
  let d := detail.getD (Config.faultDetail code unit (now s))
  let r : FaultRep := { stamp := now s, code, unit, cls, detail := d, l := now s, latch, crit }
  { s with snag := { s.snag with inbox := insRep r s.snag.inbox } }
/-- A NOTE (R402). -/
def note (s : State) (code unit : Nat) (detail : Option W32 := none) : State := report s code unit .note detail
/-- A condition of a condition source begins to hold (R401): the report leaves and the condition stays asserted. -/
def assertCond (s : State) (code unit : Nat) (cls : Cls) (latch : Bool := false) (crit : Option CritRep := none) : State :=
  if s.snag.conds.contains (code, unit) then s else
    let s := report s code unit cls none latch crit
    { s with snag := { s.snag with conds := (code, unit) :: s.snag.conds } }
/-- A condition stops holding now: now is the stamp of the pair's last assertion (R404, assumption 12). -/
def deassertCond (s : State) (code unit : Nat) : State :=
  if s.snag.conds.contains (code, unit) then
    { s with snag := { s.snag with
        conds := s.snag.conds.erase (code, unit)
        held := s.snag.held.map fun h => if h.code = code && h.unit = unit then { h with l := now s } else h
        inbox := s.snag.inbox.map fun r => if r.code = code && r.unit = unit then { r with l := now s } else r } }
  else s
/-- A condition follows a Boolean. -/
def setCond (s : State) (b : Bool) (code unit : Nat) (cls : Cls) : State :=
  if b then assertCond s code unit cls else deassertCond s code unit

/-- A (source, unit) pair is held, "active at the Snag unit" (R401). -/
def isHeld (s : State) (code unit : Nat) : Bool := s.snag.held.any fun h => h.code = code && h.unit = unit
/-- Some DEGRADE pair is held: DEGRADED (R304, R402). -/
def degraded (s : State) : Bool := s.snag.held.any fun h => h.cls = .degrade
/-- Some INSTANCE-SAFE pair is held. -/
def instSafeHeld (s : State) : Bool := s.snag.held.any fun h => h.cls = .instSafe
/-- Some ZONE-SAFE pair of zone z is held. -/
def zoneSafeHeld (s : State) (z : Nat) : Bool := s.snag.held.any fun h => h.cls = .zoneSafe && h.unit = z
/-- A HALT has been decided (R409). -/
def halted (s : State) : Bool := s.snag.haltAt.isSome
/-- INSTANCE-SAFE or worse (R402). -/
def instSafeOrWorse (s : State) : Bool := instSafeHeld s || halted s

/-! ## The log queue -/

/-- Tokens of the fault-history burst allowance at the present instant: 256 in a burst, 4 records/s sustained (R123). -/
def burstNow (s : State) : Nat := min 256 (s.nvm.burst + (now s - s.nvm.burstAt) / 250000000)

/-- A record folded into the summary in progress (R123). -/
def foldRec (n : Nvm) (t : Nat) : Nvm :=
  { n with folded := true, fold := match n.fold with
      | none => some (t, t, 1)
      | some (a, _, c) => some (a, t, c + 1) }

/-- A record is folded; the first of a summary is a NOTE (R123, R400). -/
def foldOne (s : State) : State :=
  let s1 := { s with nvm := foldRec s.nvm (now s) }
  if s.nvm.fold.isNone then note s1 0x68 0 else s1
/-- The summary record of folded records (R413, TYPE 2). -/
def foldSummary (s : State) (f : Nat × Nat × Nat) : FhRec :=
  { type := 2, time := f.1, last := f.2.1, folded := f.2.2, configId := s.nvm.imageId }

/-- A fault-history record is appended, or folded where the burst allowance or the 32-record buffer is exhausted (R121, R123).
The summary in progress is written before the next accepted record (assumption 21). -/
def logFh (s : State) (r : FhRec) : State :=
  if !logWrites s then s else
  let b := burstNow s
  let n := { s.nvm with burst := b, burstAt := if b = 256 then now s else s.nvm.burstAt + (b - s.nvm.burst) * 250000000 }
  let new := (match n.fold with
    | none => []
    | some f => [LogRec.fh (foldSummary s f)]) ++ [.fh r]
  if b = 0 || 32 < n.queue.length + new.length then foldOne { s with nvm := n }
  else { s with nvm := { n with burst := b - 1, fold := none, queue := n.queue ++ new } }

/-- A shutdown record or a counters snapshot joins the log queue (R121, R347, R414). -/
def logOther (s : State) (r : LogRec) : State :=
  if !logWrites s then s
  else if 32 ≤ s.nvm.queue.length then foldOne s
  else { s with nvm := { s.nvm with queue := s.nvm.queue ++ [r] } }

/-- Tile summaries in global order, as SNG_TILE and a snapshot show them: the zones' own once they are configured, else the
loaded ones (R415). -/
def tileSummaries (s : State) : List (BitVec 16) :=
  if s.zones.isEmpty then s.snag.tileSums else s.zones.flatMap fun zn => zn.tiles.map (·.summary)
/-- Zone summaries (R415). -/
def zoneSummaries (s : State) : List Nat :=
  if s.zones.isEmpty then s.snag.zoneSums else s.zones.map (·.zsafeN)
/-- The counters snapshot of the present state (R414). -/
def snapshotOf (s : State) : Snapshot :=
  { configId := s.nvm.imageId, hours := s.snag.runNs / 3600000000000, recov := s.snag.recov,
    tiles := tileSummaries s, zones := zoneSummaries s, ageing := s.snag.ageing }
/-- A counters snapshot is written (R414). -/
def takeSnapshot (s : State) : State :=
  let s := logOther s (.snap (snapshotOf s))
  { s with snag := { s.snag with snapAt := now s } }

end Sys2Proof.Machine
end

