-- ==== Sys2Proof/Machine/Tile.lean ====
section
/-!
DEFINITION. The GT4 tile (04_tile_regulation.md): trims, reference, switching cycle, command and report words, phase count, droop
output, and the tile's own events.
-/
namespace Sys2Proof.Machine

/-! ## Sensor results (R109, R150) -/

/-- rnd of R109: arithmetic shift with ties upward. -/
def rnd (v : Int) (n : Nat) : Int := (v + (2 ^ (n - 1) : Nat)) / (2 ^ n : Nat)
/-- The output voltage result from its raw value (R109), 13 bits unsigned. -/
def trimV (f : Trim) (u : UserCal) (x : Int) : Nat :=
  (clampI 0 8191 (rnd ((x + rnd (x * f.vgain) 10 + f.vofs) * u.vratio) 15 + u.vofsU)).toNat
/-- A phase current result from its raw value (R109), 12 bits signed. -/
def trimI (f : Trim) (u : UserCal) (x : Int) : Int :=
  clampI (-2048) 2047 (rnd ((x + rnd (x * f.igain) 10) * u.iratio) 15)
/-- The temperature result from its raw value (R109), 12 bits signed. -/
def trimT (f : Trim) (u : UserCal) (x : Int) : Int := clampI (-2048) 2047 (x + f.tofs + u.tofsU)
/-- The trim word's signed fields (03 "Tile trim word"). -/
def trimOf (w : W32) : Trim :=
  { vofs := signed 8 (fld w 24 8), vgain := signed 8 (fld w 16 8),
    tofs := signed 8 (fld w 8 8), igain := signed 8 (fld w 0 8) }

/-! ## Reference and set-point (R135, R136) -/

/-- Voltage of a set-point code in 0.25 mV: 0.300 V + n × 2.5 mV. -/
def codeQ (n : Nat) : Nat := 1200 + 10 * n
/-- Slew codes 0 and above 500 give 50.0 mV/µs (R135). -/
def slewOf (c : Nat) : Nat := if 1 ≤ c && c ≤ 500 then c else 500
/-- A reference moves towards `tgt` (0.25 mV) for `ns`; one step of 0.25 mV takes den/slew ns. -/
def Ramp.move (r : Ramp) (tgt slew ns den : Nat) : Ramp :=
  let tot := r.frac + ns * slew
  let n := tot / den
  if r.q < tgt then
    if tgt ≤ r.q + n then { q := tgt, frac := 0 } else { q := r.q + n, frac := tot % den }
  else if r.q ≤ tgt + n then { q := tgt, frac := 0 } else { q := r.q - n, frac := tot % den }
/-- A reference moves at a slew in 0.1 mV/µs (R135, R195). -/
def Ramp.advance (r : Ramp) (tgt slew ns : Nat) : Ramp := r.move tgt slew ns 2500
/-- A ramp towards a new voltage or at a new slew goes on from the present value; the time spent on its next step counts from there (R135). -/
def Ramp.retarget (r : Ramp) (same : Bool) : Ramp := if same then r else { r with frac := 0 }
/-- The clamp of R136: 60 to the lower of 300 and the fused VMAX code. -/
def clampCode (vmax n : Nat) : Nat := clampN 60 (min 300 vmax) n

/-! ## Droop outputs -/

/-- The tile's droop output to the zone OR by state (04 "Tile states"). -/
def Tile.droopLine (t : Tile) : Bool :=
  match t.st with
  | .off => true
  | .isolated | .test => false
  | .start | .reg | .quiet => t.droopOut

/-- A live state for R159 and for droop judgement. -/
def Tile.switching (t : Tile) : Bool :=
  match t.st with
  | .start | .reg | .quiet => true
  | .off | .isolated | .test => false

/-- The reference has moved up to instant k (R135). -/
def Tile.refTo (t : Tile) (k : Nat) : Tile :=
  { t with vrefAt := k
           vref := if t.switching then t.vref.advance (codeQ t.vcode) (slewOf t.cmd.slew) (k - t.vrefAt) else t.vref }

/-! ## Phase count (R132, R133, R144 to R146) -/

/-- Phase offsets by active count (R132). -/
def phaseOff (nact p : Nat) : Nat :=
  match nact, p with
  | 2, 1 => 128
  | 3, 1 => 85
  | 3, 2 => 171
  | 4, 1 => 64
  | 4, 2 => 128
  | 4, 3 => 192
  | _, _ => 0
/-- A turn-on offset moves by at most 32 taps towards its new place, the shorter way round (R133). -/
def movePhase (cur tgt : Nat) : Nat :=
  let d := (tgt + 256 - cur % 256) % 256
  if d ≤ 128 then (cur + min 32 d) % 256 else (cur + 256 - min 32 (256 - d)) % 256
/-- Turn-on angle of phase p, in taps after the zone reference edge (R132). -/
def Tile.angle (t : Tile) (p : Nat) : Nat := (t.cfg.angle + t.phOff.getD p 0) % 256

/-- Phases at or above the active count have stopped with every switch open, and take their angle afresh when they start (R133). -/
def Tile.setNact (t : Tile) (n : Nat) : Tile :=
  { t with nact := n, phRun := t.phRun.mapIdx (fun p b => b && p < n), low := t.low.mapIdx fun p b => b && p < n }
/-- Every switch is open; the phases that stay active start afresh at their placed angles (R277). -/
def Tile.openAll (t : Tile) : Tile := { t with phRun := t.phRun.map fun _ => false, low := t.low.map fun _ => false }
/-- The restart watches that cover instant k (R146). -/
def Tile.watchAt (t : Tile) (k : Nat) : List (Nat × Nat) := t.watch.filter fun x => k < x.1

/-- The NPH and SHED fields (R144), applied at instant k. -/
def Tile.phaseOp (t : Tile) (nphRaw shed k : Nat) : Tile :=
  let nph := clampN t.cfg.minph 4 nphRaw
  if t.nact < nph then { t.setNact nph with armed := none }
  else if shed = 1 && nph < t.nact then { t with armed := some (nph, k) }
  else if shed = 2 then
    match t.armed with
    | some (_, j) =>
      if j + 128 ≤ k then { t.setNact nph with armed := none, watch := (k + 1024, t.nact) :: t.watchAt k } else t
    | none => t
  else if shed = 3 then { t with armed := none }
  else t

/-- A load step is sensed (R145, R146): an armed shed disarms; inside a restart watch the phases its COMMIT stopped restart. The watch
stays open to its end, and a later load step in it is sensed again. -/
def Tile.loadStep (t : Tile) (k : Nat) : Tile :=
  { t.setNact ((t.watchAt k).foldl (fun n x => max n x.2) t.nact) with armed := none, cancelled := true }

/-! ## Commands (R139, R142, R144, R148, R155, R276, R277) -/

/-- Fields of the WIN field (R276): OP, LEN, PB. -/
def winOp (w : BitVec 14) : Nat := bitsOf w.toNat 0 2
def winLen (w : BitVec 14) : Nat := bitsOf w.toNat 2 5
def winPb (w : BitVec 14) : Nat := bitsOf w.toNat 7 3
/-- A WIN field (R276). -/
def mkWin (op len pb : Nat) : BitVec 14 := BitVec.ofNat 14 (fields [(op, 0, 2), (len, 2, 5), (pb, 7, 3)])
/-- The command word's 64 bits (R155). -/
def Cmd.word (c : Cmd) : W64 := BitVec.ofNat 64 (fields
  [(c.vcode, 0, 9), (c.slew, 9, 9), (c.icmd, 18, 10), (c.nph, 28, 3), (c.shed, 31, 2), (c.band, 33, 3),
   (b2n c.run, 36, 1), (b2n c.isolate, 37, 1), (c.win.toNat, 38, 14)])

/-- A tile boosts or stands in a window (R277, R278). -/
def Tile.inWin (t : Tile) : Bool := t.boosted || t.win.isSome || t.st = .quiet
/-- The boost, a pending ARM and QUIET end; phases that stood still in QUIET start afresh at their placed angles (R277). -/
def Tile.quietEnd (t : Tile) : Tile :=
  { (if t.st = .quiet then { t.openAll with st := TState.reg } else t) with win := none, boost := 0, boosted := false }
/-- A tile enters ISOLATED: every switch and the input switch open, nothing pending (R139, R142). -/
def Tile.isolate (t : Tile) (cause : Nat) : Tile :=
  if t.st = .isolated then t else
  { t.setNact 0 with
      st := .isolated, cause, win := none, boost := 0, boosted := false, held := none, armed := none, watch := [],
      stopping := none, test := none, droopOut := false, startCnt := 0 }
/-- RUN = 0 begins a stop (R139); with a BIST selection it leads into TEST (R425). QUIET ends at once (R142). -/
def Tile.stop (t : Tile) (test : Bool) : Tile :=
  match t.st with
  | .start | .reg | .quiet => { t.quietEnd with stopping := some test, held := none, armed := none, watch := [] }
  | .off | .isolated | .test => t
/-- The switches of a stopped tile are open (R139): OFF, or TEST after a BIST selection. -/
def Tile.stopDone (t : Tile) (k : Nat) : Tile :=
  match t.stopping with
  | some test => { t.setNact 0 with
      st := if test then .test else .off, stopping := none, startCnt := 0, droopOut := false, droopSlot := t.droopSlot || !test,
      test := if test then t.test.map (fun x => { x with at_ := k }) else t.test }
  | none => t
/-- RUN = 1 starts an OFF tile at instant k: the reference starts at the captured output (R140), with the row of R148: codes 5 to 7 keep
the row in use, and are row 1 where none is in use yet. -/
def Tile.begin (t : Tile) (c : Cmd) (k vCap vmax : Nat) : Tile :=
  let row := if c.band ≤ 4 then c.band else if t.rowHeld then t.row else 1
  { (t.setNact (clampN t.cfg.minph 4 c.nph)).openAll with
      st := .start, cmd := c, vref := { q := vCap, frac := 0 }, vrefAt := k, vcode := clampCode vmax c.vcode, row, rowHeld := true
      phRow := [row, row, row, row], armed := none, watch := [], held := none, startCnt := 0, stopping := none, tripsShort := 0
      droopOut := false, droopSlot := false, win := none, boost := 0, boosted := false }
/-- VCODE, SLEW, ICMD, NPH, SHED and BAND take effect (R135, R144, R148). -/
def Tile.applyFields (t : Tile) (c : Cmd) (k vmax : Nat) : Tile :=
  let t1 := t.phaseOp c.nph c.shed k
  let vcode := clampCode vmax c.vcode
  { t1 with
      vcode
      vref := t.vref.retarget (vcode = t.vcode && c.slew = t.cmd.slew)
      cmd := { c with shed := 0 }, row := if c.band ≤ 4 then c.band else t.row }
/-- The WIN field (R277), applied at instant k; a tile not in REG ignores BOOST and ARM. -/
def Tile.applyWin (t : Tile) (w : BitVec 14) (k : Nat) : Tile :=
  match winOp w with
  | 1 => if t.st = .reg then { t with boost := winPb w, boosted := true } else t
  | 2 => if t.st = .reg then { t with boost := winPb w, boosted := true, win := some { w := k + 64, e := k + 64 + 20 * winLen w } } else t
  | 3 => t.quietEnd
  | _ => t
/-- A tile leaves its window or boost at instant k: the fields held in it take effect (R142, R277), whether it ends in time or early
(assumption 86). -/
def Tile.leaveQuiet (t : Tile) (k vmax : Nat) : Tile :=
  let t1 := (t.refTo k).quietEnd
  match t.held with
  | some c => { t1 with held := none }.applyFields c k vmax
  | none => t1
/-- The fields of a command for a tile that boosts or is armed: VCODE, SLEW and ICMD act, NPH, SHED and BAND are held (R142, R278, R279). -/
def Tile.holdFields (t : Tile) (c : Cmd) (k vmax : Nat) : Tile :=
  { t.applyFields { c with nph := 0, shed := 0, band := 7 } k vmax with held := some c }
/-- A NOTE 0x23 is due: the command is clamped and its VCODE differs from that of the one received before (R136). ISOLATE overrides
every other field of its command (R142); an ISOLATED tile takes no command up, and RUN = 0 takes no VCODE up (assumption 87). -/
def Tile.clampNote (t : Tile) (c : Cmd) (vmax : Nat) : Bool :=
  t.st ≠ .isolated && !c.isolate && c.run && clampCode vmax c.vcode ≠ c.vcode && c.vcode ≠ t.vcodeRx
/-- A command applied at sample instant k, with the output captured at k (R139 to R144, R155). A RUN = 1 that meets a stop under way is
not taken up (assumption 88); of the commands received in QUIET the last is held (assumption 86). -/
def Tile.apply (t : Tile) (c : Cmd) (k vCap vmax : Nat) : Tile :=
  let t := { t with vcodeRx := c.vcode }
  if t.st = .isolated then { t with cmd := c }
  else if c.isolate then { t.isolate 3 with cmd := c }
  else if !c.run then
    match t.st with
    | .off => { t with cmd := c, st := if c.test then .test else .off,
                       test := if c.test then t.test.map (fun x => { x with at_ := k }) else t.test }
    | _ => { t.stop c.test with cmd := c }
  else
    match t.st with
    | .off => t.begin c k vCap vmax
    | .quiet =>
      let t1 := { t with held := some c, cmd := { t.cmd with run := true } }
      if winOp c.win = 3 then t1.leaveQuiet k vmax else t1
    | .start | .reg =>
      if t.stopping.isSome then t
      else if winOp c.win = 3 then { t with held := some c }.leaveQuiet k vmax
      else
        let t1 := t.applyWin c.win k
        if t1.inWin then t1.holdFields c k vmax else t1.applyFields c k vmax
    | .isolated | .test => { t with cmd := c }

/-! ## The sample (R28, R129, R139, R141, R156) -/

/-- The reference has reached the voltage of the VCODE in force and the output lies within ±10 mV of it (R139). -/
def Tile.settled (t : Tile) : Bool :=
  t.vref.q = codeQ t.vcode && (t.v : Int) - codeQ t.vcode ≤ 40 && (codeQ t.vcode : Int) - t.v ≤ 40

/-- A tile captures its sensors at sample instant k: the reference has moved up to it, the overload count and the counters of
the start and short rules step, the report of the slot is formed and the slot's flags clear. -/
def Tile.capture (t0 : Tile) (raw : RawTile) (k : Nat) : Tile :=
  let t := t0.refTo k
  let v := trimV t.fac t.usr raw.v
  let ip := (List.range 4).map fun p => trimI t.fac t.usr (raw.ip.getD p 0)
  let i := clampI (-8192) 8191 (sumI ip)
  let isOver := i > 4000 || (t.overload && t.clampActed)
  let t1 := { t with
    v, ip, i
    overCount := if isOver then satInc 157 t.overCount else t.overCount - 1
    tripsShort := if 200 ≤ v then 0 else t.tripsShort }
  let t2 := { t1 with startCnt := if t.st = TState.start && t1.settled then t.startCnt + 1 else 0 }
  { t2 with
    rep := { v, i, t := t.t, nact := t.nact, armed := t.armed.isSome, droop := t.droopSlot || t.droopLine,
             taint := t.taintSlot, trips := min 15 t.tripsSlot, st := t.st, overload := t.overload,
             cancelled := t.cancelled, vcode := t.vcode, row := t.row, cause := t.cause, age := t.age, droops := t.droops }
    droopSlot := t.droopLine, taintSlot := false, tripsSlot := 0, cancelled := false, clampActed := false }

/-- The sample report's 64 bits (R156). -/
def Report.word (r : Report) : W64 := BitVec.ofNat 64 (fields
  [(r.v, 0, 13), (twos 14 r.i, 13, 14), (twos 12 r.t, 27, 12), (r.nact, 39, 3), (b2n r.armed, 42, 1), (b2n r.droop, 43, 1),
   (b2n r.taint, 44, 1), (r.trips, 45, 4),
   ((match r.st with | .off => 0 | .start => 1 | .reg => 2 | .quiet => 3 | .isolated => 4 | .test => 5), 49, 3),
   (b2n r.overload, 52, 1), (b2n r.cancelled, 53, 1)])

/-! ## The switching cycle (R126 to R128, R133, R145, R148) -/

/-- Unclamped demand icu of R126, in mA. -/
def Tile.icu (t : Tile) (vfast : Int) : Int :=
  2 * t.cmd.icmd + (t.cfg.gf * ((t.vref.q : Int) + 10 * t.boost - vfast)) / 4
/-- Control current before the overload clamp (R126). -/
def Tile.icBase (t : Tile) (vfast : Int) : Int := max 0 (min (t.icu vfast) (10 * t.cfg.ilim))
/-- Control current (R126); 4000 / nact is rounded down (assumption 89). -/
def Tile.icOf (t : Tile) (vfast : Int) : Int :=
  if t.overload then min (t.icBase vfast) ((qdivN 1 4000 t.nact : Nat) + 150) else t.icBase vfast
/-- Compensation ramp of R127 in A/s, from the reference in 0.25 mV and L = 8 nH, as an exact rational. -/
def Tile.rampSlope (t : Tile) : Rat := (8 + t.cfg.slope : Nat) / 16 * ((t.vref.q : Rat) / 4000) / (8 / 1000000000)
/-- Value of the ramp n × 10 ps after the turn-on, in mA (R127). -/
def Tile.rampAt (t : Tile) (n : Nat) : Rat := t.rampSlope * n / 100000000
/-- Sensed current n × 10 ps after the turn-on, in mA; the last value given stands beyond the list. -/
def sensedAt (c : CycleInput) (n : Nat) : Int := c.sense.getD n (c.sense.getLastD 0)
/-- The first n from `n` on, among `f` tries, that meets p; the end of the search where none does. -/
def firstFrom (p : Nat → Bool) : Nat → Nat → Nat
  | 0, n => n
  | f + 1, n => if p n then n else firstFrom p f (n + 1)
/-- 90% of the tile's switching period, in 10 ps (R127, R131); the period is that of SYNC_IN over MULT. -/
def maxOn (syncPer mult : Nat) : Nat := qdivN 127 (9 * syncPer) (100 * mult)
/-- On-time of a cycle in 10 ps, and whether it is a trip by ILIM (R127, R128): the high-side switch turns off where the sensed current
plus the ramp reaches ic or the sensed current reaches ILIM, not before `tonMin` and not after `mx`. Instants are told apart by 10 ps
(assumption 90). -/
def Tile.onTime (t : Tile) (c : CycleInput) (ic : Int) (tonMin mx : Nat) : Nat × Bool :=
  let byIc := firstFrom (fun n => (ic : Rat) ≤ (sensedAt c n : Rat) + t.rampAt n) mx 0
  let byLim := firstFrom (fun n => 10 * (t.cfg.ilim : Int) ≤ sensedAt c n) mx 0
  (min (max tonMin (min byIc byLim)) (max tonMin mx), byLim < mx && byLim < max tonMin byIc)
/-- The tile drives its phases in diode emulation: in START (R140), and in the cycles after an ARM (R277). -/
def Tile.diode (t : Tile) : Bool := t.st = .start || t.win.isSome
/-- One cycle of phase ph: ic, the on-time, trips, the low-side switch, the waveform row and placement of the phase, and the current
estimate at phase 0. `rows` is the zone's waveform table. -/
def Tile.cycle (t : Tile) (ph : Nat) (c : CycleInput) (rows : List WaveRow) (mx : Nat) : Tile :=
  let ic := t.icOf c.vfast
  let (on, limTrip) := t.onTime c ic (rows.getD t.row {}).tonMin mx
  let trip := t.icu c.vfast > 10 * t.cfg.ilim || limTrip
  let off := phaseOff t.nact ph
  let avg := t.avg.set ph c.avg
  { t with
    ic := t.ic.set ph ic
    onT := t.onT.set ph on
    low := t.low.set ph (!(t.diode && c.zero))
    clampActed := t.clampActed || ic < t.icBase c.vfast
    tripsSlot := if trip then satInc 15 t.tripsSlot else t.tripsSlot
    tripsShort := if trip && t.v < 200 then satInc 16 t.tripsShort else t.tripsShort
    phRow := t.phRow.set ph t.row
    phOff := t.phOff.set ph (if t.phRun.getD ph false then movePhase (t.phOff.getD ph 0) off else off)
    phRun := t.phRun.set ph true
    avg
    est := if ph = 0 then sumI (avg.take t.nact) else t.est }
/-- A turn-on at instant k is permitted: an armed tile takes none later than 20 ns before its window (R277). -/
def Tile.mayTurnOn (t : Tile) (k : Nat) : Bool := t.win.all fun x => k + 20 ≤ x.w

/-- Fused VMAX code of a domain (R108). -/
def fusedVmax (s : State) (d : Domain) : Nat :=
  match d with
  | .logic => s.fus.shadow.vmaxLogic
  | .array => s.fus.shadow.vmaxArray
  | .mif => s.fus.shadow.vmaxMif
  | .link => s.fus.shadow.vmaxLink
/-- Fused VMAX code of zone z's domain. -/
def zoneVmax (s : State) (z : Nat) : Nat := fusedVmax s (zoneD s z).cfg.domain

/-! ## STRETCH_REQ (R58, R59, R138, R282, R284) -/

/-- States in which a continuous assertion counts (R59). -/
def zCounts : ZState → Bool
  | .mist | .run | .hold => true
  | .off | .retain | .safe => false

/-- The zone OR: the tiles' droop outputs and the hold input (R58, R138). -/
def Zone.stretchOr (zn : Zone) : Bool := zn.sft.hold || zn.tiles.any fun t => t.droopLine

/-- The level of STRETCH_REQ follows the zone OR; an edge is stamped, counted since READY, and judged 16 ns later where ZONE_READY
is high (R282, R284). -/
def Zone.updStretch (zn : Zone) (k : Nat) (since : Bool) : Zone :=
  let r := zn.stretchOr
  if r = zn.sft.req then zn else
    { zn with sft := { zn.sft with
        req := r
        since := if r then some k else none
        edges := ((k, r) :: zn.sft.edges).take 64
        judge :=
          let old := if r then zn.sft.judge.map fun e => if !e.2.1 && k < e.1 + 16 then (e.1, false, true) else e else zn.sft.judge
          if zn.ready then old ++ [(k, r, false)] else old
        stretches := if r && since then satInc 0xFFFF zn.sft.stretches else zn.sft.stretches } }
/-- STRETCH_REQ of zone z follows its OR. -/
def updStretch (s : State) (z : Nat) : State := modZone s z fun zn => zn.updStretch (now s) (sinceReady s)

/-! ## Tile events -/

/-- A taint event leaves for the Float as a word of the zone's Lath segment (R154, R156). -/
def TaintEv.word (e : TaintEv) : W64 := BitVec.ofNat 64 (fields
  [(e.startFine, 0, 4), (e.start, 4, 24), (e.stopFine, 28, 4), (e.stop, 32, 24), (e.tile, 56, 6)])
/-- A 24-bit stamp extended against the Float's own count by serial-number arithmetic (R157). -/
def extend24 (count x : Nat) : Nat :=
  let d := (count + 2 ^ 24 - x % 2 ^ 24) % 2 ^ 24
  if d < 2 ^ 23 then count - d else count + (2 ^ 24 - d)
/-- The event as the Float reads it at the given count (R156, R157). -/
def TaintEv.ofWord (count : Nat) (w : W64) : TaintEv :=
  { startFine := bitsOf w.toNat 0 4, start := extend24 count (bitsOf w.toNat 4 24)
    stopFine := bitsOf w.toNat 28 4, stop := extend24 count (bitsOf w.toNat 32 24), tile := bitsOf w.toNat 56 6 }
/-- Arrays of the zone whose mask holds tile t (R294). -/
def Zone.arraysOf (zn : Zone) (t : Nat) : List Nat :=
  (List.range zn.arrays.length).filter fun a => (zn.arrays.getD a {}).cfg.mask.getLsbD t
/-- Tile t sends an interval; TAINT stands in its next report (R154). The zone is tainted up to its end where an array's mask holds t. -/
def Zone.sendTaint (zn : Zone) (t : Nat) (ev : TaintEv) (reopen : Option (Nat × Nat)) : Zone :=
  { zn.modTile t (fun x => { x with taintOpen := reopen, taintSlot := true }) with
      sft := { zn.sft with inflight := zn.sft.inflight ++ [ev.word] }
      taintTo := if (zn.arraysOf t).isEmpty then zn.taintTo else max zn.taintTo (ev.stop + min 1 ev.stopFine) }
/-- An excursion that is open when its tile stops regulating ends there and is reported (R153, R293; assumption 91). -/
def Zone.endTaints (zn : Zone) (k : Nat) : Zone :=
  (List.range zn.tiles.length).foldl (fun zn t =>
    let x := zn.tiles.getD t {}
    match x.taintOpen with
    | some (d, df) =>
      if x.switching then zn
      else zn.sendTaint t { start := d, startFine := df, stop := k, stopFine := if d = k then df else 0, tile := t } none
    | none => zn) zn
/-- Tile t of zone z changes state by a local event: an excursion open there ends, and STRETCH_REQ follows the zone OR. -/
def tileEvent (s : State) (z t : Nat) (f : Tile → Tile) : State :=
  updStretch (modZone (modTile s z t f) z fun zn => zn.endTaints (now s)) z

/-- TILE_SWITCHING_CYCLE (R126): a cycle of an active phase of a tile in START or REG. -/
def execTileSwitchingCycle (z t ph : Nat) (c : CycleInput) (s : State) : Out :=
  let tl := tileD s z t
  let zn := zoneD s z
  if hasTile s z t && (tl.st = .start || tl.st = .reg) && ph < tl.nact && tl.mayTurnOn (now s) then
    .next (modTile s z t fun x => (x.refTo (now s)).cycle ph c zn.cfg.waves (maxOn zn.syncPer zn.cfg.mult))
  else .next s

/-- TILE_TRIP_SHORT (R141): 16 trips at low output isolate the tile, cause 1. -/
def execTileTripShort (z t : Nat) (s : State) : Out :=
  let tl := tileD s z t
  if hasTile s z t && (tl.st = .start || tl.st = .reg) && 16 ≤ tl.tripsShort then
    .next (assertCond (tileEvent s z t fun x => x.isolate 1) 0x20 (gTile s z t) .degrade)
  else .next s

/-- TILE_SWITCH_FAIL (R130): the tile enters ISOLATED, cause 2. -/
def execTileSwitchFail (z t : Nat) (s : State) : Out :=
  let tl := tileD s z t
  if hasTile s z t && tl.st ≠ .isolated then
    .next (assertCond (tileEvent s z t fun x => x.isolate 2) 0x21 (gTile s z t) .degrade)
  else .next s

/-- TILE_OVERLOAD_SET (R129): the count has reached 157. -/
def execTileOverloadSet (z t : Nat) (s : State) : Out :=
  let tl := tileD s z t
  if hasTile s z t && tl.overCount = 157 && !tl.overload then
    .next (assertCond (modTile s z t fun x => { x with overload := true }) 0x22 (gTile s z t) .degrade)
  else .next s

/-- TILE_OVERLOAD_CLEAR (R129): the count has returned to 0. -/
def execTileOverloadClear (z t : Nat) (s : State) : Out :=
  let tl := tileD s z t
  if hasTile s z t && tl.overCount = 0 && tl.overload then
    .next (deassertCond (modTile s z t fun x => { x with overload := false }) 0x22 (gTile s z t))
  else .next s

/-- The count of R145 whose 0.85 × n A a load step exceeds: the armed target, or the present count in an open watch. -/
def Tile.loadCount (t : Tile) (k : Nat) : Option Nat :=
  match t.armed with
  | some (n, _) => some n
  | none => if (t.watchAt k).isEmpty then none else some t.nact

/-- TILE_LOAD_STEP (R145, R146): the current estimate exceeds 0.85 × n × 1,000 mA. -/
def execTileLoadStep (z t : Nat) (s : State) : Out :=
  let tl := tileD s z t
  match tl.loadCount (now s) with
  | some n => if hasTile s z t && tl.est > 850 * n then .next (modTile s z t fun x => x.loadStep (now s)) else .next s
  | none => .next s

/-- TILE_WATCH_END (R146): a restart watch closes 1,024 ns after its COMMIT. -/
def execTileWatchEnd (z t : Nat) (s : State) : Out :=
  .next (modTile s z t fun x => { x with watch := x.watchAt (now s) })

/-- TILE_REG_ENTRY (R139): four consecutive samples within ±10 mV end START. -/
def execTileRegEntry (z t : Nat) (s : State) : Out :=
  let tl := tileD s z t
  if hasTile s z t && tl.st = .start && 4 ≤ tl.startCnt then
    .next (modTile s z t fun x => { x with st := .reg, startCnt := 0 })
  else .next s

/-- TILE_STOP_DONE (R139, R425): the inductor current is 0 and the switches are open. -/
def execTileStopDone (z t : Nat) (s : State) : Out :=
  if hasTile s z t && (tileD s z t).stopping.isSome then
    .next (tileEvent s z t fun x => x.stopDone (now s))
  else .next s

/-- TILE_AGE_RESULT (R150): a completed ageing measurement, 16 bits in 10 ppm. -/
def execTileAgeResult (z t age : Nat) (s : State) : Out :=
  .next (modTile s z t fun x => { x with age := satF 16 age })

/-- The droop level in 0.25 mV below the reference has been crossed by a tile that regulates: its output rises, a load step is sensed
(R145), a tile in QUIET leaves it at once (R279), and DROOPS counts since READY. -/
def Tile.droopRise (t : Tile) (k vmax : Nat) (since : Bool) : Tile :=
  let t1 := { (t.refTo k).loadStep k with droopOut := true, droopSlot := true, droops := if since then satInc 255 t.droops else t.droops }
  if t.st = .quiet then t1.leaveQuiet k vmax else t1

/-- DROOP_CROSSING (R151, R152): the fast probe resolves below vref − DROOP_MV. -/
def execDroopCrossing (z t : Nat) (s : State) : Out :=
  let tl := tileD s z t
  if hasTile s z t && tl.switching && !tl.droopOut then
    .next (updStretch (modTile s z t fun x => x.droopRise (now s) (zoneVmax s z) (sinceReady s)) z)
  else .next s

/-- DROOP_RELEASE (R151): the fast probe resolves above vref − RELEASE_MV. -/
def execDroopRelease (z t : Nat) (s : State) : Out :=
  let tl := tileD s z t
  if hasTile s z t && tl.droopOut then
    .next (updStretch (modTile s z t fun x => { x with droopOut := false }) z)
  else .next s

/-! ## Taint intervals (R153, R154) -/

/-- TAINT_EXCURSION_START (R153): the crossing below vref − TAINT_MV is stamped. -/
def execTaintExcursionStart (z t fine : Nat) (s : State) : Out :=
  let tl := tileD s z t
  if hasTile s z t && tl.switching && tl.taintOpen.isNone then
    .next (modTile s z t fun x => { x with taintOpen := some (now s, fine % 10) })
  else .next s

/-- TAINT_EXCURSION_END (R153): the recrossing above closes the interval [down, up). -/
def execTaintExcursionEnd (z t fine : Nat) (s : State) : Out :=
  match (tileD s z t).taintOpen with
  | some (d, df) =>
    .next (modZone s z fun zn => zn.sendTaint t { start := d, startFine := df, stop := now s, stopFine := fine % 10, tile := t } none)
  | none => .next s

/-- TAINT_INTERVAL_SPLIT (R153): an excursion 1,024 ns old closes its interval and opens a new one there. -/
def execTaintIntervalSplit (z t : Nat) (s : State) : Out :=
  match (tileD s z t).taintOpen with
  | some (d, df) =>
    if d + 1024 ≤ now s then
      .next (modZone s z fun zn =>
        zn.sendTaint t { start := d, startFine := df, stop := d + 1024, stopFine := df, tile := t } (some (d + 1024, df)))
    else .next s
  | none => .next s

/-! ## Zone phase generator (R134) -/

/-- MULT × f_SYNC lies from 60 MHz to 160 MHz for a SYNC_IN period in ps (R131, R134). -/
def tileFreqOk (mult per : Nat) : Bool := 60 * per ≤ mult * 1000000 && mult * 1000000 ≤ 160 * per
/-- ZONE_SYNC_LOST (R134): no edge of SYNC_IN for 4 periods of the frequency at which the generator locked, or a frequency out of range.
The generator holds its last frequency; source 0x18 is asserted. -/
def execZoneSyncLost (z : Nat) (i : SyncIn) (s : State) : Out :=
  let zn := zoneD s z
  if hasZone s z && zn.syncLock && !zn.syncLost && (4 * zn.syncPer ≤ i.since || !tileFreqOk zn.cfg.mult i.period) then
    .next (assertCond (modZone s z fun zn => { zn with syncLost := true, syncLostSeen := true }) 0x18 z .degrade)
  else .next s

/-- ZONE_SYNC_RELOCK (R131, R134): with SYNC_IN present and in range the generator locks, or relocks after a loss. -/
def execZoneSyncRelock (z : Nat) (i : SyncIn) (s : State) : Out :=
  if hasZone s z && i.since < 4 * i.period && tileFreqOk (zoneD s z).cfg.mult i.period then
    .next (deassertCond (modZone s z fun zn => { zn with syncLock := true, syncLost := false, syncPer := i.period }) 0x18 z)
  else .next s

end Sys2Proof.Machine
end

