-- ==== Sys2Proof/Machine/Zone.lean ====
section
/-!
DEFINITION. What the Float families share (05, 09, 10): step position, context in use, taint records, the Float tables, weights and
shares, entry into SAFE and OFF, and the outputs of the zone's host port.
-/
namespace Sys2Proof.Machine

/-! ## Partition clock and context in use (R43, R209, R213) -/

/-- The partition a zone follows. -/
def partOf (s : State) (zn : Zone) : Part := s.tb.parts.getD zn.cfg.partition {}
/-- Position of an instant within the step, counted cyclically into predicted steps (R213). -/
def Part.posCyc (p : Part) (τ : Nat) : Nat :=
  match p.lastStart with
  | some l => if p.period = 0 then 0 else 64 * ((τ - l) % p.period) / p.period
  | none => 0
/-- Step position at a sample instant, limited to 63, and 0 while the cadence is lost (R43, R44). -/
def Part.pos (p : Part) (k : Nat) : Nat :=
  match p.lastStart with
  | some l => if !p.cadence || p.period = 0 then 0 else min 63 (64 * (k - l) / p.period)
  | none => 0
/-- First instant of step position index n counted from the last step start: position n mod 64 of step n div 64 (R213). -/
def Part.posStart (p : Part) (n : Nat) : Nat :=
  p.lastStart.getD 0 + n / 64 * p.period + (n % 64 * p.period + 63) / 64
/-- The record R209 takes for an evaluation at s: the latest one accepted at or before s − 40 whose fetch is complete at s. -/
def Part.recAt (p : Part) (t : Nat) : Option NamingRec :=
  p.recs.find? fun r => r.at_ + 40 ≤ t && (match r.fetchedAt with
    | some f => f ≤ t
    | none => false)
/-- The context in use: that record's context, if it has one (R209). -/
def Part.ctxAt (p : Part) (t : Nat) : Option (List W32) :=
  match p.recAt t with
  | some r => if r.hasCtx then some r.ctx else none
  | none => none
/-- SWPAT bit p of a context record (08, offset 0x010). -/
def swpat (c : List W32) (p : Nat) : Bool := (byteAt c (16 + p / 8)).testBit (p % 8)
/-- Some SWPAT bit is set. -/
def swpatAny (c : List W32) : Bool := (List.range 64).any (swpat c)

/-- The Float's forecast in force at sample k (R33, R229). -/
def Zone.fcAt (zn : Zone) (k : Nat) : Option Fcst :=
  match zn.fc with
  | some f => if f.at_ ≤ k && k < f.at_ + 1024 then some f else none
  | none => none

/-! ## Zone state predicates (R160, R174) -/

/-- A ramp of the zone has been admitted: its start is set (R183). -/
def Zone.admitted (zn : Zone) : Bool := match zn.ramp with
  | some r => r.started.isSome
  | none => false
/-- The zone ramps at instant k: its tiles have been started or steered (R174, R211). -/
def Zone.ramping (zn : Zone) (k : Nat) : Bool := match zn.ramp with
  | some r => r.started.any (· ≤ k)
  | none => false
/-- The law runs (R160). -/
def Zone.lawRuns (zn : Zone) : Bool :=
  zn.admitted || (match zn.st with
    | .retain | .mist | .run => true
    | .off | .hold | .safe => false)
/-- An array has a window scheduled, boosting, armed or open. -/
def Arr.windowed (a : Arr) : Bool := a.sched || a.sw = .boosting || a.sw = .armed || a.sw = .open_
/-- PBLEAD with 0 taken as 1 (R281). -/
def Zone.pblead (zn : Zone) : Nat := max 1 zn.cfg.pblead
/-- The instant of an array's first window command (R278). -/
def Zone.winFirst (zn : Zone) (a : Arr) : Nat := a.w - 64 * zn.pblead

/-! ## Tables and weights (R165, R168, R178) -/

/-- Entry of the gain table. -/
def Zone.gainAt (zn : Zone) (g : Nat) : W32 := zn.active.gain.getD g 0
/-- Weight of tile t; a W of 0 at a configured tile counts as 1 (R168). -/
def Zone.w (zn : Zone) (t : Nat) : Nat := max 1 (fld (zn.active.spatial.getD t 0) 0 8)
/-- Set-point offset of tile t in codes (R168). -/
def Zone.so (zn : Zone) (t : Nat) : Int := signed 4 (fld (zn.active.spatial.getD t 0) 8 4)
/-- Step-position feed-forward, in 50 mA (R168). -/
def Zone.ff (zn : Zone) (p : Nat) : Int := signed 16 (fld (zn.active.step.getD p 0) 0 16)
/-- Sum of the configured weights (R179). -/
def Zone.wCfg (zn : Zone) : Nat := sumN ((List.range zn.tiles.length).map zn.w)
/-- A tile is marked, as failed or as in TEST. -/
def Zone.marked (zn : Zone) (t : Nat) : Bool := zn.law.marks.any fun m => m.tile = t
/-- A tile is marked failed (R178). -/
def Zone.failed (zn : Zone) (t : Nat) : Bool := zn.law.marks.any fun m => m.tile = t && !m.test
/-- The tiles marked failed. -/
def Zone.failedTiles (zn : Zone) : List Nat := (zn.law.marks.filter fun m => !m.test).map (·.tile)
/-- A tile's latest report shows START, REG or QUIET (R159). -/
def Tile.repLive (t : Tile) : Bool := match t.rep.st with
  | .start | .reg | .quiet => true
  | .off | .isolated | .test => false
/-- Tile t is live (R159). -/
def Zone.live (zn : Zone) (t : Nat) : Bool :=
  match zn.tiles[t]? with
  | some tl => tl.repLive && !zn.marked t
  | none => false
/-- The live tiles in ascending t. -/
def Zone.liveTiles (zn : Zone) : List Nat := (List.range zn.tiles.length).filter zn.live
/-- Effective weight of a tile. -/
def Zone.we (zn : Zone) (t : Nat) : Nat := zn.law.we.getD t 0
/-- Effective weights before any mark: the configured ones. -/
def Zone.weInit (zn : Zone) : List Nat := (List.range zn.tiles.length).map zn.w

/-- Room of live tile m below 1.25 times its weight (R178). -/
def room (zn : Zone) (we : List Nat) (m : Nat) : Nat := zn.w m + zn.w m / 4 - we.getD m 0
/-- One grant of up to `n` units to tile m: the weights, what is left, and the grants so far. -/
def grantTo (zn : Zone) (m n : Nat) (x : List Nat × Nat × List (Nat × Nat)) : List Nat × Nat × List (Nat × Nat) :=
  let g := min (min n (room zn x.1 m)) x.2.1
  (x.1.modify m (· + g), x.2.1 - g, if g = 0 then x.2.2 else (m, g) :: x.2.2)
/-- Single units to the live tiles with room, in ascending t, pass by pass. -/
def grantUnits (zn : Zone) (live : List Nat) : Nat → List Nat × Nat × List (Nat × Nat) → List Nat × Nat × List (Nat × Nat)
  | 0, x => x
  | f + 1, x => if x.2.1 = 0 then x else grantUnits zn live f (live.foldl (fun x m => grantTo zn m 1 x) x)
/-- The redistribution of tile f's effective weight over `live` (R178): the new weights and the grants made. -/
def redistribute (zn : Zone) (we : List Nat) (live : List Nat) (f : Nat) : List Nat × List (Nat × Nat) :=
  let give := we.getD f 0
  let nbs := match zn.tiles[f]? with
    | some tl => tl.cfg.nbrs
    | none => []
  let nb := live.filter fun m => nbs.contains m
  let x0 : List Nat × Nat × List (Nat × Nat) := (we.set f 0, give, [])
  let x1 := if nb.isEmpty then x0 else nb.foldl (fun x m => grantTo zn m (give / nb.length) x) x0
  let rest := live.filter fun m => !nbs.contains m
  let ws := sumN (rest.map zn.w)
  let rem := x1.2.1
  let x2 := if ws = 0 then x1 else rest.foldl (fun x m => grantTo zn m (rem * zn.w m / ws) x) x1
  let x3 := grantUnits zn live x2.2.1 x2
  (x3.1, x3.2.2)

/-- Tile f is marked, failed or as in TEST (R178, R181); its weight is due for redistribution. -/
def Zone.mark (zn : Zone) (f : Nat) (test : Bool) : Zone :=
  { zn with law := { zn.law with marks := zn.law.marks ++ [{ tile := f, test, due := true }] } }
/-- The weights that are due go to the live tiles, one mark at a time in the order of marking (R178). While no tile is live they wait:
so the weight of a tile isolated in step 7 is redistributed in step 8 (R416, R422; assumption 19). -/
def Zone.settleMarks (zn : Zone) : Zone :=
  let live := zn.liveTiles
  if live.isEmpty then zn else
  zn.law.marks.foldl (fun z m =>
    if m.due then
      let r := redistribute z z.law.we live m.tile
      { z with law := { z.law with
          we := r.1, marks := z.law.marks.map fun x => if x.tile = m.tile then { x with due := false, grants := r.2 } else x } }
    else z) zn
/-- A tile leaves TEST: what it gave returns to it, and its effective weight is its configured one (R425). -/
def Zone.unmark (zn : Zone) (f : Nat) : Zone :=
  match zn.law.marks.find? fun m => m.tile = f && m.test with
  | some m =>
    let we := m.grants.foldl (fun we g => we.modify g.1 (· - g.2)) zn.law.we
    { zn with law := { zn.law with we := we.set f (zn.w f), marks := zn.law.marks.filter fun x => !(x.tile = f && x.test) } }
  | none => zn
/-- The weights formed afresh at a commit of the tables: every mark again, in the order of marking (R178). -/
def Zone.rebuild (zn : Zone) : Zone :=
  Zone.settleMarks { zn with law := { zn.law with
    we := zn.weInit, marks := zn.law.marks.map fun m => { m with due := true, grants := [] } } }
/-- Two failed tiles stand in each other's neighbour lists, or more than one tile in eight has failed (R180). -/
def Zone.tooManyFailed (zn : Zone) : Bool :=
  let fs := zn.failedTiles
  zn.tiles.length < 8 * fs.length ||
    fs.any fun a => fs.any fun b => a ≠ b &&
      (match zn.tiles[a]?, zn.tiles[b]? with
       | some x, some y => x.cfg.nbrs.contains b && y.cfg.nbrs.contains a
       | _, _ => false)
/-- Weight of failed tiles and tiles in TEST (R179, R181). -/
def Zone.wFailed (zn : Zone) : Nat := sumN (zn.law.marks.map fun m => zn.w m.tile)
/-- The derated limit in mA (R179). -/
def Zone.derated (zn : Zone) : Nat := qdivN 1791 (zn.lim.ilimPol * (zn.wCfg - zn.wFailed)) zn.wCfg
/-- The effective current limit in mA (R163). -/
def Zone.ilimEff (zn : Zone) : Nat :=
  let l := min zn.lim.ilimPol zn.derated
  if zn.leaseLost then min l (100 * zn.cfg.safeIlim) else l

/-- Shares of a demand among live tiles, to the nearest mA, ties upward (R165). -/
def splitShare (zn : Zone) (live : List Nat) (d : Nat) : List (Nat × Int) :=
  let ws := sumN (live.map zn.we)
  live.map fun t => (t, rdiv 165 (d * zn.we t : Nat) ws)
/-- Share ceiling of tile t (R165). -/
def shareCap (zn : Zone) (t : Nat) : Int :=
  match zn.tiles[t]? with
  | some tl => if tl.rep.overload then 3600 else 4000
  | none => 4000
/-- One pass of the share ceiling (R165). -/
def sharePass (zn : Zone) (sh : List (Nat × Int)) : List (Nat × Int) :=
  let x := sumI (sh.map fun p => max 0 (p.2 - shareCap zn p.1))
  if x = 0 then sh else
  let sh1 := sh.map fun p => (p.1, min p.2 (shareCap zn p.1))
  let recv := sh1.filter fun p => p.2 < shareCap zn p.1
  let wr := sumN (recv.map fun p => zn.we p.1)
  if wr = 0 then sh1 else
  sh1.map fun p => if p.2 < shareCap zn p.1 then (p.1, p.2 + rdiv 166 (x * zn.we p.1) wr) else p
/-- Shares with the ceiling: at most four passes; what still exceeds a cap is not commanded (R165). -/
def shares (zn : Zone) (live : List Nat) (d : Nat) : List (Nat × Int) :=
  let s4 := sharePass zn (sharePass zn (sharePass zn (sharePass zn (splitShare zn live d))))
  s4.map fun p => (p.1, min p.2 (shareCap zn p.1))
/-- Share of tile t in a share list. -/
def shareOf (sh : List (Nat × Int)) (t : Nat) : Int :=
  match sh.find? fun p => p.1 = t with
  | some p => p.2
  | none => 0

/-! ## Set-point (R163, R164) -/

/-- The set-point code VZ in force and the slew that goes with it (R164, R175, R183). -/
def Zone.setpoint (zn : Zone) (vmaxF : Nat) : Nat × Nat :=
  let (toRetain, slew) := match zn.ramp with
    | some r => if r.started.isSome then (r.toRetain, r.slew) else (decide (zn.st = ZState.retain), zn.lim.slew)
    | none => (decide (zn.st = ZState.retain), zn.lim.slew)
  let v := if toRetain then zn.lim.ret
    else if zn.leaseLost then zn.cfg.safeVcode
    else clampN zn.lim.vmin zn.lim.vmax zn.lim.vz
  (min v vmaxF, slew)

/-! ## Taint records (R294 to R297, R68) -/

/-- Epoch of the partition at an instant (R296). -/
def Part.epochAt (p : Part) (t : Nat) : W32 :=
  match p.epochLog.find? fun e => e.1 ≤ t with
  | some e => e.2
  | none => match p.epochLog.getLast? with
    | some e => e.2 - 1
    | none => p.epoch
/-- The four beats of a taint record (R296). -/
def taintBeats (z arrays part cause : Nat) (epoch : W32) (start sf stop ef : Nat) (r : Option NamingRec) : W64 × W64 × W64 × W64 :=
  let (q, pcx, gen, sid) := match r with
    | some r => (r.queue, r.pcx, r.gen, r.sid)
    | none => (0, 0, 0, 0)
  (BitVec.ofNat 64 (fields [(1, 0, 4), (cause + 1, 4, 2), (cause, 6, 2), (z, 8, 6), (arrays, 16, 8), (part, 24, 4),
     (epoch.toNat, 32, 32)]),
   BitVec.ofNat 64 start, BitVec.ofNat 64 stop,
   BitVec.ofNat 64 (fields [(sf, 0, 4), (ef, 4, 4), (q, 8, 8), (pcx, 16, 12), (gen, 32, 16), (sid, 48, 16)]))
/-- A record joins the TNT queue, or is lost to a full queue and marks an overflow with one NOTE for each lost record (R68). -/
def tntPush (s : State) (r : TntRec) (sf ef : Nat) : State :=
  if s.tnt.queue.length < 32 then { s with tnt := { s.tnt with queue := s.tnt.queue ++ [r] } }
  else
    let bit : BitVec 48 := BitVec.ofNat 48 (2 ^ r.zone)
    let o := match s.tnt.ovf with
      | none => (bit, r.start, sf, r.stop, ef, 1)
      | some (zs, a, af, e, f, n) =>
        if e * 10 + f < r.stop * 10 + ef then (zs ||| bit, a, af, r.stop, ef, satInc 0xFFFF n)
        else (zs ||| bit, a, af, e, f, satInc 0xFFFF n)
    note { s with tnt := { s.tnt with ovf := some o, ovfSeen := true } } 0x0F 0
/-- The events of one cause in a closed gathering become strobes and one record (R295); while READY is low they are discarded (R299). -/
def taintRecord (s : State) (z cause : Nat) (arrays : List Nat) (start sf stop ef : Nat) : State :=
  if !ready s then s else
  let zn := zoneD s z
  let p := partOf s zn
  let bits := ofBits arrays
  let r := p.recs.find? fun r => r.at_ ≤ start
  let (b0, b1, b2, b3) := taintBeats z bits zn.cfg.partition cause (p.epochAt start) start sf stop ef r
  let s1 := modZone s z fun zn =>
    { zn with
      arrays := zn.arrays.mapIdx fun a x => if arrays.contains a then { x with taint := true } else x
      sft := { zn.sft with
        strobeEnd := some (now s + 32), records := satInc 0xFFFF zn.sft.records
        brokenRecs := if cause = 1 then satInc 255 zn.sft.brokenRecs else zn.sft.brokenRecs
        lastStart := start, lastEnd := stop, lastArrays := bits } }
  tntPush s1 { zone := z, start, stop, b0, b1, b2, b3 } sf ef

/-- An interval joins the gathering of its zone (R295). -/
def Zone.gatherAdd (zn : Zone) (k : Nat) (g : Gathered) : Zone :=
  { zn with sft := { zn.sft with gather := match zn.sft.gather with
      | some (t, evs) => some (t, evs ++ [g])
      | none => some (k, [g]) } }

/-! ## Set windows: breaking, denying (R269, R279) -/

/-- A window breaks at instant k: the grant duration drops to 0, BROKEN counts, and the interval from `from_` to its end is tainted and
joins the gathering (R279, R295). The array is idle then: its window is no longer open. -/
def Zone.breakWindow (zn : Zone) (a k from_ : Nat) (since : Bool) : Zone :=
  let ar := zn.arrays.getD a {}
  let e := ar.w + 20 * ar.g
  let z1 : Zone := { zn.modArr a (fun x => { x with
      gntDur := 0, watch := false, brk := none, sw := if x.sw = .open_ then .idle else x.sw, set := if x.sched then x.set else [] }) with
    swSeen := zn.swSeen ||| 8, swBroken := if since then satInc 0xFFFF zn.swBroken else zn.swBroken }
  if from_ < e then
    { z1.gatherAdd k { cause := 1, arrays := [a], start := from_, startFine := 0, stop := e, stopFine := 0 } with
        taintTo := max z1.taintTo e }
  else z1
/-- A request is denied: SET_GNT answers with duration 0 while ZONE_READY is high (R268, R269), counted since READY (R458). -/
def Zone.deny (zn : Zone) (a : Nat) (since : Bool) : Zone :=
  { zn.modArr a (fun x => { x with sw := .idle, sched := false, gnt := zn.ready, gntDur := 0, lastDur := 0, fallen := false
                                   w := 0, g := 0, set := [] }) with
      swSeen := zn.swSeen ||| 2, swDenied := if since then satInc 0xFFFF zn.swDenied else zn.swDenied }

/-! ## HOLD and its tables (R169, R170, R176) -/

/-- The zone leaves HOLD; with `copy` and COMMIT the shadow bank becomes active, unless one of its words is bad: then the commit is
refused (R169, R170, R178). The flag asks for that NOTE. -/
def Zone.leaveHold (zn : Zone) (copy : Bool) : Zone × Bool :=
  let z1 := { zn with holdAt := none, commit := false }
  if copy && zn.commit then
    if zn.shadowBad.isEmpty then ({ z1 with active := zn.shadow }.rebuild, false)
    else ({ z1 with status := zn.status ||| 16 }, true)
  else (z1, false)

/-! ## SAFE and OFF (R139, R175, R279, R430) -/

/-- Every transition and pending command of the zone ends as its tiles stop. Requests stay pending, to be denied under R269, and a
request whose window has not started is pending again (R279; assumption 92). -/
def Zone.dropAll (zn : Zone) : Zone :=
  { zn with
    ramp := none, nextSt := none, exitCnt := none, gateAt := none, slowed := false, deferred := false, clr := []
    law := { zn.law with cmds := [], starting := false }
    tiles := zn.tiles.map fun t =>
      { t.stop false with
          cmd := { t.cmd with run := false }
          test := if t.st = .test then t.test.map fun x => { x with abandoned := true } else none }
    arrays := zn.arrays.map fun a =>
      if a.sched then { a with sw := .pending, sched := false, watch := false, brk := none, set := [] }
      else { a with sw := if a.sw = .open_ then .idle else a.sw, watch := false, brk := none, set := [] } }
/-- BST_RESULT of a test (16 "Registers"): VALID, PASS, ABANDONED, REQ, CLASS, STEP, UNIT. -/
def bistWord (pass aband req : Bool) (cls step unit : Nat) : W32 :=
  word [(1, 31, 1), (b2n pass, 30, 1), (b2n aband, 29, 1), (b2n req, 28, 1), (cls, 24, 4), (step, 16, 8), (unit, 0, 11)]
/-- An in-field tile test in progress is abandoned (R430): step 8 follows, the tile stays due, and a NOTE is made. -/
def abandonTile (s : State) (z t : Nat) : State :=
  match (tileD s z t).test with
  | some x =>
    if (tileD s z t).st ≠ .test || x.abandoned || x.startup then s else
    note { modTile s z t (fun y => { y with test := some { x with abandoned := true }, testLast := 2 }) with
      bist := { s.bist with
        abandonSeen := true, abandoned := if sinceReady s then satInc 255 s.bist.abandoned else s.bist.abandoned
        result := bistWord false true x.req 5 0 (gTile s z t) } } 0x01 0
  | none => s
/-- Every test in progress in zone z is abandoned (R430). -/
def abandonTests (s : State) (z : Nat) : State :=
  (List.range (zoneD s z).tiles.length).foldl (fun s t => abandonTile s z t) s
/-- The windows of a zone that are open at instant k break there (R279). -/
def Zone.breakOpen (zn : Zone) (k : Nat) (since : Bool) : Zone :=
  (List.range zn.arrays.length).foldl (fun zn a =>
    let ar := zn.arrays.getD a {}
    if ar.watch && ar.w ≤ k && k < ar.w + 20 * ar.g then zn.breakWindow a k k since else zn) zn
/-- Zone z enters SAFE or OFF now by an action: windows that are open break (R279), tests are abandoned (R430), every tile stops, and a
COMMIT still set as HOLD ends copies the tables (R169; assumption 93). -/
def zoneStop (s : State) (z : Nat) (f : Zone → Zone) : State :=
  let s1 := abandonTests s z
  let zn := zoneD s1 z
  let h := if zn.st = .hold then zn.leaveHold true else (zn, false)
  let s2 := modZone s1 z fun _ => f (h.1.breakOpen (now s) (sinceReady s)).dropAll
  updStretch (if h.2 then note s2 0x14 z else s2) z
/-- An action takes zone z to SAFE at the first sample instant from now on (R175, R402, R56). A zone taken out by the orderly
power-down stays as it is. -/
def zoneToSafe (s : State) (z : Nat) : State :=
  modZone s z fun zn => if zn.halted then zn else { zn with snagSafe := true, safeDue := decide (zn.st ≠ .safe) }
/-- The sample instant at which zone z enters SAFE. -/
def enterZoneSafe (s : State) (z : Nat) : State :=
  if (zoneD s z).safeDue then zoneStop s z fun zn => { zn with st := .safe, safeDue := false } else s
/-- The orderly power-down takes zone z to OFF (R175, R409). -/
def zoneToOff (s : State) (z : Nat) : State :=
  if hasZone s z then zoneStop s z fun zn => { zn with st := .off, halted := true, safeDue := false } else s

/-! ## Outputs of the host port at a sample instant (R55, R56, R138, R174) -/

/-- ISSUE_LIMIT of an array in RUN: the lowest of the cap code and the thermal code (R320). -/
def Zone.issueRun (zn : Zone) : Nat := min zn.lim.capCode zn.lim.thermCode
/-- GATE_REQ[a] in RUN: either mask names the array (R320). -/
def Zone.gateRun (zn : Zone) (a : Nat) : Bool := zn.lim.thermMask.getLsbD a || zn.lim.capMask.getLsbD a
/-- ZONE_READY as the zone's state and READY give it (R55, R174). -/
def Zone.upNow (zn : Zone) (rdy safeAll : Bool) : Bool := rdy && !safeAll && zCounts zn.st
/-- Edges of STRETCH_REQ stamped k are judged where ZONE_READY rises at k, and are not where it falls at k (R284). -/
def Sft.judgeAt (x : Sft) (k : Nat) (was up : Bool) : List (Nat × Bool × Bool) :=
  if up && !was then x.judge ++ ((x.edges.filter fun e => e.1 = k).reverse.map fun e => (e.1, e.2, false))
  else if was && !up then x.judge.filter fun e => e.1 ≠ k else x.judge
/-- The zone's outputs by state (R174), with READY, HALT and start-up (R55, R97, R138, R409). `safeAll`: INSTANCE-SAFE or worse. -/
def Zone.drive (zn : Zone) (k : Nat) (rdy safeAll : Bool) : Zone :=
  let issue := if rdy && zn.st = .run && zn.exitCnt.isNone && !safeAll then zn.issueRun else 0
  let gate (a : Nat) : Bool :=
    if !rdy || safeAll then true else
    match zn.st with
    | .mist => zn.gateAt.isSome
    | .run => zn.gateRun a
    | .off | .retain | .hold | .safe => true
  let up := zn.upNow rdy safeAll
  { zn with
    ready := up
    arrays := zn.arrays.mapIdx fun a x =>
      { x with
          issue, gateReq := gate a
          gateReqAt := if gate a = x.gateReq then x.gateReqAt else k
          gnt := x.gnt && up, gntDur := if up then x.gntDur else 0, taint := x.taint && up }
    sft := { zn.sft with
      hold := !rdy || safeAll || zn.st = .off || zn.st = .safe
      judge := zn.sft.judgeAt k zn.ready up
      freqAck := zn.sft.freqAck && up } }

end Sys2Proof.Machine
end

