-- ==== Sys2Proof/Machine/Law.lean ====
section
/-!
DEFINITION. The zone control law (05_zone_control_law.md R159 to R173, R178 to R182) with the window terms of R278: one update from the
reports of sample k, whose commands are applied at k + 64 TBT.
-/
namespace Sys2Proof.Machine

/-- Pre-boost in the offset of tile t at sample k: from the first BOOST or ARM until w (R278). -/
def Zone.boostPb (zn : Zone) (t k : Nat) : Nat :=
  maxN (zn.arrays.map fun a => if a.windowed && a.set.contains t && zn.winFirst a ≤ k && k < a.w then a.cfg.pb else 0)
/-- A window tile's trim is kept and it gets no PREP and no COMMIT at instant j (R278). -/
def Zone.frozen (zn : Zone) (t j : Nat) : Bool :=
  zn.arrays.any fun a => (a.windowed || a.watch) && a.set.contains t && zn.winFirst a ≤ j && j < a.w + 20 * a.g

/-- Marks that the reports of this sample bring (R178, R181): failed tiles, tiles entered into TEST, tiles back from it. -/
def Zone.markStep (zn : Zone) : Zone :=
  Zone.settleMarks <| (List.range zn.tiles.length).foldl (fun zn t =>
    match zn.tiles[t]? with
    | none => zn
    | some tl =>
      match tl.rep.st with
      | .isolated => if zn.failed t then zn else (zn.unmark t).mark t false
      | .test => if zn.marked t then zn else zn.mark t true
      | .off | .start | .reg | .quiet => zn.unmark t) zn

/-- recip[n] of R160. -/
def recip (n : Nat) : Nat := (2 * 65536 + n) / (2 * n)
/-- Zone error e of R160 and R278: live tiles not in QUIET; 0 when there is none. -/
def Zone.errorAt (zn : Zone) (k : Nat) : Int :=
  let ts := zn.liveTiles.filter fun t => (zn.tiles.getD t {}).rep.st ≠ .quiet
  let es := sumI (ts.map fun t => (zn.law.zref.q : Int) + 10 * (zn.so t + zn.boostPb t k) - (zn.tiles.getD t {}).rep.v)
  if ts.isEmpty then 0 else clampI (-4096) 4095 (rnd (es * recip ts.length) 16)
/-- Measured zone current iz (R160). -/
def Zone.izAt (zn : Zone) : Int := sumI (zn.liveTiles.map fun t => (zn.tiles.getD t {}).rep.i)

/-- Gain index g (R160, R161). -/
def Zone.gIdx (zn : Zone) (e : Int) : Nat := min 31 (e.natAbs / 2 ^ zn.cfg.gshift)
/-- Proportional term p (R160). -/
def Zone.pTerm (zn : Zone) (e : Int) : Int := rnd (fld (zn.gainAt (zn.gIdx e)) 0 16 * e) 4
/-- Step-position feed-forward sff (R160, R162). -/
def Zone.sff (zn : Zone) (p : Part) (k : Nat) : Int := if p.cadence then zn.ff (p.pos k) * 50 else 0
/-- Forecast feed-forward fff (R160, R162). -/
def Zone.fff (zn : Zone) (fc : Option Fcst) (iz : Int) : Int :=
  match fc with
  | some f => rnd (zn.cfg.fgain * ((f.f0 : Int) - iz)) 8
  | none => 0
/-- Demand before the limit, dr (R160). -/
def Zone.demandRaw (zn : Zone) (p : Part) (k : Nat) (e iz : Int) : Int :=
  rnd zn.law.acc 10 + zn.pTerm e + zn.sff p k + zn.fff (zn.fcAt k) iz
/-- The integrator's step with the anti-windup of R160. -/
def Zone.accStep (zn : Zone) (e dr : Int) (lim : Nat) : Int :=
  if (dr > lim && e > 0) || (dr < 0 && e < 0) then zn.law.acc
  else clampI 0 (lim * 1024) (zn.law.acc + fld (zn.gainAt (zn.gIdx e)) 16 16 * e)

/-- Smallest n from `lo` to 4 with x ≤ n × per, or 4 (R171). -/
def leastPhases (lo : Nat) (x : Int) (per : Nat) : Nat :=
  if lo ≤ 1 && x ≤ per then 1 else if lo ≤ 2 && x ≤ 2 * per then 2 else if lo ≤ 3 && x ≤ 3 * per then 3 else 4

/-- PLAN where the command applied at k + 64 carries it: in RUN, at or after PLAN_AT (R171, R225). -/
def Zone.planAt (zn : Zone) (fc : Option Fcst) (k : Nat) : Nat :=
  match fc with
  | some f => if zn.st = .run && f.planAt ≤ k + 64 then f.plan else 0
  | none => 0

/-- What the phase rules need of one update. -/
structure PhaseIn where
  k : Nat
  plan : Nat
  /-- a live tile reported DROOP or CANCELLED (R172) -/
  hit : Bool
  noPrepUntil : Nat
  /-- shares of the demand, of max(1 µs, 5 µs) and of max(0.2 µs, 1 µs) forecasts -/
  sh : List (Nat × Int)
  sh5 : List (Nat × Int)
  sh1 : List (Nat × Int)
  iz : Int
  ws : Nat
  vz : Nat
  slew : Nat

/-- NPH, SHED and the shed state of tile t (R171 to R173). -/
def phaseRule (zn : Zone) (x : PhaseIn) (t : Nat) : Nat × Nat × ShedSt :=
  let tl := zn.tiles.getD t {}
  let st := zn.law.shed.getD t {}
  let s := shareOf x.sh t
  let nact := tl.rep.nact
  let fl := max tl.cfg.minph x.plan
  let up := max (leastPhases tl.cfg.minph s 850) fl
  let dn := leastPhases fl (max s (shareOf x.sh5 t)) (10 * zn.cfg.psh)
  let ka := x.k + 64
  let frozen := zn.frozen t ka
  let st1 := { st with dwell := if dn < nact then st.dwell + 1 else 0, acted := st.acted || x.hit }
  if x.hit then
    match st1.prep with
    | some (j, _) =>
      if nact < 4 then (4, 0, { st1 with prep := none })
      else if j + 128 ≤ ka then (4, 3, { st1 with prep := none }) else (4, 0, st1)
    | none => (4, 0, st1)
  else if nact < up then (up, 0, { st1 with prep := none })
  else match st1.prep with
    | some (j, n) =>
      if j + 128 ≤ ka then
        if ka = j + 128 && tl.rep.armed && dn ≤ n && !st1.acted && !frozen && shareOf x.sh1 t ≤ 850 * n then (n, 2, { st1 with prep := none })
        else (nact, 3, { st1 with prep := none })
      else if shareOf x.sh1 t > 850 * n then (nact, 3, { st1 with prep := none })
      else (nact, 0, st1)
    | none =>
      if zn.cfg.shedDwell ≤ st1.dwell && x.noPrepUntil ≤ ka && !frozen && dn < nact then
        (dn, 1, { st1 with prep := some (ka, dn), acted := false })
      else (nact, 0, st1)

/-- Balance trim of tile t (R166): 0 when it has just become live, kept in a window (R278). -/
def balance (zn : Zone) (x : PhaseIn) (t : Nat) : Int :=
  let b := if zn.law.wasLive.contains t then zn.law.b.getD t 0 else 0
  if zn.frozen t x.k then b else
  let fair := rdiv 165 (x.iz * zn.we t) x.ws
  clampI (-256) 255 (b + (fair - (zn.tiles.getD t {}).rep.i) / (2 ^ zn.cfg.bshift : Nat))

/-- The command for live tile t (R166, R167). -/
def lawCmd (zn : Zone) (x : PhaseIn) (t : Nat) : Cmd :=
  let (nph, shed, _) := phaseRule zn x t
  let nact := (zn.tiles.getD t {}).rep.nact
  let nd := if shed = 2 || nact < nph then nph else nact
  let icmd := clampI 0 1023 (qdiv 167 (shareOf x.sh t + balance zn x t + nd) (2 * nd))
  { vcode := ((x.vz : Int) + zn.so t).toNat, slew := x.slew, icmd := icmd.toNat, nph, shed, band := zn.lim.band, run := true }

/-- One update of the law from the reports of sample k (R160). -/
def lawUpdate (zn0 : Zone) (p : Part) (k vmaxF : Nat) : Zone :=
  let zn := zn0.markStep
  let live := zn.liveTiles
  let e := zn.errorAt k
  let iz := zn.izAt
  let lim := zn.ilimEff
  let dr := zn.demandRaw p k e iz
  let d := (clampI 0 lim dr).toNat
  let fc := zn.fcAt k
  let hit := live.any fun t => (zn.tiles.getD t {}).rep.droop || (zn.tiles.getD t {}).rep.cancelled
  let (vz, slew) := zn.setpoint vmaxF
  let noPrep := if hit then k + 64 + 1024 else zn.law.noPrepUntil
  let x : PhaseIn :=
    { k, plan := zn.planAt fc k, hit, noPrepUntil := noPrep, sh := shares zn live d
      sh5 := (match fc with | some f => shares zn live (max f.f1 f.f2) | none => [])
      sh1 := (match fc with | some f => shares zn live (max f.f0 f.f1) | none => [])
      iz, ws := sumN (live.map zn.we), vz, slew }
  { zn with law := { zn.law with
      acc := zn.accStep e dr lim, e, iz, d, pos := p.pos k, ilimEff := lim, vz, slew, noPrepUntil := noPrep
      b := (List.range zn.tiles.length).map fun t => if zn.live t then balance zn x t else zn.law.b.getD t 0
      shed := (List.range zn.tiles.length).map fun t =>
        if zn.live t then (phaseRule zn x t).2.2 else zn.law.shed.getD t {}
      cmds := (List.range zn.tiles.length).map fun t =>
        if zn.live t then some (lawCmd zn x t)
        else if (zn.tiles.getD t {}).rep.st = .test then
          some { vcode := ((vz : Int) + zn.so t).toNat, slew, nph := 1, band := zn.lim.band, run := true }
        else none
      wasLive := live, pub := (iz, lim) } }

/-- The commands that start the zone's tiles from OFF at PUP_SLEW or the start-up slew (R140, R175). -/
def startCmds (zn : Zone) (vmaxF : Nat) : List (Option Cmd) :=
  let (vz, slew) := zn.setpoint vmaxF
  (List.range zn.tiles.length).map fun t =>
    if zn.failed t then none else
    some { vcode := ((vz : Int) + zn.so t).toNat, slew, nph := (zn.tiles.getD t {}).cfg.minph, band := zn.lim.band, run := true }

/-- The zone error of R160 with the law open, for the abort of HOLD (R176). -/
def Zone.holdError (zn : Zone) (k : Nat) : Int := zn.errorAt k

/-- A neighbour of zone z in its reticle field is at or above 85% of its limit, by the fractions published one sample before (R182, R183).
A fraction of a limit of 0 has no value: such a neighbour counts as not at or above 85% (assumption 94). -/
def busyNeighbour (s : State) (z : Nat) : Bool :=
  let f := (zoneD s z).cfg.field
  (List.range s.zones.length).any fun y =>
    y ≠ z && (zoneD s y).cfg.field = f && 0 < (zoneD s y).law.pub.2 && (85 * (zoneD s y).law.pub.2 : Int) ≤ 100 * (zoneD s y).law.pub.1

end Sys2Proof.Machine
end

