-- ==== Sys2Proof/Machine/Windows.lean ====
section
/-!
DEFINITION. Set windows (09_set_windows.md): placement, duration, the window set, and the requests, grants and breaks of R268 to R279.
-/
namespace Sys2Proof.Machine

/-! ## The window set, placement and duration (R273 to R275) -/

/-- Tiles an array's mask names. -/
def Zone.ownTiles (zn : Zone) (a : Nat) : List Nat :=
  (List.range zn.tiles.length).filter fun t => (zn.arrays.getD a {}).cfg.mask.getLsbD t
/-- The window set of array a: its live tiles and the live tiles in a neighbour list of one of its own (R275). -/
def Zone.winSet (zn : Zone) (a : Nat) : List Nat :=
  let own := zn.ownTiles a
  zn.liveTiles.filter fun t => own.contains t || own.any fun o => (zn.tiles.getD o {}).cfg.nbrs.contains t

/-- First n from 1 to `f` for which position p + n has SWPAT bit 0. -/
def firstGap (c : List W32) (p : Nat) : Nat → Nat → Option Nat
  | 0, _ => none
  | f + 1, n => if swpat c ((p + n) % 64) then firstGap c p f (n + 1) else some n

/-- The pattern room of a start w, tested at k; none where the placement does not permit it (R273). -/
def Zone.placeRoom (zn : Zone) (p : Part) (k w : Nat) : Option Nat :=
  match p.ctxAt k with
  | some c =>
    if !p.cadence then some 400
    else if swpatAny c then
      if swpat c (p.posCyc w) then
        let step := (w - p.lastStart.getD 0) / (max 1 p.period)
        match firstGap c (p.posCyc w) 64 1 with
        | some n => some (p.posStart (64 * step + p.posCyc w + n) - w)
        | none => some 400
      else none
    else match zn.fcAt k with
      | some f =>
        if f.qvalid then
          let lo := f.quietAt
          let hi := f.quietAt + 64 * f.qlen
          if lo ≤ w && w < hi then some (hi - w) else none
        else some 400
      | none => some 400
  | none => some 400

/-- The duration g of R274 in 20 ns, from sample k. -/
def Zone.winDur (zn : Zone) (a k dp dreq : Nat) (set : List Nat) : Nat :=
  let ac := (zn.arrays.getD a {}).cfg
  let i0 := sumN (set.map fun t => ((zn.tiles.getD t {}).rep.i).toNat)
  let iw := match zn.fcAt k with
    | some f => i0 + qdivN 274 (f.di * 1000 * set.length) zn.liveTiles.length
    | none => i0 + i0 * zn.cfg.imarg / 256
  let db := if iw = 0 then 20 else ac.cw * ac.sag * 5 / iw
  min (min dreq db) (min (dp / 20) 20)

/-- Tiles that boost, are armed or stand in QUIET (R273, FLT_SWSTAT). -/
def Zone.busyTiles (zn : Zone) : List Nat :=
  (List.range zn.tiles.length).filter fun t => (zn.tiles.getD t {}).inWin

/-- The six conditions of R273 for a candidate start at sample k: the start, the duration and the set. -/
def Zone.winTest (zn : Zone) (p : Part) (k a vmaxF : Nat) : Option (Nat × Nat × List Nat) :=
  let ar := zn.arrays.getD a {}
  let w := k + 64 * (zn.pblead + 1)
  let set := zn.winSet a
  match zn.placeRoom p k w with
  | none => none
  | some dp =>
    let g := zn.winDur a k dp ar.setDur set
    let b := w - 64 * zn.pblead
    let e := w + 20 * g
    let clash := (List.range zn.arrays.length).any fun x =>
      let o := zn.arrays.getD x {}
      x ≠ a && (o.sched || o.sw = .open_) && (o.set.any fun t => set.contains t) && zn.winFirst o < e && b < o.w + 20 * o.g
    let both := (List.range zn.tiles.length).filter fun t => set.contains t || zn.busyTiles.contains t
    if !set.isEmpty && ar.cfg.minLen ≤ g
        && (set.all fun t => (zn.tiles.getD t {}).rep.st = .reg && (zn.tiles.getD t {}).st ≠ .test)
        && !clash && both.length ≤ zn.liveTiles.length / 2
        && (set.all fun t => (zn.law.vz : Int) + zn.so t + ar.cfg.pb ≤ vmaxF) then
      some (w, g, set)
    else none

/-! ## Parts of the sample (R268 to R270, R276, R278, R279) -/

/-- Commands of scheduled windows become BOOST and ARM as their instants come: the array's state at instant k. -/
def Zone.winAdvance (zn : Zone) (k : Nat) : Zone :=
  { zn with arrays := zn.arrays.map fun a =>
      if a.sched && k + 64 = a.w then { a with sw := .armed }
      else if a.sched && zn.winFirst a ≤ k && k < a.w then { a with sw := .boosting } else a }
/-- The WIN field for tile t at instant k (R276, R278). -/
def Zone.winField (zn : Zone) (t k : Nat) : BitVec 14 :=
  if zn.clr.contains t then mkWin 3 0 0 else
  match zn.arrays.find? fun a => a.sched && a.set.contains t && zn.winFirst a ≤ k && k < a.w with
  | some a => if k + 64 = a.w then mkWin 2 a.g a.cfg.pb else mkWin 1 0 a.cfg.pb
  | none => 0
/-- The command of tile t with its WIN field; no PREP and no COMMIT in a window (R278). -/
def Zone.withWin (zn : Zone) (t k : Nat) (c : Cmd) : Cmd :=
  { c with win := zn.winField t k, shed := if zn.frozen t k && (c.shed = 1 || c.shed = 2) then 0 else c.shed }

/-- A tile of the set reports DROOP. -/
def Zone.setDroop (zn : Zone) (a : Arr) : Bool := a.set.any fun t => (zn.tiles.getD t {}).rep.droop
/-- A tile that reports ISOLATED leaves the window sets (R279). -/
def Zone.pruneSets (zn : Zone) : Zone :=
  { zn with arrays := zn.arrays.map fun a => { a with set := a.set.filter fun t => (zn.tiles.getD t {}).rep.st ≠ .isolated } }
/-- Droops reported at sample k against scheduled and open windows (R279). -/
def Zone.winJudge (zn0 : Zone) (k : Nat) : Zone :=
  let zn := zn0.pruneSets
  let hits := zn.arrays.filter fun a => zn.setDroop a &&
    ((a.sched && k < a.w) || ((a.watch || a.sched) && a.brk.isNone && a.w ≤ k && k < a.w + 20 * a.g + 64))
  { zn with
    clr := zn.clr ++ hits.flatMap (·.set)
    arrays := zn.arrays.map fun a =>
      if zn.setDroop a && a.sched && k < a.w then { a with sw := .pending, sched := false, set := [] }
      else if zn.setDroop a && (a.watch || a.sched) && a.brk.isNone && a.w ≤ k && k < a.w + 20 * a.g + 64 then
        { a with brk := some (max a.w (k - 64)) }
      else if a.watch && a.brk.isNone && a.w + 20 * a.g ≤ k then { a with watch := false } else a }
/-- Windows whose break falls due at instant k break (R279). -/
def Zone.breakDue (zn : Zone) (k : Nat) (since : Bool) : Zone :=
  (List.range zn.arrays.length).foldl (fun zn a =>
    match (zn.arrays.getD a {}).brk with
    | some f => zn.breakWindow a k f since
    | none => zn) zn
/-- SET_REQ[a] as sample k sees it: a change less than 2 ns old is not yet seen (R57). -/
def Arr.setAt (a : Arr) (k : Nat) : Bool := if a.setReqAt + 2 ≤ k then a.setReq else !a.setReq
/-- What sample k sees of SET_REQ (R57, R268, R270, R271): a rise takes a request, unless SET_GNT is high; a fall withdraws an ungranted
request, and is kept for the fall of SET_GNT where that is high. -/
def Arr.reqAt (a : Arr) (k : Nat) : Arr :=
  let up := a.setAt k
  let b := { a with setSeen := up }
  if up && !a.setSeen then (if a.gnt || a.sw ≠ .idle then b else { b with kr := k, sw := .pending, sched := false, fallen := false })
  else if !up && a.setSeen then
    (if a.gnt then { b with fallen := true }
     else if a.sw = .open_ then b else { b with sw := .idle, sched := false, set := if a.watch then a.set else [] })
  else b
/-- The Float takes in SET_REQ of its arrays at sample k; a scheduled window that is withdrawn gets CLEAR at the next instant (R271). -/
def Zone.setReqs (zn : Zone) (k : Nat) : Zone :=
  { zn with
    clr := zn.clr ++ (zn.arrays.filter fun a => a.sched && !(a.reqAt k).sched).flatMap (·.set)
    arrays := zn.arrays.map fun a => a.reqAt k }
/-- SET_GNT falls at the first sample that has seen SET_REQ fall, not before w + g (R270). -/
def Arr.gntFall (a : Arr) (k : Nat) : Arr :=
  if a.fallen && a.gnt && a.w + 20 * a.g ≤ k then { a with gnt := false, gntDur := 0, fallen := false } else a
/-- Requests denied at kr + 64 (R269). -/
def Zone.denyDue (zn : Zone) (k : Nat) (since : Bool) : Zone :=
  (List.range zn.arrays.length).foldl (fun zn a =>
    let ar := zn.arrays.getD a {}
    if ar.sw = .pending && !ar.sched && ar.kr + 64 = k &&
        (zn.st ≠ .run || zn.exitCnt.isSome || ar.setDur = 0 || 20 < ar.setDur || (zn.winSet a).isEmpty) then zn.deny a since else zn) zn
/-- The zone is taken out of RUN at k, by its target or by HALT (R279, R409): pending requests and windows not yet armed are denied; ARM
is applied at w − 64 (R278). -/
def Zone.denyLeaving (zn : Zone) (k : Nat) (since : Bool) : Zone :=
  (List.range zn.arrays.length).foldl (fun zn a =>
    let ar := zn.arrays.getD a {}
    if (ar.sw = .pending || ar.sw = .boosting) && !(ar.sched && ar.w ≤ k + 64) && ar.setAt k then
      { zn.deny a since with clr := zn.clr ++ ar.set } else zn) zn
/-- The window the request of array a gets at sample k, where it is pending, valid, and meets every condition (R269, R273). -/
def winNow (s : State) (z a k : Nat) : Option (Nat × Nat × List Nat) :=
  let zn := zoneD s z
  let ar := arrD s z a
  if hasArr s z a && zn.st = .run && zn.exitCnt.isNone && !halted s && ar.sw = .pending && !ar.sched && ar.kr ≤ k && ar.setDur ≠ 0
      && ar.setDur ≤ 20 then
    zn.winTest (partOf s zn) k a (zoneVmax s z)
  else none

/-! ## The commands -/

/-- SET_REQ (R57, R64): the pin rises with its duration code; the Float takes it at a sample instant (R268). An index the zone does not
have is ignored. -/
def execSetReq (z a dur : Nat) (s : State) : Out :=
  if (arrD s z a).setReq then .next s
  else .next (modArr s z a fun x => { x with setReq := true, setReqAt := now s, setDur := dur % 32 })

/-- SET_WINDOW_SCHEDULE (R273): at a sample instant with the request pending and every condition met, the window is scheduled. Requests
of the zone are tested in ascending a: one that a lower-numbered request could still take the window from waits for it. -/
def execSetWindowSchedule (z a : Nat) (s : State) : Out :=
  if atSample s && (List.range a).all (fun b => (winNow s z b (now s)).isNone) then
    match winNow s z a (now s) with
    | some (w, g, set) => .next (modArr s z a fun x => { x with sched := true, w, g, set })
    | none => .next s
  else .next s

/-- SET_WAIT_EXPIRY (R269): a request pending at the first sample at or after kr + SWAIT, with no grant scheduled, is denied; one that
can be scheduled at that sample still is (assumption 23). -/
def execSetWaitExpiry (z a : Nat) (s : State) : Out :=
  let zn := zoneD s z
  let ar := arrD s z a
  if atSample s && hasArr s z a && ar.sw = .pending && !ar.sched && ar.kr + 10000 * zn.cfg.swait ≤ now s && (winNow s z a (now s)).isNone then
    .next (modZone s z fun zn => zn.deny a (sinceReady s))
  else .next s

/-- SET_REQ_FALL (R57, R270, R271): the pin falls; the Float takes it at a sample instant. -/
def execSetReqFall (z a : Nat) (s : State) : Out :=
  if (arrD s z a).setReq then .next (modArr s z a fun x => { x with setReq := false, setReqAt := now s }) else .next s

/-- An armed tile enters QUIET at its window's start: every switch is open (R277). -/
def Tile.quietAt (t : Tile) (k : Nat) : Tile :=
  if t.st = .reg && (t.win.any fun y => y.w = k) then { (t.refTo k).openAll with st := .quiet } else t
/-- The grant of the window that starts at k (R272): SET_GNT rises with the granted duration while ZONE_READY is high. -/
def Zone.grant (zn : Zone) (a : Nat) (since : Bool) : Zone :=
  let ar := zn.arrays.getD a {}
  { zn.modArr a (fun x => { x with
        sw := .open_, sched := false, watch := true, gnt := zn.ready, gntDur := if zn.ready then x.g else 0, lastDur := x.g }) with
      swGranted := if since then satInc 0xFFFF zn.swGranted else zn.swGranted
      swShort := if since && ar.g < ar.setDur then satInc 0xFFFF zn.swShort else zn.swShort
      swSeen := if ar.g < ar.setDur then zn.swSeen ||| 4 else zn.swSeen }
/-- WINDOW_START (R272, R277): at w the armed tiles enter QUIET, and SET_GNT rises unless the sample at w sees the request withdrawn. -/
def execWindowStart (z a : Nat) (s : State) : Out :=
  let ar := arrD s z a
  let s1 := modZone s z fun zn => { zn with tiles := zn.tiles.map fun x => x.quietAt (now s) }
  if hasArr s z a && ar.sched && ar.sw = .armed && ar.w = now s && ar.setAt (now s) then
    .next (modZone s1 z fun zn => zn.grant a (sinceReady s))
  else .next s1

/-- A tile leaves its window at the window's end, and takes up what was held (R142, R277). -/
def Tile.windowOver (t : Tile) (k vmax : Nat) : Tile := if t.win.any fun y => y.e ≤ k then t.leaveQuiet k vmax else t
/-- WINDOW_END (R277): at w + g the tiles leave QUIET, drop the boost, and take up what was held. -/
def execWindowEnd (z a : Nat) (s : State) : Out :=
  let ar := arrD s z a
  let s1 := modZone s z fun zn => { zn with tiles := zn.tiles.map fun x => x.windowOver (now s) (zoneVmax s z) }
  if hasArr s z a && ar.sw = .open_ && ar.w + 20 * ar.g ≤ now s then .next (modArr s1 z a fun x => { x with sw := .idle })
  else .next s1

end Sys2Proof.Machine
end

