-- ==== Sys2Proof/Machine/Stretch.lean ====
section
/-!
DEFINITION. Clock stretch, frequency and taint (10_stretch_frequency_and_taint.md): the 10 µs limit, acknowledgements, Fmax, the frequency
handshake, taint gathering and the taint port.
-/
namespace Sys2Proof.Machine

/-! ## Fmax and the ceiling (R111, R285 to R288) -/

/-- Effective Fmax of an array (R111). -/
def Arr.feff (a : Arr) : Nat := a.fused - max a.cfg.age a.logged
/-- The zone's lowest effective Fmax, or FZMAX without arrays (R287). -/
def Zone.fzone (zn : Zone) : Nat :=
  match zn.arrays with
  | [] => zn.cfg.fzmax
  | a :: as => as.foldl (fun m x => min m x.feff) a.feff
/-- Frequency ceiling FCEIL (R287). -/
def Zone.fceilOf (zn : Zone) (vfmax vz : Nat) : Nat :=
  let vzb := vz - zn.lim.mofs
  let f := zn.fzone
  let fv := if vzb ≤ zn.cfg.vt then 0 else min f (qdivN 287 (f * (vzb - zn.cfg.vt)) (vfmax - zn.cfg.vt))
  min fv zn.lim.fcap
/-- vneed(c); none where it lies above every set-point code (R287). -/
def Zone.vneed (zn : Zone) (vfmax c : Nat) : Option Nat :=
  if c = 0 then some zn.cfg.vt
  else if zn.fzone = 0 then none
  else some (zn.cfg.vt + ceilDiv 2871 (c * (vfmax - zn.cfg.vt)) zn.fzone)
/-- VNEED as FLT_FREQ shows it: 0x1FF above every code. -/
def Zone.vneedReg (zn : Zone) (vfmax : Nat) : Nat :=
  match zn.vneed vfmax zn.sft.g with
  | some v => satF 9 v
  | none => 0x1FF

/-- Ageing steps of an array (R286). -/
def ageSteps (agemax fused agek : Nat) : Nat := (agemax * fused * agek + 25599999) / 25600000
/-- The logged value after an ageing update (R286). -/
def Zone.ageArr (zn : Zone) (a : Nat) (x : Arr) : Arr :=
  let m := maxN ((zn.ownTiles a).map fun t => (zn.tiles.getD t {}).age)
  { x with logged := max x.logged (min 255 (ageSteps m x.fused zn.cfg.agek)) }

/-- AGEING_UPDATE (R286): pair 1 forms every array's ageing value; an increase goes to the counters log region (R111). -/
def execAgeingUpdate (s : State) : Out :=
  if !alive s || !s.cores.run1 then .next s else
  let s1 := mapZones s fun _ zn => { zn with arrays := zn.arrays.mapIdx zn.ageArr }
  let vals := s1.zones.flatMap fun zn => zn.arrays.map (·.logged)
  if s1.zones = s.zones then .next s else .next (takeSnapshot { s1 with snag := { s1.snag with ageing := vals } })

/-! ## STRETCH_REQ (R59, R284) -/

/-- STRETCH_TIMEOUT (R59): a continuous assertion reaches 10 µs in MIST, RUN or HOLD; source 0x15 asks for ZONE-SAFE. -/
def execStretchTimeout (z : Nat) (s : State) : Out :=
  let zn := zoneD s z
  match zn.sft.since with
  | some t0 =>
    if hasZone s z && zn.sft.req && zCounts zn.st && t0 + 10000 ≤ now s then .next (report s 0x15 z .zoneSafe) else .next s
  | none => .next s

/-- The level of STRETCH_ACK at instant t, by its stamped edges (R282); the level before the oldest one kept where none is that old. -/
def Sft.ackAt (x : Sft) (t : Nat) : Bool :=
  match x.ackEdges.find? fun e => e.1 ≤ t with
  | some e => e.2
  | none => match x.ackEdges.getLast? with
    | some e => !e.2
    | none => x.ack
/-- An edge of STRETCH_ACK is stamped (R282). -/
def Sft.stampAck (x : Sft) (k : Nat) (ack : Bool) : Sft :=
  if ack = x.ack then x else { x with ack, ackEdges := ((k, ack) :: x.ackEdges).take 64 }
/-- A judged edge is acknowledged (R284): STRETCH_ACK has followed it 16 ns after it, or a fall has been overtaken by a new rise. -/
def Sft.ackOk (x : Sft) (e : Nat × Bool × Bool) : Bool := if e.2.1 then x.ackAt (e.1 + 16) else e.2.2 || !x.ackAt (e.1 + 16)
/-- The edges 16 ns old are judged; each that is not acknowledged counts since READY, and is shown (R284). -/
def Sft.judgeDue (x : Sft) (k : Nat) (since : Bool) : Sft × Nat :=
  let late := (x.judge.filter fun e => e.1 + 16 ≤ k && !x.ackOk e).length
  ({ x with
      judge := x.judge.filter fun e => k < e.1 + 16
      ackLate := if since then satAdd 255 x.ackLate late else x.ackLate, ackLateSeen := x.ackLateSeen || 0 < late }, late)

/-- STRETCH_ACK_CHECK (R282, R284): the level of STRETCH_ACK is looked at; an edge of it is stamped, and the edges of STRETCH_REQ that are
16 ns old are judged, each late one with a NOTE. -/
def execStretchAckCheck (z : Nat) (ack : Bool) (s : State) : Out :=
  if !hasZone s z then .next s else
  let r := ((zoneD s z).sft.stampAck (now s) ack).judgeDue (now s) (sinceReady s)
  let s1 := modZone s z fun zn => { zn with sft := r.1 }
  .next ((List.range r.2).foldl (fun s _ => note s 0x16 z) s1)

/-! ## The frequency handshake (R289 to R291) -/

/-- FREQ_REQ (R57): the pin rises with its code; the Float takes it at a sample instant. -/
def execFreqReq (z code : Nat) (s : State) : Out :=
  if (zoneD s z).sft.freqReq then .next s
  else .next (modZone s z fun zn => { zn with sft := { zn.sft with freqReq := true, freqCode := code % 256, freqAt := now s } })

/-- STRETCH_REQ is low at every stamp in [g − 50, g + 1) (R291). -/
def stretchQuiet (zn : Zone) (g : Nat) : Bool :=
  !zn.sft.req && (match zn.sft.edges with
    | (t, _) :: _ => t + 50 ≤ g
    | [] => true)
/-- No window of the zone is boosted, armed or open, or scheduled to start before g + 64 (R290). -/
def noWindow (zn : Zone) (g : Nat) : Bool :=
  zn.arrays.all fun a => !(a.sw = .boosting || a.sw = .armed || a.sw = .open_) && !(a.sched && a.w < g + 64)

/-- FREQ_INCREASE_GRANT (R290, R291): a pending increase is acknowledged at a sample instant at which every condition holds; FREQ_ACK can
rise, and G change, only while ZONE_READY is high (R55, R289). -/
def execFreqIncreaseGrant (z : Nat) (s : State) : Out :=
  let zn := zoneD s z
  let g := now s
  match zn.sft.pending with
  | some (c, kr) =>
    if atSample s && zn.sft.g < c && kr + 64 ≤ g && (zn.st = .mist || zn.st = .run) && zn.ready && c ≤ zn.sft.fceil
        && noWindow zn g && stretchQuiet zn g then
      .next (modZone s z fun zn => { zn with sft := { zn.sft with g := c, floorG := c, freqAck := true, pending := none } })
    else .next s
  | none => .next s

/-- FREQ_REQ_FALL (R57, R289): the pin falls; from here the floor of R288 follows the granted code. -/
def execFreqReqFall (z : Nat) (s : State) : Out :=
  .next (modZone s z fun zn =>
    if zn.sft.freqReq then { zn with sft := { zn.sft with freqReq := false, freqAt := now s, floorG := zn.sft.g } } else zn)

/-- FREQ_REQ as sample k sees it: a change less than 2 ns old is not yet seen (R57). -/
def Sft.freqSeenAt (x : Sft) (k : Nat) : Bool := if x.freqAt + 2 ≤ k then x.freqReq else !x.freqReq
/-- What sample k sees of FREQ_REQ (R57, R289, R290): a rise takes a request, code 0 being counted as invalid; a fall withdraws it, or
lowers FREQ_ACK. -/
def Sft.reqAt (x : Sft) (k : Nat) (since : Bool) : Sft :=
  let up := x.freqSeenAt k
  let y := { x with freqSeen := up }
  if up && !x.freqSeen then
    (if x.freqAck then y
     else if x.freqCode = 0 then { y with pending := none, invalid := if since then satInc 255 x.invalid else x.invalid }
     else { y with pending := some (x.freqCode, k) })
  else if !up && x.freqSeen then { y with pending := none, freqAck := false, floorG := if x.freqAck then x.g else x.floorG }
  else y
/-- The sample's part of the handshake: FCEIL is formed, FREQ_REQ is taken in, and a decrease is acknowledged at kr + 64 while
ZONE_READY is high (R287, R289, R290). -/
def Zone.freqSample (zn : Zone) (k vfmax : Nat) (up since : Bool) : Zone :=
  let x := { zn.sft with fceil := zn.fceilOf vfmax (zn.setpoint vfmax).1 }.reqAt k since
  match x.pending with
  | some (c, kr) =>
    if c ≤ x.g && kr + 64 ≤ k && up then { zn with sft := { x with g := c, freqAck := true, pending := none } }
    else { zn with sft := x }
  | none => { zn with sft := x }

/-! ## Taint (R154, R157, R294 to R299) -/

/-- TAINT_EVENT_RX (R157, R294, R295): the next taint event reaches the Float, which extends its stamps against its own count; it joins
the gathering, and one at a tile no mask holds is counted as UNMAPPED. -/
def execTaintEventRx (z : Nat) (s : State) : Out :=
  let zn := zoneD s z
  match zn.sft.inflight with
  | w :: rest =>
    let ev := TaintEv.ofWord (now s) w
    let arrays := zn.arraysOf ev.tile
    let z1 := { zn with sft := { zn.sft with inflight := rest } }
    if arrays.isEmpty then
      .next (modZone s z fun _ => { z1 with sft := { z1.sft with unmapped := satInc 255 zn.sft.unmapped } })
    else .next (modZone s z fun _ => z1.gatherAdd (now s)
      { cause := 0, arrays, start := ev.start, startFine := ev.startFine, stop := ev.stop, stopFine := ev.stopFine })
  | [] => .next s

/-- The earliest start and the latest end of the events of a record, in 100 ps (R295). -/
def gatherSpan (evs : List Gathered) : Nat × Nat :=
  (evs.foldl (fun m e => min m (10 * e.start + e.startFine)) ((evs.head?.map fun e => 10 * e.start + e.startFine).getD 0),
   maxN (evs.map fun e => 10 * e.stop + e.stopFine))
/-- The events of one cause become one record (R295). -/
def gatherRecord (s : State) (z cause : Nat) (evs : List Gathered) : State :=
  let es := evs.filter fun e => e.cause = cause
  if es.isEmpty then s else
  let (a, b) := gatherSpan es
  taintRecord s z cause ((List.range (zoneD s z).arrays.length).filter fun a => es.any fun e => e.arrays.contains a)
    (a / 10) (a % 10) (b / 10) (b % 10)
/-- The sample closes a gathering whose first event arrived 8 ns or more before: one record for each cause (R295). A window that breaks at
the closing instant itself is not in it (assumption 95). -/
def closeGather (s : State) (z : Nat) : State :=
  match (zoneD s z).sft.gather with
  | some (t, evs) =>
    if t + 8 ≤ now s then
      let s1 := modZone s z fun zn => { zn with sft := { zn.sft with gather := none } }
      gatherRecord (gatherRecord s1 z 0 evs) z 1 evs
    else s
  | none => s

/-- TAINT_STROBE_END (R295): the strobe falls 32 ns after it rose. -/
def execTaintStrobeEnd (z : Nat) (s : State) : Out :=
  match (zoneD s z).sft.strobeEnd with
  | some e =>
    if e ≤ now s then
      .next (modZone s z fun zn =>
        { zn with arrays := zn.arrays.map (fun a => { a with taint := false }), sft := { zn.sft with strobeEnd := none } })
    else .next s
  | none => .next s

/-- The record is an overflow record: TYPE 2 (R296, R297). -/
def TntRec.overflow (r : TntRec) : Bool := bitsOf r.b0.toNat 0 4 = 2
/-- TNT_RECORD_SEND (R67): the head record has been acknowledged on its last beat; OVERFLOWS counts overflow records sent (R303). -/
def execTntRecordSend (s : State) : Out :=
  match s.tnt.queue with
  | r :: rest =>
    if ready s then
      .next { s with tnt := { s.tnt with
        queue := rest, last := some r, overflows := if r.overflow then satInc 0xFFFF s.tnt.overflows else s.tnt.overflows } }
    else .next s
  | [] => .next s

/-- TNT_OVERFLOW_RECORD (R68, R297): with room in the queue after a loss, one overflow record is queued. -/
def execTntOverflowRecord (s : State) : Out :=
  match s.tnt.ovf with
  | some (zs, a, _, e, _, n) =>
    if ready s && s.tnt.queue.length < 32 then
      let r : TntRec :=
        { zone := 0, start := a, stop := e
          b0 := BitVec.ofNat 64 (fields [(2, 0, 4), (3, 4, 2), (2, 6, 2), (0xFF, 16, 8)])
          b1 := BitVec.ofNat 64 a, b2 := BitVec.ofNat 64 e
          b3 := BitVec.ofNat 64 (fields [(zs.toNat, 0, 48), (n, 48, 16)]) }
      .next { s with tnt := { s.tnt with queue := s.tnt.queue ++ [r], ovf := none } }
    else .next s
  | none => .next s

end Sys2Proof.Machine
end

