-- ==== Sys2Proof/Machine/Msf.lean ====
section
/-!
DEFINITION. The module-stage front end (06_module_stage.md): channel cycle, outer VIM loop, set-point sources, ladder and shed, shorts,
overvoltage, lost channels and PG_OUT.
-/
namespace Sys2Proof.Machine

/-! ## Channels and ladder (R185, R187, R188, R200, R204) -/

/-- Turn-on of channel k in taps of 1/1,024 period after the SYNC_IN edge (R185). -/
def Msf.chanTap (m : Msf) (k : Nat) : Nat := (m.cfg.dly + (2 * 1024 * k + m.cfg.nch) / (2 * max 1 m.cfg.nch)) % 1024
/-- A turn-on moves to its relocked angle by at most 32 taps per period, the shorter way round (R186). -/
def moveTap (cur tgt : Nat) : Nat :=
  let d := (tgt + 1024 - cur % 1024) % 1024
  if d ≤ 512 then (cur + min 32 d) % 1024 else (cur + 1024 - min 32 (1024 - d)) % 1024
/-- Divisor of a ladder level. -/
def Msf.div (m : Msf) (i : Nat) : Nat := max 1 (m.cfg.divs.getD i 1)
/-- Channel k runs at ladder level i. -/
def Msf.runsAt (m : Msf) (i k : Nat) : Bool := k < m.cfg.nch && k % m.div i = 0 && !(m.chans.getD k {}).excluded
/-- m(i): the channels level i would run (R200). -/
def Msf.mAt (m : Msf) (i : Nat) : Nat := ((List.range m.cfg.nch).filter (m.runsAt i)).length
/-- The loop runs: SOFT, SETTLE or RUN. -/
def Msf.loop (m : Msf) : Bool := match m.st with
  | .soft | .settle | .run => true
  | .off | .hiccup | .latched => false
/-- Channel k is a running channel: the level in force runs it (R200), or a commit has dropped it and its cycle has not ended (R201). -/
def Msf.runs (m : Msf) (k : Nat) : Bool :=
  m.loop && (m.runsAt m.level k || ((m.chans.getD k {}).tail && !(m.chans.getD k {}).excluded))
/-- Running channels m (R190). -/
def Msf.running (m : Msf) : Nat := ((List.range m.cfg.nch).filter m.runs).length
/-- Highest-numbered level with x (10 mA) at most m(i) × amps; level 0 when there is none. -/
def Msf.highest (m : Msf) (x : Nat) (amps : Nat) : Nat :=
  maxN ((List.range m.cfg.divs.length).filter fun i => x ≤ m.mAt i * amps * 100)
/-- The limit of the demand for the channels that run, 10 mA (R190). -/
def Msf.lim (m : Msf) : Int := m.running * ((m.cfg.ilimc : Int) - m.cfg.riph)
/-- acc is limited to lim × 1,024 (R190). -/
def Msf.limitAcc (m : Msf) : Msf := { m with acc := satTo 190 (m.lim * 1024) m.acc }
/-- A change of the running channels limits acc at once (R190). -/
def Msf.rerun (m m1 : Msf) : Msf := if m1.running = m.running then m1 else m1.limitAcc

/-- The ILIMC voltage in 1/100 of 0.1 mV (R188). -/
def Msf.ilimcV (m : Msf) : Nat := m.cfg.imonOfs * 1000 + m.cfg.ilimc * m.cfg.imonGain
/-- The DAC voltage for a current of 10 mA units, in 1/100 of 0.1 mV (R188). -/
def Msf.dacV (m : Msf) (i : Int) : Int := m.cfg.imonOfs * 1000 + i * m.cfg.imonGain
/-- Current from an IMON voltage in 0.1 mV, nearest 10 mA with ties upward (R188). -/
def Msf.imonCur (m : Msf) (v : Nat) : Int := rdiv 188 (((v : Int) - 10 * m.cfg.imonOfs) * 100) m.cfg.imonGain

/-! ## References and set-point (R191, R194, R195) -/

/-- The MSF's forecast in force at k (R48, R229): fv at 0.2, 1, 5 and 20 µs in A. -/
def Msf.fvAt (m : Msf) (k : Nat) : Option (Nat × Nat × Nat × Nat) :=
  match m.fv with
  | some (a, b, c, d, t) => if t ≤ k && k < t + 1024 then some (a, b, c, d) else none
  | none => none
/-- The instant at which forecasts become absent (R48). -/
def Msf.fvEnd (m : Msf) : Nat := match m.fv with
  | some (_, _, _, _, t) => t + 1024
  | none => 0
/-- The offset part moves towards fo while the forecast stands, and back to 0 after it (R195). -/
def Msf.offTo (m : Msf) (k : Nat) : Ramp :=
  let e := clampN m.refAt k m.fvEnd
  (m.off.advance (4 * min m.fo m.cfg.fcOfsMax) 50 (e - m.refAt)).advance 0 50 (k - e)
/-- Both parts have moved up to instant k (R195): base at SS_SLEW with off at 0 in SOFT, else base at SLEW. -/
def Msf.refTo (m : Msf) (k : Nat) : Msf :=
  match m.st with
  | .soft =>
    { m with refAt := k, off := {}
             base := if m.capture then m.base else m.base.move (4 * m.tgt) m.cfg.ssSlew (k - m.refAt) 25000 }
  | .settle | .run => { m with refAt := k, off := m.offTo k, base := m.base.advance (4 * m.tgt) m.slewIn (k - m.refAt) }
  | .off | .hiccup | .latched => { m with refAt := k }
/-- vref_q of the two parts (R195); no reference is formed while the loop does not run. -/
def Msf.vrefNow (m : Msf) : Nat :=
  match m.st with
  | .soft => min m.base.q (4 * m.cfg.vimMax)
  | .settle | .run => clampN (4 * m.cfg.vimMin) (4 * m.cfg.vimMax) (m.base.q + m.off.q)
  | .off | .hiccup | .latched => 0
/-- The source of tgt in use (R191, R194): SRC, or VIM_SET after the fallback and before a first valid value (assumption 96). -/
def Msf.srcUsed (m : Msf) : Nat :=
  if (m.cfg.src = 1 || m.cfg.src = 2) && !m.vsetFallen && m.vsetVal.isSome then m.cfg.src else 0
/-- tgt by its source, limited to [VIM_MIN, VIM_MAX] (R191, R194); the last valid one is held while VSET_IN is lost. -/
def Msf.tgtOf (m : Msf) : Nat :=
  clampN m.cfg.vimMin m.cfg.vimMax
    (if m.srcUsed = 0 then m.vimSetIn else if m.vsetLostAt.isSome then m.tgt else m.vsetVal.getD m.vimSetIn)
/-- tgt is formed anew at instant k; base goes on from its present value (R195). -/
def Msf.retarget (m : Msf) (k : Nat) : Msf :=
  let m1 := m.refTo k
  { m1 with tgt := m1.tgtOf, base := m1.base.retarget (m1.tgtOf = m1.tgt) }

/-! ## The channel cycle (R187 to R189, R202, R204) -/

/-- IMON t ns after the turn-on, in 0.1 mV; the last value given stands beyond the list. -/
def imonAt (c : ChanInput) (t : Nat) : Nat := c.imon.getD t (c.imon.getLastD 0)
/-- The slope ramp t ns after the turn-on, in 1/100 of 0.1 mV: SLOPE mV/µs, scaled by vref ÷ 1.800 V under SLOPE_TRACK (R188). -/
def Msf.rampAt (m : Msf) (t : Nat) : Rat :=
  if m.cfg.slopeTrack then (m.cfg.slope * t : Nat) * (m.vrefNow : Rat) / 7200 else (m.cfg.slope * t : Nat)
/-- On-time in ns and whether ILIMC ended it (R187): IMON plus the ramp at the peak DAC voltage, not before TON_MIN; IMON at the ILIMC
voltage at any time; or DMAX of the period. Instants are told apart by 1 ns (assumption 90). -/
def Msf.onTime (m : Msf) (c : ChanInput) (peak : Int) : Nat × Bool :=
  let dmax := m.cfg.dmax * m.syncPer / 100000
  let byPeak := firstFrom (fun t => (m.dacV peak : Rat) ≤ (imonAt c t * 100 : Nat) + m.rampAt t) dmax 0
  let byLim := firstFrom (fun t => m.ilimcV ≤ imonAt c t * 100) dmax 0
  (min (max m.cfg.tonMin byPeak) (min byLim dmax), byLim < min dmax (max m.cfg.tonMin byPeak))
/-- The low-side switch stands on at the end of the cycle (R189): for the whole off-time in SETTLE and RUN; in SOFT until IMON falls to
IMON_OFS, and not at all while the reference lies below the measured VIM (R100). -/
def Msf.lowOn (m : Msf) (c : ChanInput) : Bool :=
  match m.st with
  | .soft => !c.zero && m.vsns ≤ m.vrefNow
  | .settle | .run => true
  | .off | .hiccup | .latched => false
/-- IMON lies outside 0.30 V to 1.50 V (R204). -/
def imonBad (v : Nat) : Bool := v < 3000 || 15000 < v
/-- One channel cycle (R187, R188): a skipped pulse and a termination at ILIMC count as a trip; IMON at mid on-time gives the measured
current. R204 looks at IMON at that same instant, or at turn-on where the pulse is skipped (assumption 97). -/
def Msf.chanCycle (m : Msf) (k : Nat) (c : ChanInput) : Msf :=
  let skip := m.ilimcV ≤ imonAt c 0 * 100
  let (on, lim) := m.onTime c m.ipk
  let v := imonAt c (if skip then 0 else on / 2)
  { m with chans := m.chans.modify k fun x =>
      { x with
          on := true, tail := false
          tap := if x.on then moveTap x.tap (m.chanTap k) else m.chanTap k
          peak := m.ipk
          onT := if skip then 0 else on
          low := m.lowOn c
          im := if skip then x.im else m.imonCur v
          trip := skip || lim
          trips := if skip || lim then satInc 1024 x.trips else 0
          bad := if imonBad v then satInc 16 x.bad else 0 } }
/-- A period of a channel that does not switch: its IMON is watched all the same (R204 speaks of every channel), at its placed turn-on
(assumption 97). A channel that a commit dropped has reached the end of its cycle (R201). -/
def Msf.idleCycle (m : Msf) (k : Nat) (c : ChanInput) : Msf :=
  { m with chans := m.chans.modify k fun x =>
      { x with on := false, tail := false, low := false, trip := false, trips := 0
               bad := if imonBad (imonAt c 0) && !x.excluded then satInc 16 x.bad else 0 } }
/-- VSNS lies below 20% of tgt (R202), or at 80% of tgt or above (R204). -/
def Msf.vLow (m : Msf) : Bool := 5 * m.vsns < 4 * m.tgt
def Msf.vHigh (m : Msf) : Bool := 16 * m.tgt ≤ 5 * m.vsns
/-- The period of channel 0 that ends with this turn-on counts toward a short (R202). -/
def Msf.shortPeriod (m : Msf) : Bool :=
  let run := (List.range m.cfg.nch).filter m.runs
  m.lowAll && m.vLow && run.length < 2 * (run.filter fun k => (m.chans.getD k {}).trip).length
/-- The boundary of a channel-0 period at instant k (R201, R202). -/
def Msf.boundary (m : Msf) (k : Nat) : Msf :=
  { m with per := m.per + 1, perAt := some k, lowAll := m.vLow
           shortCnt := if 0 < m.per && m.shortPeriod then satInc 64 m.shortCnt else 0 }

/-- MSF_CHANNEL_CYCLE (R187, R204): a channel reaches its placed turn-on; channel 0's is also the boundary of its period. After a soft
start channel 0 switches first (R197). The front end acts from the start of step 6 (R97). -/
def execMsfChannelCycle (k : Nat) (c : ChanInput) (s : State) : Out :=
  if !running s || !s.su.msfGrid then .next s else
  let m0 := s.msf.refTo (now s)
  let m1 := if k = 0 && m0.loop && !m0.capture then m0.boundary (now s) else m0
  let m2 := if m1.loop && !m1.capture && 0 < m1.per && m1.runsAt m1.level k then m1.chanCycle k c else m1.idleCycle k c
  .next { s with msf := m0.rerun m2 }

/-! ## States (R197, R202, R206) -/

/-- A MSF_STATUS sticky bit is set. -/
def Msf.seen (m : Msf) (b : Nat) : Msf := { m with status := m.status ||| BitVec.ofNat 8 (2 ^ b) }
/-- The MSF leaves its loop: every MS_PWM low (R197). -/
def Msf.stopTo (m : Msf) (st : MsfState) (k : Nat) : Msf :=
  { m with st, stAt := k, armed := none, watch := [], dwellAt := none, capture := false, reached := false, ipk := 0, ipkNext := 0
           acc := 0, off := {}, ovCnt := 0, shortCnt := 0, outAt := none, inAt := none
           chans := m.chans.map fun c => { c with im := 0, trip := false, trips := 0, bad := 0, on := false, tail := false, low := false } }
/-- OFF or HICCUP to SOFT: the next sample's VSNS becomes the base (R100, R197). -/
def Msf.softStart (m : Msf) (k : Nat) : Msf :=
  { m.stopTo .soft k with capture := true, level := m.cfg.ssStep, per := 0, perAt := none, base := {}, refAt := k }
/-- Leaving RUN lowers PG_OUT (R206). -/
def pgLow (s : State) : State := { s with pins := { s.pins with pgOut := false } }

/-- A cancel of the armed shed, or a restart in a watch, by the events of R201 against the level `l` of the shed: im, a sag below
vref_q − STEP_MV, or the 1 or 5 µs forecast. -/
def Msf.cancelsAt (m : Msf) (k l : Nat) : Bool :=
  let lim := 85 * m.mAt l * m.cfg.addA
  m.im > lim || m.vsns + 4 * m.cfg.stepMv < m.vrefQ || (match m.fvAt k with
    | some (_, f1, f5, _) => lim < 100 * f1 || lim < 100 * f5
    | none => false)
/-- The level is lowered to `l` if it is above: channels are added (R200). -/
def Msf.addTo (m : Msf) (l : Nat) : Msf := m.rerun { m with level := min l m.level }
/-- The armed shed is cancelled, and in a watch the channels its commit stopped restart (R201). -/
def Msf.cancelSheds (m : Msf) (k : Nat) : Msf :=
  let m1 := if m.armed.any fun x => m.cancelsAt k x.1 then { m with armed := none }.seen 0 else m
  let l := (m.watch.filter fun x => m.cancelsAt k x.2.1).foldl (fun a x => min a x.1) m.level
  if l < m.level then (m1.addTo l).seen 0 else m1

/-! ## The sample (R190, R195, R200, R201) -/

/-- References at the sample (R195). -/
def Msf.refs (m : Msf) (k : Nat) : Msf :=
  let m1 := m.retarget k
  { m1 with vrefQ := m1.vrefNow, reached := m1.st = .soft && m1.base.q = 4 * m1.tgt }
/-- The outer loop (R190). -/
def Msf.law (m : Msf) (k : Nat) : Msf :=
  let im := sumI (((List.range m.cfg.nch).filter m.runs).map fun c => (m.chans.getD c {}).im)
  let e : Int := (m.vrefQ : Int) - m.vsns
  let ff := match m.fvAt k with
    | some (_, f1, _, _) => rnd (m.cfg.vgain * ((100 * f1 : Nat) - im)) 8
    | none => 0
  let dr := rnd m.acc 10 + rnd (m.cfg.kp * e) 4 + ff
  let dm := satTo 190 m.lim dr
  { m with
    im, dm := dm.toNat
    acc := if (dr > m.lim && e > 0) || (dr < 0 && e < 0) then m.acc else satTo 190 (m.lim * 1024) (m.acc + m.cfg.ki * e)
    ipkNext := min m.cfg.ilimc (qdiv 190 dm m.running + m.cfg.riph) }
/-- Ladder levels at a sample in RUN (R200, R201). -/
def Msf.ladder (m : Msf) (k : Nat) : Msf :=
  if m.st ≠ .run then m else
  let im := m.im.toNat
  let need := m.highest im m.cfg.addA
  let (fl, x) := match m.fvAt k with
    | some (_, f1, f5, f20) => (m.highest (100 * f5) m.cfg.addA, max im (max (100 * f1) (max (100 * f5) (100 * f20))))
    | none => (m.level, im)
  let dn := m.highest x m.cfg.shedA
  let m1 := if min need fl < m.level then { m.addTo (min need fl) with armed := none } else m
  { m1 with dn, dwellAt := if m1.level < dn then some (m.dwellAt.getD k) else none }
/-- A difference of at most `pc` percent of a reference. -/
def withinPc (pc a b : Nat) : Bool := 100 * ((a : Int) - b).natAbs ≤ pc * b
/-- Power-good conditions at a sample of the loop (R206). -/
def Msf.watchPg (m : Msf) (k : Nat) : Msf :=
  { m with
    outAt := if withinPc 5 m.vsns m.vrefQ then none else some (m.outAt.getD k)
    inAt := if withinPc 2 m.vsns m.vrefQ then some (m.inAt.getD k) else none }
/-- The VIM sense result of a sample in every state (R190, R202 to R204). -/
def Msf.sense (m : Msf) (vsns : Nat) : Msf :=
  let m := { m with vsns := min 8191 vsns, ipk := m.ipkNext }
  { m with
    ovCnt := if 4 * (m.cfg.vimMax + m.cfg.ovMargin) < m.vsns then satInc 2 m.ovCnt else 0
    lowAll := m.lowAll && m.vLow
    chans := if m.vHigh then m.chans else m.chans.map fun c => { c with trips := 0 } }
/-- The MSF's part of a sample instant k with the VIM sense result (R190). Where the loop does not run, im and dm are 0. -/
def Msf.sampleOf (m : Msf) (k : Nat) : Msf :=
  if !m.loop then { m.retarget k with im := 0, dm := 0, vrefQ := 0 }
  else if m.capture then
    let m1 := { m with capture := false, base := { q := m.vsns, frac := 0 }, im := 0, dm := 0 }.retarget k
    { m1 with vrefQ := m1.vrefNow }
  else
    let m1 := (m.refs k).law k
    ((if m1.st = .run then m1.cancelSheds k else m1).ladder k).watchPg k
/-- The sample, with its part of the 10 µs mean of im (R309). -/
def Msf.sample (m : Msf) (k vsns : Nat) : Msf :=
  let m1 := (m.sense vsns).sampleOf k
  { m1 with imSum := m1.imSum + m1.im, imCnt := m1.imCnt + 1 }

/-! ## Commands -/

/-- f_SYNC lies from 300 kHz to 3 MHz, by its period in ps (R186). -/
def syncOk (per : Nat) : Bool := 300000 * per ≤ 1000000000000 && 1000000000000 ≤ 3000000 * per
/-- MSF_SYNC_LOST (R186): no edge for 4 periods of the locked frequency, or a frequency out of range. The generator holds its frequency;
source 0x28. -/
def execMsfSyncLost (i : SyncIn) (s : State) : Out :=
  if running s && s.msf.lock && !s.msf.syncLost && (4 * s.msf.syncPer ≤ i.since || !syncOk i.period) then
    .next (assertCond { s with msf := { s.msf with syncLost := true }.seen 1 } 0x28 0 .degrade)
  else .next s
/-- MSF_SYNC_RELOCK (R185, R186): from the end of step 2, with SYNC_IN present and in range, the generator locks, or relocks after a
loss; a switching channel then stands off its angle by the shift of the held frequency. -/
def execMsfSyncRelock (i : SyncIn) (s : State) : Out :=
  let m := s.msf
  if running s && 3 ≤ s.su.stepNo && i.since < 4 * i.period && syncOk i.period then
    .next (deassertCond { s with msf := { m with
      lock := true, syncLost := false, syncPer := i.period
      chans := m.chans.mapIdx fun k c => { c with tap := (m.chanTap k + i.shift) % 1024 } } } 0x28 0)
  else .next s

/-- Target from an average VSET_IN voltage in mV (R192), rounded to 1 mV with halves up. -/
def vsetAnalogue (mv : Rat) : Nat := (roundRat (1500 + (mv - 200) / 2)).toNat
/-- Duty of a period, from its length and its high time in ns, as a fraction; a free value where the period is 0 (R193). -/
def dutyOf (p : Nat × Nat) : Rat := if p.1 = 0 then (Config.divByZero 193 p.2 : Rat) else (p.2 : Rat) / p.1
/-- A duty within 5% to 95% (R193). -/
def dutyOk (p : Nat × Nat) : Bool := 1 / 20 ≤ dutyOf p && dutyOf p ≤ 19 / 20
/-- The target a duty gives, in mV: 1,500 mV + (D − 10%) × 6.25 mV per percent (R193). -/
def dutyMv (p : Nat × Nat) : Rat := 1500 + (100 * dutyOf p - 10) * (25 / 4)
/-- Target from four consecutive periods within 2 mV of one another: their mean, rounded to 1 mV (R193). The comparison and the mean take
the values before rounding (assumption 96). -/
def vsetPulse (ps : List (Nat × Nat)) : Option Nat :=
  match ps.map dutyMv with
  | [a, b, c, d] =>
    if max (max a b) (max c d) - min (min a b) (min c d) ≤ 2 then some (roundRat ((a + b + c + d) / 4)).toNat else none
  | _ => none
/-- A sample of VSET_IN as the enabled source takes it: whether it is valid, and the value it gives (R192, R193). An average below 100 mV
gives none (assumption 96). -/
def vsetRead (src : Nat) (mvs : List Nat) (ps : List (Nat × Nat)) : Bool × Option Nat :=
  if src = 1 then
    let mv : Rat := (sumN mvs : Rat) / (max 1 mvs.length : Nat)
    (100 ≤ mv, if 100 ≤ mv then some (vsetAnalogue mv) else none)
  else (ps.all dutyOk, if ps.all dutyOk then vsetPulse ps else none)
/-- The instants R192 and R193 look back to, after a sample at k: an average below 100 mV since, the latest rising edge, a duty out of
range since; and since when VSET_IN has been valid, which an invalid sample or 250 µs without an edge restarts (R194). -/
def Msf.vsetMark (m : Msf) (k : Nat) (ok : Bool) : Msf :=
  { m with
    vsetLowAt := if m.cfg.src = 1 && !ok then some (m.vsetLowAt.getD k) else none
    vsetEdgeAt := if m.cfg.src = 2 then some k else none
    vsetBadAt := if m.cfg.src = 2 && !ok then some (m.vsetBadAt.getD k) else none
    vsetValidAt := if !ok then none
      else if m.cfg.src = 2 && m.vsetEdgeAt.any (fun e => e + 250000 ≤ k) then some k else some (m.vsetValidAt.getD k) }
/-- VSET_IN_SAMPLE (R192, R193): the enabled source takes 64 averaged samples in mV, or its latest four periods; the target follows unless
VSET_IN is taken as lost. -/
def execVsetInSample (mvs : List Nat) (periods : List (Nat × Nat)) (s : State) : Out :=
  let m := s.msf
  if !running s || !(m.cfg.src = 1 || m.cfg.src = 2) then .next s else
  let (ok, v) := vsetRead m.cfg.src mvs periods
  let m1 := m.vsetMark (now s) ok
  .next { s with msf := ({ m1 with vsetVal := v.orElse fun _ => m1.vsetVal }).retarget (now s) }
/-- The instant at which VSET_IN was lost (R192, R193): 1 ms of averages below 100 mV; 250 µs with no rising edge, or a duty out of range. -/
def Msf.vsetLoss (m : Msf) : Option Nat :=
  if m.cfg.src = 1 then m.vsetLowAt.map (· + 1000000)
  else if m.cfg.src = 2 then some (m.vsetBadAt.getD (m.vsetEdgeAt.getD 0 + 250000)) else none
/-- VSET_IN_LOST (R194): the last valid target is held. -/
def execVsetInLost (s : State) : Out :=
  let m := s.msf
  match m.vsetLoss with
  | some t =>
    if running s && t ≤ now s && m.vsetLostAt.isNone then
      .next { s with msf := { m.retarget (now s) with vsetLostAt := some (now s), vsetValidAt := none } }
    else .next s
  | none => .next s
/-- VSET_FALLBACK (R194): 1 ms after the loss the target goes to VIM_SET; a NOTE. -/
def execVsetFallback (s : State) : Out :=
  match s.msf.vsetLostAt with
  | some t =>
    if t + 1000000 ≤ now s && !s.msf.vsetFallen then
      .next (note { s with msf := ({ s.msf with vsetFallen := true }.seen 7).retarget (now s) } 0x29 0)
    else .next s
  | none => .next s
/-- VSET_IN_RETURN (R194): VSET_IN has been valid for 1 ms. -/
def execVsetInReturn (s : State) : Out :=
  let m := s.msf
  match m.vsetLostAt, m.vsetValidAt with
  | some _, some t =>
    if t + 1000000 ≤ now s && !(m.cfg.src = 2 && m.vsetEdgeAt.any fun e => e + 250000 ≤ now s) then
      .next { s with msf := ({ m with vsetLostAt := none, vsetFallen := false }).retarget (now s) }
    else .next s
  | _, _ => .next s

/-- The bounds of R196. -/
def Msf.vsetSat (m : Msf) (w : W32) : Nat × Nat :=
  (clampN m.cfg.vimMin m.cfg.vimMax (fld w 0 12), clampN 5 50 (fld w 16 9))
/-- MSF_VSET_WRITE (R196): saturated values with a NOTE; in HICCUP and LATCHED they wait for the next entry to RUN. Ignored before
READY (R98). -/
def execMsfVsetWrite (w : W32) (s : State) : Out :=
  if !alive s || !sinceReady s then .next s else
  let (v, sl) := s.msf.vsetSat w
  let s1 := if v = fld w 0 12 && sl = fld w 16 9 then s else note s 0x01 0
  let m := { s1.msf with vimSet := v, slew := sl }
  .next { s1 with msf := if m.st = .hiccup || m.st = .latched then m else
    let m1 := m.refTo (now s)
    { m1 with vimSetIn := v, slewIn := sl, base := m1.base.retarget (sl = m1.slewIn) }.retarget (now s) }

/-- MSF_SHED_ARM (R201): dn has stood above the level for SHED_DWELL µs, and a period of channel 0 begins now. -/
def execMsfShedArm (s : State) : Out :=
  let m := s.msf
  match m.dwellAt with
  | some t =>
    if m.st = .run && m.armed.isNone && m.level < m.dn && t + 1000 * m.cfg.shedDwell ≤ now s && m.perAt = some (now s) then
      .next { s with msf := { m with armed := some (m.dn, m.per) } }
    else .next s
  | none => .next s
/-- The channels of the present level stop down to level l: each at the end of its current cycle (R201). -/
def Msf.shedTo (m : Msf) (l : Nat) : Msf :=
  m.rerun { m with level := l, chans := m.chans.mapIdx fun k c => { c with tail := c.on && m.runs k && !m.runsAt l k } }
/-- MSF_SHED_COMMIT (R201): at a boundary of channel 0 two periods or more after arming, the channels outside the level stop and a watch
opens. -/
def execMsfShedCommit (s : State) : Out :=
  let m := s.msf
  match m.armed with
  | some (l, p) =>
    if m.st = .run && p + 2 ≤ m.per && m.perAt = some (now s) then
      .next { s with msf := { m.shedTo l with
        armed := none, watch := (m.level, l, m.per + 32) :: m.watch.filter (fun x => m.per < x.2.2), dwellAt := none } }
    else .next s
  | none => .next s
/-- MSF_WATCH_END (R201): a watch closes 32 periods after its commit. -/
def execMsfWatchEnd (s : State) : Out :=
  .next { s with msf := { s.msf with watch := s.msf.watch.filter fun x => s.msf.per < x.2.2 } }

/-- MSF_SHORT (R100, R202, R207): the 64th counting period. The first two detections lead to HICCUP, the third latches; before READY
only the latch is reported. -/
def execMsfShort (s : State) : Out :=
  let m := s.msf
  if m.loop && 64 ≤ m.shortCnt then
    let tries := satInc 3 m.tries
    let m1 := { (m.stopTo (if 3 ≤ tries then .latched else .hiccup) (now s)).seen 3 with tries, shortAt := now s }
    let s1 := pgLow { s with msf := m1 }
    let s2 := if sinceReady s then assertCond s1 0x2B 0 .instSafe else s1
    .next (if 3 ≤ tries then assertCond s2 0x2C 0 .instSafe true else s2)
  else .next s
/-- MSF_HICCUP_END (R197): 50 ms after the detection. -/
def execMsfHiccupEnd (s : State) : Out :=
  if s.msf.st = .hiccup && s.msf.shortAt + 50000000 ≤ now s then .next { s with msf := s.msf.softStart (now s) } else .next s
/-- MSF_TRIES_RESET (R202): 1 s in RUN without a detection. -/
def execMsfTriesReset (s : State) : Out :=
  if s.msf.st = .run && max s.msf.stAt s.msf.shortAt + 1000000000 ≤ now s then .next { s with msf := { s.msf with tries := 0 } }
  else .next s
/-- MSF_OVERVOLTAGE (R197, R203): two consecutive samples above VIM_MAX + OV_MARGIN, in whatever state. -/
def execMsfOvervoltage (s : State) : Out :=
  if running s && 2 ≤ s.msf.ovCnt then
    .next (assertCond (pgLow { s with msf := (s.msf.stopTo .off (now s)).seen 2 }) 0x2D 0 .instSafe)
  else .next s

/-- Channel k is excluded until the next start (R204): source 0x2E, and 0x2F above NCH ÷ 4. -/
def excludeChan (s : State) (k : Nat) : State :=
  if (s.msf.chans.getD k {}).excluded || s.msf.cfg.nch ≤ k then s else
  let m := (s.msf.rerun { s.msf with chans := s.msf.chans.modify k fun c =>
    { c with excluded := true, trip := false, on := false, tail := false, low := false } }).seen 6
  let s1 := assertCond { s with msf := m } 0x2E k .degrade
  if m.cfg.nch < 4 * (m.chans.filter (·.excluded)).length then assertCond s1 0x2F 0 .instSafe else s1
/-- MSF_CHANNEL_EXCLUDE (R204): IMON out of range for 16 periods, or trips in 1,024 periods at 80% of tgt or above. -/
def execMsfChannelExclude (k : Nat) (s : State) : Out :=
  let c := s.msf.chans.getD k {}
  if running s && (16 ≤ c.bad || 1024 ≤ c.trips) then .next (excludeChan s k) else .next s

/-- PG_FAULT (R206): VSNS outside ±5% for 10 µs. -/
def execPgFault (s : State) : Out :=
  match s.msf.outAt with
  | some t => if s.pins.pgOut && t + 10000 ≤ now s then .next (pgLow s) else .next s
  | none => .next s
/-- PG_RESTORE (R206): VSNS within ±2% for 1 ms in RUN. -/
def execPgRestore (s : State) : Out :=
  match s.msf.inAt with
  | some t =>
    if s.msf.st = .run && !s.pins.pgOut && t + 1000000 ≤ now s then .next { s with pins := { s.pins with pgOut := true } } else .next s
  | none => .next s
/-- MSF_BASE_REACHED (R197): base has reached tgt at a sample; SETTLE at a sample instant. -/
def execMsfBaseReached (s : State) : Out :=
  if s.msf.st = .soft && s.msf.reached && !s.msf.capture && atSample s then
    .next { s with msf := { s.msf.refTo (now s) with st := .settle, stAt := now s } }
  else .next s
/-- The end of SETTLE (R197): RUN with PG_OUT, or OFF with source 0x2A. The pair MSF_VSET holds takes effect at entry to RUN (R196). -/
def settleEnd (s : State) : State :=
  let m := s.msf
  if withinPc 2 m.vsns m.vrefQ then
    deassertCond { s with
      msf := { m.refTo (now s) with st := .run, stAt := now s, vimSetIn := m.vimSet, slewIn := m.slew }.retarget (now s)
      pins := { s.pins with pgOut := true } } 0x2B 0
  else assertCond { s with msf := m.stopTo .off (now s) } 0x2A 0 .instSafe

end Sys2Proof.Machine
end

