-- ==== Sys2Proof/Machine/Forecast.lean ====
section
/-!
DEFINITION. The forecast engine's rounds (07_forecast_engine.md R209 to R229): features, model arithmetic, plan, hint, instance forecast,
packets and their arrival.
-/
namespace Sys2Proof.Machine

/-! ## Model sets and context profiles (R217, R238, R239) -/

/-- Signed little-endian fields at a byte offset. -/
def sByte (ws : List W32) (o : Nat) : Int := signed 8 (byteAt ws o)
def sHalf (ws : List W32) (o : Nat) : Int := signed 16 (halfAt ws o)
def sWord (ws : List W32) (o : Nat) : Int := signed 32 (wordAt ws o)
/-- Slot n of the engine; [] is an empty slot. -/
def Fce.slot (f : Fce) (n : Nat) : List W32 := f.slots.getD n []
/-- FAMILY of a set. -/
def setFamily (m : List W32) : Nat := byteAt m 4
/-- Model set a context names (08 R237). -/
def ctxSet (c : List W32) : Nat := byteAt c 4 % 64
/-- Load class of zone z in a context (08 R239); 15 is none. -/
def ctxClass (c : List W32) (z : Nat) : Nat := byteAt c (0x18 + z / 2) / (if z % 2 = 0 then 1 else 16) % 16
/-- Profile byte of load class cl at position p (08 R238). -/
def ctxProf (c : List W32) (cl p : Nat) : Nat := byteAt c (0x40 + 64 * cl + p % 64)
/-- Budget class of a naming record (08 R247, R248, R263). -/
def budgetClass (r : NamingRec) : Nat := if r.opclass = 3 then 15 else if r.hasCtx then byteAt r.ctx 5 % 16 else 0
/-- Class group of an operation class (08 R247): decode 0, prefill 1, spill 2, other 3. -/
def classGroup (op : Nat) : Nat := if op = 0 then 0 else if op ≤ 2 then 1 else if op ≤ 4 then 2 else 3

/-! ## Step positions ahead (R213) -/

/-- The running index, counted from the last step start, of the position at s. -/
def Part.posIdx (p : Part) (s : Nat) : Nat :=
  let e := s - p.lastStart.getD 0
  64 * (e / p.period) + 64 * (e % p.period) / p.period
/-- Indices of the positions that start in (s, s + 20,480), at most one step of them: later ones repeat earlier bytes. -/
def Part.startsIn (p : Part) (s : Nat) : List Nat :=
  ((List.range 64).map fun i => p.posIdx s + i + 1).filter fun n => s < p.posStart n && p.posStart n < s + 20480

/-! ## Features (R212) -/

/-- The summary of sample k, if held. -/
def Zone.sumAt (zn : Zone) (k : Nat) : Option Summary := zn.summaries.find? fun x => x.k = k
/-- Reference current in mA. -/
def Zone.iref (zn : Zone) : Nat := 100 * zn.cfg.iref
/-- nq of R212. -/
def nq (zn : Zone) (v : Int) : Int := clampI (-32768) 32767 (rdiv 212 (v * 16384) zn.iref)
/-- The profile in use: the context and the load class of zone z, while the cadence is valid (R212). -/
def profOf (s : State) (z t : Nat) : Option (List W32 × Nat) :=
  let p := partOf s (zoneD s z)
  match p.ctxAt t with
  | some c => if p.cadence && ctxClass c z ≤ 7 then some (c, ctxClass c z) else none
  | none => none
/-- The 24 features of zone z for an evaluation at t (R212). -/
def features (s : State) (z t : Nat) : List Int :=
  let zn := zoneD s z
  let p := partOf s zn
  let k := t - 128
  let sm := (zn.sumAt k).getD { k }
  let past (d : Nat) : Int := ((zn.sumAt (k - d)).getD sm).iz
  let recs := p.recs.filter fun r => r.at_ + 40 ≤ t
  let last := recs.head?
  let grp := match last with
    | some r => if t ≤ r.at_ + 20480 then some (classGroup r.opclass) else none
    | none => none
  let prof (d : Nat) : Int := match profOf s z t with
    | some (c, cl) => 64 * ctxProf c cl (p.posCyc (t + d))
    | none => 0
  let flag (b : Bool) : Int := if b then 16384 else 0
  [ nq zn sm.iz, nq zn (4 * (sm.iz - past 256)), nq zn (sm.iz - past 2048), clampI (-32768) 32767 (64 * sm.e),
    (if sm.nlive = 0 then 0 else 4096 * sm.nact / sm.nlive : Nat), (256 * p.pos t : Nat), flag p.cadence,
    (if p.cadence then clampI (-32768) 16384 (qdiv 2121 (16384 * ((p.period : Int) - (t - p.lastStart.getD 0 : Nat))) p.period) else 0),
    prof 200, prof 1000, prof 5000, prof 20000,
    (match profOf s z t with
      | some (c, cl) => 64 * maxN ((p.posIdx t :: p.startsIn t).map fun n => ctxProf c cl n)
      | none => 0 : Nat),
    (match profOf s z t with
      | some (c, cl) => sumN ((List.range 64).map (ctxProf c cl))
      | none => 0 : Nat),
    flag (grp = some 0), flag (grp = some 1), flag (grp = some 2), flag (grp = some 3),
    (match last with
      | some r => min 16384 ((t - r.at_) / 2)
      | none => 16384 : Nat),
    (min 16384 (1024 * (recs.filter fun r => t ≤ r.at_ + 5120).length) : Nat),
    (if zn.arrays.isEmpty then 16384 else 16384 * sm.issue / (15 * zn.arrays.length) : Nat),
    (4096 * sm.band : Nat), flag sm.win, flag (p.hints.any fun h => t < h.2) ]

/-! ## The model (R210, R214, R216) -/

/-- The activation of R214 and R215. -/
def activation (m : List W32) (zi : Int) : Int :=
  let sg := (zi / 4096 + 8).toNat
  clampI (-16384) 16384 (sHalf m (0x870 + 4 * sg) + rnd (sHalf m (0x872 + 4 * sg) * (zi - ((sg : Int) - 8) * 4096)) 12)
/-- Weighted sum of signed bytes from offset o and a vector. -/
def dotB (m : List W32) (o : Nat) (v : List Int) : Int := sumI (v.mapIdx fun i x => sByte m (o + i) * x)
/-- Right shift with rounding of R109; a shift by 0 leaves the value. -/
def rnd0 (a : Int) (n : Nat) : Int := if n = 0 then a else rnd a n
/-- The hidden update (R214). -/
def hiddenStep (m : List W32) (x h : List Int) : List Int :=
  h.mapIdx fun j hj =>
    let a := sWord m (0x740 + 4 * j) + dotB m (0x40 + 24 * j) x + dotB m (0x340 + 32 * j) h
    let c := activation m (clampI (-32768) 32767 (rnd0 a (byteAt m 5)))
    hj + rnd (byteAt m (0x7C0 + j) * (c - hj)) 8
/-- Output o in mA (R214), at least the floor. -/
def outputOf (m : List W32) (h : List Int) (iref floor o : Nat) : Nat :=
  let u := clampI 0 32767 (rnd0 (sWord m (0x860 + 4 * o) + dotB m (0x7E0 + 32 * o) h) (byteAt m 6))
  max (rnd (u * iref) 14).toNat floor

/-! ## Plan and hint (R225, R226) -/

/-- need of R225, for a current of num ÷ den mA. -/
def needPh (num den nlive : Nat) : Nat :=
  if num ≤ 850 * nlive * den then 1 else if num ≤ 1700 * nlive * den then 2 else if num ≤ 2550 * nlive * den then 3 else 4
/-- PLAN and PLAN_AT (R225). -/
def planOf (s : State) (z t nlive : Nat) (f : List Nat) : Nat × Nat :=
  let zn := zoneD s z
  let p := partOf s zn
  let lead := s.fce.cfg.phLead
  let horizon := [(200, 1000), (1000, 1000), (5000, 5000), (20000, 20000)]
  let c0 := (t, needPh (f.getD 0 0) 1 nlive)
  let ch := (List.range 3).map fun o => (t + (horizon.getD (o + 1) (0, 0)).2 - lead, needPh (f.getD (o + 1) 0) 1 nlive)
  let cp := match profOf s z t with
    | some (c, cl) => (p.startsIn t).map fun n => (p.posStart n - lead, needPh (ctxProf c cl n * zn.iref) 256 nlive)
    | none => []
  let cs := c0 :: (ch ++ cp)
  let plan := maxN (cs.map (·.2))
  let first := (cs.filter fun x => x.2 = plan).foldl (fun m x => min m x.1) (t + 40960)
  (plan, sampleFrom (max t first))
/-- Position p is quiet (R226). -/
def quietPos (c : List W32) (cl qd p : Nat) : Bool :=
  let q (i : Nat) : Int := ctxProf c cl i
  (q (p % 64) - q ((p + 63) % 64)).natAbs ≤ qd && (q (p % 64) - q ((p + 1) % 64)).natAbs ≤ qd
/-- Consecutive quiet positions going forward from p. -/
def quietFwd (c : List W32) (cl qd p : Nat) : Nat := ((List.range 64).takeWhile fun i => quietPos c cl qd (p + i)).length
/-- Consecutive quiet positions before p. -/
def quietBack (c : List W32) (cl qd p : Nat) : Nat := ((List.range 64).takeWhile fun i => quietPos c cl qd (p + 63 - i)).length
/-- QVALID, QUIET_AT and QLEN (R226). -/
def hintOf (s : State) (z t : Nat) : Bool × Nat × Nat :=
  let zn := zoneD s z
  let p := partOf s zn
  match profOf s z t with
  | none => (false, 0, 0)
  | some (c, cl) =>
    let qd := s.fce.cfg.qdelta
    if zn.arrays.isEmpty then (false, 0, 0)
    else if (List.range 64).all (quietPos c cl qd) then (true, 0, 1023)
    else
      let g0 := p.posIdx t
      let run := (g0 :: p.startsIn t).find? fun n =>
        let n64 := n % 64
        quietPos c cl qd n64 && (n = g0 || !quietPos c cl qd ((n64 + 63) % 64)) &&
          s.fce.cfg.qmin ≤ quietFwd c cl qd n64 + (if n = g0 then quietBack c cl qd n64 else 0)
      match run with
      | some n =>
        let qa := max t (p.posStart n)
        (true, qa - t, min 1023 ((p.posStart (n + quietFwd c cl qd (n % 64)) - qa) / 64))
      | none => (false, 0, 0)

/-! ## Packets (R227) -/

/-- A current in steps of 50 mA. -/
def f50 (x : Nat) : Nat := min 8191 ((2 * x + 50) / 100)
/-- FP0 (R227). -/
def fp0Word (z : Nat) (f : List Nat) : W64 := BitVec.ofNat 64 (fields
  [(1, 0, 4), (z, 4, 6), (f50 (f.getD 0 0), 10, 13), (f50 (f.getD 1 0), 23, 13), (f50 (f.getD 2 0), 36, 13), (f50 (f.getD 3 0), 49, 13)])
/-- FP1 (R227). -/
def fp1Word (z plan planAt : Nat) (q : Bool × Nat × Nat) (di : Nat) : W64 := BitVec.ofNat 64 (fields
  [(2, 0, 4), (z, 4, 6), (plan, 10, 3), (planAt, 13, 15), (b2n q.1, 28, 1), (q.2.1, 29, 15), (q.2.2, 44, 10), (min 1023 di, 54, 10)])
/-- FPV (R227). -/
def fpvWord (fv : List Nat) (fo : Nat) : W64 := BitVec.ofNat 64 (fields
  [(3, 0, 4), (min 2047 (fv.getD 0 0), 10, 11), (min 2047 (fv.getD 1 0), 21, 11), (min 2047 (fv.getD 2 0), 32, 11),
   (min 2047 (fv.getD 3 0), 43, 11), (fo, 54, 6)])
/-- The Float's forecast from FP0 and FP1 arriving at k (R228). -/
def Fcst.ofPkt (p : FcPkt) (k : Nat) : Fcst :=
  let a := p.fp0.toNat
  let b := p.fp1.toNat
  let s := floorTo 256 k
  { s, at_ := k, f0 := 50 * bitsOf a 10 13, f1 := 50 * bitsOf a 23 13, f2 := 50 * bitsOf a 36 13, f3 := 50 * bitsOf a 49 13,
    plan := bitsOf b 10 3, planAt := s + bitsOf b 13 15, qvalid := bitsOf b 28 1 = 1, quietAt := s + bitsOf b 29 15,
    qlen := bitsOf b 44 10, di := bitsOf b 54 10 }

/-! ## One evaluation and one round -/

/-- What one zone's evaluation leaves: its engine state, its packets, its forecasts where it was evaluated, a family reset. -/
structure Eval where
  zone : FceZone
  pkt : Option FcPkt
  f : Option (List Nat)
  reset : Bool

/-- The slot an evaluation of zone z at t uses (R209). -/
def setUsed (s : State) (z t : Nat) : Nat :=
  match (partOf s (zoneD s z)).ctxAt t with
  | some c => if (s.fce.slot (ctxSet c)).isEmpty then (zoneD s z).cfg.defset else ctxSet c
  | none => (zoneD s z).cfg.defset
/-- The floor that applies to an evaluation at t (R216). -/
def FceZone.floorAt (fz : FceZone) (t : Nat) : Nat :=
  match fz.floor with
  | some (i, e) => if t < e then i else 0
  | none => 0
/-- A zone that is not evaluated by the round that starts at t (R211). -/
def notEvaluated (zn : Zone) (t : Nat) : Bool := zn.st = .safe || (zn.st = .off && !zn.ramping t)
/-- The evaluation of zone z at t (R209 to R216, R225 to R227). -/
def evalZone (s : State) (z t : Nat) : Eval :=
  let zn := zoneD s z
  let fz := s.fce.zones.getD z {}
  if notEvaluated zn t then
    { zone := { fz with h := List.replicate 32 0, f1 := 0, plan := 1, ctx := false, floorOn := false }
      pkt := some { zone := z, s := t, fp0 := fp0Word z [], fp1 := fp1Word z 1 0 (false, 0, 0) 0 }, f := none, reset := false }
  else
    let n := setUsed s z t
    let m := s.fce.slot n
    if m.isEmpty then { zone := { fz with set := n, ctx := ((partOf s zn).ctxAt t).isSome }, pkt := none, f := none, reset := false }
    else
      let fam := setFamily m
      let rst := match fz.family with
        | some g => g ≠ fam
        | none => false
      let h := hiddenStep m (features s z t) (if rst then List.replicate 32 0 else fz.h)
      let fl := fz.floorAt t
      let f := (List.range 4).map (outputOf m h zn.iref fl)
      let nlive := ((zn.sumAt (t - 128)).getD { k := 0 }).nlive
      let (plan, at_) := planOf s z t nlive f
      let di := ((f.getD 1 0 : Int) - f.getD 0 0).natAbs / 1000
      { zone := { fz with
          h, family := some fam, set := n, ctx := ((partOf s zn).ctxAt t).isSome, floorOn := 0 < fl, plan, f1 := f.getD 1 0
          kept := ((t, n, h) :: fz.kept).take 128 }
        pkt := some { zone := z, s := t, fp0 := fp0Word z f, fp1 := fp1Word z plan (at_ - t) (hintOf s z t) di }
        f := some f, reset := rst }

/-- fv[o] of R223 in A, with the MSF's reference as it stands at the round's start. -/
def fvOf (s : State) (es : List Eval) (o : Nat) : Nat :=
  let vim := (s.msf.refTo (now s)).vrefNow
  (sumN (es.mapIdx fun z e => match e.f with
    | some f => qdivN 223 (f.getD o 0 * codeQ (zoneD s z).law.vz * 256) ((zoneD s z).cfg.eta * vim)
    | none => 0) + 500) / 1000
/-- fo_raw of R223 in mV. -/
def foRaw (s : State) (fv : List Nat) : Nat :=
  let d : Int := max (fv.getD 1 0) (fv.getD 2 0) - (fv.getD 0 0 : Int)
  if d > s.fce.cfg.ofsDb then (qdiv 2231 (d - s.fce.cfg.ofsDb) s.fce.cfg.ofsStep).toNat else 0

/-- FORECAST_ROUND (R33): at a multiple of 256 TBT, one evaluation of every configured zone. -/
def execForecastRound (s : State) : Out :=
  let t := now s
  if !s.fce.running || t % 256 ≠ 0 then .next s else
  let es := (List.range s.zones.length).map fun z => evalZone s z t
  let fv := (List.range 4).map (fvOf s es)
  let raw := foRaw s fv
  let log := s.fce.foLog.filter fun x => t ≤ x.1 + 1000 * s.fce.cfg.ofsHold
  let fo := min s.msf.cfg.fcOfsMax (max raw (maxN (log.map (·.2))))
  .next { s with fce := { s.fce with
    zones := s.fce.zones.mapIdx fun z fz => match es[z]? with
      | some e => e.zone
      | none => fz
    out := es.filterMap (·.pkt)
    fpv := some (t, fpvWord fv fo)
    foLog := (t, raw) :: log
    status := if es.any (·.reset) then s.fce.status ||| 4 else s.fce.status } }

/-! ## Arrival and absence (R48, R224, R228, R229) -/

/-- Some receiver treats forecasts as absent. -/
def anyAbsent (s : State) : Bool := s.msf.absentAt.isSome || s.zones.any fun zn => zn.absentAt.isSome
/-- No receiver is without forecasts any more: the DEGRADE condition of the absence ends. -/
def absenceOver (s : State) : State :=
  if !anyAbsent s && s.fce.absentDeg then deassertCond { s with fce := { s.fce with absentDeg := false } } 0x0B 0 else s
/-- A receiver loses its forecast: ABSENT_SEEN, and the NOTE at the start of the absence. -/
def absenceStart (before : Bool) (s : State) : State :=
  let s1 := { s with fce := { s.fce with status := s.fce.status ||| 2 } }
  if before then s1 else note s1 0x0B 0

/-- FORECAST_PACKET_RX (R228, R229): FP0 and FP1 of one round reach Float z and are in force. -/
def execForecastPacketRx (z : Nat) (s : State) : Out :=
  match s.fce.out.find? fun p => p.zone = z with
  | some p =>
    .next (absenceOver { modZone s z (fun zn => { zn with fc := some (Fcst.ofPkt p (now s)), absentAt := none }) with
      fce := { s.fce with out := s.fce.out.filter fun x => x.zone ≠ z } })
  | none => .next s

/-- FPV_RX (R224, R228): the instance forecast reaches the MSF, whose offset moves towards the new fo from this instant on; a forecast
that calls for it cancels a shed (R201). -/
def execFpvRx (s : State) : Out :=
  match s.fce.fpv with
  | some (_, w) =>
    let x := w.toNat
    let m := { s.msf.refTo (now s) with
      fv := some (bitsOf x 10 11, bitsOf x 21 11, bitsOf x 32 11, bitsOf x 43 11, now s), fo := bitsOf x 54 6, absentAt := none }
    .next (absenceOver { s with
      fce := { s.fce with fpv := none }
      msf := if m.st = .run then m.cancelSheds (now s) else m })
  | none => .next s

/-- FORECAST_EXPIRY (R229): 1,024 ns after its arrival a forecast with no successor lapses at Float z, or at the MSF. -/
def execForecastExpiry (z : Option Nat) (s : State) : Out :=
  match z with
  | some z =>
    match (zoneD s z).fc with
    | some f => if f.at_ + 1024 ≤ now s then
        .next (absenceStart (anyAbsent s) (modZone s z fun zn => { zn with fc := none, absentAt := some (now s) }))
      else .next s
    | none => .next s
  | none =>
    match s.msf.fv with
    | some (_, _, _, _, t) => if t + 1024 ≤ now s then
        .next (absenceStart (anyAbsent s) { s with msf := { s.msf.refTo (now s) with fv := none, absentAt := some (now s) } })
      else .next s
    | none => .next s

/-- A receiver has been without forecasts for 1 ms. -/
def absentLong (s : State) : Bool :=
  (match s.msf.absentAt with
    | some t => t + 1000000 ≤ now s
    | none => false) || s.zones.any fun zn => match zn.absentAt with
    | some t => t + 1000000 ≤ now s
    | none => false
/-- FORECAST_ABSENT_DEGRADE (R48, R401): the absence becomes a DEGRADE condition. -/
def execForecastAbsentDegrade (s : State) : Out :=
  if absentLong s && !s.fce.absentDeg then
    .next (assertCond { s with fce := { s.fce with absentDeg := true } } 0x0B 0 .degrade)
  else .next s

end Sys2Proof.Machine
end

