-- ==== Sys2Proof/Machine/Adapt.lean ====
section
/-!
DEFINITION. Model sets of the forecast engine (07_forecast_engine.md R217 to R222) and the online adaptation of their output layers
(R230 to R234).
-/
namespace Sys2Proof.Machine

/-! ## Checks of a set (R217, R221) -/

/-- Every byte of the list of offsets is 0. -/
def zeroBytes (m : List W32) (os : List Nat) : Bool := os.all fun o => byteAt m o = 0
/-- The words of a set that R217 does not name: offsets 0x018 to 0x03F and 0x940 to 0xFFB. -/
def setReserved (m : List W32) : List W32 := (m.drop 6).take 10 ++ (m.drop 592).take 431
/-- The ranges and bounds of R217, and V = V0, BO = BO0 (R221): the words of V and BO, at 0x7E0, against those at 0x8B0. -/
def setRanges (m : List W32) : Bool :=
  byteAt m 3 ≤ 1 && byteAt m 5 ≤ 24 && byteAt m 6 ≤ 20 && byteAt m 7 ≤ 127 && 0xF000 ≤ halfAt m 0xC &&
  1 ≤ halfAt m 0xE && halfAt m 0xE ≤ 4096 && 33 * halfAt m 0xE ≤ wordAt m 0x10 && wordAt m 0x10 ≤ 2 ^ 24 && wordAt m 0x14 ≤ 2 ^ 30 &&
  ((List.range 32).all fun j => (sWord m (0x740 + 4 * j)).natAbs ≤ 2 ^ 30) &&
  ((List.range 4).all fun o => (sWord m (0x860 + 4 * o)).natAbs ≤ 2 ^ 30) &&
  ((m.drop 504).take 36 = (m.drop 556).take 36) && (setReserved m).all (· = 0)
/-- The first failing code of R221 for staged words; 0 where the set loads. -/
def setCheck (m : List W32) : Nat :=
  if m.length ≠ 1024 then 4
  else if crc32c (bytesOf (m.take 1023)) ≠ m.getD 1023 0 then 1
  else if halfAt m 0 ≠ 0x4653 || byteAt m 2 ≠ 1 then 2
  else if !setRanges m then 3 else 0

/-! ## Loading (R219, R220, R222) -/

/-- The load registers act: after READY and with no copy running. -/
def fceOpen (s : State) : Bool := alive s && sinceReady s && s.fce.copy.isNone

/-- FCE_STAGING_RESET (R220): FCE_LOAD_CTL command 1. -/
def execFceStagingReset (slot : Nat) (s : State) : Out :=
  if fceOpen s then .next { s with fce := { s.fce with staged := [], slotSel := slot % 64, done := true } } else .next s
/-- FCE_LOAD_DATA (R220): the next staged word; the pointer stops at 1,024. -/
def execFceLoadData (w : W32) (s : State) : Out :=
  if alive s && sinceReady s && s.fce.staged.length < 1024 then .next { s with fce := { s.fce with staged := w :: s.fce.staged } }
  else .next s
/-- FCE_COMMIT (R221): FCE_LOAD_CTL command 2. -/
def execFceCommit (slot : Nat) (s : State) : Out :=
  if !fceOpen s then .next s else
  let n := slot % 64
  let m := s.fce.staged.reverse
  let c := setCheck m
  if c = 0 then .next { s with fce := { s.fce with slotSel := n, fail := 0, done := false, copy := some (n, m) } }
  else .next { s with fce := { s.fce with slotSel := n, fail := c, done := true } }
/-- FCE_CLEAR (R220, R221): FCE_LOAD_CTL command 3; a DEFSET is refused. -/
def execFceClear (slot : Nat) (s : State) : Out :=
  if !fceOpen s then .next s else
  let n := slot % 64
  if s.zones.any fun zn => zn.cfg.defset = n then .next { s with fce := { s.fce with slotSel := n, fail := 5, done := true } }
  else .next { s with fce := { s.fce with slotSel := n, fail := 0, done := false, copy := some (n, []) } }
/-- A slot takes new contents; its adaptation starts afresh (R222, R231). -/
def Fce.putSlot (f : Fce) (n k : Nat) (m : List W32) : Fce :=
  { f with slots := f.slots.set n m, slotAt := f.slotAt.set n k, adapt := f.adapt.filter fun a => a.slot ≠ n }
/-- FCE_COPY_DONE (R220): the copy into the slot, or its clearing, completes. -/
def execFceCopyDone (s : State) : Out :=
  match s.fce.copy with
  | some (n, m) => .next { s with fce := { s.fce.putSlot n (now s) m with copy := none, done := true } }
  | none => .next s
/-- FCE_SLOT_LOST (R219): an uncorrectable error empties the slot. -/
def execFceSlotLost (slot : Nat) (s : State) : Out :=
  if (s.fce.slot slot).isEmpty then .next s
  else .next (note { s with fce := { s.fce.putSlot slot (now s) [] with status := s.fce.status ||| 8 } } 0x0E 0)

/-! ## Adaptation (R230 to R234) -/

/-- Rational dot product in binary32, ascending (R231). -/
def dot32 (a b : List Rat) : Rat :=
  match a.zip b with
  | [] => 0
  | p :: ps => ps.foldl (fun t p => f32 (t + f32 (p.1 * p.2))) (f32 (p.1 * p.2))
/-- Entry (i, k) of a symmetric matrix held by its upper triangle. -/
def symAt (p : List (List Rat)) (i k : Nat) : Rat := if i ≤ k then (p.getD i []).getD (k - i) 0 else (p.getD k []).getD (i - k) 0
/-- Row i of a symmetric matrix. -/
def symRow (p : List (List Rat)) (i : Nat) : List Rat := (List.range 33).map (symAt p i)
/-- q0 and bnd of R231 for output o: value and bound of weight k. -/
def q0Bnd (m : List W32) (o k : Nat) : Rat × Rat :=
  let osh := byteAt m 6
  if k < 32 then (f32 (sByte m (0x8B0 + 32 * o + k) * pow2 (-(osh : Int))), f32 (byteAt m 7 * pow2 (-(osh : Int))))
  else (f32 (sWord m (0x930 + 4 * o) * pow2 (-((osh : Int) + 14))), f32 (wordAt m 0x14 * pow2 (-((osh : Int) + 14))))
/-- The working copy a load starts with (R231). -/
def adaptInit (m : List W32) (slot : Nat) : Adapt :=
  { slot, q := (List.range 4).map fun o => (List.range 33).map fun k => (q0Bnd m o k).1
    p := (List.range 33).map fun i => (List.range (33 - i)).map fun j => if j = 0 then (halfAt m 0xE : Rat) else 0 }
/-- A rational limited to [lo, hi], as min(hi, max(lo, x)). -/
def clampR (lo hi x : Rat) : Rat :=
  let y := if lo < x then x else lo
  if y < hi then y else hi
/-- One recursive-least-squares update (R231) with the kept hidden values and the four targets in mA; the new copy and the
unclamped error and target of the 1 µs horizon (R234). -/
def adaptStep (m : List W32) (a : Adapt) (hs : List Int) (iz : List Int) (iref : Nat) : Adapt × Rat × Rat :=
  let x : List Rat := (hs.map fun (h : Int) => ((h : Rat) / 16384)) ++ [1]
  let lam : Rat := (halfAt m 0xC : Rat) / 65536
  let t := (List.range 4).map fun o => f32 (f32 (iz.getD o 0 : Int) / (iref : Rat))
  let y := (List.range 4).map fun o => dot32 (a.q.getD o []) x
  let pv := (List.range 33).map fun i => dot32 (symRow a.p i) x
  let den := f32 (lam + dot32 x pv)
  let g := pv.map fun v => f32 (v / den)
  let q := (List.range 4).map fun o =>
    let e := clampR (-1 / 2) (1 / 2) (f32 (t.getD o 0 - y.getD o 0))
    (List.range 33).map fun k =>
      let (q0, b) := q0Bnd m o k
      clampR (f32 (q0 - b)) (f32 (q0 + b)) (f32 ((a.q.getD o []).getD k 0 + f32 (g.getD k 0 * e)))
  let p := (List.range 33).map fun i => (List.range (33 - i)).map fun j =>
    f32 (f32 (symAt a.p i (i + j) - f32 (g.getD i 0 * pv.getD (i + j) 0)) / lam)
  let tr := match (List.range 33).map fun i => (p.getD i []).getD 0 0 with
    | [] => 0
    | d :: ds => ds.foldl (fun t d => f32 (t + d)) d
  let pmax : Rat := wordAt m 0x10
  let p1 := if pmax < tr then p.map fun r => r.map fun v => f32 (v * f32 (pmax / tr)) else p
  ({ a with q, p := p1 }, f32 (t.getD 1 0 - y.getD 1 0), t.getD 1 0)
/-- The output layer written back (R232). -/
def writeBack (m : List W32) (q : List (List Rat)) : List W32 :=
  let osh := byteAt m 6
  let m1 := (List.range 128).foldl (fun m i =>
    setByteAt m (0x7E0 + i) (twos 8 (clampI (-128) 127 (roundRatEven ((q.getD (i / 32) []).getD (i % 32) 0 * pow2 osh))))) m
  (List.range 4).foldl (fun m o =>
    m.set (0x218 + o) (w32 (twos 32 (clampI (-(2 ^ 30)) (2 ^ 30) (roundRatEven ((q.getD o []).getD 32 0 * pow2 (osh + 14))))))) m1
/-- ERR1 (R234): 1,000 × root mean square of the errors over the mean target, rounded down, in its 16-bit field. -/
def FceZone.err1 (fz : FceZone) : Nat :=
  let n := fz.errs.length
  if n = 0 then 0 else
  let se := fz.errs.foldl (fun (a : Rat) e => a + e.1 * e.1) 0
  let st := fz.errs.foldl (fun (a : Rat) e => a + e.2) 0
  if st ≤ 0 then satF 16 (qdivN 234 n 0) else satF 16 (isqrt (1000000 * se * n / (st * st)).floor.toNat)

/-- The slot zone z uses now holds a set with ADAPT (R230). -/
def adaptable (s : State) (z : Nat) : Bool :=
  let n := (s.fce.zones.getD z {}).set
  (zoneD s z).st = .run && !(s.fce.slot n).isEmpty && (byteAt (s.fce.slot n) 3).testBit 0
/-- The next eligible zone in ascending order, wrapping round (R230). -/
def nextAdapt (s : State) : Option Nat :=
  let n := s.zones.length
  ((List.range n).map fun i => (s.fce.nextZone + i) % n).find? (adaptable s)
/-- The zone was in RUN at every sample from t to the last target (R230). -/
def runThrough (zn : Zone) (t : Nat) : Bool :=
  let a := sampleFrom t
  (List.range ((sampleFrom (t + 20000) - a) / 64 + 1)).all fun i => (zn.sumAt (a + 64 * i)).any fun x => x.run

/-- ADAPTATION_RUN (R230 to R234): at a 20 µs window start, the next eligible zone's output layer adapts, or its run is skipped. -/
def execAdaptationRun (s : State) : Out :=
  let t := now s
  if !s.fce.running || t % 20000 ≠ 0 || s.fce.freeze || t < 20736 || !s.cores.run1 then .next s else
  match nextAdapt s with
  | none => .next s
  | some z =>
    let fz := s.fce.zones.getD z {}
    let zn := zoneD s z
    let r := floorTo 256 (t - 20736)
    let m := s.fce.slot fz.set
    let s1 := { s with fce := { s.fce with nextZone := z + 1 } }
    match fz.kept.find? fun k => k.1 = r with
    | some (_, set, h) =>
      if !runThrough zn r || set ≠ fz.set || r ≤ s.fce.slotAt.getD set 0 then
        .next { s1 with fce := { s1.fce with skipped := satInc 0xFFFF s1.fce.skipped } }
      else
        let a := (s.fce.adapt.find? fun a => a.slot = set).getD (adaptInit m set)
        let iz := [200, 1000, 5000, 20000].map fun d => ((zn.sumAt (sampleFrom (r + d))).getD { k := 0 }).iz
        let (a1, e, tg) := adaptStep m a h iz zn.iref
        .next { s1 with
          cores := { s1.cores with undo := { s1.cores.undo with adapt := some (set, m, s1.fce.adapt) } }
          fce := { s1.fce with
          runs := satInc 0xFFFF s1.fce.runs
          slots := s1.fce.slots.set set (writeBack m a1.q)
          adapt := a1 :: s1.fce.adapt.filter fun x => x.slot ≠ set
          zones := s1.fce.zones.set z { fz with runs := satInc 0xFFFF fz.runs, errs := ((e, tg) :: fz.errs).take 64 } } }
    | none => .next { s1 with fce := { s1.fce with skipped := satInc 0xFFFF s1.fce.skipped } }

end Sys2Proof.Machine
end

