-- ==== Sys2Proof/Machine/Sc4.lean ====
section
/-!
DEFINITION. The SC4 codes of the Lath and of the block's memories (14_lath_and_cascade.md R375 to R379) over GF(16) on x⁴ + x + 1, and
the route header (R373).
-/
namespace Sys2Proof.Machine

/-! ## GF(16) -/

/-- x times a symbol. -/
def gfX (a : Nat) : Nat := if a < 8 then 2 * a else (2 * a) ^^^ 19
/-- Product of two symbols. -/
def gfMul (a b : Nat) : Nat :=
  (if b.testBit 0 then a else 0) ^^^ (if b.testBit 1 then gfX a else 0) ^^^ (if b.testBit 2 then gfX (gfX a) else 0) ^^^
    (if b.testBit 3 then gfX (gfX (gfX a)) else 0)
/-- Square of a symbol. -/
def gfSq (a : Nat) : Nat := gfMul a a
/-- Inverse of a non-zero symbol: a¹⁴. -/
def gfInv (a : Nat) : Nat := gfMul (gfMul (gfSq a) (gfSq (gfSq a))) (gfSq (gfSq (gfSq a)))
/-- Quotient by a non-zero symbol. -/
def gfDiv (a b : Nat) : Nat := gfMul a (gfInv b)

/-! ## Check matrices (R376) -/

/-- The rows of SC4-144. -/
def sc144Rows : List (List Nat) :=
  [[1, 1, 1, 1, 1, 1, 1, 1, 1, 1, 1, 1, 1, 1, 1, 1, 1, 1, 1, 1, 1, 1, 1, 1, 1, 1, 1, 1, 1, 1, 1, 1, 1, 1, 1, 0],
   [0, 1, 2, 3, 4, 5, 6, 7, 8, 9, 10, 11, 12, 13, 14, 15, 0, 1, 2, 3, 4, 5, 6, 7, 8, 9, 10, 11, 12, 13, 14, 15, 0, 1, 0, 0],
   [2, 2, 2, 2, 2, 2, 2, 2, 2, 2, 2, 2, 2, 2, 2, 2, 3, 3, 3, 3, 3, 3, 3, 3, 3, 3, 3, 3, 3, 3, 3, 3, 0, 0, 1, 0],
   [6, 5, 6, 5, 13, 14, 13, 14, 9, 10, 9, 10, 2, 1, 2, 1, 14, 12, 12, 14, 1, 3, 3, 1, 9, 11, 11, 9, 6, 4, 4, 6, 0, 1, 8, 1]]
/-- The rows of SC4-80: columns 0 to 15 and 32 to 35 of SC4-144. -/
def sc80Rows : List (List Nat) := sc144Rows.map fun r => r.take 16 ++ r.drop 32
/-- The rows of the route-header code. -/
def hdrRows : List (List Nat) :=
  [[1, 1, 1, 1, 1, 1, 1, 1, 1, 0, 0], [1, 2, 3, 4, 5, 6, 7, 8, 0, 1, 0], [1, 4, 5, 3, 2, 7, 6, 12, 0, 0, 1]]

/-- Symbols k = 0 to n − 1 of a word. -/
def symbols (n x : Nat) : List Nat := (List.range n).map fun k => bitsOf x (4 * k) 4
/-- The number a list of symbols spells. -/
def ofSymbols (ss : List Nat) : Nat := ss.foldr (fun a r => a % 16 + 16 * r) 0
/-- Syndrome symbols. -/
def syndrome (rows : List (List Nat)) (ss : List Nat) : List Nat :=
  rows.map fun r => (List.zipWith gfMul r ss).foldl (· ^^^ ·) 0
/-- Column j of a matrix. -/
def colOf (rows : List (List Nat)) (j : Nat) : List Nat := rows.map fun r => r.getD j 0
/-- The index of a column. -/
def findCol (rows : List (List Nat)) (c : List Nat) : Option Nat :=
  (List.range (rows.headD []).length).find? fun j => colOf rows j = c

/-- Check symbols of SC4-80 and SC4-144 from the data symbols' syndrome (R377). -/
def sc4Checks (s : List Nat) : List Nat :=
  let s0 := s.getD 0 0
  let s1 := s.getD 1 0
  let s2 := s.getD 2 0
  [s0 ^^^ s1 ^^^ s2, s1, s2, s.getD 3 0 ^^^ s1 ^^^ gfMul 8 s2]
/-- The packet word of 64 data bits (R375, R377). -/
def sc80Encode (d : W64) : BitVec 80 :=
  let ss := symbols 16 d.toNat
  BitVec.ofNat 80 (ofSymbols (ss ++ sc4Checks (syndrome sc80Rows ss)))
/-- The memory word of 128 data bits (R379). -/
def sc144Encode (d : BitVec 128) : BitVec 144 :=
  let ss := symbols 32 d.toNat
  BitVec.ofNat 144 (ofSymbols (ss ++ sc4Checks (syndrome sc144Rows ss)))
/-- A route header with its check symbols from its low 32 bits (R377). -/
def hdrEncode (d : W32) : BitVec 44 :=
  let ss := symbols 8 d.toNat
  BitVec.ofNat 44 (ofSymbols (ss ++ syndrome hdrRows ss))

/-- A symbol with an error value added. -/
def addSym (ss : List Nat) (j e : Nat) : List Nat := ss.modify j (· ^^^ e)
/-- Decoding (R378): the symbols and whether one was corrected; none when uncorrectable. -/
def sc4Decode (rows : List (List Nat)) (hdr : Bool) (ss : List Nat) : Option (List Nat × Bool) :=
  let s := syndrome rows ss
  let s0 := s.getD 0 0
  let s1 := s.getD 1 0
  let s2 := s.getD 2 0
  let s3 := s.getD 3 0
  if s0 = 0 && s1 = 0 && s2 = 0 && s3 = 0 then some (ss, false)
  else if s0 ≠ 0 then
    match findCol rows (s.map fun x => gfDiv x s0) with
    | some j => some (addSym ss j s0, true)
    | none => none
  else if hdr then
    if s1 ≠ 0 && s2 = 0 then some (addSym ss 9 s1, true)
    else if s1 = 0 && s2 ≠ 0 then some (addSym ss 10 s2, true)
    else none
  else if s1 = 0 && s2 = 0 then some (addSym ss (ss.length - 1) s3, true)
  else none
/-- A packet word decoded: its data bits and whether it was corrected (R378). -/
def sc80Decode (w : BitVec 80) : Option (W64 × Bool) :=
  (sc4Decode sc80Rows false (symbols 20 w.toNat)).map fun p => (BitVec.ofNat 64 (ofSymbols (p.1.take 16)), p.2)
/-- A memory word decoded (R378, R379). -/
def sc144Decode (w : BitVec 144) : Option (BitVec 128 × Bool) :=
  (sc4Decode sc144Rows false (symbols 36 w.toNat)).map fun p => (BitVec.ofNat 128 (ofSymbols (p.1.take 32)), p.2)
/-- A route header decoded: its low 32 bits and whether it was corrected (R378). -/
def hdrDecode (h : BitVec 44) : Option (W32 × Bool) :=
  (sc4Decode hdrRows true (symbols 11 h.toNat)).map fun p => (BitVec.ofNat 32 (ofSymbols (p.1.take 8)), p.2)

/-! ## The route header's fields (R373) -/

/-- DEST. -/
def hDest (h : W32) : Nat := fld h 0 7
/-- SRC. -/
def hSrc (h : W32) : Nat := fld h 7 7
/-- ACK. -/
def hAck (h : W32) : Bool := h.getLsbD 14
/-- CLASS. -/
def hClass (h : W32) : Nat := fld h 16 2
/-- SEQ. -/
def hSeq (h : W32) : Nat := fld h 18 12
/-- A route header's low 32 bits. -/
def mkHeader (dest src : Nat) (ack : Bool) (cls seq : Nat) : W32 :=
  word [(dest, 0, 7), (src, 7, 7), (b2n ack, 14, 1), (cls, 16, 2), (seq, 18, 12)]

end Sys2Proof.Machine
end

