-- ==== Sys2Proof/Machine/Pcx.lean ====
section
/-!
DEFINITION. The context store (08_power_contexts_and_forecast_port.md R236 to R241, R249 to R260, R265): generations, claims, leases, staging and
commits, and learning.
-/
namespace Sys2Proof.Machine

/-! ## The directory (R248, R250) -/

/-- The directory entry of a PCX; an empty one where it holds no generation. -/
def PcxStore.entry (x : PcxStore) (n : Nat) : Pcx :=
  if x.dead then { no := n } else (x.dir.find? fun e => e.no = n).getD { no := n }
/-- A directory entry replaced; one without generations is no entry. -/
def PcxStore.put (x : PcxStore) (e : Pcx) : PcxStore :=
  let rest := x.dir.filter fun y => y.no ≠ e.no
  { x with dir := if e.gens.isEmpty then rest else e :: rest }
/-- GEN of a generation (R237). -/
def Gen.no (g : Gen) : Nat := halfAt g.words 2
/-- The live generation a record names (R248). -/
def PcxStore.resolve (x : PcxStore) (pcx gen : Nat) : Option Gen :=
  if pcx = 4095 then none else (x.entry pcx).gens.find? fun g => g.no = gen
/-- Claims held on a generation. -/
def PcxStore.claimsOn (x : PcxStore) (pcx gen : Nat) : Nat := (x.claims.filter fun c => c.pcx = pcx && c.gen = gen).length
/-- A generation is in flight (R250). -/
def PcxStore.inFlight (x : PcxStore) (pcx : Nat) (g : Gen) (k : Nat) : Bool := 0 < x.claimsOn pcx g.no || k < g.holdUntil
/-- A generation of a PCX changed. -/
def PcxStore.modGen (x : PcxStore) (pcx gen : Nat) (f : Gen → Gen) : PcxStore :=
  { x with dir := x.dir.map fun e => if e.no = pcx then { e with gens := e.gens.map fun g => if g.no = gen then f g else g } else e }
/-- A sticky bit of PCX_STATUS. -/
def PcxStore.seen (x : PcxStore) (b : Nat) : PcxStore := { x with status := x.status ||| BitVec.ofNat 6 (2 ^ b) }
/-- CLAIM_MAX in ns. -/
def PcxStore.claimMax (x : PcxStore) : Nat := 1000000 * x.cfg.claimMax

/-! ## Retirement (R250, R255) -/

/-- The older generation of a PCX retires where it is not in flight: its pool entry is free, and a newer one in the pool starts its
way home. -/
def PcxStore.retire (x : PcxStore) (pcx k : Nat) : PcxStore :=
  let e := x.entry pcx
  match e.gens with
  | [a, b] =>
    if x.inFlight pcx a k then x else
    let x1 := { x with pool := match a.pool with
      | some n => x.pool.erase n
      | none => x.pool }
    x1.put { e with gens := [b], homing := if b.pool.isSome then some (k + 20000) else none }
  | _ => x
/-- GEN_RETIRE (R250, R255): the older generation has left flight. -/
def execGenRetire (pcx : Nat) (s : State) : Out := .next { s with pcx := s.pcx.retire pcx (now s) }
/-- PCX_HOME_MOVE (R255): at a round-start tick after the copy, the directory moves to the home slot and the entry is freed. -/
def execPcxHomeMove (pcx : Nat) (s : State) : Out :=
  let e := s.pcx.entry pcx
  match e.homing, e.gens with
  | some _, g :: gs =>
    if now s % 256 ≠ 0 then .next s else
    let x := { s.pcx with pool := match g.pool with
      | some n => s.pcx.pool.erase n
      | none => s.pcx.pool }
    .next { s with pcx := x.put { e with gens := { g with pool := none } :: gs, homing := none } }
  | _, _ => .next s

/-! ## Claims and leases (R249, R252, R261, R264) -/

/-- Claims of a (QUEUE, SID) released (R249). -/
def PcxStore.release (x : PcxStore) (q sid : Nat) : PcxStore := { x with claims := x.claims.filter fun c => !(c.queue = q && c.sid = sid) }
/-- A SUBMIT reuses a (QUEUE, SID): its earlier leases run on, and no claim of the new submission follows them (R249). -/
def PcxStore.reuse (x : PcxStore) (q sid : Nat) : PcxStore :=
  { x.release q sid with leases := x.leases.map fun l => if l.queue = q && l.sid = sid then { l with cur := false } else l }
/-- Leases of a (QUEUE, SID) ended (R249, R252). -/
def PcxStore.endLeases (x : PcxStore) (q sid : Nat) : PcxStore := { x with leases := x.leases.filter fun l => !(l.queue = q && l.sid = sid) }
/-- A lease is active at k (R252). -/
def Lease.active (l : Lease) (k : Nat) : Bool := l.susp.isNone && k < l.stop
/-- Expiry of the claims that follow a lease set: those of its (QUEUE, SID), unless a later submission has reused the number. -/
def PcxStore.setExpiry (x : PcxStore) (l : Lease) (e : Option Nat) : PcxStore :=
  { x with claims := x.claims.map fun c => if l.cur && c.queue = l.queue && c.sid = l.sid then { c with expiry := e } else c }
/-- Expiry of a new claim of a (QUEUE, SID): the end of its submission's lease, none while that is suspended, else CLAIM_MAX on (R249). -/
def PcxStore.claimExpiry (x : PcxStore) (q sid k : Nat) : Option Nat :=
  match x.leases.find? fun l => l.cur && l.queue = q && l.sid = sid && (l.susp.isSome || k < l.stop) with
  | some l => if l.susp.isSome then none else some l.stop
  | none => some (k + x.claimMax)
/-- Energy charged to a queue's active leases in the order of their start, each down to 0 (R252); what no lease covers is dropped. -/
def chargeLeases (q k : Nat) : List Lease → Nat → List Lease
  | [], _ => []
  | l :: ls, e =>
    if l.queue = q && l.active k then { l with left := l.left - e } :: chargeLeases q k ls (e - l.left)
    else l :: chargeLeases q k ls e
/-- A lease in its place by start. -/
def insLease (l : Lease) : List Lease → List Lease
  | [] => [l]
  | x :: xs => if l.start < x.start then l :: x :: xs else x :: insLease l xs
/-- A lease requested and refused (R252). -/
def refuseLease (s : State) : State :=
  note { s with pcx := { s.pcx with leaseRefused := satInc 0xFFFF s.pcx.leaseRefused } } 0x0C 0
/-- The lease and the claim of a naming record accepted now (R249, R252): `g` is its generation, `rsv` and `len` the request. -/
def claimRecord (s : State) (submit : Bool) (r : NamingRec) (rsv len : Nat) : State :=
  let x := if submit then s.pcx.reuse r.queue r.sid else s.pcx
  let k := now s
  let full := 1024 ≤ x.claims.length
  let want := submit && rsv ≠ 0 && len ≠ 0
  let s1 := { s with pcx := x }
  let l : Lease := { queue := r.queue, sid := r.sid, start := k, stop := k + 100000 * len, left := rsv * 1000000 * 65536 }
  let s2 := if !want then s1
    else if full || !r.hasCtx then refuseLease s1
    else { s1 with pcx := { x with leases := insLease l x.leases } }
  if !r.hasCtx then s2
  else if full then
    { s2 with pcx := (s2.pcx.modGen r.pcx r.gen fun g => { g with holdUntil := max g.holdUntil (k + s2.pcx.claimMax) }).seen 3 }
  else
    let e := s2.pcx.claimExpiry r.queue r.sid k
    { s2 with pcx := { s2.pcx with claims := { queue := r.queue, sid := r.sid, pcx := r.pcx, gen := r.gen, expiry := e } :: s2.pcx.claims } }

/-- CLAIM_EXPIRY (R249): claims of (q, sid) at their expiry are released. -/
def execClaimExpiry (q sid : Nat) (s : State) : Out :=
  .next { s with pcx := { s.pcx with claims := s.pcx.claims.filter fun c =>
    !(c.queue = q && c.sid = sid && (match c.expiry with
      | some e => e ≤ now s
      | none => false)) } }
/-- LEASE_END (R252): leases of (q, sid) at their expiry end, their unspent reservation with them. -/
def execLeaseEnd (q sid : Nat) (s : State) : Out :=
  .next { s with pcx := { s.pcx with leases := s.pcx.leases.filter fun l =>
    !(l.queue = q && l.sid = sid && l.susp.isNone && l.stop ≤ now s) } }
/-- Suspended leases of queue q that `drop` names are discarded; their claims expire CLAIM_MAX later (R249, R264). -/
def PcxStore.discard (x : PcxStore) (q k : Nat) (drop : Lease → Bool) : PcxStore :=
  let gone := x.leases.filter fun l => l.queue = q && l.susp.isSome && drop l
  let x1 := gone.foldl (fun x l => x.setExpiry l (some (k + x.claimMax))) x
  { x1 with leases := x1.leases.filter fun l => !(l.queue = q && l.susp.isSome && drop l) }
/-- SUSPEND_EXPIRY (R264): leases of queue q still unresumed SUSPEND_MAX after their revocation. -/
def execSuspendExpiry (q : Nat) (s : State) : Out :=
  .next { s with pcx := s.pcx.discard q (now s) fun l => match l.susp with
    | some (t, _) => decide (t + 100000000 * s.pcx.cfg.suspendMax ≤ now s)
    | none => false }
/-- PREEMPT on the leases of queue q (R249, R261). -/
def PcxStore.suspend (x : PcxStore) (q k : Nat) : PcxStore :=
  let hit := x.leases.filter fun l => l.queue = q && l.active k
  let x1 := hit.foldl (fun x l => x.setExpiry l none) x
  { x1 with leases := x1.leases.map fun l => if l.queue = q && l.active k then { l with susp := some (k, l.stop - k) } else l }
/-- RESUME on the leases of queue q (R249, R264). -/
def PcxStore.reissue (x : PcxStore) (q k : Nat) : PcxStore :=
  let x1 := x.discard q k fun l => l.left = 0 || (match l.susp with
    | some (_, t) => t = 0
    | none => true)
  let re (l : Lease) : Lease := match l.susp with
    | some (_, t) => if l.queue = q then { l with start := k, stop := k + t, susp := none } else l
    | none => l
  let hit := x1.leases.filter fun l => l.queue = q && l.susp.isSome
  let x2 := hit.foldl (fun x l => x.setExpiry l (some (re l).stop)) x1
  { x2 with leases := (x2.leases.filter fun l => !(l.queue = q && l.susp.isSome)) ++ hit.map re }

/-! ## Staging and commit (R236, R237, R239, R253 to R256) -/

/-- The ranges of R237 and R239 for a record of an instance with n zones. -/
def ctxRanges (c : List W32) (n : Nat) : Bool :=
  byteAt c 4 ≤ 63 && byteAt c 5 ≤ 14 && halfAt c 6 ≤ 1 &&
    (List.range 48).all fun z => let v := ctxClass c z
      if z < n then v ≤ 7 || v = 15 else v = 15
/-- The CRC of R237. -/
def ctxCrc (c : List W32) : W32 := crc32c (bytesOf (c.take 15 ++ (c.drop 16).take 128))
/-- The first failing code of R253 for a staged record and its target; 0 where the commit is made. -/
def ctxCheck (s : State) (c : List W32) (pcx : Nat) : Nat :=
  let gens := (s.pcx.entry pcx).gens
  if c.length ≠ 144 then 4
  else if ctxCrc c ≠ c.getD 15 0 then 1
  else if halfAt c 0 ≠ 0x5843 || !zeroBytes c ((List.range 12).map (0x30 + ·)) then 2
  else if !ctxRanges c s.zones.length || pcx = 4095 then 3
  else if 2 ≤ gens.length then 5
  else match gens.getLast? with
    | some g =>
      if !serialAfter 16 (halfAt c 2) g.no then 6
      else if 256 ≤ s.pcx.pool.length then 7 else 0
    | none => 0
/-- The PCX registers act (R98, R267). -/
def pcxOpen (s : State) : Bool := alive s && sinceReady s
/-- The lowest free patch-pool entry. -/
def freePool (used : List Nat) : Nat := ((List.range 256).find? fun n => !used.contains n).getD 0

/-- PCX_STAGING_RESET (R253). -/
def execPcxStagingReset (s : State) : Out :=
  if pcxOpen s && s.pcx.copy.isNone then .next { s with pcx := { s.pcx with staged := [], done := true } } else .next s
/-- PCX_STAGE_WRITE (R253): the pointer stops at 144. -/
def execPcxStageWrite (w : W32) (s : State) : Out :=
  if pcxOpen s && s.pcx.staged.length < 144 then .next { s with pcx := { s.pcx with staged := w :: s.pcx.staged } } else .next s
/-- PCX_COMMIT (R253, R254): the check, and the copy to the home slot or to the lowest free pool entry. -/
def execPcxCommit (pcx : Nat) (s : State) : Out :=
  if !pcxOpen s || s.pcx.copy.isSome then .next s else
  let c := s.pcx.staged.reverse
  let n := pcx % 4096
  let code := ctxCheck s c n
  if code ≠ 0 then .next { s with pcx := { s.pcx with fail := code, done := true } }
  else
    let e := if (s.pcx.entry n).gens.isEmpty then none else some (freePool s.pcx.pool)
    .next { s with pcx := { s.pcx with
      fail := 0, done := false, copy := some (n, c, e, now s)
      pool := match e with
        | some i => i :: s.pcx.pool
        | none => s.pcx.pool } }
/-- PCX_DIR_SWITCH (R254, R255): at a round-start tick the directory switches to the copied generation, and an older partner not in
flight retires. -/
def execPcxDirSwitch (s : State) : Out :=
  match s.pcx.copy with
  | some (n, c, pl, _) =>
    if now s % 256 ≠ 0 then .next s else
    let e := s.pcx.entry n
    let x0 : PcxStore := { s.pcx with copy := none, done := true }
    let x := x0.put { e with gens := e.gens ++ [{ words := c, pool := pl }] }
    .next { s with pcx := x.retire n (now s) }
  | none => .next s
/-- PCX_DROP (R256): every generation of the PCX goes, unless one is in flight. -/
def execPcxDrop (pcx : Nat) (s : State) : Out :=
  if !pcxOpen s || s.pcx.copy.isSome then .next s else
  let n := pcx % 4096
  let e := s.pcx.entry n
  if e.gens.any fun g => s.pcx.inFlight n g (now s) then .next { s with pcx := { s.pcx with fail := 8, done := true } }
  else
    let x : PcxStore := { s.pcx with
      fail := 0, done := true
      pool := s.pcx.pool.filter fun i => !(e.gens.any fun g => g.pool = some i) }
    .next { s with pcx := x.put { no := n } }

/-! ## Learning (R258 to R260) -/

/-- The byte of R258 after one step with mean m (mA). -/
def learnByte (q iref lrate : Nat) (m : Nat) : Nat :=
  let y := min 255 (qdivN 258 (m * 256 + iref / 2) iref)
  let d : Int := (y : Int) - q
  if d = 0 then q else
  let st := min (max 1 (d.natAbs * lrate / 256)) d.natAbs
  if 0 < d then q + st else q - st
/-- The record's class row after a step; positions without a sample keep their byte (assumption 30). -/
def learnRow (c : List W32) (cl iref lrate : Nat) (acc : List (Int × Nat)) : List W32 :=
  (List.range 64).foldl (fun c p =>
    let (sm, n) := acc.getD p (0, 0)
    if n = 0 then c else
    setByteAt c (0x40 + 64 * cl + p) (learnByte (ctxProf c cl p) iref lrate (sm / n).toNat)) c
/-- An array of the zone has been tainted since instant t, or is now (R260). -/
def Zone.taintedSince (zn : Zone) (t : Nat) : Bool :=
  t < zn.taintTo || (List.range zn.tiles.length).any fun i => (zn.tiles.getD i {}).taintOpen.isSome && !(zn.arraysOf i).isEmpty
/-- A zone is learned for the step that ends with interval `gap` (R260); `c` is the step's generation as it stands. -/
def learns (s : State) (p : Part) (zn : Zone) (z : Nat) (r : NamingRec) (c : List W32) (newest : Bool) (gap : Nat) : Bool :=
  (byteAt c 6).testBit 0 && !s.pcx.freeze && ctxClass c z ≤ 7 && newest &&
    (wordAt c 8 = 0 || wordAt c 8 = r.key.toNat) && zn.learnRun && zn.learnIssue && !zn.taintedSince (p.lastStart.getD 0) && !p.replayInStep &&
    8 * ((gap : Int) - p.period).natAbs ≤ p.period
/-- CONTEXT_LEARN (R258): at the end of a step of partition p that lasted `gap`, every zone that follows it learns or is skipped; the
generation's records in use show the new bytes. -/
def contextLearn (s : State) (p gap : Nat) : State :=
  let pt := s.tb.parts.getD p {}
  let zs := (List.range s.zones.length).filter fun z => (zoneD s z).cfg.partition = p
  let src := pt.stepRec.bind fun r => if r.hasCtx then (s.pcx.resolve r.pcx r.gen).map fun g => (r, g) else none
  match src with
  | none => { s with pcx := { s.pcx with learnSkip := satAdd 0xFFFF s.pcx.learnSkip zs.length } }
  | some (r, g) =>
    let newest := (s.pcx.entry r.pcx).gens.getLast?.map (·.no) = some g.no
    let go := fun (x : List W32 × Nat) z =>
      let zn := zoneD s z
      if learns s pt zn z r x.1 newest gap then
        let c := learnRow x.1 (ctxClass x.1 z) zn.iref s.pcx.cfg.lrate zn.learn
        (c.set 3 (w32 (min 0xFFFFFFFF ((c.getD 3 0).toNat + 1))), x.2 + 1)
      else x
    let (c, n) := zs.foldl go (g.words, 0)
    let fix (y : NamingRec) : NamingRec := if y.hasCtx && y.pcx = r.pcx && y.gen = r.gen then { y with ctx := c } else y
    { s with
      cores := { s.cores with undo := { s.cores.undo with learn := some (r.pcx, r.gen, g.words) } }
      pcx := { s.pcx.modGen r.pcx r.gen (fun g => { g with words := c }) with
        learned := satAdd 0xFFFF s.pcx.learned n, learnSkip := satAdd 0xFFFF s.pcx.learnSkip (zs.length - n) }
      tb := { s.tb with parts := s.tb.parts.map fun y =>
        { y with recs := y.recs.map fix, stepRec := y.stepRec.map fix, marks := y.marks.map fun m => { m with src := fix m.src } } } }

end Sys2Proof.Machine
end

