-- ==== Sys2Proof/Machine/Fcp.lean ====
section
/-!
DEFINITION. The forecast port (08_power_contexts_and_forecast_port.md R242 to R249, R261 to R264; 02 R60, R61) and the step clocks of the partitions
(01 R43, R44).
-/
namespace Sys2Proof.Machine

/-- Partition p changed. -/
def modPart (s : State) (p : Nat) (f : Part → Part) : State := { s with tb := { s.tb with parts := s.tb.parts.modify p f } }
/-- Partition p. -/
def partD (s : State) (p : Nat) : Part := s.tb.parts.getD p {}

/-! ## Beats (R243 to R245) -/

/-- PART, QUEUE and SID of beat 0. -/
def beatPart (b : W64) : Nat := bitsOf b.toNat 4 4
def beatQueue (b : W64) : Nat := bitsOf b.toNat 8 8
def beatSid (b : W64) : Nat := bitsOf b.toNat 48 16
/-- Beat counts of a listed record type (R242). -/
def beatsOk (ty n : Nat) : Bool :=
  match ty with
  | 1 | 2 => n = 2 || n = 3
  | 3 => n = 2
  | 4 | 5 | 6 | 7 => n = 1
  | _ => false

/-- Records that wait in the 64-record queue: those whose context fetch is still to complete (R61, assumption 31). -/
def fcpQueued (s : State) : Nat := sumN (s.tb.parts.map fun p => (p.recs.filter fun r => r.fetchedAt.isNone).length)
/-- The queue is full: the record is discarded, counted, and a NOTE (R61). -/
def fcpLost (s : State) : State :=
  note { s with pcx := { s.pcx with fcpLost := satInc 0xFFFF s.pcx.fcpLost }.seen 1 } 0x0C 0

/-! ## Naming records (R209, R246 to R249) -/

/-- A record's step mark (R246): pending, or ignored with a NOTE. -/
def markRecord (s : State) (p : Nat) (r : NamingRec) (lead : Nat) : State :=
  let pt := partD s p
  let m := now s + lead
  let stale := match pt.latestMark with
    | some l => m ≤ l
    | none => false
  if r.replay || stale || 4 ≤ pt.marks.length then note { s with pcx := s.pcx.seen 5 } 0x0C 0
  else modPart s p fun x => { x with marks := x.marks ++ [{ at_ := m, src := r }], latestMark := some m }

/-- A SUBMIT_PP, SUBMIT_CB or STEP record accepted now (R61, R246, R248, R249). -/
def acceptNaming (s : State) (submit : Bool) (b0 b1 : W64) (b2 : Option W64) : State :=
  let p := beatPart b0
  let x := b0.toNat
  let y := b1.toNat
  let pcx := bitsOf x 16 12
  let gen := bitsOf x 32 16
  let full := 64 ≤ fcpQueued s
  let g := if full then none else s.pcx.resolve pcx gen
  let r : NamingRec :=
    { at_ := now s, queue := beatQueue b0, pcx, gen, sid := beatSid b0, opclass := bitsOf x 28 4, key := w32 (bitsOf y 32 32)
      replay := y.testBit 1, hasCtx := g.isSome, fetchedAt := if g.isSome then none else some (now s)
      ctx := (g.map (·.words)).getD [] }
  let s1 := if !submit || y.testBit 0 then markRecord s p r (bitsOf y 2 16) else s
  if full then fcpLost s1 else
  let s2 := if g.isNone && pcx ≠ 4095 then
      note { s1 with pcx := { s1.pcx with genMiss := satInc 0xFFFF s1.pcx.genMiss }.seen 2 } 0x0C 0
    else s1
  let s3 := modPart s2 p fun z =>
    { z with recs := (r :: z.recs).take 256, replayInStep := z.replayInStep || r.replay }
  let w := (b2.map (·.toNat)).getD 0
  claimRecord s3 submit r (bitsOf w 0 16) (bitsOf w 16 12)

/-- SUBMIT_PP (R249): accepted while READY is high. -/
def execSubmitPp (b0 b1 : W64) (b2 : Option W64) (s : State) : Out :=
  .next (if ready s then acceptNaming s true b0 b1 b2 else s)
/-- SUBMIT_CB (R249). -/
def execSubmitCb (b0 b1 : W64) (b2 : Option W64) (s : State) : Out :=
  .next (if ready s then acceptNaming s true b0 b1 b2 else s)
/-- STEP (R244, R246): always marks a step start. -/
def execStep (b0 b1 : W64) (s : State) : Out :=
  .next (if ready s then acceptNaming s false b0 b1 none else s)

/-! ## DONE, PREEMPT, RESUME (R249, R261, R262, R264) -/

/-- Hints that queue q started end (R262). -/
def endHints (s : State) (q : Nat) : State :=
  { s with tb := { s.tb with parts := s.tb.parts.map fun p => { p with hints := p.hints.filter fun h => h.1 ≠ q } } }
/-- A DONE of (QUEUE, SID): claims and leases go (R249). -/
def doneRecord (s : State) (b : W64) : State :=
  { s with pcx := (s.pcx.release (beatQueue b) (beatSid b)).endLeases (beatQueue b) (beatSid b) }
/-- DONE (R249). -/
def execDone (b0 : W64) (s : State) : Out :=
  if !ready s then .next s else if 64 ≤ fcpQueued s then .next (fcpLost s) else .next (doneRecord s b0)
/-- DONE_LAST (R249, R262): DONE, and the hint of its queue ends. -/
def execDoneLast (b0 : W64) (s : State) : Out :=
  if !ready s then .next s else if 64 ≤ fcpQueued s then .next (fcpLost s) else .next (endHints (doneRecord s b0) (beatQueue b0))

/-- A floor of `ma` on zone z until `e`; where floors meet, the higher current and the later expiry (R216, R261). -/
def setFloor (s : State) (z ma e : Nat) : State :=
  { s with fce := { s.fce with zones := s.fce.zones.modify z fun fz => { fz with floor := match fz.floor with
      | some (i, t) => if now s < t then some (max i ma, max t e) else some (ma, e)
      | none => some (ma, e) } } }
/-- PREEMPT accepted for queue q and partition p (R261). -/
def preemptRecord (s : State) (p q : Nat) : State :=
  let dur := 1000 * s.pcx.cfg.spillDur.getD p 0
  let e := now s + dur
  let s1 := modPart { s with pcx := s.pcx.suspend q (now s) } p fun x => { x with hints := (q, e) :: x.hints.filter fun h => h.1 ≠ q }
  if dur = 0 then s1 else
  ((List.range s.zones.length).filter fun z => (zoneD s z).cfg.domain = .mif).foldl
    (fun s z => setFloor s z (1000 * s.pcx.cfg.spillFloor.getD p 0) e) s1
/-- PREEMPT (R261): leases of the queue are suspended, the hint is pending, and pair 0 sets the floors. -/
def execPreempt (b0 : W64) (s : State) : Out :=
  if !ready s then .next s else if 64 ≤ fcpQueued s then .next (fcpLost s)
  else .next (preemptRecord s (beatPart b0) (beatQueue b0))
/-- Queue q has a pending hint. -/
def hasHint (s : State) (q : Nat) : Bool := s.tb.parts.any fun p => p.hints.any fun h => h.1 = q && now s < h.2
/-- Queue q has a suspended lease. -/
def hasSuspended (s : State) (q : Nat) : Bool := s.pcx.leases.any fun l => l.queue = q && l.susp.isSome
/-- RESUME (R262, R264): suspended leases are reissued and the hint ends; with neither, a NOTE. -/
def execResume (b0 : W64) (s : State) : Out :=
  let q := beatQueue b0
  if !ready s then .next s else if 64 ≤ fcpQueued s then .next (fcpLost s)
  else if !hasHint s q && !hasSuspended s q then .next (note s 0x0C 0)
  else .next (endHints { s with pcx := s.pcx.reissue q (now s) } q)
/-- HINT_EXPIRY (R262): hints of partition p at their end stop pending. -/
def execHintExpiry (p : Nat) (s : State) : Out :=
  .next (modPart s p fun x => { x with hints := x.hints.filter fun h => now s < h.2 })

/-- MALFORMED_RECORD (R242): a record that no type and beat count of R242 fits. -/
def execMalformedRecord (beats : List W64) (s : State) : Out :=
  if !ready s || beatsOk (bitsOf (beats.headD 0).toNat 0 4) beats.length then .next s
  else .next (note { s with pcx := { s.pcx with malformed := satInc 0xFFFF s.pcx.malformed }.seen 0 } 0x0C 0)

/-! ## Context fetch (R34, R248) -/

/-- A record that a fetch error leaves without a context. -/
def NamingRec.lost (r : NamingRec) : NamingRec := { r with hasCtx := false, ctx := [] }
/-- CONTEXT_FETCH_DONE (R34, R248): the oldest outstanding fetch of partition p completes; an uncorrectable error removes the
generation, one in the directory or the claim table empties every PCX. -/
def execContextFetchDone (p : Nat) (uncorrectable directory : Bool) (s : State) : Out :=
  match (partD s p).recs.reverse.find? fun r => r.fetchedAt.isNone with
  | none => .next s
  | some r =>
    let bad := uncorrectable || directory
    let fix (x : NamingRec) : NamingRec :=
      if x.at_ = r.at_ && x.sid = r.sid && x.queue = r.queue then
        { (if bad then x.lost else x) with fetchedAt := some (x.fetchedAt.getD (now s)) }
      else x
    let s1 := modPart s p fun x =>
      { x with recs := x.recs.map fix, stepRec := x.stepRec.map fix, marks := x.marks.map fun m => { m with src := fix m.src } }
    if directory then .next (assertCond { s1 with pcx := { s1.pcx with dead := true }.seen 4 } 0x0D 0 .degrade)
    else if uncorrectable then
      let e := s1.pcx.entry r.pcx
      let x : PcxStore := { s1.pcx with pool := s1.pcx.pool.filter fun i => !(e.gens.any fun g => g.no = r.gen && g.pool = some i) }
      .next (note { s1 with pcx := (x.put { e with gens := e.gens.filter fun g => g.no ≠ r.gen }).seen 4 } 0x0C 0)
    else .next s1

/-! ## Step clocks (R43, R44, R246, R258) -/

/-- A step start of a partition at instant t (R43, R44). -/
def Part.start (p : Part) (t : Nat) (src : NamingRec) : Part :=
  let lost := match p.lastStart with
    | some l => p.cadence && l + 4 * p.period ≤ t
    | none => false
  let iv := match p.lastStart with
    | some l => if lost then [] else ((t - l) :: p.intervals).take 8
    | none => []
  { p with
    epoch := p.epoch + 1, lastStart := some t, intervals := iv, cadence := !iv.isEmpty
    period := if iv.isEmpty then 0 else sumN iv / iv.length
    marks := p.marks.drop 1, stepRec := some src, replayInStep := false, epochLog := ((t, p.epoch + 1) :: p.epochLog).take 64 }
/-- Learning starts afresh at a zone. -/
def Zone.learnReset (zn : Zone) : Zone :=
  { zn with learn := List.replicate 64 (0, 0), learnRun := true, learnIssue := true }
/-- STEP_MARK_TAKEN (R43, R246, R258): the oldest pending mark of partition p is reached: pair 1, where it runs, learns the step that ends
(R38, R40), and the mark is the partition's last step start. -/
def execStepMarkTaken (p : Nat) (s : State) : Out :=
  let pt := partD s p
  match pt.marks with
  | m :: _ =>
    if now s < m.at_ then .next s else
    let s1 := match pt.stepRec, pt.epochLog with
      | some _, (t, _) :: _ => if s.cores.run1 then contextLearn s p (m.at_ - t) else s
      | _, _ => s
    .next (mapZones (modPart s1 p fun x => x.start m.at_ ((x.marks.head?.map (·.src)).getD m.src)) fun _ zn =>
      if zn.cfg.partition = p then zn.learnReset else zn)
  | [] => .next s
/-- CADENCE_LOST (R44): no step start in four periods. -/
def execCadenceLost (p : Nat) (s : State) : Out :=
  let pt := partD s p
  match pt.lastStart with
  | some l =>
    if pt.cadence && l + 4 * pt.period ≤ now s then
      .next (modPart s p fun x => { x with cadence := false, period := 0, intervals := [], lastStart := none })
    else .next s
  | none => .next s

end Sys2Proof.Machine
end

