-- ==== Sys2Proof/Machine/Thermal.lean ====
section
/-!
DEFINITION. Temperature (12_thermal.md): sources, zone temperature, bands, the thermal request, grace and enforcement, CRITICAL.
-/
namespace Sys2Proof.Machine

/-! ## Sources (R329 to R332) -/

/-- A result from −40 °C to +150 °C. -/
def tempInRange (t : Int) : Bool := -320 ≤ t && t ≤ 1200
/-- Tile t of zone z is a sense tile. -/
def senseTile (zn : Zone) (t : Nat) : Bool := zn.cfg.sense.getLsbD t
/-- A sense tile is a valid source now (R330, R332). -/
def tileValid (s : State) (zn : Zone) (t : Nat) : Bool :=
  match zn.tiles[t]? with
  | some x => senseTile zn t && x.st ≠ .test && tempInRange x.t && (match x.tAt with
      | some a => now s < a + 4000
      | none => false)
  | none => false
/-- Diode k is enabled and assigned to zone z. -/
def diodeOf (s : State) (z k : Nat) : Bool :=
  let c := s.thm.cfg.diodes.getD k {}
  c.en && c.zone = z
/-- Diode k's latest result is valid now (R332). -/
def diodeValid (s : State) (k : Nat) : Bool :=
  let d := s.thm.diodes.getD k {}
  tempInRange d.t && !d.open_ && (match d.at_ with
    | some a => now s < a + 40000000
    | none => false)
/-- The valid tiles and diodes of zone z as bit sets. -/
def validSets (s : State) (z : Nat) : BitVec 64 × BitVec 8 :=
  let zn := zoneD s z
  (BitVec.ofNat 64 (ofBits ((List.range zn.tiles.length).filter (tileValid s zn))),
   BitVec.ofNat 8 (ofBits ((List.range 8).filter fun k => diodeOf s z k && diodeValid s k)))
/-- The valid sources of zone z: (result, diode, number), tiles first. -/
def sourcesOf (s : State) (z : Nat) : List (Int × Bool × Nat) :=
  let zn := zoneD s z
  (((List.range zn.tiles.length).filter (tileValid s zn)).map fun t => ((zn.tiles.getD t {}).t, false, t)) ++
  (((List.range 8).filter fun k => diodeOf s z k && diodeValid s k).map fun k => ((s.thm.diodes.getD k {}).t, true, k))
/-- Zone temperature Tz and its source; T_HOT with no source (R332). -/
def tzOf (s : State) (z : Nat) : Int × Bool × Nat :=
  match sourcesOf s z with
  | x :: xs => xs.foldl (fun m y => if m.1 < y.1 then y else m) x
  | [] => (8 * s.thm.cfg.tHot, false, 0)
/-- Zone z's thermal state changed. -/
def modThm (s : State) (z : Nat) (f : ThmZone → ThmZone) : State := { s with thm := { s.thm with zones := s.thm.zones.modify z f } }
/-- Thermal state of zone z. -/
def thmD (s : State) (z : Nat) : ThmZone := s.thm.zones.getD z {}
/-- A THM_STATUS sticky bit. -/
def thmSeen (s : State) (b : Nat) : State := { s with thm := { s.thm with status := s.thm.status ||| BitVec.ofNat 3 (2 ^ b) } }
/-- Zone z's sources are looked at (R332): NOSRC with its condition 0x40, and a NOTE for each source that became invalid. -/
def thmLookZone (s : State) (z : Nat) : State :=
  let (vt, vd) := validSets s z
  let old := thmD s z
  let lost := popcount (old.validTiles &&& ~~~vt).toNat 64 + popcount (old.validDiodes &&& ~~~vd).toNat 8
  let none_ := vt = 0 && vd = 0
  let s1 := modThm s z fun x => { x with validTiles := vt, validDiodes := vd, nosrc := none_ }
  let s2 := if none_ && !old.nosrc then thmSeen s1 2 else s1
  if !sinceReady s then s2 else
  let s3 := (List.range lost).foldl (fun s _ => note (thmSeen s 1) 0x41 z) s2
  setCond s3 none_ 0x40 z .degrade
/-- Every zone's sources are looked at. -/
def thmLook (s : State) : State := (List.range s.zones.length).foldl thmLookZone s

/-! ## Bands (R334) -/

/-- Entry thresholds th[1] to th[4], 0.125 °C. -/
def bandTh (c : ThmCfg) (b : Nat) : Int :=
  8 * (match b with
    | 1 => c.tNom
    | 2 => c.tWarm
    | 3 => c.tHot
    | _ => c.tCrit)
/-- Highest band whose threshold Tz reaches. -/
def bandUp (c : ThmCfg) (tz : Int) : Nat :=
  if bandTh c 4 ≤ tz then 4 else if bandTh c 3 ≤ tz then 3 else if bandTh c 2 ≤ tz then 2 else if bandTh c 1 ≤ tz then 1 else 0
/-- Falling, 3 °C below each threshold. -/
def bandDown (c : ThmCfg) (tz : Int) : Nat → Nat
  | 0 => 0
  | b + 1 => if tz < bandTh c (b + 1) - 24 then bandDown c tz b else b + 1
/-- The band evaluation (R334). -/
def bandNext (c : ThmCfg) (tz : Int) (band : Nat) : Nat := if band < bandUp c tz then bandUp c tz else bandDown c tz band
/-- Band of every zone. -/
def bandMap (s : State) : List Nat := (List.range s.zones.length).map fun z => (thmD s z).band
/-- The instance band. -/
def instBand (s : State) : Nat := maxN (bandMap s)
/-- The band sent in limit updates: CRITICAL for every zone once CRITICAL is latched (R346). -/
def bandSent (s : State) (z : Nat) : Nat := if s.thm.critical then 4 else (thmD s z).band
/-- Selections of a band. -/
def bandCfg (s : State) (b : Nat) : BandCfg := s.thm.cfg.bands.getD b {}

/-- The CRITICAL source of zone z (R345, R346): HALT, latched. -/
def raiseCritical (s : State) (z source : Nat) (temp : Int) (cause : Nat) : State :=
  assertCond s 0x44 z .halt true (some { source, temp, cause, bandmap := bandMap s })
/-- The CRITICAL reports of the zones whose evaluation reached CRITICAL, with the bands of all zones as just formed (R345, R347). -/
def raiseBands (s : State) (before : List Nat) : State :=
  ((List.range s.zones.length).filter fun z => (thmD s z).band = 4 && before.getD z 0 < 4).foldl
    (fun s z => raiseCritical s z ((if (thmD s z).srcDiode then 128 else 0) + (thmD s z).src) (thmD s z).tz 0) s
/-- One zone's evaluation at a 1 ms boundary (R334, R341). -/
def evalBand (s : State) (z : Nat) : State :=
  let (tz, sd, sn) := tzOf s z
  let x := thmD s z
  let b := if s.thm.critical && s.thm.critZone = z then 4 else bandNext s.thm.cfg tz x.band
  let rise := sinceReady s && x.band < 3 && b = 3
  let watch := rise && !(zoneD s z).arrays.isEmpty && x.code = 15 && x.gated.isEmpty
  let s1 := modThm s z fun x =>
    { x with
      tz, srcDiode := sd, src := sn, band := b
      tmax := if sinceReady s then some (max tz (x.tmax.getD tz)) else none
      watch := if watch then some (now s) else if b = 3 then x.watch else none
      skip := rise && x.enf }
  if rise then { s1 with thm := { s1.thm with hotEntries := satInc 0xFFFF s1.thm.hotEntries } } else s1
/-- BAND_EVALUATION (R334): every zone. -/
def evalBands (s : State) : State :=
  let s1 := thmLook s
  raiseBands ((List.range s1.zones.length).foldl evalBand s1) (bandMap s1)
/-- The bands are first formed at the start of step 7, from the rule for rising alone (R334). -/
def firstBands (s : State) : State :=
  let s1 := { s with thm := { s.thm with zones := s.thm.zones.map fun x => { x with band := 0 }, formed := true } }
  evalBands s1

/-! ## Thermal request (R338, R339, R346) -/

/-- Request level of a zone (R338). -/
def levelOf (c : ThmCfg) (band : Nat) (tz : Int) : Nat :=
  if band = 4 then 7 else if band = 3 then (min 7 (1 + qdiv 338 (tz - bandTh c 3) (8 * c.thrStep))).toNat else 0
/-- Pair 0 sends the throttle level (R338). -/
def sendLevel (s : State) : State :=
  let l := max s.thm.treq s.caps.cthr
  if l = s.thm.level then s else { s with thm := { s.thm with level := l, levelAt := now s, levelOld := s.thm.level } }
/-- The level in force at a sample instant: the one sent two samples before, as it reaches the pin by way of an update (R66, R338;
assumption 99). -/
def levelIn (s : State) : Nat := if s.thm.levelAt + 128 ≤ now s then s.thm.level else s.thm.levelOld
/-- The thermal request takes a level; GREF is recorded when it rises from 0 and cleared when it returns (R339). -/
def setTreq (s : State) (l : Nat) : State :=
  let zs := s.thm.zones.mapIdx fun z x =>
    { x with gref := if l = 0 then 0 else if s.thm.treq = 0 then (zoneD s z).sft.g else x.gref }
  sendLevel { s with thm := { s.thm with treq := l, zones := zs } }
/-- THROTTLE_LEVEL (R338): every zone's level and the thermal request; 7 from CRITICAL on (R346). -/
def throttle (s : State) : State :=
  let s1 := { s with thm := { s.thm with zones := s.thm.zones.mapIdx fun z x =>
    { x with lz := if z < s.zones.length then levelOf s.thm.cfg x.band x.tz else 0 } } }
  setTreq s1 (if s.thm.critical then 7 else maxN (s1.thm.zones.map (·.lz)))
/-- The thermal FCAP of zone z (R339). -/
def thermFcap (s : State) (z : Nat) : Nat := if s.thm.treq = 0 then 255 else (thmD s z).gref * (8 - s.thm.treq) / 8

/-! ## Enforcement (R340 to R342) -/

/-- One enforcement step of a zone with n arrays (R342). -/
def ThmZone.enforce (x : ThmZone) (tlmin tstep n : Nat) : ThmZone :=
  if 3 ≤ x.band then
    if tlmin < x.code then { x with code := max tlmin (x.code - tstep) }
    else match ((List.range n).reverse).find? fun a => !x.gated.contains a with
      | some a => { x with gated := a :: x.gated }
      | none => x
  else match x.gated with
    | _ :: rest => { x with gated := rest, enf := !(rest.isEmpty && x.code = 15) }
    | [] => { x with code := min 15 (x.code + 1), enf := !(14 ≤ x.code) }
/-- A zone's enforcement step, and its DEGRADE source 0x43. -/
def enforceZone (s : State) (z : Nat) : State :=
  let s1 := modThm s z fun x => x.enforce s.thm.cfg.tlmin s.thm.cfg.tstep (zoneD s z).arrays.length
  let x := thmD s1 z
  setCond s1 (x.code < 15 || !x.gated.isEmpty) 0x43 z .degrade
/-- THERMAL_ENFORCEMENT (R342): every zone under enforcement that the power-down has not taken to OFF takes a step; one that has just risen
to HOT again waits for the next boundary (R341). -/
def enforceAll (s : State) : State :=
  ((List.range s.zones.length).filter fun z => (thmD s z).enf && !(thmD s z).skip && !(zoneD s z).halted).foldl enforceZone s
/-- The level presented on THR_REQ is unacknowledged (R340). -/
def unacked (s : State) : Bool := 0 < s.pins.thrReq && !(s.thm.ackAt.any fun t => s.thm.chgAt ≤ t)
/-- At the end of a grace time an unacknowledged level is noted, once (R340). -/
def ackLateNote (s : State) : State :=
  if unacked s then note (thmSeen { s with thm := { s.thm with ackLate := satInc 255 s.thm.ackLate } } 0) 0x42 0 else s
/-- The end of zone z's grace (R341): a zone still in HOT starts enforcement. -/
def graceZone (s : State) (z : Nat) : State :=
  let s1 := modThm s z fun x => { x with watch := none }
  if (thmD s z).band = 3 then
    enforceZone (modThm { s1 with thm := { s1.thm with enforced := satInc 255 s1.thm.enforced } } z fun x => { x with enf := true }) z
  else s1
/-- Zones whose grace is over. -/
def graceDue (s : State) : List Nat :=
  (List.range s.zones.length).filter fun z => match (thmD s z).watch with
    | some e => e + 100000 * s.thm.cfg.grace ≤ now s
    | none => false

/-- THR_ACK_TOGGLE (R340): the host inverts THR_ACK; the toggle is stamped. -/
def execThrAckToggle (s : State) : Out :=
  if alive s then .next { s with pins := { s.pins with thrAck := !s.pins.thrAck }, thm := { s.thm with ackAt := some (now s) } } else .next s

/-! ## Tile results (R109, R330, R345) -/

/-- Step 2 of the start is over: the tiles hold their fused TSHUT (R345). -/
def afterStep2 (s : State) : Bool := alive s && s.su.fusesDone && s.su.lockDone
/-- The result of a tile of zone z while no image is loaded: the factory trim alone (R109), by the tile's global number (R13). -/
def bareResult (s : State) (z t : Nat) (raw : Int) : Int :=
  trimT (trimOf (s.fus.shadow.trims.getD (sumN (s.su.zoneTiles.take z) + t) 0)) {} raw
/-- TILE_TEMP_RESULT before the image names the zones (R345): two results in a row at or above TSHUT raise CRITICAL all the same. -/
def bareTemp (s : State) (z t : Nat) (v : Int) : State :=
  if !afterStep2 s || s.su.zoneTiles.getD z 0 ≤ t then s
  else if v < 8 * (s.fus.shadow.tshut : Int) then { s with su := { s.su with hotTiles := s.su.hotTiles.filter (· ≠ (z, t)) } }
  else if s.su.hotTiles.contains (z, t) then raiseCritical s z t v 3
  else { s with su := { s.su with hotTiles := (z, t) :: s.su.hotTiles } }
/-- TILE_TEMP_RESULT (R330, R345): a tile completes a result. In TEST the result is undefined and compares nothing; two results in a row
at or above TSHUT raise CRITICAL from the end of step 2, two valid results of a sense tile at or above T_CRIT from step 7. -/
def execTileTempResult (z t : Nat) (raw : Int) (s : State) : Out :=
  let x := tileD s z t
  if !alive s then .next s
  else if s.zones.isEmpty then .next (bareTemp s z t (bareResult s z t raw))
  else if !hasTile s z t then .next s
  else if x.st = .test then
    .next (modTile s z t fun x => { x with
      t := Config.testTemp (gTile s z t) (now s), tAt := some (now s), hotBefore := false, critBefore := false })
  else
    let v := trimT x.fac x.usr raw
    let hot := v ≥ 8 * (s.fus.shadow.tshut : Int)
    let crit := senseTile (zoneD s z) t && tempInRange v && v ≥ bandTh s.thm.cfg 4
    let s1 := modTile s z t fun x => { x with t := v, tAt := some (now s), hotBefore := hot, critBefore := crit }
    let s2 := if hot && x.hotBefore then raiseCritical s1 z t v 3
      else if crit && x.critBefore && s.su.grid && running s then raiseCritical s1 z t v 1 else s1
    .next (if running s && s.su.grid then thmLookZone s2 z else s2)

end Sys2Proof.Machine
end

