-- ==== Sys2Proof/Machine/Energy.lean ====
section
/-!
DEFINITION. Energy accounting (11_capping_and_energy.md R307 to R309, R325 to R327): segments, accrual, counters and their reads.
-/
namespace Sys2Proof.Machine

/-! ## Segments (R308) -/

/-- The owner of a partition at an instant: queue and budget class of the latest naming record accepted 400 ns before or earlier. -/
def Part.ownerAt (p : Part) (k : Nat) : Option (Nat × Nat) :=
  (p.recs.find? fun r => r.at_ + 400 ≤ k).map fun r => (r.queue, budgetClass r)
/-- S(k): the live tiles' sum of v × i (R308). -/
def Zone.power (zn : Zone) : Int :=
  sumI (zn.liveTiles.map fun t => (zn.tiles.getD t {}).rep.v * (zn.tiles.getD t {}).rep.i)
/-- A sample's S(k) joins the segment of its owner; a ninth segment joins the eighth. -/
def addSample (segs : List Seg) (o : Option (Nat × Nat)) (x : Int) : List Seg :=
  match segs.getLast? with
  | some l => if l.owner = o || segs.length = 8 then segs.dropLast ++ [{ l with sum := l.sum + x }] else segs ++ [{ owner := o, sum := x }]
  | none => [{ owner := o, sum := x }]
/-- Output energy of a segment in 2⁻¹⁶ nJ, with what it carries. -/
def Seg.eo (g : Seg) : Nat := (max 0 (g.sum * 1048576 / 1000000)).toNat + g.carried
/-- Energy carried forward joins the carried energy of the same owner. -/
def carrySeg (kept : List Seg) (g : Seg) : List Seg :=
  if kept.any fun k => k.owner = g.owner then
    kept.map fun k => if k.owner = g.owner then { k with carried := k.carried + g.eo } else k
  else kept ++ [{ owner := g.owner, carried := g.eo }]
/-- What a Float sends at a boundary: its segments, each with the energy carried for its owner, and the other carried energy. -/
def sendSegs : List Seg → List Seg → List Seg
  | [], kept => kept
  | g :: gs, kept =>
    match kept.find? fun k => k.owner = g.owner with
    | some k => { g with carried := g.carried + k.carried } :: sendSegs gs (kept.erase k)
    | none => g :: sendSegs gs kept
/-- A Float keeps its window's energy for the next one. -/
def Zone.carry (zn : Zone) : Zone := { zn with sent := zn.segs.foldl carrySeg zn.sent, segs := [] }
/-- Pair 0 takes a Float's window. -/
def takeZone (s : State) (z : Nat) : State :=
  let zn := zoneD s z
  if zn.segs.isEmpty then s else
  { modZone s z (fun zn => { zn with segs := [], sent := [] }) with
      caps := { s.caps with rxSegs := s.caps.rxSegs ++ (sendSegs zn.segs zn.sent).map fun g => (z, g) } }

/-- ENERGY_SEGMENT_RX (R308): at a boundary, before pair 0 processes it, Float z's packet reaches pair 0; with pair 0 stopped, or every
try failed, the energy is carried forward. -/
def execEnergySegmentRx (z : Nat) (delivered : Bool) (s : State) : Out :=
  if !sinceReady s || now s % 10000 ≠ 0 then .next s
  else if delivered && s.cores.run0 then .next (takeZone s z)
  else .next (modZone s z Zone.carry)

/-! ## Accrual (R309, R325) -/

/-- Input-referred energy before KCAL (R309). -/
def ezRaw (eo eta etaM : Nat) : Nat := qdivN 309 (qdivN 3091 (eo * 256) eta * 256) etaM
/-- Energy scaled by KCAL. -/
def byKcal (x k : Nat) : Nat := x * k / 2 ^ 14
/-- A counter receives energy, modulo 2⁶⁴ nJ. -/
def Ctr.add (c : Ctr) (e : Nat) : Ctr := { c with e := (c.e + e) % 2 ^ 80 }
/-- A queue's counters receive energy. -/
def addQueue (qs : List QCtr) (q e spill : Nat) : List QCtr :=
  if qs.any fun x => x.q = q then qs.map fun x => if x.q = q then { x with energy := x.energy.add e, spill := x.spill.add spill } else x
  else { q, energy := ({} : Ctr).add e, spill := ({} : Ctr).add spill } :: qs
/-- One segment accrued: counters, and the charge to the queue's leases (R252). -/
def accrueSeg (k : Nat) (s : State) (x : Nat × Seg) : State :=
  let zn := zoneD s x.1
  let ez := byKcal (ezRaw x.2.eo zn.cfg.eta s.caps.cfg.etaM) s.caps.kcal
  let n := { s.nrg with parts := s.nrg.parts.modify zn.cfg.partition fun c => c.add ez }
  match x.2.owner with
  | some (q, c) =>
    { s with
      nrg := { n with queues := addQueue n.queues q ez (if c = 15 then ez else 0) }
      pcx := { s.pcx with leases := chargeLeases q k s.pcx.leases ez } }
  | none => { s with nrg := n }
/-- Sum over segments of the energy before KCAL. -/
def rawSum (s : State) (xs : List (Nat × Seg)) : Nat :=
  sumN (xs.map fun x => ezRaw x.2.eo (zoneD s x.1).cfg.eta s.caps.cfg.etaM)
/-- The fixed overhead of a window before KCAL (R309). -/
def rawOvh (s : State) : Nat := s.caps.cfg.pFix * 10000 * 65536
/-- e_win of R309 for the segments received. -/
def eWin (s : State) (kcal : Nat) : Nat :=
  sumN (s.caps.rxSegs.map fun x => byKcal (ezRaw x.2.eo (zoneD s x.1).cfg.eta s.caps.cfg.etaM) kcal) + byKcal (rawOvh s) kcal
/-- ENERGY_ACCRUAL (R325) at boundary b: every counter, the leases, and the sums of the 100 ms window (R310). -/
def accrue (s : State) (b : Nat) : State :=
  let e := eWin s s.caps.kcal
  let raw := rawSum s s.caps.rxSegs + rawOvh s
  let s1 := s.caps.rxSegs.foldl (accrueSeg (b - 1)) s
  { s1 with
    nrg := { s1.nrg with inst := s1.nrg.inst.add e, ovh := s1.nrg.ovh.add (byKcal (rawOvh s) s.caps.kcal), stamp := b }
    caps := { s1.caps with rxSegs := [], prSum := s1.caps.prSum + raw, peSum := s1.caps.peSum + e, prCnt := s1.caps.prCnt + 1 } }

/-! ## Reads (R326, R327) -/

/-- A counter in nJ. -/
def Ctr.nj (c : Ctr) : Nat := c.e / 65536
/-- A _LO read takes the copies (R326). -/
def Ctr.copy (c : Ctr) (stamp : Nat) : Ctr := { c with hi := w32 (c.nj / 2 ^ 32), stampCopy := stamp }
/-- A queue's counters, 0 where it has none. -/
def Nrg.q (n : Nrg) (q : Nat) : QCtr := (n.queues.find? fun x => x.q = q).getD { q }
/-- A queue's counters replaced. -/
def Nrg.putQ (n : Nrg) (x : QCtr) : Nrg := { n with queues := x :: n.queues.filter fun y => y.q ≠ x.q }
/-- The value a register-port read leaves (R69). -/
def rpData (s : State) (w : W32) : State := { s with rp := { s.rp with rdata := w } }

/-- NRG_LO_READ (R326): the counter's low half, with copies of its high half and of NRG_STAMP. Registers of this page open at READY (R98). -/
def execNrgLoRead (offset : Nat) (s : State) : Out :=
  if !alive s then .next s
  else if !sinceReady s then .next (rpData s 0)
  else
    let n := s.nrg
    let st := n.stamp
    if offset = 0x8100 then .next (rpData { s with nrg := { n with inst := n.inst.copy st } } (w32 n.inst.nj))
    else if offset = 0x8108 then .next (rpData { s with nrg := { n with ovh := n.ovh.copy st } } (w32 n.ovh.nj))
    else if offset = 0x8110 then .next (rpData { s with nrg := { n with stampHi := w32 (st / 2 ^ 32) } } (w32 st))
    else if 0x8200 ≤ offset && offset < 0x8280 && offset % 8 = 0 then
      let p := (offset - 0x8200) / 8
      .next (rpData { s with nrg := { n with parts := n.parts.modify p fun c => c.copy st } } (w32 (n.parts.getD p {}).nj))
    else if 0x8800 ≤ offset && offset < 0x9000 && offset % 8 = 0 then
      let x := n.q ((offset - 0x8800) / 8)
      .next (rpData { s with nrg := n.putQ { x with energy := x.energy.copy st } } (w32 x.energy.nj))
    else .next s

/-- USER_WINDOW_ENERGY_READ (R327): page q, offset 0: the queue's energy, with the page's own copies. -/
def execUserWindowEnergyRead (q : Nat) (s : State) : Out :=
  if !alive s then .next s
  else if !sinceReady s || 256 ≤ q then .next (rpData s 0)
  else
    let x := s.nrg.q q
    .next (rpData { s with nrg := s.nrg.putQ { x with
      pageHi := w32 (x.energy.nj / 2 ^ 32), pageStamp := s.nrg.stamp, pageSpill := x.spill.nj } } (w32 x.energy.nj))
/-- USER_WINDOW_WRITE (R70): no effect; a NOTE after READY. -/
def execUserWindowWrite (_q _offset : Nat) (s : State) : Out :=
  if alive s && sinceReady s then .next (note s 0x01 0) else .next s

/-- LEASE of user-window page q (R327). -/
def pageLease (s : State) (q : Nat) : W32 :=
  let act := s.pcx.leases.filter fun l => l.queue = q && l.active (now s)
  word [(satF 8 (s.pcx.leases.filter fun l => l.queue = q && l.susp.isSome).length, 24, 8), (satF 8 act.length, 16, 8),
        (satF 16 (sumN (act.map (·.left)) / (1000000 * 65536)), 0, 16)]
/-- A read of page q of the user window at any offset but 0 (R70, R327). -/
def userWindow (s : State) (q o : Nat) : W32 :=
  let x := s.nrg.q q
  if o = 4 then x.pageHi else if o = 8 then w32 x.pageStamp else if o = 0xC then w32 (x.pageStamp / 2 ^ 32)
  else if o = 0x10 then w32 x.pageSpill else if o = 0x14 then w32 (x.pageSpill / 2 ^ 32)
  else if o = 0x18 then pageLease s q else 0

end Sys2Proof.Machine
end

