-- ==== Sys2Proof/Machine/Caps.lean ====
section
/-!
DEFINITION. The cap loop (11_capping_and_energy.md R304 to R306, R312 to R324) and the limit updates pair 0 forms (R164, R288, R316, R320,
R335, R336, R339).
-/
namespace Sys2Proof.Machine

/-! ## Caps (R304 to R306) -/

/-- p_set or e_set of R304. -/
def capSet (c : CapCfg) (x : Nat) : Nat := clampN c.floor c.ceil x
/-- A cap reduced by the margin in force (R304). -/
def capMargin (m x : Nat) : Nat := x - x * m / 256
/-- degraded of R304. -/
def capDegraded (s : State) : Bool := degraded s || s.caps.uncal
/-- Effective caps and current cap formed (R304, R306). -/
def formCaps (s : State) : State :=
  let c := s.caps.cfg
  let m := if capDegraded s then c.degMargin else 0
  let ok := s.msf.cfg.nch - (s.msf.chans.filter (·.excluded)).length
  { s with caps := { s.caps with
    pEff := capMargin m (capSet c s.caps.swPowerIn), eEff := capMargin m (capSet c s.caps.swEnergyIn)
    icapEff := min c.icap (ok * s.msf.cfg.addA) } }
/-- A field of CAP_SW as written, saturated (R305); as it was where the write leaves it (R443). -/
def capField (c : CapCfg) (old : Nat) : Option Nat → Nat
  | some x => capSet c x
  | none => old
/-- A written field was saturated (R305). -/
def capSaturates (c : CapCfg) : Option Nat → Bool
  | some x => capSet c x ≠ x
  | none => false
/-- A write of CAP_SW or of one field of it (R305, R443): saturated, with a NOTE; in force from the first 10 µs boundary strictly after it. A write before, still to
take effect, does so first where this one is stamped at its boundary. -/
def setCapSw (s : State) (power energy : Option Nat) : State :=
  let c := s.caps.cfg
  let p := capField c s.caps.swPower power
  let e := capField c s.caps.swEnergy energy
  let s1 := if capSaturates c power || capSaturates c energy then note s 0x01 0 else s
  let old := match s1.caps.swAt with
    | some t => t < now s && now s % 10000 = 0
    | none => false
  { s1 with caps := { s1.caps with
    swPowerIn := if old then s1.caps.swPower else s1.caps.swPowerIn
    swEnergyIn := if old then s1.caps.swEnergy else s1.caps.swEnergyIn
    swPower := p, swEnergy := e, swAt := some (now s) } }
/-- CAP_SW_WRITE (R305); before READY CAP_SW ignores writes (R98). -/
def execCapSwWrite (w : W32) (s : State) : Out :=
  if alive s && sinceReady s then .next (setCapSw s (some (fld w 0 16)) (some (fld w 16 16))) else .next s
/-- The write waiting for boundary b takes effect (R305). -/
def Caps.swDue (c : Caps) (b : Nat) : Caps :=
  match c.swAt with
  | some t => if t < b then { c with swPowerIn := c.swPower, swEnergyIn := c.swEnergy, swAt := none } else c
  | none => c
/-- KCAL of an accepted calibration is in force from this boundary, and UNCAL clears (R310). -/
def kcalDue (s : State) : State :=
  match s.caps.kcalNext with
  | some k => deassertCond { s with caps := { s.caps with kcal := k, kcalNext := none, uncal := false, calAt := some (now s), calAcc := some (now s) } } 0x39 0
  | none => s
/-- Loss of the calibration (R310, R49): UNCAL and its DEGRADE source. -/
def calLoss (s : State) : State := assertCond { s with caps := { s.caps with uncal := true } } 0x39 0 .degrade
/-- KCAL has gone 300 ms without an update (R310). -/
def kcalStale (s : State) : State :=
  match s.caps.calAt with
  | some t => if t + 300000000 ≤ now s then calLoss s else s
  | none => s

/-! ## Tests (R309, R312, R313) -/

/-- A CAP_STATUS sticky bit. -/
def Caps.seen (c : Caps) (b : Nat) : Caps := { c with status := c.status ||| BitVec.ofNat 8 (2 ^ b) }
/-- The window's p_win and I_WIN, and P_1MS, P_1S, U_P, U_E at boundary b (R309, R312). -/
def windowSums (c : Caps) (e iWin b readyAt : Nat) : Caps :=
  let p := e / (10000 * 65536)
  let ms := b % 1000000 = 0
  let sc := b % 1000000000 = 0
  let c1 : Caps := { c with
    pWin := p, iWin, uP := c.uP + e, uE := c.uE + e, sumMs := c.sumMs + p, cntMs := c.cntMs + 1, sumS := c.sumS + p
    cntS := c.cntS + 1, sumAll := c.sumAll + p, cntAll := c.cntAll + 1, pLog := (p :: c.pLog).take 160 }
  let haveMs := c1.haveMs || (ms && readyAt + 1000000 ≤ b)
  let haveS := c1.haveS || (sc && readyAt + 1000000000 ≤ b)
  let mean := c1.sumAll / c1.cntAll
  { c1 with
    haveMs, haveS
    p1ms := if !haveMs then mean else if ms then c1.sumMs / c1.cntMs else c1.p1ms
    p1s := if !haveS then mean else if sc then c1.sumS / c1.cntS else c1.p1s }
/-- The windows that b ends begin anew. -/
def Caps.endWindows (c : Caps) (b : Nat) : Caps :=
  let c1 : Caps := if b % 1000000 = 0 then { c with uP := 0, sumMs := 0, cntMs := 0 } else c
  if b % 1000000000 = 0 then { c1 with uE := 0, sumS := 0, cntS := 0 } else c1
/-- Time from b to the end of the window of length n that is in progress or ends at b. -/
def toEnd (b n : Nat) : Nat := (n - b % n) % n
/-- The three tests at b with each measure scaled by sc ÷ 256 (R312, R313, R396): current, power, energy. -/
def capTests (s : State) (b sc : Nat) : Bool × Bool × Bool :=
  let c := s.caps
  let p := match s.csc.shareIn with
    | some w => min c.pEff w
    | none => c.pEff
  (decide (c.icapEff * 256 < c.iWin * sc),
   decide (p * 1000000 * 65536 * 256 < c.uP * 256 + c.pWin * sc * toEnd b 1000000 * 65536),
   decide (c.eEff * 1000000000 * 65536 * 256 < c.uE * 256 + c.p1ms * sc * toEnd b 1000000000 * 65536))

/-! ## Classes (R314, R315) -/

/-- Owner of a partition now. -/
def ownerOf (s : State) (p : Nat) : Option (Nat × Nat) := (partD s p).ownerAt (now s)
/-- Zones of a budget class with arrays in RUN. -/
def classZones (s : State) (c : Nat) : List Nat :=
  (List.range s.zones.length).filter fun z =>
    let zn := zoneD s z
    zn.st = .run && !zn.arrays.isEmpty && (ownerOf s zn.cfg.partition).any fun o => o.2 = c
/-- A class is present (R314). -/
def present (s : State) (c : Nat) : Bool := !(classZones s c).isEmpty
/-- A queue holds an active lease with unspent reservation. -/
def queueReserved (s : State) (q : Nat) : Bool := s.pcx.leases.any fun l => l.queue = q && l.active (now s) && 0 < l.left
/-- A class is reserved (R315). -/
def reserved (s : State) (c : Nat) : Bool :=
  let os := ((List.range 16).filterMap (ownerOf s)).filter fun o => o.2 = c
  !os.isEmpty && os.all fun o => queueReserved s o.1
/-- Classes 0 to 14 by PRI from 7 down to 0, higher class numbers first. -/
def byPri (s : State) : List Nat :=
  ((List.range 8).reverse).flatMap fun p => ((List.range 15).reverse).filter fun c => s.caps.cfg.pri.getD c 0 % 8 = p
/-- The order of R315. -/
def classOrder (s : State) : List Nat :=
  (byPri s).filter (fun c => !reserved s c) ++ (byPri s).filter (reserved s) ++ [15]
/-- LMIN of a class. -/
def lminOf (s : State) (c : Nat) : Nat := s.caps.cfg.lmin.getD c 1
/-- L_c. -/
def codeOf (s : State) (c : Nat) : Nat := s.caps.codes.getD c 15
/-- Stage 1 is exhausted (R314). -/
def exhausted (s : State) : Bool := (List.range 16).all fun c => !present s c || codeOf s c ≤ lminOf s c
/-- CAP_STAGE_1 (R314): the first class present and above its LMIN goes DSTEP codes down. -/
def stage1 (s : State) : State :=
  match (classOrder s).find? fun c => present s c && lminOf s c < codeOf s c with
  | some c => { s with caps := { s.caps with codes := s.caps.codes.set c (max (lminOf s c) (codeOf s c - s.caps.cfg.dstep)) } }
  | none => s

/-! ## Set-points sent (R164, R288, R316, R336) -/

/-- The band offset in VZ: for zones in MIST, RUN and HOLD (R335, R336). -/
def mofsOf (s : State) (z : Nat) : Nat := if zCounts (zoneD s z).st then (bandCfg s (bandSent s z)).mofs else 0
/-- The frequency floor of R288 with the offset; none above every code. -/
def floorOf (s : State) (z : Nat) : Option Nat := ((zoneD s z).vneed (zoneVmax s z) (zoneD s z).sft.floorG).map (· + mofsOf s z)
/-- Cap state of zone z in pair 0. -/
def capZ (s : State) (z : Nat) : CapZone := s.caps.zones.getD z {}
/-- Cap state of zone z changed. -/
def modCapZ (s : State) (z : Nat) (f : CapZone → CapZone) : State := { s with caps := { s.caps with zones := s.caps.zones.modify z f } }
/-- The set-point sent to zone z (R288). -/
def vzSent (s : State) (z : Nat) : Nat :=
  match floorOf s z with
  | some f => if zoneVmax s z < f then zoneVmax s z else max f ((capZ s z).vz + mofsOf s z)
  | none => zoneVmax s z
/-- FREQ_OVER (R288). -/
def freqOver (s : State) (z : Nat) : Bool := match floorOf s z with
  | some f => zoneVmax s z < f
  | none => true
/-- The set-point stage 2 lowers VZ to (R316). -/
def vzFloor (s : State) (z : Nat) : Option Nat := (floorOf s z).map fun f => max (zoneD s z).cfg.vmin f
/-- VZ of a zone lowered by up to 4 codes (R316). -/
def lowerVz (s : State) (z : Nat) : State :=
  match vzFloor s z with
  | some f =>
    let v := vzSent s z
    if f < v then modCapZ s z fun x => { x with vz := max f (v - 4) - mofsOf s z } else s
  | none => s
/-- CAP_STAGE_2 (R316): one action. -/
def stage2Act (s : State) : State :=
  let s1 := { s with caps := { s.caps with
    stage2 := true, cthr := min s.caps.cfg.cthrMax (s.caps.cthr + 1)
    zones := s.caps.zones.mapIdx fun z x =>
      if (zoneD s z).arrays.isEmpty then x else { x with fcap := (zoneD s z).sft.g } } }
  (List.range s.zones.length).foldl lowerVz s1
/-- Stage 2 is complete (R316). -/
def stage2Done (s : State) : Bool :=
  s.caps.stage2 && s.caps.cthr = s.caps.cfg.cthrMax && (List.range s.zones.length).all fun z => match vzFloor s z with
    | some f => vzSent s z ≤ f
    | none => true
/-- A release step of stage 2 (R316). -/
def stage2Release (s : State) : State :=
  let c := s.caps.cthr - 1
  let s1 := { s with caps := { s.caps with cthr := c, relDwell := 0 } }
  if c = 0 then { s1 with caps := { s1.caps with
    stage2 := false, zones := s1.caps.zones.mapIdx fun z x => { x with fcap := 255, vz := (zoneD s z).cfg.vset } } }
  else s1
/-- Pending frequency increases at a 1 ms boundary (R288): with stage 2 not engaged and no test over, VZ is raised in full. -/
def raiseVz (s : State) : State :=
  if s.caps.stage2 || s.caps.isOver then s else
  { s with caps := { s.caps with zones := s.caps.zones.mapIdx fun z x =>
    let zn := zoneD s z
    let need := match zn.sft.pending with
      | some (c, _) => if zn.sft.g < c then ((zn.vneed (zoneVmax s z) c).getD (zoneVmax s z)) else 0
      | none => 0
    { x with vz := max zn.cfg.vset (min need (zoneVmax s z)) } } }

/-! ## Stage 3 (R317, R318) -/

/-- Array a of zone z is ungated: neither mask of pair 0 names it (R317, R320). -/
def ungated (s : State) (z a : Nat) : Bool := !(capZ s z).gated.getLsbD a && !(thmD s z).gated.contains a
/-- The ungated arrays of a class in ascending global number. -/
def ungatedOf (s : State) (c : Nat) : List (Nat × Nat) :=
  (classZones s c).flatMap fun z => ((List.range (zoneD s z).arrays.length).filter (ungated s z)).map fun a => (z, a)
/-- The next array to gate: of the first class in the order with an ungated array, the highest global number (R317). -/
def gateNext (s : State) : Option (Nat × Nat) := (classOrder s).findSome? fun c => (ungatedOf s c).getLast?
/-- CAP_STAGE_3_GATE (R317). -/
def gateOne (s : State) : State :=
  match gateNext s with
  | some (z, a) =>
    let s1 := modCapZ s z fun x => { x with gated := x.gated ||| BitVec.ofNat 8 (2 ^ a) }
    { s1 with caps := { s1.caps with gateOrder := (z, a) :: s1.caps.gateOrder } }
  | none => s
/-- The release step R313 permits at a 10 µs boundary: the last gated array; stage 2 waits for its 1 ms boundary; then a class code (R314). -/
def releaseStep (s : State) : State :=
  match s.caps.gateOrder with
  | (z, a) :: rest =>
    let s1 := modCapZ s z fun x => { x with gated := x.gated &&& ~~~(BitVec.ofNat 8 (2 ^ a)) }
    { s1 with caps := { s1.caps with gateOrder := rest, relDwell := 0 } }
  | [] =>
    if s.caps.stage2 then s else
    match ((classOrder s).reverse).find? fun c => codeOf s c < 15 with
    | some c => { s with caps := { s.caps with codes := s.caps.codes.set c (codeOf s c + 1), relDwell := 0 } }
    | none => s
/-- The tests, stage 1, stage 3 and the release at boundary b (R312 to R318). -/
def capStages (s : State) (b : Nat) : State :=
  let (oi, op, oe) := capTests s b 256
  let (ri, rp, re) := capTests s b (256 + s.caps.cfg.relMargin)
  let isOver := oi || op || oe
  let exh := exhausted s
  let rel := !(ri || rp || re)
  let c0 := if oi then s.caps.seen 2 else s.caps
  let c1 := if op && b % 1000000 = 0 then { c0.seen 3 with overP := satInc 0xFFFF c0.overP } else c0
  let c2 := if oe && b % 1000000000 = 0 then { c1.seen 4 with overE := satInc 255 c1.overE } else c1
  let s1 := { s with caps := { c2 with
    isOver, overI := oi
    overDwell := if isOver then satInc 255 c2.overDwell else 0
    curDwell := if oi && exh then satInc 255 c2.curDwell else 0
    relDwell := if rel then satInc 255 c2.relDwell else 0 } }
  let s2 := if isOver && !exh then stage1 s1 else s1
  let gd := s2.caps.cfg.gateDwell
  let s3 := if exh && (gd ≤ s2.caps.curDwell || (gd ≤ s2.caps.overDwell && stage2Done s2)) then gateOne s2 else s2
  let s4 := if s3.caps.cfg.relDwell ≤ s3.caps.relDwell then releaseStep s3 else s3
  { s4 with caps := s4.caps.endWindows b }
/-- Zone codes (R319) from the window's mean iz, and the window's sums cleared. -/
def zoneCodes (s : State) : State :=
  { s with
    caps := { s.caps with zones := s.caps.zones.mapIdx fun z x =>
      let zn := zoneD s z
      if zn.arrays.isEmpty || zn.izCnt = 0 then x
      else if 95 * (zn.law.ilimEff : Int) * zn.izCnt < 100 * zn.izSum then { x with zcode := max 1 (x.zcode - 1) }
      else if 100 * zn.izSum < 85 * (zn.law.ilimEff : Int) * zn.izCnt then { x with zcode := min 15 (x.zcode + 1) }
      else x }
    zones := s.zones.map fun zn => { zn with izSum := 0, izCnt := 0 } }

/-! ## Groups (R322 to R324) -/

/-- GB_LEN with 0 taken as 1. -/
def gbLen (n : Nat) : Nat := max 1 n
/-- The enabled group of a partition. -/
def groupOf (s : State) (p : Nat) : Option Group := s.caps.groups.find? fun g => g.en && g.members.getLsbD p
/-- What waits for the group's boundary takes effect there: a disable, or the value written before it (R322, R324). -/
def Group.due (x : Group) (b : Nat) : Group :=
  if x.disable then { x with en := false, newEn := false, disable := false, props := [], code := 15, emg := false }
  else if b ≤ x.newAt then x
  else { x with en := x.newEn, gbLen := x.newLen, members := x.newMembers, props := if x.newEn then x.props else [], emg := x.newEn && x.emg }
/-- Group h has, or is to have, one of the partitions `m` (R322). -/
def Group.claims (x : Group) (m : BitVec 16) : Bool := x.en && x.members &&& m ≠ 0 || x.newEn && x.newMembers &&& m ≠ 0
/-- A boundary of the group with spacing `n` lies at `t` (R322). -/
def atGroup (n t : Nat) : Bool := t % (10000 * gbLen n) = 0
/-- CAP_GROUP_WRITE (R322): in force at the group's first boundary after the write; refused where a partition would be in a second enabled
group. An earlier write due at the instant itself takes effect before. -/
def execCapGroupWrite (g : Nat) (w : W32) (s : State) : Out :=
  if !alive s || !sinceReady s || 16 ≤ g then .next s else
  let en := fld w 31 1 = 1
  let m : BitVec 16 := BitVec.ofNat 16 (fld w 0 16)
  if en && (List.range 16).any (fun h => h ≠ g && (s.caps.groups.getD h {}).claims m) then
    .next (note { s with caps := s.caps.seen 6 } 0x3A 0)
  else .next { s with caps := { s.caps with groups := s.caps.groups.modify g fun x =>
    { (if atGroup x.gbLen (now s) then x.due (now s) else x) with newEn := en, newLen := fld w 16 8, newMembers := m, newAt := now s } } }
/-- A proposal of an instance joins those of the group, where it changes that instance's latest one. -/
def Group.propose (g : Group) (inst code k : Nat) : Group :=
  match g.props.find? fun p => p.1 = inst with
  | some p => if p.2.1 = code then g else { g with props := ((inst, code, k) :: g.props).take 128 }
  | none => { g with props := ((inst, code, k) :: g.props).take 128 }
/-- Lowest thermal code of the zones that follow a member partition. -/
def groupTherm (s : State) (g : Group) : Nat :=
  (List.range s.zones.length).foldl (fun m z =>
    if g.members.getLsbD (zoneD s z).cfg.partition && !(zoneD s z).arrays.isEmpty then min m (thmD s z).code else m) 15
/-- Lowest class code of the member partitions. -/
def groupClass (s : State) (g : Group) : Nat :=
  (List.range 16).foldl (fun m p => if g.members.getLsbD p then
    (match ownerOf s p with
      | some o => min m (codeOf s o.2)
      | none => m) else m) 15
/-- This instance's proposal for an enabled group at a boundary: the code, and whether it is an emergency, because a thermal code or an
over current test takes it below the group code (R323, R342). -/
def proposal (s : State) (g : Group) : Nat × Bool :=
  let t := groupTherm s g
  let c := min t (groupClass s g)
  (c, c < g.code && (t < g.code || s.caps.overI))
/-- A group with this instance's proposal: an emergency is applied at once, and the proposal stays one until it changes (R323, R397). -/
def Group.proposeOwn (g : Group) (inst k : Nat) (p : Nat × Bool) : Group :=
  let same := (g.props.find? fun q => q.1 = inst).any fun q => q.2.1 = p.1
  let g1 := g.propose inst p.1 k
  { g1 with emg := p.2 || (same && g.emg), code := if p.2 then p.1 else g1.code }
/-- Every enabled group's proposal (R323). -/
def propose (s : State) : State :=
  let gs := s.caps.groups.map fun g => if g.en then g.proposeOwn s.su.cascId (now s) (proposal s g) else g
  { s with caps := { s.caps with groups := gs } }
/-- An instance whose proposals count: this one, or a peer that is not lost. -/
def liveInst (s : State) (i : Nat) : Bool := i = s.su.cascId || ((s.csc.peers.getD i {}).seen && !(s.csc.peers.getD i {}).lost)
/-- The lowest of the latest proposals of live instances decided at or before B − 40 µs. -/
def groupCode (s : State) (g : Group) (b : Nat) : Nat :=
  (List.range 8).foldl (fun m i =>
    if !liveInst s i then m else
    match g.props.find? fun p => p.1 = i && p.2.2 + 40000 ≤ b with
    | some p => min m p.2.1
    | none => m) 15
/-! ## Limit updates (R164, R320, R335, R339) -/

/-- Retention code of a domain before ROFS. -/
def retOf (c : ThmCfg) : Domain → Nat
  | .logic => c.retLogic
  | .array => c.retArray
  | .link => c.retLink
  | .mif => c.retMif
/-- The cap code of zone z (R320). -/
def capCodeOf (s : State) (z : Nat) : Nat :=
  let p := (zoneD s z).cfg.partition
  match groupOf s p with
  | some g => min g.code (capZ s z).zcode
  | none =>
    let l := match ownerOf s p with
      | some o => codeOf s o.2
      | none => 15
    min l (capZ s z).zcode
/-- The limit update for zone z. -/
def limitOf (s : State) (z : Nat) : Limit :=
  let zn := zoneD s z
  let b := bandSent s z
  let vf := zoneVmax s z
  { ilimPol := zn.cfg.ilimPol, vz := vzSent s z, slew := zn.cfg.slew, vmin := zn.cfg.vmin
    vmax := min vf (max zn.cfg.vmax ((floorOf s z).getD vf))
    ret := ((retOf s.thm.cfg zn.cfg.domain : Int) + (bandCfg s b).rofs).toNat, mofs := mofsOf s z, band := b
    fcap := min (capZ s z).fcap (thermFcap s z), capCode := capCodeOf s z, thermCode := (thmD s z).code
    thermMask := BitVec.ofNat 8 (ofBits (thmD s z).gated), capMask := (capZ s z).gated }
/-- Limit updates for every zone leave pair 0; FREQ_OVER and its DEGRADE source follow the floor (R288). -/
def formLimits (s : State) : State :=
  let s1 := (List.range s.zones.length).foldl (fun s z =>
    setCond (modZone s z fun zn => { zn with sft := { zn.sft with freqOver := freqOver s z } }) (freqOver s z) 0x17 z .degrade) s
  { s1 with caps := { s1.caps with out := (List.range s.zones.length).map fun z => (z, limitOf s z) } }
/-- GROUP_PROPOSAL_RX (R323, R324): another instance's proposal; an emergency lowers the group code in the limit updates that leave at
once; another GB_LEN disables the group at its next boundary. -/
def execGroupProposalRx (src g code gb decided : Nat) (emergency : Bool) (s : State) : Out :=
  let x := s.caps.groups.getD g {}
  if !running s || 16 ≤ g || !x.en then .next s
  else if gbLen gb ≠ gbLen x.gbLen then
    .next (note { s with caps := { s.caps.seen 6 with groups := s.caps.groups.modify g fun x => { x with disable := true } } } 0x3A 0)
  else
    let s1 : State := { s with caps := { s.caps with groups := s.caps.groups.modify g fun x =>
      let y := x.propose src (code % 16) decided
      if emergency then { y with code := min y.code (code % 16) } else y } }
    .next (if emergency && s.cores.run0 && s.su.grid then formLimits s1 else s1)
/-- GROUP_BOUNDARY (R322 to R324): at the group's boundary what was written before it takes effect, a disable is carried out, and pair 0
sets the code and sends it. With pair 0 stopped the boundary passes by. -/
def execGroupBoundary (g : Nat) (s : State) : Out :=
  let x := s.caps.groups.getD g {}
  if !running s || 16 ≤ g || !s.cores.run0 || !atGroup x.gbLen (now s) then .next s else
  let y := x.due (now s)
  let z : Group := { y with code := if y.en then groupCode s y (now s) else 15 }
  let s1 : State := { s with caps := { s.caps with groups := s.caps.groups.set g z } }
  .next (if s.su.grid then formLimits s1 else s1)
/-- LIMIT_UPDATE (R47, R163): the update on its way to Float z arrives and renews its lease. -/
def execLimitUpdate (z : Nat) (s : State) : Out :=
  match s.caps.out.find? fun x => x.1 = z with
  | some (_, l) =>
    .next (deassertCond { modZone s z (fun zn => { zn with lim := l, leaseAt := now s, leaseLost := false }) with
      caps := { s.caps with out := s.caps.out.filter fun x => x.1 ≠ z } } 0x11 z)
  | none => .next s
/-- LEASE_EXPIRY (R47): no update for 3 ms; the safe limits apply and DEGRADE is reported. -/
def execLeaseExpiry (z : Nat) (s : State) : Out :=
  let zn := zoneD s z
  if running s && hasZone s z && s.su.grid && !zn.leaseLost && zn.leaseAt + 3000000 ≤ now s then
    .next (assertCond (modZone s z fun zn => { zn with
      leaseLost := true, status := zn.status ||| 2
      leaseExpiries := if sinceReady s then satInc 0xFFFF zn.leaseExpiries else zn.leaseExpiries }) 0x11 z .degrade)
  else .next s

end Sys2Proof.Machine
end

