-- ==== Sys2Proof/Machine/Tcv.lean ====
section
/-!
DEFINITION. The telemetry converter (13_telemetry_converter.md): conversion, schedule, urgent requests and capture, correction, diodes and
open wires, queue and comparators, cross-checks, and the calibration window of R310.
-/
namespace Sys2Proof.Machine

/-! ## The modulator's cycles (R351, R353, R363, R364) -/

/-- Modulator cycles from one chop to the next (R337); none with chopping off. -/
def chopLen (chop : Nat) : Option Nat := match chop with
  | 1 => some 256
  | 2 => some 128
  | 3 => some 64
  | _ => none
/-- The modulator's inputs stand swapped in cycle j from a grid instant (R353): the instant finds them straight, and each chop swaps them
(assumption 100). -/
def swapped (chop j : Nat) : Bool := (chopLen chop).any fun n => j / n % 2 = 1
/-- What a conversion by a method drives into its channel in cycle j from a grid instant: true for 160 µA and for the pull-up, false for
10 µA and for the pull-down, none for no current. It switches every 1,280 cycles (R363, R364; assumption 100). -/
def driven (method j : Nat) : Option Bool := if method = 1 || method = 2 then some (j / 1280 % 2 = 0) else none
/-- The cycle is one of the 64 after a switch of the current, which enter the filter as 0 (R363). -/
def blankCycle (method j : Nat) : Bool := (driven method j).isSome && j % 1280 < 64
/-- d of cycle j: the bit times the chop sign and the demodulation sign, and 0 where it is blanked (R351). -/
def cycleD (method chop j : Nat) (bit : Bool) : Int :=
  if blankCycle method j then 0
  else (if bit then 1 else -1) * (if swapped chop j then -1 else 1) * (if driven method j = some false then -1 else 1)

/-! ## The filter (R351) -/

/-- Integrators and comb memories of sinc4, 39 bits each. -/
structure Sinc where
  i1 : Nat := 0
  i2 : Nat := 0
  i3 : Nat := 0
  i4 : Nat := 0
  c1 : Nat := 0
  c2 : Nat := 0
  c3 : Nat := 0
  c4 : Nat := 0
  deriving DecidableEq, Repr
/-- One cycle: d runs through the integrators, which wrap modulo 2³⁹. -/
def Sinc.cycle (f : Sinc) (d : Int) : Sinc :=
  let a := twos 39 ((f.i1 : Int) + d)
  let b := (f.i2 + a) % 2 ^ 39
  let c := (f.i3 + b) % 2 ^ 39
  { f with i1 := a, i2 := b, i3 := c, i4 := (f.i4 + c) % 2 ^ 39 }
/-- One decimated output: the combs' differences, modulo 2³⁹ and read as signed. -/
def Sinc.output (f : Sinc) : Sinc × Int :=
  let sub (x y : Nat) : Nat := (x + 2 ^ 39 - y) % 2 ^ 39
  let a := sub f.i4 f.c1
  let b := sub a f.c2
  let c := sub b f.c3
  ({ f with c1 := f.i4, c2 := a, c3 := b, c4 := c }, signed 39 (sub c f.c4))
/-- Cycle j enters, and every 640th gives an output, the newest first. -/
def sincStep (method chop : Nat) (bits : BitVec 10240) (x : Sinc × List Int) (j : Nat) : Sinc × List Int :=
  let f := x.1.cycle (cycleD method chop j (bits.getLsbD j))
  if j % 640 = 639 then (f.output.1, f.output.2 :: x.2) else (f, x.2)
/-- The sinc4 outputs over the 10,240 cycles that end at a result, the newest first. The span of the result lies within them (R352). -/
def sincOutputs (method chop : Nat) (bits : BitVec 10240) : List Int :=
  ((List.range 10240).foldl (sincStep method chop bits) ({}, [])).2

/-- FIR coefficients h[0] to h[12]. -/
def firH : List Int := [-768, -2048, -1536, 4608, 17408, 29696, 36352, 29696, 17408, 4608, -1536, -2048, -768]
/-- The raw result from thirteen sinc4 outputs, the newest first (R351). -/
def rawResult (ss : List Int) : Int :=
  clampI (-8388608) 8388607 (rdiv 351 (sumI (List.zipWith (· * ·) firH ss)) 2621440000)
/-- The raw result of a conversion's bits; bit j is cycle j of the four grid intervals that end at the result. -/
def rawOf (method chop : Nat) (bits : BitVec 10240) : Int := rawResult (sincOutputs method chop bits)
/-- Saturation to 24 bits signed. -/
def sat24 (x : Int) : Int := clampI (-8388608) 8388607 x
/-- Correction of a raw result (R361). -/
def correct (ofs : Int) (gain : Nat) (x : Int) : Int := sat24 (rnd ((x - ofs) * gain) 22)
/-- r × 20 ÷ 19 of R363 and R364, to the nearest, ties upward (assumption 40). -/
def blanked (r : Int) : Int := sat24 (rdiv 363 (r * 20) 19)

/-! ## Schedule (R352 to R356) -/

/-- The chop code a conversion that starts now takes (R353). -/
def chopNow (s : State) : Nat := if s.thm.formed then (bandCfg s (instBand s)).chop else (bandCfg s 1).chop
/-- Channel c is an enabled diode channel. -/
def diodeCh (s : State) (c : Nat) : Bool := 8 ≤ c && c ≤ 15 && (s.thm.cfg.diodes.getD (c - 8) {}).en
/-- Method of a named channel: 1 for an enabled diode channel (R356). -/
def methodOf (s : State) (c : Nat) : Nat := if diodeCh s c then 1 else 0
/-- A conversion after `prev`: 400 µs, or 1.6 ms after a change of channel, method or chop rate (R352, R353, R356). -/
def convAfter (prev : Conv) (ch method kind chop start : Nat) : Conv :=
  { ch, method, kind, chop, start
    due := start + if prev.ch = ch && prev.method = method && prev.chop = chop then 400000 else 1600000 }
/-- D of R356; 0 for no cross-check slots. -/
def xDiv (xfrac : Nat) : Nat := match xfrac with
  | 1 => 16
  | 2 => 8
  | 3 => 4
  | 4 => 2
  | _ => 0
/-- Slot n is a cross-check slot (R356). -/
def isXSlot (xfrac n : Nat) : Bool := xDiv xfrac ≠ 0 && n % xDiv xfrac = xDiv xfrac - 1
/-- The rotation (R356): ROTMASK channels, then open-wire conversions; (channel, method). -/
def rotation (s : State) : List (Nat × Nat) :=
  ((setBits s.tcv.cfg.rotMask.toNat 23).map fun c => (c, methodOf s c)) ++
  ((setBits s.tcv.cfg.owMask.toNat 16).map fun c => (c, 2))
/-- B's next slot begins at `start` after the conversion `prev` (R356). An empty rotation leaves CHKREF (assumption 41). -/
def nextSlot (s : State) (prev : Conv) (start : Nat) : Tcv :=
  let t := s.tcv
  let chop := chopNow s
  if isXSlot t.cfg.xfrac t.slot then { t with slot := t.slot + 1, b := convAfter prev 1 0 1 chop start }
  else
    let len := max 1 t.cfg.scan.length
    let e := t.cfg.scan.getD t.scanIdx 0
    let t1 := { t with slot := t.slot + 1, scanIdx := (t.scanIdx + 1) % len }
    if e ≠ 31 then { t1 with b := convAfter prev e (methodOf s e) 0 chop start }
    else
      let rot := rotation s
      let odd := t.rotUse.getD t.scanIdx false
      let t2 := { t1 with rotUse := t.rotUse.set t.scanIdx !odd }
      if !odd || rot.isEmpty then { t2 with b := convAfter prev 18 0 0 chop start }
      else
        let x := rot.getD (t1.rotIdx % rot.length) (18, 0)
        { t2 with rotIdx := (t1.rotIdx + 1) % rot.length, b := convAfter prev x.1 x.2 0 chop start }
/-- Both modulators leave self-calibration (R355, R362): A on AIN1, B in its first slot, n from 0. An urgent request for AIN1 written
meanwhile still waits for A's next result (R358). -/
def tcvStart (s : State) : State :=
  let s1 := { s with tcv := { s.tcv with
    run := true, calAt := none, slot := 0, aborted := none, rideB := false, running := false, capture := none
    aAt := some (now s), bAt := some (now s) } }
  let cal : Conv := { ch := 17, method := 3 }
  { s1 with tcv := { nextSlot s1 cal (now s) with a := convAfter cal 1 0 0 (chopNow s) (now s) } }
/-- A TCV_STATUS sticky bit. -/
def Tcv.seen (t : Tcv) (b : Nat) : Tcv := { t with status := t.status ||| BitVec.ofNat 9 (2 ^ b) }

/-! ## Self-calibration (R362) -/

/-- The factors of one modulator from the sums of its 16 ZERO and 16 CALREF results (R362). -/
def calFactors (zSum cSum : Int) : Int × Int :=
  let z := rdiv 362 zSum 16
  let c := rdiv 362 cSum 16
  let d := c - z
  (z, if d = 0 then Config.divByZero 362 (4194304 * 6710886) else if d < 0 then -1 else rdiv 362 (4194304 * 6710886) d.toNat)
/-- The factors of one modulator from the bits of its results (R362). -/
def calOf (chop : Nat) (x : CalSpans) : Int × Int :=
  calFactors (sumI (x.zero.map (rawOf 3 chop))) (sumI (x.ref.map (rawOf 3 chop)))
/-- The factors are in range (R362). -/
def calOk (f : Int × Int) : Bool := -65536 ≤ f.1 && f.1 ≤ 65536 && 0x380000 ≤ f.2 && f.2 ≤ 0x480000
/-- The factors of both modulators stored, with CAL_DONE. -/
def storeCal (t : Tcv) (a b : Int × Int) : Tcv :=
  { t with ofsA := a.1, gainA := a.2.toNat, ofsB := b.1, gainB := b.2.toNat, calDone := true }
/-- A request is waiting, running, or riding on a conversion (R358, R359). -/
def tcvBusy (s : State) : Bool :=
  s.tcv.waiting.isSome || s.tcv.running || s.tcv.rideA || s.tcv.rideB || (match s.tcv.capture with
    | some (r, _) => now s < r + 3200000
    | none => false)
/-- A refused command: REFUSED_SEEN and a NOTE (R358, R359, R362). -/
def tcvRefuse (s : State) (unit : Nat) : State := note { s with tcv := s.tcv.seen 7 } 0x49 unit
/-- Self-calibration begins at the next grid instant (R362). -/
def beginCal (s : State) : State :=
  { s with tcv := { s.tcv with calAt := some (ceilTo 400000 (now s)), calChop := chopNow s, pmGap := true } }
/-- Self-calibration is under way: its grid instant has passed (R362). -/
def calRuns (s : State) : Bool := s.tcv.calAt.any fun c => c < now s
/-- TCV_SELF_CAL (R362): after READY, only while no zone is in MIST, RUN or HOLD and no other request waits or runs. -/
def execTcvSelfCal (s : State) : Out :=
  if !alive s || !sinceReady s then .next s
  else if s.tcv.calAt.isSome || tcvBusy s || s.zones.any (fun zn => zCounts zn.st) then .next (tcvRefuse s 0)
  else .next (beginCal s)
/-- Self-calibration ends after READY: the factors are stored, or a failure keeps the old ones (R362). -/
def calDoneRun (s : State) (a b : Int × Int) : State :=
  if calOk a && calOk b then tcvStart { s with tcv := storeCal s.tcv a b }
  else note (tcvStart { s with tcv := s.tcv.seen 4 }) 0x49 0

/-! ## Urgent requests and capture (R358 to R360) -/

/-- TCV_URGENT (R358). -/
def execTcvUrgent (ch : Nat) (s : State) : Out :=
  if !alive s || !sinceReady s then .next s
  else
    let c := ch % 32
    let s1 := { s with tcv := { s.tcv with uValid := false, uRefused := false } }
    if 23 ≤ c || tcvBusy s then .next (tcvRefuse { s1 with tcv := { s1.tcv with uRefused := true } } c)
    else
      let t := { s1.tcv with uCh := c }
      if c = 1 then .next { s1 with tcv := { t with rideA := true } }
      else if s.tcv.calAt.isNone && t.b.ch = c && t.b.method = methodOf s c then .next { s1 with tcv := { t with rideB := true } }
      else .next { s1 with tcv := { t with waiting := some (some c) } }
/-- TCV_CAPTURE (R360): a capture waits for its admission. -/
def execTcvCapture (s : State) : Out :=
  if !alive s || !sinceReady s then .next s
  else if tcvBusy s then .next (tcvRefuse s 1)
  else .next { s with tcv := { s.tcv with waiting := some none } }
/-- B runs the urgent conversion of channel c from g (R358). -/
def urgentConv (s : State) (c g : Nat) : Conv :=
  { ch := c, method := methodOf s c, kind := 2, chop := chopNow s, start := g, due := g + 1600000 }
/-- B moves to AIN1 for a capture at r (R360). -/
def captureConv (s : State) (r : Nat) : Conv :=
  { ch := 1, kind := 3, chop := chopNow s, start := r + 200000, due := r + 1800000 }
/-- TCV_ADMISSION (R359): 20 ms after the admission before, and no self-calibration. An urgent conversion starts at the next grid
instant, aborting the running conversion unless it ends there; a capture is admitted at a B result instant. -/
def execTcvAdmission (s : State) : Out :=
  let t := s.tcv
  let early := match t.admitAt with
    | some a => now s < a + 20000000
    | none => false
  if t.running || early || t.calAt.isSome || !t.run then .next s else
  match t.waiting with
  | some (some c) =>
    let g := ceilTo 400000 (now s)
    let t1 := { t with running := true, admitAt := some (now s) }
    if t.b.due = g then .next { s with tcv := t1 }
    else .next { s with tcv := { t1 with waiting := none, aborted := some t.b, b := urgentConv s c g } }
  | some none =>
    let t1 := { t with running := true, admitAt := some (now s) }
    if t.b.due = now s then .next { s with tcv := t1 }
    else if t.bAt = some (now s) then
      .next { s with tcv := { t1 with
        waiting := none, running := false, aborted := some t.b, capture := some (now s, 0), b := captureConv s (now s) } }
    else .next s
  | none => .next s

/-! ## Where results go (R205, R363 to R367) -/

/-- A result joins the queue, or is lost to a full one (R366). -/
def tcvPush (s : State) (e : TcvQ) : State :=
  if s.tcv.queue.length < 64 then { s with tcv := { s.tcv with queue := s.tcv.queue ++ [e] } }
  else note { s with tcv := { s.tcv with ovf := satInc 0xFFFF s.tcv.ovf }.seen 8 } 0x49 e.ch
/-- QMASK, urgent and capture results enter the queue (R366); before READY it is closed. -/
def tcvQueue (s : State) (e : TcvQ) : State :=
  if sinceReady s && (e.spec || s.tcv.qmask.getLsbD e.ch) then tcvPush s e else s
/-- TCV_RESULT of a channel (R365). -/
def setRes (s : State) (ch : Nat) (modB : Bool) (v : Int) : State :=
  { s with tcv := { s.tcv with res := s.tcv.res.modify ch fun x =>
    { x with valid := sinceReady s, modB, open_ := ch < 16 && s.tcv.owstat.getLsbD ch, r := v, at_ := now s } } }
/-- The window comparator (R367). -/
def compareWin (s : State) (ch : Nat) (r : Int) : State :=
  let lo := (s.tcv.winLo.getD ch 0).toInt
  let hi := (s.tcv.winHi.getD ch 0).toInt
  let v := r / 256
  if !sinceReady s || hi < lo then s else
  let x := s.tcv.res.getD ch {}
  let out := v < lo || hi < v
  let s1 := { s with tcv := { s.tcv with res := s.tcv.res.modify ch fun x => { x with outside := out } } }
  if out && !x.outside then note { s1 with tcv := { s1.tcv with wstat := s1.tcv.wstat ||| w32 (2 ^ ch) } } 0x4A ch else s1
/-- The OPEN state of AIN ch follows a diode or open-wire conversion; becoming open is a NOTE (R363, R364). -/
def setOpen (s : State) (ch : Nat) (o : Bool) : State :=
  let bit := BitVec.ofNat 16 (2 ^ ch)
  let was := s.tcv.owstat.getLsbD ch
  let s1 := { s with tcv := { s.tcv with owstat := if o then s.tcv.owstat ||| bit else s.tcv.owstat &&& ~~~bit } }
  if o && !was then note s1 0x49 ch else s1

/-- ΔVBE of R363 in volts, in binary32. -/
def diodeDv (rd : Int) : Rat := f32 (f32 ((2 * rd : Int) * (5 / 4 : Rat)) / 8388608)
/-- Temperature of R363 in 0.125 °C, in binary32 throughout. -/
def diodeTemp (rd : Int) (nf : Nat) : Int :=
  let k := f32 (f32 ((nf : Rat) / 32768) * f32 (238922 / 1000000000))
  if k = 0 then Config.divByZero 3631 rd else
  let tk := f32 (diodeDv rd / k)
  clampI (-2048) 2047 (roundRatEven (f32 (8 * f32 (tk - f32 (27315 / 100)))))
/-- dv lies outside 40 mV to 110 mV (R363). -/
def diodeOpen (rd : Int) : Bool := diodeDv rd < 40 / 1000 || 110 / 1000 < diodeDv rd
/-- A diode result reaches THM_DIODE, and CRITICAL where the zone it is assigned to is that hot (R331, R345, R363). A result that sets OPEN
is not valid and raises nothing (assumption 101). -/
def diodeResult (s : State) (k : Nat) (rd : Int) : State :=
  let c := s.thm.cfg.diodes.getD k {}
  let o := diodeOpen rd
  let t := diodeTemp rd c.nf
  let s1 := setOpen { s with thm := { s.thm with diodes := s.thm.diodes.set k { t, at_ := some (now s), open_ := o } } } (8 + k) o
  if c.zone < s.zones.length then
    let s2 := if running s && s.su.grid then thmLookZone s1 c.zone else s1
    if !o && bandTh s.thm.cfg 4 ≤ t && running s then raiseCritical s2 c.zone (128 + k) t 2 else s2
  else s1

/-- Temperature of a stage group from its result, 0.125 °C, to the nearest with ties upward (R205; assumption 42). -/
def stageTemp (m : MsfCfg) (r : Int) : Int :=
  clampI (-2048) 2047 (200 + rdiv 205 (r * 100000 - 400 * m.tmon25 * 8388608) (m.tmonSlope * 8388608))
/-- A stage-group result: WARN with its 10 °C release, SHUT with its channels excluded (R205, R207). -/
def stageTake (s : State) (g : Nat) (t : Int) : State :=
  let m := s.msf
  let was := m.stgWarn.getD g false
  let warn := 8 * (m.cfg.twarnStg : Int) ≤ t || (was && 8 * ((m.cfg.twarnStg : Int) - 10) < t)
  let shut := 8 * (m.cfg.tshutStg : Int) ≤ t
  let m1 := { m with stgT := m.stgT.set g t, stgWarn := m.stgWarn.set g warn }
  let s1 := setCond { s with msf := if warn && !was then m1.seen 5 else m1 } warn 0x30 g .degrade
  if shut && !m.stgShut.getD g false then
    let s2 := assertCond { s1 with msf := { s1.msf with stgShut := s1.msf.stgShut.set g true }.seen 4 } 0x31 g .degrade
    (List.range 8).foldl (fun s j => excludeChan s (8 * g + j)) s2
  else s1
/-- An AIN result r of stage group g. -/
def stageResult (s : State) (g : Nat) (r : Int) : State := stageTake s g (stageTemp s.msf.cfg r)

/-- An ordinary or urgent result r of channel ch by its method: registers, consumers, comparator (R363 to R367). -/
def useResult (s : State) (ch method : Nat) (modB : Bool) (r : Int) : State :=
  if method = 2 then
    setOpen s ch (decide (1000 * 8388608 * (s.tcv.cfg.owLim : Int) ≤ blanked r * 1250000))
  else
    let s1 := if method = 1 then setRes (diodeResult s (ch - 8) (blanked r)) ch modB (blanked r) else setRes s ch modB r
    let s2 := if method = 0 && 2 ≤ ch && ch < 2 + s.msf.cfg.ngroup && ch ≤ 7 then stageResult s1 (ch - 2) r else s1
    compareWin s2 ch r
/-- An urgent result reaches TCV_URES (R358). -/
def urgentDone (s : State) (ch : Nat) (r : Int) : State :=
  { s with tcv := { s.tcv with uValid := true, uCh := ch, uR := r, urgent := satInc 255 s.tcv.urgent } }

/-! ## Cross-check (R368, R369) -/

/-- Latest result of a channel. -/
def resD (s : State) (ch : Nat) : TcvRes := s.tcv.res.getD ch {}
/-- Input current in 10 mA, rounded down (R354, R368). -/
def iinOf (c : TcvCfg) (r : Int) : Nat := qdivN 354 ((max 0 r).toNat * 1250000) (8388608 * c.iinGain)
/-- VIN in 10 mV, rounded down (R354). -/
def vinOf (c : TcvCfg) (r : Int) : Nat := qdivN 3541 ((max 0 r).toNat * 125) (4 * c.vinDiv)
/-- IE of R368 from the latest windows' p_win and the latest AIN0 result. -/
def ieOf (s : State) : Nat :=
  let ps := s.caps.pLog.take 160
  qdivN 368 (320 * sumN ps * s.tcv.cfg.vinDiv) (ps.length * (max 0 (resD s 0).r).toNat)
/-- Agreement of R368. -/
def agree (xtol p q : Nat) : Bool := (max p q - min p q) * 256 ≤ xtol * max (max p q) 100
/-- REF_OK (R368). -/
def refOk (s : State) : Bool :=
  let x := resD s 18
  now s < x.at_ + 100000000 && 10000 * (x.r - 7381975).natAbs ≤ s.tcv.cfg.chkTol * 7381975
/-- The slot outcome (R369). -/
def slotOut (xtol ia ib ie : Nat) (ref : Bool) : XOut :=
  if agree xtol ia ib then (if agree xtol ia ie || agree xtol ib ie then .all else .eOut)
  else if agree xtol ia ie then .bOut
  else if agree xtol ib ie then .aOut
  else if ref then .noneM else .noneE
/-- The estimate wins (R369). -/
def estWins (o : XOut) : Bool := match o with
  | .aOut | .noneE => true
  | .all | .eOut | .bOut | .noneM => false
/-- CROSS_CHECK (R368, R369): the slot that ends now, with B's result r. Before READY there is no estimate and no outcome. -/
def crossCheck (s : State) (r : Int) : State :=
  if !sinceReady s then s else
  let c := s.tcv.cfg
  let ia := iinOf c s.tcv.aR
  let ib := iinOf c r
  let o := slotOut c.xtol ia ib (ieOf s) (refOk s)
  let t := { s.tcv with
    xOut := o, xIa := ia, xIb := ib, xchks := satInc 0xFFFF s.tcv.xchks, winSlots := s.tcv.winSlots + 1
    winEst := s.tcv.winEst || estWins o }
  if o = .all then { s with tcv := t }
  else note { s with tcv := { t with outvoted := satInc 255 t.outvoted }.seen 6 } 0x49 1

/-! ## TCV_RESULT (R352) -/

/-- A's result r at the present grid instant, and its next conversion. -/
def resultA (s : State) (bits : BitVec 10240) : State :=
  let t := s.tcv
  let r := correct t.ofsA t.gainA (rawOf t.a.method t.a.chop bits)
  let cap := match t.capture with
    | some (c, _) => c + 2000000 ≤ now s && now s ≤ c + 3200000
    | none => false
  let s1 := useResult s 1 0 false r
  let s2 := if t.rideA then urgentDone s1 1 r else s1
  let s3 := tcvQueue s2 { spec := t.rideA || cap, modB := false, ch := 1, r, xchk := false, stamp := now s }
  { s3 with tcv := { s3.tcv with
    rideA := false, aR := r, aAt := some (now s), a := convAfter t.a 1 0 0 (chopNow s) (now s)
    pmSum := s3.tcv.pmSum + r * (resD s 0).r, pmCnt := s3.tcv.pmCnt + 1 } }
/-- What B converts after the conversion that ends now. Back from a capture's shifted grid, its conversion takes 1.6 ms on any channel (R360). -/
def afterB (s : State) : State :=
  let t := s.tcv
  let k := now s
  match t.waiting, t.running with
  | some (some c), true => { s with tcv := { t with waiting := none, b := urgentConv s c k } }
  | some none, true =>
    { s with tcv := { t with waiting := none, running := false, capture := some (k, 0), b := captureConv s k } }
  | _, _ =>
    match t.b.kind, t.capture with
    | 3, some (c, n) =>
      if n + 1 < 4 then { s with tcv := { t with capture := some (c, n + 1), b := { t.b with start := k, due := k + 400000 } } }
      else
        let g := ceilTo 400000 k
        let moved : Conv := { t.b with ch := 31 }
        match t.aborted with
        | some x => { s with tcv := { t with capture := some (c, 4), aborted := none, b := convAfter moved x.ch x.method x.kind (chopNow s) g } }
        | none => { s with tcv := { nextSlot s moved g with capture := some (c, 4) } }
    | 2, _ =>
      match t.aborted with
      | some x =>
        { s with tcv := { t with running := false, aborted := none, b := convAfter t.b x.ch x.method x.kind (chopNow s) k } }
      | none => { s with tcv := { nextSlot s t.b k with running := false } }
    | _, _ => { s with tcv := nextSlot s t.b k }
/-- B's result at the present instant, and its next conversion. -/
def resultB (s : State) (bits : BitVec 10240) : State :=
  let t := s.tcv
  let c := t.b
  let r := correct (if c.method = 1 || c.method = 2 then 0 else t.ofsB) t.gainB (rawOf c.method c.chop bits)
  let spec := t.rideB || c.kind = 2 || c.kind = 3
  let s1 := if c.kind = 1 then crossCheck s r
    else if c.kind = 3 then setRes s 1 true r
    else useResult s c.ch c.method true r
  let s2 := if t.rideB || c.kind = 2 then urgentDone s1 c.ch r else s1
  let s3 := if c.method = 2 then s2
    else tcvQueue s2 { spec, modB := true, ch := c.ch, r, xchk := c.kind = 1, stamp := now s }
  let dv := if c.ch = 0 && c.method = 0 && t.aAt = some (now s) then t.aR * (r - (resD s 0).r) else 0
  afterB { s3 with tcv := { s3.tcv with rideB := false, bAt := some (now s), pmSum := s3.tcv.pmSum + dv } }
/-- TCV_RESULT (R351, R352): the result of the modulator's conversion that ends now, from the modulator's bits. At one instant A's comes
before B's. -/
def execTcvResult (modB : Bool) (bits : BitVec 10240) (s : State) : Out :=
  let t := s.tcv
  if !running s || !t.run || calRuns s then .next s
  else if modB then
    if t.b.due ≤ now s && (t.b.kind = 3 || now s % 400000 = 0) then .next (resultB s bits) else .next s
  else if t.a.due ≤ now s && now s % 400000 = 0 then .next (resultA s bits) else .next s

/-- TCV_Q_LO_READ (R366). -/
def execTcvQLoRead (s : State) : Out :=
  if !alive s then .next s
  else if !sinceReady s then .next (rpData s 0)
  else match s.tcv.queue with
  | e :: rest =>
    .next (rpData { s with tcv := { s.tcv with
      queue := rest, qHi := word [(e.stamp / 1024, 0, 31), (b2n e.xchk, 31, 1)] } }
      (word [(twos 24 e.r, 0, 24), (e.ch, 24, 5), (b2n e.modB, 29, 1), (b2n e.spec, 30, 1), (1, 31, 1)]))
  | [] => .next (rpData s 0)

/-! ## Loss and the calibration window (R310, R370, R371) -/

/-- The converter is taken as stopped (R371, R49). -/
def tcvLost (s : State) : State :=
  assertCond { s with tcv := if s.tcv.lost then s.tcv else { s.tcv with lost := true }.seen 5 } 0x48 0 .degrade
/-- No result since an instant for n ns or more. -/
def lateBy (s : State) (a : Option Nat) (n : Nat) : Bool := match a with
  | some x => x + n ≤ now s
  | none => false
/-- TCV_STOPPED (R371): no result of A for 2 ms or of B for 6 ms, outside self-calibration. -/
def execTcvStopped (s : State) : Out :=
  let t := s.tcv
  if running s && t.run && !calRuns s && (lateBy s t.aAt 2000000 || lateBy s t.bAt 6000000) then
    .next (tcvLost { s with tcv := { t with pmGap := true } })
  else .next s

/-- Measured mean power of the window in W, exact (R354, R370). -/
def pmMeas (s : State) : Rat :=
  let t := s.tcv
  let d := 33554432 * t.cfg.iinGain * t.cfg.vinDiv * t.pmCnt
  if d = 0 then Config.divByZero 370 t.pmSum else ((t.pmSum * 15625 : Int) : Rat) / d
/-- Mean of an energy sum over n windows of 10 µs, in W. -/
def meanW (e n : Nat) : Rat := if n = 0 then Config.divByZero 3701 e else (e : Rat) / (n * 655360000 : Nat)
/-- Window outcome (R370): 0 NONE, 1 MEASUREMENT, 2 ESTIMATE; and whether the window means disagree without a slot. -/
def winOutcome (s : State) : Nat × Bool :=
  let t := s.tcv
  let dis := t.winSlots = 0 && 0 < t.pmCnt &&
    !agree t.cfg.xtol (pmMeas s).floor.toNat (meanW s.caps.peSum s.caps.prCnt).floor.toNat
  let est := t.winEst || (dis && !refOk s)
  let none_ := t.pmGap || t.pmCnt = 0 || t.owstat.getLsbD 0 || (resD s 0).at_ + 20000000 < now s || (s.caps.uncal && est)
  (if none_ then 0 else if est then 2 else 1, dis)
/-- k of R310 for an outcome; none for NONE. ESTIMATE keeps KCAL. -/
def kOf (s : State) (out : Nat) : Option Int :=
  if out = 0 then none
  else if out = 2 then some s.caps.kcal
  else
    let pr := meanW s.caps.prSum s.caps.prCnt
    some (if pr = 0 then Config.divByZero 310 s.tcv.pmSum else roundRat (16384 * pmMeas s / pr))
/-- The sums of a window begin anew. -/
def restartWindow (s : State) : State :=
  { s with
    tcv := { s.tcv with
      pmSum := 0, pmCnt := 0, winEst := false, winSlots := 0, pmGap := s.tcv.calAt.isSome || lateBy s s.tcv.aAt 2000000 }
    caps := { s.caps with prSum := 0, peSum := 0, prCnt := 0 } }
/-- The window's PM and sums leave for TCV_PM, and the next window begins. -/
def windowRegs (s : State) (out : Nat) : State :=
  let pm := if out = 1 then (pmMeas s).floor.toNat else if out = 2 then (meanW s.caps.peSum s.caps.prCnt).floor.toNat else 0
  restartWindow { s with tcv := { s.tcv with
    pmOut := out, pm, pmVin := vinOf s.tcv.cfg (resD s 0).r, estRow := if out = 2 then s.tcv.estRow + 1 else 0 } }
/-- An accepted k (R310, R371). -/
def acceptCal (s : State) (out k : Nat) : State :=
  let s1 := { s with caps := { s.caps with kcalNext := some k, rejects := 0 } }
  if out = 1 then deassertCond { s1 with tcv := { s1.tcv with lost := false } } 0x48 0 else s1
/-- A rejected k (R310): three in a row are a loss. -/
def rejectCal (s : State) : State :=
  let s1 := note { s with caps := { s.caps with
    rejects := s.caps.rejects + 1, calReject := satInc 255 s.caps.calReject }.seen 7 } 0x38 0
  if 3 ≤ s1.caps.rejects then calLoss s1 else s1
/-- CALIBRATION_WINDOW (R310, R370, R371): the end of a 100 ms window, decided by pair 1 since READY. With pair 1 stopped the window ends
undecided (assumption 102). -/
def execCalibrationWindow (s : State) : Out :=
  if !running s || !sinceReady s || now s % 100000000 ≠ 0 then .next s
  else if !s.cores.run1 then .next (restartWindow s) else
  let (out, dis) := winOutcome s
  let k := kOf s out
  let c := s.caps
  let s0 := { s with cores := { s.cores with undo := { s.cores.undo with cal := some (c.kcal, c.uncal, c.rejects, c.calAt, c.calAcc) } } }
  let s1 := windowRegs (if dis then note s0 0x49 1 else s0) out
  let s2 := match k with
    | none => s1
    | some k => if 0x3800 ≤ k && k ≤ 0x4800 then acceptCal s1 out k.toNat else rejectCal s1
  .next (if 3 ≤ s2.tcv.estRow then tcvLost s2 else s2)

end Sys2Proof.Machine
end

