-- ==== Sys2Proof/Machine/Lath.lean ====
section
/-!
DEFINITION. The Lath (14_lath_and_cascade.md R373 to R387): a transfer at its receiver, sequence numbers, acknowledgement, repetition,
seam lanes and fault injection.
-/
namespace Sys2Proof.Machine

/-! ## Counts and reports (R383) -/

/-- A LTH_STATUS sticky bit. -/
def Lth.seen (l : Lth) (b : Nat) : Lth := { l with status := l.status ||| BitVec.ofNat 4 (2 ^ b) }
/-- A corrected word or header. -/
def lthCorr (s : State) : State := { s with lth := { s.lth with corr := satInc 0xFFFF s.lth.corr }.seen 0 }
/-- An uncorrectable header, or word (`isWord`), at receiver rx: a NOTE, or DEGRADE for the sixteenth word within 1 ms (R383). -/
def lthUncorr (s : State) (rx : Nat) (isWord : Bool) : State :=
  let old := s.lth.bad.filter fun b => now s < b.2 + 1000000
  let bad := if isWord then (rx, now s) :: old else old
  let s1 := { s with lth := { s.lth with uncorr := satInc 0xFFFF s.lth.uncorr, bad := bad.take 256 }.seen 1 }
  report s1 0x50 0 (if isWord && 16 ≤ (bad.filter fun b => b.1 = rx).length then .degrade else .note)

/-! ## A transfer at its receiver (R378, R380 to R382) -/

/-- Two streams are the same one (R381). -/
def Stream.same (a b : Stream) : Bool := a.net = b.net && a.cx = b.cx && a.src = b.src && a.dest = b.dest && a.cls = b.cls
/-- Transfers lost in a gap from L to n (R381). -/
def gapOf (l n : Nat) : Nat := (n + 4096 - l % 4096) % 4096 - 1
/-- The acknowledgement of a transfer (R382). -/
def ackOf (h : W32) : BitVec 44 × BitVec 80 :=
  (hdrEncode (mkHeader (hSrc h) (hDest h) true (hClass h) (hSeq h)), sc80Encode 0)
/-- An acknowledgement reaches its sender: the transfer of the swapped ports and the same SEQ is no longer repeated (R382). -/
def lathAcked (s : State) (net : Option Nat) (h : W32) : State :=
  { s with lth := { s.lth with waits := s.lth.waits.filter fun w =>
    !(w.net = net && w.src = hDest h && w.dest = hSrc h && w.cls = hClass h && w.seq = hSeq h) } }
/-- Class that traffic of an acknowledged kind travels in (R36, R71): reports and actions URGENT, energy segments and register accesses
TELEMETRY, BULK. -/
def kindClass (kind : Nat) : Nat := if kind < 2 then 0 else if kind < 4 then 2 else 3
/-- A transfer of an acknowledged kind (R382). -/
def acknowledged (kind cls : Nat) : Bool := cls = 3 || (kind < 5 && cls = kindClass kind)
/-- A decoded transfer: acknowledgements go to their sender; others are accepted in sequence or discarded as stale, and traffic of an
acknowledged kind is answered either way (R381, R382). A zone segment carries only URGENT and CONTROL (R37): nothing is taken there in
another class. -/
def lathDeliver (s : State) (x : LathRx) (h : W32) (d : W64) : State :=
  if x.net.isSome && 2 ≤ hClass h then s
  else if hAck h then lathAcked s x.net h else
  let st : Stream := { net := x.net, cx := x.cx, src := hSrc h, dest := hDest h, cls := hClass h, last := hSeq h }
  let others := s.lth.streams.filter fun y => !y.same st
  let ack := acknowledged x.kind (hClass h)
  let l1 := if ack then { s.lth with ackOut := some (ackOf h) } else s.lth
  let acc : Lth := { l1 with streams := st :: others, delivered := some (x.rx, hClass h, d) }
  match s.lth.streams.find? (·.same st) with
  | none => { s with lth := acc }
  | some y =>
    if serialAfter 12 (hSeq h) y.last then
      let g := gapOf y.last (hSeq h)
      if g = 0 then { s with lth := acc }
      else note { s with lth := { acc with lost := satAdd 0xFFFF acc.lost g }.seen 2 } 0x52 0
    else { s with lth := l1 }
/-- A transfer as its receiver decodes it (R378, R380). -/
def lathReceive (s : State) (x : LathRx) : State :=
  match hdrDecode x.header with
  | none => lthUncorr s x.rx false
  | some (h, hc) =>
    let s1 := if hc then lthCorr s else s
    match sc80Decode x.word with
    | none => lthUncorr s1 x.rx true
    | some (d, wc) => lathDeliver (if wc then lthCorr s1 else s1) x h d

/-! ## Fault injection (R386, R387) -/

/-- MODE with the substitutions of R386 and R387. -/
def injMode (ctl pat : W32) : Nat :=
  let m := fld ctl 28 3
  let x0 := fld pat 16 4
  let x1 := fld pat 20 4
  let y0 := fld pat 0 5
  let y1 := fld pat 8 5
  if m = 1 then (if x0 = 0 || 20 ≤ y0 then 0 else 1)
  else if m = 2 then (if x0 = 0 || x1 = 0 || 20 ≤ y0 || 20 ≤ y1 || y0 = y1 then 0 else 2)
  else if m = 3 then (if x0 = 0 || 11 ≤ y0 then 0 else 3)
  else if m = 4 then 4 else 0
/-- The selected target: 0 an on-die port, 1 CXA, 2 CXB. -/
def injKind (ctl : W32) : Nat := if fld ctl 26 2 = 3 then 0 else fld ctl 26 2
/-- A transfer matches the selected target and class; `link` is 0 on the die, 1 at CXA, 2 at CXB. -/
def injMatch (ctl : W32) (link : Nat) (x : LathRx) : Bool :=
  let h : W32 := BitVec.ofNat 32 x.header.toNat
  injKind ctl = link && hClass h = fld ctl 24 2 && (link ≠ 0 || hDest h = fld ctl 17 7)
/-- The transfer with the pattern added (R386). -/
def injAdd (m : Nat) (pat : W32) (x : LathRx) : LathRx :=
  let e0 := fld pat 16 4 * 2 ^ (4 * fld pat 0 5)
  let e1 := fld pat 20 4 * 2 ^ (4 * fld pat 8 5)
  if m = 1 then { x with word := x.word ^^^ BitVec.ofNat 80 e0 }
  else if m = 2 then { x with word := x.word ^^^ BitVec.ofNat 80 e0 ^^^ BitVec.ofNat 80 e1 }
  else if m = 3 then { x with header := x.header ^^^ BitVec.ofNat 44 e0 } else x
/-- One affected transfer is counted; EN clears when COUNT are done. -/
def injCount (l : Lth) : Lth :=
  let n := l.injDone + 1
  { l with injDone := n, injCtl := if max 1 (fld l.injCtl 0 8) ≤ n then l.injCtl &&& 0x7FFFFFFF else l.injCtl }
/-- The receiver input: what goes on to the decoder, in order. While a transfer is held, the next matching one passes, followed by it. -/
def inject (s : State) (link : Nat) (x : LathRx) : State × List LathRx :=
  let l := s.lth
  if !injMatch l.injCtl link x then (s, [x])
  else match l.injHeld with
  | some y => ({ s with lth := { l with injHeld := none } }, [x, y])
  | none =>
    if !l.injCtl.getLsbD 31 then (s, [x])
    else if l.injSkip < fld l.injCtl 8 9 then ({ s with lth := { l with injSkip := l.injSkip + 1 } }, [x])
    else
      let m := injMode l.injCtl l.injPat
      let l1 := injCount l
      if m = 0 then ({ s with lth := l1 }, [])
      else if m = 4 then ({ s with lth := { l1 with injHeld := some x } }, [])
      else ({ s with lth := l1 }, [injAdd m l.injPat x])

/-! ## The order at a link (R36) -/

/-- Packet slots that the link into a receiver has given since its last BULK packet, up to 15. -/
def slotsOf (l : Lth) (net : Option Nat) (rx : Nat) : Nat :=
  ((l.slots.find? fun e => e.1 == net && e.2.1 == rx).map (·.2.2)).getD 0
/-- R36: whether a link serves a packet of a class now. `waiting` names the other packets that wait there: the class of each, and whether it
came before this one. Strict priority by class, in order of arrival within one, and a BULK packet that waits has one slot in every 16. Mark:
DEDUCED (assumption 110): the 16 slots are counted from the link's last BULK packet. -/
def linkServes (slots cls : Nat) (waiting : List (Nat × Bool)) : Bool :=
  let bulkDue := 15 ≤ slots && (cls = 3 || waiting.any fun o => o.1 = 3)
  !(waiting.any fun o => o.1 = cls && o.2) && (if bulkDue then cls = 3 else waiting.all fun o => cls ≤ o.1)
/-- The link gives its slot to this transfer, if R36 lets it; a header that no longer decodes has taken its slot before. -/
def linkTake (l : Lth) (net : Option Nat) (rx : Nat) (header : BitVec 44) (waiting : List (Nat × Bool)) : Option Lth :=
  match hdrDecode header with
  | none => some l
  | some (h, _) =>
    let n := slotsOf l net rx
    if !linkServes n (hClass h) waiting then none else
    let rest := l.slots.filter fun e => !(e.1 == net && e.2.1 == rx)
    some { l with slots := (net, rx, if hClass h = 3 then 0 else min 15 (n + 1)) :: rest }
/-- LATH_TRANSFER_RX (R36, R381): a transfer at an on-die receiver, over the link's slot; one that the link does not serve yet waits on. -/
def execLathTransferRx (rx : Nat) (net : Option Nat) (kind : Nat) (header : BitVec 44) (word : BitVec 80) (waiting : List (Nat × Bool))
    (s : State) : Out :=
  if !alive s then .next s else
  match linkTake s.lth net rx header waiting with
  | none => .next s
  | some l =>
    let p := inject { s with lth := l } 0 { rx, net, cx := none, kind, header, word }
    .next (p.2.foldl lathReceive p.1)
/-- LATH_ACK_RX (R382): an acknowledgement at the sender. -/
def execLathAckRx (net : Option Nat) (header : BitVec 44) (s : State) : Out :=
  if !alive s then .next s else
  match hdrDecode header with
  | some (h, c) => .next (lathAcked (if c then lthCorr s else s) net h)
  | none => .next (lthUncorr s 0 false)

/-! ## Repetition (R382) -/

/-- Interval and tries by kind (R382). -/
def retryOf (kind : Nat) : Nat × Nat := match kind with
  | 0 | 1 => (500, 8)
  | 2 => (2000, 4)
  | 3 => (400, 2)
  | _ => (4000, 3)
/-- A register-port access that no part answered (R72, R382): all ones and a NOTE. -/
def rpUnanswered (s : State) : State := note { s with rp := { s.rp with rdata := 0xFFFFFFFF } } 0x52 0
/-- Every try failed (R382). A lost energy segment is carried forward by ENERGY_SEGMENT_RX, and a memory's uncorrectable read has its
own step (assumption 45). -/
def triesFailed (s : State) (kind : Nat) (zone : Option Nat) : State :=
  let s1 := { s with lth := s.lth.seen 3 }
  match kind, zone with
  | 0, some z => zoneToSafe s1 z
  | 0, none | 1, _ => report s1 0x53 0 .instSafe
  | 3, _ => rpUnanswered s1
  | _, _ => s1
/-- LATH_RETRY (R382): the interval of an unacknowledged transfer has passed. Its class is the one its kind travels in (R36, R71). A transfer not yet waiting was sent once before; `zone` is
the Float that reports. -/
def execLathRetry (net : Option Nat) (src dest cls seq kind : Nat) (zone : Option Nat) (s : State) : Out :=
  if !alive s || 5 ≤ kind || cls ≠ kindClass kind then .next s else
  let w0 : TxWait := { net, src, dest, cls, seq, kind, tries := 1, at_ := now s - (retryOf kind).1 }
  let key (w : TxWait) : Bool := w.net = net && w.src = src && w.dest = dest && w.cls = cls && w.seq = seq && w.kind = kind
  let w := (s.lth.waits.find? key).getD w0
  let rest := s.lth.waits.filter fun w => !key w
  if now s < w.at_ + (retryOf kind).1 then .next s
  else if w.tries < (retryOf kind).2 then
    .next { s with lth := { s.lth with
      repeats := satInc 0xFFFF s.lth.repeats, waits := { w with tries := w.tries + 1, at_ := now s } :: rest } }
  else .next (triesFailed { s with lth := { s.lth with waits := rest } } kind zone)

/-! ## Seams and injection registers (R384 to R386) -/

/-- Both lanes of crossing j have failed. -/
def seamBoth (l : Lth) (j : Nat) : Bool := l.seam.getLsbD (2 * j) && l.seam.getLsbD (2 * j + 1)
/-- SEAM_LOST. -/
def seamLost (l : Lth) : Bool := (List.range 16).any (seamBoth l)
/-- SEAM_LANE_FAIL (R384, R385): a lane of crossing j fails until the next start. -/
def execSeamLaneFail (j : Nat) (laneB : Bool) (s : State) : Out :=
  let b := 2 * j + b2n laneB
  if !alive s || 16 ≤ j || s.lth.seam.getLsbD b then .next s else
  let s1 := { s with lth := { s.lth with seam := s.lth.seam ||| w32 (2 ^ b) } }
  .next (if seamBoth s1.lth j then assertCond s1 0x55 j .instSafe else note s1 0x54 j)
/-- LTH_INJ_CTL_WRITE (R386): arms an injection where R104 and FAULT_INJ permit it; otherwise no effect but a NOTE. -/
def execLthInjCtlWrite (w : W32) (s : State) : Out :=
  if !alive s || !sinceReady s then .next s
  else if !injectPermitted s then .next (note s 0x01 0)
  else .next { s with lth := { s.lth with injCtl := w, injSkip := 0, injDone := 0 } }
/-- A write of LTH_INJ_PAT (R386). -/
def injPatWrite (s : State) (w : W32) : State :=
  if !injectPermitted s then note s 0x01 0 else { s with lth := { s.lth with injPat := w &&& 0x00FF1F1F } }

end Sys2Proof.Machine
end

