-- ==== Sys2Proof/Machine/Cascade.lean ====
section
/-!
DEFINITION. Cascading (14_lath_and_cascade.md R388 to R397): links, frames, formation, alignment, loss, succession and shared caps; and
the entry into start-up step 8, which formation leads to (R95, R101).
-/
namespace Sys2Proof.Machine

/-! ## Step 8 begins (R95, R101) -/

/-- Stages that hold zones, in ascending order. -/
def stagesOf (s : State) : List Nat := (List.range 8).filter fun g => s.zones.any fun zn => zn.cfg.stage = g
/-- The zones of stage g start together, at the next sample instant (R101). -/
def startStage (s : State) (g : Nat) : State :=
  { s with
    su := { s.su with stepNo := 8, stage := g, stageAt := now s }
    zones := s.zones.map fun zn => if zn.cfg.stage = g && zn.st = .off then
      { zn with ramp := some { r := now s, slew := s.su.startSlew, startup := true } } else zn }
/-- Step 8 begins with the lowest stage (R101). -/
def beginStages (s : State) : State := startStage s ((stagesOf s).headD 0)

/-! ## Sending (R390) -/

/-- The constellation declares more than one instance (R391). -/
def isConst (s : State) : Bool := 1 < s.csc.cfg.ninst
/-- Kind of a message, whose SEQ its stream counts (R381). -/
def CxMsg.kind : CxMsg → Nat
  | .heartbeat _ => 0
  | .timeRequest _ => 1
  | .timeAnswer _ _ _ => 2
  | .proposal _ _ _ _ _ => 3
  | .report _ _ _ => 4
  | .share _ _ => 5
/-- The next SEQ of a kind counted up. -/
def bumpSeq (l : List (Nat × Nat)) (k : Nat) : List (Nat × Nat) :=
  let n := match l.find? fun p => p.1 = k with
    | some p => p.2
    | none => 0
  (k, (n + 1) % 4096) :: l.filter fun p => p.1 ≠ k
/-- Messages leave on both links (R390). -/
def cxSend (s : State) (ms : List CxMsg) : State :=
  if ms.isEmpty then s else
  { s with csc := { s.csc with out := ms, txSeq := ms.foldl (fun l m => bumpSeq l m.kind) s.csc.txSeq } }

/-! ## Links (R388) and frames (R389, R390) -/

/-- CXA or CXB is down after it was up. -/
def linkWasDown (c : Csc) : Bool := c.cxaDown || c.cxbDown
/-- Links train from the end of step 2; with one declared instance, and in SAFE, the CX pins stay idle (R50, R84, R388, R391). -/
def cxActive (s : State) : Bool := running s && 3 ≤ s.su.stepNo && (isConst s || s.zones.isEmpty)
/-- CX_LINK_UP (R388). -/
def execCxLinkUp (cxb : Bool) (s : State) : Out :=
  if !cxActive s then .next s else
  let c := if cxb then { s.csc with cxbUp := true, cxbDown := false } else { s.csc with cxaUp := true, cxaDown := false }
  let s1 := { s with csc := c }
  .next (if linkWasDown c then s1 else deassertCond s1 0x58 0)
/-- CX_LINK_DOWN (R388): DEGRADE while more than one instance is declared. -/
def execCxLinkDown (cxb : Bool) (s : State) : Out :=
  if !cxActive s || !(if cxb then s.csc.cxbUp else s.csc.cxaUp) then .next s else
  let c := if cxb then { s.csc with cxbUp := false, cxbDown := true } else { s.csc with cxaUp := false, cxaDown := true }
  let s1 := { s with csc := c }
  .next (if isConst s then assertCond s1 0x58 0 .degrade else s1)

/-- XCHK of a frame field (R389). -/
def frameXchk (f : BitVec 144) : Nat := bitsOf f.toNat 0 4 ^^^ bitsOf f.toNat 4 4 ^^^ bitsOf f.toNat 8 4
/-- A frame forwarded: HOPS + 1 and its XCHK (R390). -/
def frameHop (f : BitVec 144) : BitVec 144 :=
  let hops := bitsOf f.toNat 7 3 + 1
  let g : BitVec 144 := (f &&& ~~~(BitVec.ofNat 144 0xF380)) ||| BitVec.ofNat 144 (hops % 8 * 128)
  g ||| BitVec.ofNat 144 (frameXchk g * 4096)
/-- The frame goes on by the other link (R390). -/
def frameForward (s : State) (f : BitVec 144) : Bool :=
  let bc := f.getLsbD 3
  let own := s.su.cascId
  !(!bc && bitsOf f.toNat 0 3 = own) && bitsOf f.toNat 4 3 ≠ own && bitsOf f.toNat 7 3 + 1 < s.csc.cfg.ninst - 1
/-- The frame is for this instance (R390). -/
def frameHere (s : State) (f : BitVec 144) : Bool := f.getLsbD 3 || bitsOf f.toNat 0 3 = s.su.cascId
/-- CX_LATH_FRAME_RX (R389, R390): a TYPE 0 frame is delivered to the own Lath and forwarded. A header that does not decode discards it. -/
def execCxLathFrameRx (cxb : Bool) (kind : Nat) (frame : BitVec 144) (s : State) : Out :=
  if !cxActive s || !isConst s || bitsOf frame.toNat 12 4 ≠ frameXchk frame || bitsOf frame.toNat 10 2 ≠ 0 then .next s else
  let x : LathRx := { rx := 128 + b2n cxb, net := none, cx := some (bitsOf frame.toNat 4 3), kind
                      header := BitVec.ofNat 44 (bitsOf frame.toNat 16 44), word := BitVec.ofNat 80 (bitsOf frame.toNat 60 80), frame }
  let p := inject s (1 + b2n cxb) x
  let go := fun (s : State) (y : LathRx) =>
    if (hdrDecode y.header).isNone then lthUncorr s y.rx false else
    let s1 := if frameHere s y.frame then lathReceive s y else s
    if frameForward s y.frame then { s1 with csc := { s1.csc with fwd := some (!cxb, frameHop y.frame) } } else s1
  .next (p.2.foldl go p.1)

/-! ## Heartbeats and formation (R391, R392, R394, R395) -/

/-- STATE of the own heartbeat (R391). -/
def hbState (s : State) : Nat := if halted s then 3 else if instSafeHeld s then 2 else if ready s then 1 else 0
/-- The own heartbeat word (R391). -/
def hbWord (s : State) : W64 := BitVec.ofNat 64 (fields
  [(s.su.cascId, 0, 3), (b2n s.csc.isMaster, 3, 1), (hbState s, 4, 3), (b2n s.fus.shadow.succession, 7, 1), (s.csc.cfg.ninst, 8, 4),
   (s.csc.term, 12, 4), (s.csc.nonce.toNat, 16, 16), (s.csc.cfg.key.toNat, 32, 32)])
/-- HEARTBEAT_SEND (R391): at the ticks that leave 1,000 × CASC_ID modulo 10,000, once a link is up. -/
def execHeartbeatSend (s : State) : Out :=
  if cxActive s && isConst s && (s.csc.cxaUp || s.csc.cxbUp) && now s % 10000 = 1000 * s.su.cascId then
    .next (cxSend s [.heartbeat (hbWord s)])
  else .next s

/-- Peer i. -/
def peerD (s : State) (i : Nat) : Peer := s.csc.peers.getD i {}
/-- Peer i changed. -/
def modPeer (s : State) (i : Nat) (f : Peer → Peer) : State := { s with csc := { s.csc with peers := s.csc.peers.modify i f } }
/-- The other declared instances. -/
def others (s : State) : List Nat := (List.range s.csc.cfg.ninst).filter fun i => i ≠ s.su.cascId
/-- Formation fails (R392): the start ends at INSTANCE-SAFE. -/
def formFail (s : State) (why unit : Nat) : State :=
  report { s with csc := { s.csc with forming := false, fail := why } } 0x5A unit .instSafe
/-- Formation is complete (R392): instances not seen are lost, and step 8 follows. A start that has ended forms nothing (R96). -/
def formDone (s : State) : State :=
  if !s.csc.forming || s.su.stepNo ≠ 7 then s else
  let gone := (others s).filter fun i => !(peerD s i).seen
  let s1 := gone.foldl (fun s i => assertCond (modPeer s i fun p => { p with lost := true }) 0x59 i .degrade) s
  beginStages { s1 with csc := { s1.csc with forming := false, formed := true } }
/-- Formation begins (R392); a single instance is its own master and forms nothing. -/
def beginForming (s : State) : State :=
  if isConst s then { s with csc := { s.csc with forming := true, formAt := now s, alignRow := 0, aligned := s.csc.isMaster } }
  else beginStages { s with csc := { s.csc with formed := true } }
/-- What the image and the strap make of the instance before formation (R391, R392): a single instance, and a strapped master, hold TERM 0. -/
def cscInit (s : State) : State :=
  let own := !isConst s || s.su.cascMaster
  { s with csc := { s.csc with
    isMaster := own, hasMaster := own, masterId := if own then s.su.cascId else 0, term := 0
    cxaUp := s.csc.cxaUp && isConst s, cxbUp := s.csc.cxbUp && isConst s, cxaDown := false, cxbDown := false } }
/-- The strapped master has seen every other instance. -/
def allSeen (s : State) : Bool := (others s).all fun i => (peerD s i).seen
/-- Fields of a heartbeat word (R391). -/
def hbFld (hb : W64) (lo n : Nat) : Nat := bitsOf hb.toNat lo n

/-- The acting master's loss (R395): without SUCCESSION the survivor raises INSTANCE-SAFE. -/
def masterLost (s : State) (i : Nat) : State :=
  if s.csc.hasMaster && s.csc.masterId = i && !s.csc.isMaster && !s.fus.shadow.succession then report s 0x5A i .instSafe else s
/-- Peer i is taken as lost (R394). -/
def losePeer (s : State) (i : Nat) : State :=
  if (peerD s i).lost then s else masterLost (assertCond (modPeer s i fun p => { p with lost := true }) 0x59 i .degrade) i
/-- The acting master is the one that shows MASTER with the highest TERM (R395). -/
def followHb (s : State) (id term : Nat) : State :=
  let c := s.csc
  if !c.hasMaster || (peerD s c.masterId).lost || serialAfter 4 term c.term || (c.masterId = id && !c.isMaster) then
    { s with csc := { c with hasMaster := true, masterId := id, term, isMaster := false } }
  else s
/-- A heartbeat of another instance of this constellation (R392, R394, R395). A lost peer comes back only with a new NONCE. -/
def hbPeer (s : State) (hb : W64) : State :=
  let id := hbFld hb 0 3
  let term := hbFld hb 12 4
  let master := hb.getLsbD 3
  let st := hbFld hb 4 3
  let nonce : BitVec 16 := BitVec.ofNat 16 (hbFld hb 16 16)
  let old := peerD s id
  let back := old.lost && old.seen && nonce ≠ old.nonce || old.lost && !old.seen
  let s0 := if back then deassertCond s 0x59 id else s
  let s1 := modPeer s0 id fun p => { p with seen := true, nonce, term, master, state := st, at_ := now s, lost := p.lost && !back }
  let s2 := if master && !(peerD s1 id).lost then followHb s1 id term else s1
  let s3 := if st = 2 || st = 3 then losePeer s2 id else s2
  if s3.csc.forming && s3.csc.isMaster && allSeen s3 then formDone s3 else s3
/-- HEARTBEAT_RX (R392): formation checks, a duplicate after READY, peer state. -/
def execHeartbeatRx (hb : W64) (s : State) : Out :=
  if !running s || !isConst s then .next s else
  let id := hbFld hb 0 3
  let same := hbFld hb 32 32 = s.csc.cfg.key.toNat && hbFld hb 8 4 = s.csc.cfg.ninst && hb.getLsbD 7 = s.fus.shadow.succession
  let form := s.csc.forming
  if !same then .next (if form then formFail s 1 id else s)
  else if id = s.su.cascId then
    if hbFld hb 16 16 = s.csc.nonce.toNat then .next s
    else if form then .next (formFail s 2 id)
    else if sinceReady s then .next (report s 0x5A id .instSafe) else .next s
  else if form && s.csc.isMaster && hb.getLsbD 3 && hbFld hb 12 4 = 0 && hbFld hb 4 3 = 0 then .next (formFail s 3 id)
  else
    let joins := form && s.csc.isMaster && hb.getLsbD 3 && hbFld hb 4 3 = 1
    let s1 := if joins then { s with csc := { s.csc with hasMaster := false, isMaster := false, aligned := false } } else s
    .next (hbPeer s1 hb)
/-- FORMATION_TIMEOUT (R392): 1 s of formation. The strapped master goes on; a follower that sees no master ends its start. -/
def execFormationTimeout (s : State) : Out :=
  if !running s || !s.csc.forming || now s < s.csc.formAt + 1000000000 then .next s
  else if s.csc.isMaster then .next (formDone s)
  else if s.csc.hasMaster then .next s
  else .next (formFail s 3 s.su.cascId)

/-- PEER_LOST (R394): 30 µs without a heartbeat, or STATE 2 or 3. -/
def execPeerLost (i : Nat) (s : State) : Out :=
  let p := peerD s i
  if running s && isConst s && i < s.csc.cfg.ninst && i ≠ s.su.cascId && p.seen && (p.at_ + 30000 ≤ now s || p.state = 2 || p.state = 3) then
    .next (losePeer s i)
  else .next s
/-- The survivor in READY with the lowest CASC_ID. -/
def heir (s : State) : Bool :=
  ready s && ((others s).all fun i => s.su.cascId < i || (peerD s i).lost || !(peerD s i).seen || (peerD s i).state ≠ 1)
/-- MASTER_SUCCESSION (R395): at the first 10 µs boundary after the master is lost, the heir takes TERM + 1; without SUCCESSION every
survivor has gone INSTANCE-SAFE with the loss. -/
def execMasterSuccession (s : State) : Out :=
  let c := s.csc
  if running s && isConst s && c.hasMaster && !c.isMaster && (peerD s c.masterId).lost && s.fus.shadow.succession
      && now s % 10000 = 0 && heir s then
    .next { s with csc := { c with isMaster := true, masterId := s.su.cascId, term := (c.term + 1) % 16, aligned := true, slew := 0 } }
  else .next s

/-! ## Alignment (R393) -/

/-- TIME_EXCHANGE_START (R393): every 100 µs in formation, every 1 ms after READY. -/
def execTimeExchangeStart (s : State) : Out :=
  let c := s.csc
  if running s && isConst s && !c.isMaster && c.hasMaster && (c.forming || sinceReady s) && (match c.reqAt with
      | some t => t + (if c.forming then 100000 else 1000000) ≤ now s
      | none => true) then
    .next (cxSend { s with csc := { c with reqAt := some (now s) } } [.timeRequest (now s)])
  else .next s
/-- TIME_REQUEST_RX (R393): the master answers with t2 and t3. -/
def execTimeRequestRx (src : Nat) (s : State) : Out :=
  if running s && isConst s && s.csc.isMaster && src < 8 then .next (cxSend s [.timeAnswer src (now s) (now s)]) else .next s
/-- The offset θ (R393). Mark: DEDUCED (assumption 68): half of an odd number of ticks is rounded down. -/
def thetaOf (t1 t2 t3 t4 : Int) : Int := ((t2 - t1) - (t4 - t3)) / 2
/-- TIME_ANSWER_RX (R393): in formation the count steps by θ, and three exchanges in a row within 20 ns align it; after READY θ is slewed. -/
def execTimeAnswerRx (t1 t2 t3 t4 : Int) (s : State) : Out :=
  let c := s.csc
  if !running s || !isConst s || c.isMaster || c.reqAt.isNone then .next s else
  let th := thetaOf t1 t2 t3 t4
  let c1 := { c with theta := clampI (-32767) 32767 th }
  if c.forming then
    let row := if th.natAbs ≤ 20 then c.alignRow + 1 else 0
    let s1 := { s with tb := { s.tb with count := ((s.tb.count : Int) + th).toNat }
                       csc := { c1 with alignRow := row, aligned := 3 ≤ row } }
    .next (if 3 ≤ row then formDone s1 else s1)
  else if sinceReady s then .next { s with csc := { c1 with slew := th, exchanges := satInc 0xFFFF c.exchanges } }
  else .next s

/-! ## Shared caps (R396) -/

/-- Shares of the live instances from (instance, p_set, FLOOR_CFG), in W, rounded down (R396). -/
def sharesOf (cap : Nat) (xs : List (Nat × Nat × Nat)) : List (Nat × Nat) :=
  let ps := sumN (xs.map fun x => x.2.1)
  let fs := sumN (xs.map fun x => x.2.2)
  xs.map fun x => (x.1,
    if ps ≤ cap then x.2.1
    else if cap ≤ fs then qdivN 396 (x.2.2 * cap) fs
    else x.2.2 + qdivN 3961 ((cap - fs) * (x.2.1 - x.2.2)) (ps - fs))
/-- The own power set-point (R304). -/
def pSet (s : State) : Nat := capSet s.caps.cfg s.caps.swPowerIn
/-- The master's reports of the live instances, its own among them; none while one is missing. -/
def liveReports (s : State) : Option (List (Nat × Nat × Nat)) :=
  ((List.range s.csc.cfg.ninst).filter fun i => i = s.su.cascId || !(peerD s i).lost).mapM fun i =>
    if i = s.su.cascId then some (i, pSet s, s.caps.cfg.floor)
    else (peerD s i).report.map fun r => (i, r.1, r.2.1)
/-- A share reaches an instance: in force from the first 10 µs boundary after it (R396). -/
def takeShare (s : State) (w : Nat) : State := { s with csc := { s.csc with share := some w, shareAt := some (now s) } }
/-- The master answers with the shares (R396). -/
def answerShares (s : State) : State :=
  if !s.csc.isMaster || s.csc.cfg.cap = 0 then s else
  match liveReports s with
  | some xs =>
    let sh := sharesOf s.csc.cfg.cap xs
    let s1 := { s with csc := { s.csc with sharesOut := sh } }
    let s2 := match sh.find? fun p => p.1 = s.su.cascId with
      | some p => takeShare s1 p.2
      | none => s1
    cxSend s2 ((sh.filter fun p => p.1 ≠ s.su.cascId).map fun p => .share p.1 p.2)
  | none => s
/-- SHARE_REPORT_RX (R396): a 1 ms report reaches the master. -/
def execShareReportRx (src pset floor p1ms : Nat) (s : State) : Out :=
  if running s && isConst s && s.csc.isMaster && src < s.csc.cfg.ninst && src ≠ s.su.cascId then
    .next (answerShares (modPeer s src fun p => { p with report := some (pset, floor, p1ms) }))
  else .next s
/-- SHARE_RX (R396). -/
def execShareRx (w : Nat) (s : State) : Out :=
  if running s && isConst s && !s.csc.isMaster then .next (takeShare s (w % 65536)) else .next s
/-- The report of a 1 ms boundary (R396). -/
def msReport (s : State) : State :=
  if !isConst s then s
  else if s.csc.isMaster then answerShares s
  else cxSend s [.report (pSet s) s.caps.cfg.floor s.caps.p1ms]
/-- Every group's latest own proposal, sent again at a 10 µs boundary (R397). -/
def sendProposals (s : State) : State :=
  if !isConst s then s else
  cxSend s ((List.range 16).filterMap fun g =>
    let x := s.caps.groups.getD g {}
    if !x.en then none else
    (x.props.find? fun p => p.1 = s.su.cascId).map fun p => .proposal g p.2.1 x.gbLen p.2.2 x.emg)
/-- Pair 0's proposals formed and sent: at every 10 µs boundary, and again where a later task of the boundary changes a code (R323, R342, R397). -/
def proposals (s : State) : State := sendProposals (propose s)
/-- A share that arrived before boundary b is in force from it (R396). -/
def shareDue (s : State) (b : Nat) : State :=
  match s.csc.share, s.csc.shareAt with
  | some w, some t => if t < b then { s with csc := { s.csc with shareIn := some w } } else s
  | _, _ => s

end Sys2Proof.Machine
end

