-- ==== Sys2Proof/Machine/Snag.lean ====
section
/-!
DEFINITION. The Snag unit (15_faults_and_snag_unit.md): a report's class, action, latch and log entries; recovery; the orderly power-down;
ALIVE; force bits; the counters region.
-/
namespace Sys2Proof.Machine

/-! ## Sources (R400) -/

/-- The class of a source before any escalation; none for a code that is not used (R400). -/
def baseCls (c : Nat) : Option Cls :=
  if c ∈ [0x01, 0x09, 0x0A, 0x0B, 0x0C, 0x0E, 0x0F, 0x10, 0x14, 0x16, 0x23, 0x29, 0x38, 0x3A, 0x41, 0x42, 0x49, 0x4A, 0x50, 0x52, 0x54, 0x68]
  then some .note
  else if c ∈ [0x08, 0x0D, 0x11, 0x17, 0x18, 0x20, 0x21, 0x22, 0x28, 0x2E, 0x30, 0x31, 0x39, 0x40, 0x43, 0x48, 0x58, 0x59, 0x60, 0x61]
  then some .degrade
  else if c ∈ [0x12, 0x13, 0x15, 0x19, 0x1A] then some .zoneSafe
  else if c ∈ [0x2A, 0x2B, 0x2C, 0x2D, 0x2F, 0x53, 0x55, 0x5A] then some .instSafe
  else if c ∈ [0x02, 0x44] then some .halt
  else none

/-! ## Logs (R412, R413) -/

/-- An entry for the RAM log (R412). -/
def ramLog (s : State) (e : LogEnt) : State :=
  if s.snag.log.length < 256 then { s with snag := { s.snag with log := s.snag.log ++ [e] } }
  else { s with snag := { s.snag with ovfSeen := true } }
/-- Recovery counter of a code (R408). -/
def recovOf (s : State) (code : Nat) : Nat := s.snag.recov.getD code 0
/-- A fault-history record (R413): flags FORCED, LATCHED, RECOVERY, before READY. -/
def fhRecord (s : State) (code unit : Nat) (cls : Cls) (forced latched recov : Bool) (stamp : Nat) (detail : W32) : FhRec :=
  { type := 1, code, cls := clsCode cls, unit, time := stamp, detail, configId := s.nvm.imageId, recov := recovOf s code
    flags := ofBits ((if forced then [0] else []) ++ (if latched then [1] else []) ++ (if recov then [2] else []) ++
      (if sinceReady s then [] else [3])) }
/-- Raise, latch and recovery entries go to both logs (R412, R413). -/
def logBoth (s : State) (code unit : Nat) (cls : Cls) (forced latched recov : Bool) (stamp : Nat) (detail : W32) : State :=
  logFh (ramLog s { forced, latched, recov, cls := clsCode cls, code, unit, stamp }) (fhRecord s code unit cls forced latched recov stamp detail)
/-- Bit c of SNG_ALERT (R412). A raise stamped before the latest CLEAR_FAULTS leaves it clear (R445). -/
def alertBit (s : State) (cls : Cls) (stamp : Nat) : State :=
  if stamp < s.pmb.clearAt then s else
  { s with snag := { s.snag with
    alert := s.snag.alert ||| BitVec.ofNat 5 (2 ^ clsCode cls)
    alertAt := s.snag.alertAt.modify (clsCode cls) (max stamp) } }
/-- The PMBus latches a raise sets: OV by 0x2D, OC by 0x2B and 0x2C, IN by 0x4A of channels 0 and 1 (R444, R445). -/
def pmbLatch (s : State) (code unit stamp : Nat) : State :=
  if stamp < s.pmb.clearAt then s
  else if code = 0x2D then { s with pmb := { s.pmb with ov := true, ovAt := max stamp s.pmb.ovAt } }
  else if code = 0x2B || code = 0x2C then { s with pmb := { s.pmb with oc := true, ocAt := max stamp s.pmb.ocAt } }
  else if code = 0x4A && unit < 2 then { s with pmb := { s.pmb with inp := true, inAt := max stamp s.pmb.inAt } }
  else s

/-! ## Actions (R402, R409, R415) -/

/-- READY falls, and ZONE_READY of every zone with it (R55, R402, R409); taint records and the overflow mark are discarded (R299). -/
def readyFall (s : State) : State :=
  { s with pins := { s.pins with ready := false }, tnt := { s.tnt with queue := [], ovf := none }, zones := s.zones.map fun zn => { zn with ready := false } }
/-- ZONE-SAFE: the zone goes to SAFE at the next sample instant, and its outputs with it; its summary counts the entry (R56, R402, R415). -/
def actZoneSafe (s : State) (z : Nat) (count : Bool) : State :=
  modZone (zoneToSafe s z) z fun zn => { zn with zsafeN := if count then satInc 0xFFFF zn.zsafeN else zn.zsafeN }
/-- Number of a slice in the order of R421. -/
def sliceNo (s : State) (m i : Nat) : Nat := sumN (s.bist.cfg.memSlices.take m) + i
/-- The memory under a driver's pass. -/
def memReq (s : State) : Option Nat := match s.bist.req with
  | some (1, m, _) => if s.bist.reqRun then some m else none
  | _ => none
/-- The memory and slice under test or next. -/
def curSlice (s : State) : Nat × Nat := match memReq s with
  | some m => (m, s.bist.reqSlice)
  | none => (s.bist.memNo, s.bist.slice)
/-- The slice under test is written back at once; a driver's pass ends with it, and BST_RESULT shows it as abandoned (R422, R432). -/
def abandonSlice (s : State) : State :=
  let b := s.bist
  let x := curSlice s
  let mine := (memReq s).isSome
  note { s with bist := { b with
    sliceRun := false, abandonSeen := true, abandoned := if sinceReady s then satInc 255 b.abandoned else b.abandoned
    result := bistWord false true mine 1 0 (sliceNo s x.1 x.2)
    req := if mine then none else b.req, reqRun := b.reqRun && !mine } } 0x01 0
/-- Tests in progress end with INSTANCE-SAFE or HALT (R432): tiles run step 8, and a slice is written back at once. -/
def abandonAll (s : State) : State :=
  let s1 := (List.range s.zones.length).foldl abandonTests s
  if s1.bist.sliceRun then abandonSlice s1 else s1
/-- INSTANCE-SAFE: READY falls and every zone goes to SAFE; before the first READY the start ends there, and a formation with it (R96,
R402). A start that has ended in SAFE stays there. -/
def actInstSafe (s : State) : State :=
  if !running s then s else
  let s1 := (List.range s.zones.length).foldl zoneToSafe (abandonAll (readyFall s))
  if sinceReady s || halted s then s1
  else { s1 with su := { s1.su with stepNo := 0xE, fail := 0x30 }, csc := { s1.csc with forming := false } }
/-- What the thermal rules do at the action of a CRITICAL source (R346). -/
def critical (s : State) (z : Nat) : State :=
  if s.thm.critical then s else
  setTreq (modThm { s with thm := { s.thm with critical := true, critZone := z } } z fun x => { x with band := 4 }) 7
/-- The shutdown record of a CRITICAL source (R347). A forced source brings no report of its own: the zone's present Tz is taken. -/
def shutRecord (s : State) (r : FaultRep) : ShutRecord :=
  let (tz, sd, sn) := tzOf s r.unit
  let c : CritRep := r.crit.getD { source := (if sd then 128 else 0) + sn, temp := tz, cause := 0, bandmap := bandMap s }
  { type := 1, zone := r.unit, source := c.source, time := r.stamp, temp := c.temp, tCrit := s.thm.cfg.tCrit
    tRestart := s.thm.cfg.tRestart, cause := c.cause, configId := s.nvm.imageId, bandmap := c.bandmap }
/-- The first CRITICAL source: what the thermal rules do, and its shutdown record (R346, R347). -/
def takeCritical (s : State) (r : FaultRep) : State :=
  if r.code = 0x44 && !s.thm.critical then logOther (critical s r.unit) (.shut (shutRecord s r)) else s
/-- HALT_START (R409): READY falls and the stages follow; a later HALT changes nothing more. The shutdown record of a CRITICAL source and
a counters snapshot are written. -/
def actHalt (s : State) (r : FaultRep) : State :=
  let s1 := takeCritical s r
  if halted s1 then s1 else
  takeSnapshot (readyFall { abandonAll s1 with snag := { (abandonAll s1).snag with haltAt := some (now s), haltStep := 0 } })
/-- A tile summary after an isolation with cause 1 or 2 (R415). -/
def sumIso (x : BitVec 16) (cause : Nat) : BitVec 16 :=
  BitVec.ofNat 16 (fields [(min 15 (bitsOf x.toNat 0 4 + 1), 0, 4), (bitsOf x.toNat 4 1, 4, 1), (cause, 5, 3)])
/-- A tile short or switch failure enters the tile's summary; a snapshot follows (R414, R415). -/
def tileIso (s : State) (g cause : Nat) : State :=
  match ofGTile s g with
  | some (z, t) => takeSnapshot (modTile s z t fun x => { x with summary := sumIso x.summary cause, cleanRun := s.snag.runNs })
  | none => s
/-- The action of a raise (R402). -/
def act (s : State) (r : FaultRep) (first : Bool) : State :=
  let s1 := if r.forced then s else if r.code = 0x20 then tileIso s r.unit 1 else if r.code = 0x21 then tileIso s r.unit 2 else s
  match r.cls with
  | .note | .degrade => s1
  | .zoneSafe => actZoneSafe s1 r.unit (first && !r.forced)
  | .instSafe => actInstSafe s1
  | .halt => actHalt s1 r

/-! ## FAULT_REPORT (R399 to R403, R407) -/

/-- The held pair of a report. -/
def heldOf (s : State) (code unit : Nat) : Option Held := s.snag.held.find? fun h => h.code = code && h.unit = unit
/-- Recoveries of a pair stamped in [t − LATCH_WIN, t) (R407). -/
def recoveriesIn (s : State) (code unit t : Nat) : Nat :=
  match s.snag.recLog.find? fun x => x.1 = code && x.2.1 = unit with
  | some x => (x.2.2.filter fun r => t ≤ r + s.snag.cfg.latchWin * 1000000000 && r < t).length
  | none => 0
/-- A NOTE: logged and counted (R402); the start-up NOTE of 0x61 also goes to the fault history (R413, R422). -/
def takeNote (s : State) (r : FaultRep) : State :=
  let s1 := pmbLatch (alertBit s .note r.stamp) r.code r.unit r.stamp
  let s2 := if sinceReady s then { s1 with snag := { s1.snag with notes := satInc 0xFFFF s1.snag.notes } } else s1
  if r.code = 0x61 && !sinceReady s then logBoth s2 r.code r.unit .note r.forced false false r.stamp r.detail
  else ramLog s2 { forced := r.forced, latched := false, recov := false, cls := 0, code := r.code, unit := r.unit, stamp := r.stamp }
/-- A raise of class DEGRADE or higher, from a pair not held or an escalation of a held one. -/
def raise (s : State) (r : FaultRep) : State :=
  let old := heldOf s r.code r.unit
  let was := match old with
    | some h => h.latched
    | none => false
  let latch := was || r.latch || s.snag.cfg.latchN ≤ recoveriesIn s r.code r.unit r.stamp
  let first := !zoneSafeHeld s r.unit
  let h : Held := { code := r.code, unit := r.unit, cls := r.cls, l := max r.stamp r.l, latched := latch, preReady := !sinceReady s || (old.any fun h => h.preReady)
                    forced := r.forced }
  let s0 := { s with snag := { s.snag with
    held := h :: s.snag.held.filter fun x => !(x.code = r.code && x.unit = r.unit)
    raised := if sinceReady s then satInc 0xFFFF s.snag.raised else s.snag.raised } }
  let s1 := pmbLatch (alertBit s0 r.cls r.stamp) r.code r.unit r.stamp
  let s2 := logBoth s1 r.code r.unit r.cls r.forced false false r.stamp r.detail
  let s3 := if latch && !was then takeSnapshot (logBoth s2 r.code r.unit r.cls r.forced true false r.stamp r.detail) else s2
  act s3 r first
/-- A report decided by the Snag unit. Within its hold a pair only moves its last assertion (R404). -/
def decideReport (s : State) (r : FaultRep) : State :=
  let s0 := { s with snag := { s.snag with latest := (r.code, clsCode r.cls, r.unit) :: s.snag.latest.filter fun x => x.1 ≠ r.code } }
  if r.cls = .note then takeNote s0 r else
  match heldOf s r.code r.unit with
  | some h =>
    if clsCode h.cls < clsCode r.cls then raise s0 r
    else
      let held := s.snag.held.map fun x => if x.code = r.code && x.unit = r.unit then { x with l := max x.l (max r.stamp r.l) } else x
      ramLog { s with snag := { s.snag with held } }
        { forced := r.forced, latched := false, recov := false, cls := clsCode r.cls, code := r.code, unit := r.unit, stamp := r.stamp }
  | none => raise s0 r
/-- FAULT_REPORT (R399): the first report in the order of R403 reaches the Snag unit. -/
def execFaultReport (s : State) : Out :=
  match s.snag.inbox with
  | r :: rest => if alive s then .next (decideReport { s with snag := { s.snag with inbox := rest } } r) else .next s
  | [] => .next s

/-! ## FAULT_RECOVERY (R404 to R408) -/

/-- Quiet period of a class in ns. -/
def quietOf (c : SnagCfg) : Cls → Nat
  | .note => 0
  | .degrade => c.quietD * 1000000
  | .zoneSafe => c.quietZ * 1000000
  | .instSafe | .halt => c.quietI * 1000000
/-- A pair is still asserted, or an assertion of it stamped before now is on its way. -/
def stillAsserted (s : State) (code unit : Nat) : Bool :=
  s.snag.conds.contains (code, unit) || s.snag.forced.contains (code, unit) ||
    s.snag.inbox.any fun r => r.code = code && r.unit = unit && r.stamp < now s
/-- A held pair may recover now (R404, R405). -/
def recovers (s : State) (h : Held) : Bool :=
  !h.preReady && h.cls ≠ .halt && !h.latched && !(h.cls = .instSafe && isConst s) && !stillAsserted s h.code h.unit &&
    h.l + quietOf s.snag.cfg h.cls ≤ now s
/-- A zone that no held pair keeps in SAFE is released to walk to OFF (R403). -/
def releaseZones (s : State) : State :=
  if instSafeHeld s || halted s then s else mapZones s fun z zn => if zoneSafeHeld s z then zn else { zn with snagSafe := false }
/-- The recovery of a pair: counter, stamps, log entries, and the end of its action (R404, R407, R408). -/
def recoverPair (s : State) (h : Held) : State :=
  let stamps := match s.snag.recLog.find? fun x => x.1 = h.code && x.2.1 = h.unit with
    | some x => x.2.2
    | none => []
  let s1 := { s with snag := { s.snag with
    held := s.snag.held.filter fun x => !(x.code = h.code && x.unit = h.unit)
    recov := s.snag.recov.modify h.code (satInc 0xFFFF)
    recLog := (h.code, h.unit, (now s :: stamps).take 8) :: s.snag.recLog.filter fun x => !(x.1 = h.code && x.2.1 = h.unit) } }
  let s2 := logBoth s1 h.code h.unit h.cls h.forced false true (now s) 0
  if h.cls = .zoneSafe || h.cls = .instSafe then releaseZones s2 else s2
/-- FAULT_RECOVERY (R404). -/
def execFaultRecovery (code unit : Nat) (s : State) : Out :=
  match heldOf s code unit with
  | some h => if alive s && recovers s h then .next (recoverPair s h) else .next s
  | none => .next s

/-! ## Orderly power-down (R409) -/

/-- HALT_STAGE_OFF (R409): at h + 100 µs + j × 500 µs the zones of stage S − 1 − j enter OFF. -/
def execHaltStageOff (s : State) : Out :=
  match s.snag.haltAt with
  | some h =>
    let st := (stagesOf s).reverse
    let j := s.snag.haltStep
    if j < st.length && h + 100000 + 500000 * j ≤ now s then
      let g := st.getD j 0
      let zs := (List.range s.zones.length).filter fun z => (zoneD s z).cfg.stage = g
      let s1 := zs.foldl zoneToOff s
      .next { s1 with snag := { s1.snag with haltStep := j + 1 } }
    else .next s
  | none => .next s
/-- HALT_MSF_OFF (R409): 500 µs after the last stage. -/
def execHaltMsfOff (s : State) : Out :=
  match s.snag.haltAt with
  | some h =>
    let n := (stagesOf s).length
    if !s.snag.haltMsf && n ≤ s.snag.haltStep && h + 100000 + 500000 * n ≤ now s then
      .next (pgLow { s with msf := s.msf.stopTo .off (now s), snag := { s.snag with haltMsf := true } })
    else .next s
  | none => .next s
/-- SNG_CMD_HALT (R409): source 0x02, with CONFIRM 0x5A; any other CONFIRM raises 0x01. -/
def execSngCmdHalt (confirm : Nat) (s : State) : Out :=
  if !alive s || !sinceReady s then .next s
  else if confirm = 0x5A then .next (report s 0x02 0 .halt) else .next (note s 0x01 0)

/-! ## ALIVE, snapshots and summaries (R410, R414, R415) -/

/-- ALIVE toggles (R410). -/
def aliveRuns (s : State) : Bool := ready s && !instSafeOrWorse s && (s.caps.taskDone.take 4).any id
/-- ALIVE_TOGGLE (R410): a multiple of ALIVE_HALF µs. Windows in which pair 0 completed its task decide, so a restarting pair counts by
them alone. -/
def execAliveToggle (s : State) : Out :=
  if aliveRuns s && now s % (1000 * max 1 s.snag.cfg.aliveHalf) = 0 then
    .next { s with pins := { s.pins with alive := !s.pins.alive } }
  else .next s
/-- SNG_CMD_SNAPSHOT (R414). -/
def execSngCmdSnapshot (s : State) : Out := if alive s && sinceReady s then .next (takeSnapshot s) else .next s
/-- SNAPSHOT_TIMER (R414): 600 s after the snapshot before. -/
def execSnapshotTimer (s : State) : Out :=
  if alive s && sinceReady s && s.snag.snapAt + 600000000000 ≤ now s then .next (takeSnapshot s) else .next s
/-- CLEAN of a tile summary goes up; at 30 ISO_N falls by 1 (R415). -/
def sumClean (x : BitVec 16) : BitVec 16 :=
  let n := x.toNat
  let iso := bitsOf n 0 4
  let c := bitsOf n 8 8 + 1
  BitVec.ofNat 16 (fields [(if 30 ≤ c then iso - 1 else iso, 0, 4), (bitsOf n 4 4, 4, 4), (if 30 ≤ c then 0 else c, 8, 8)])
/-- CLEAN_PERIOD (R415): every tile whose present period of 24 h in READY is over. -/
def execCleanPeriod (s : State) : Out :=
  let day := 86400000000000
  .next (mapZones s fun _ zn => { zn with tiles := zn.tiles.map fun t =>
    if t.cleanRun + day ≤ s.snag.runNs then { t with summary := sumClean t.summary, cleanRun := t.cleanRun + day } else t })

/-! ## Force bits (R411) -/

/-- A force bit is set: the source is asserted for the unit of SNG_FORCE_UNIT. -/
def forceSet (s : State) (code : Nat) : State :=
  match baseCls code with
  | none => s
  | some cls =>
    if s.snag.forced.any (fun f => f.1 = code) then s else
    let u := s.snag.forceUnit
    let r : FaultRep := { stamp := now s, code, unit := u, cls, forced := true, l := now s, latch := code = 0x44
                          detail := Config.faultDetail code u (now s) }
    { s with snag := { s.snag with forced := (code, u) :: s.snag.forced, inbox := insRep r s.snag.inbox } }
/-- A force bit is cleared: the assertion ends now (R411). -/
def forceClear (s : State) (code : Nat) : State :=
  match s.snag.forced.find? fun f => f.1 = code with
  | none => s
  | some f => { s with snag := { s.snag with
      forced := s.snag.forced.filter fun x => x.1 ≠ code
      held := s.snag.held.map fun h => if h.code = code && h.unit = f.2 then { h with l := now s } else h
      inbox := s.snag.inbox.map fun r => if r.code = code && r.unit = f.2 then { r with l := now s } else r } }
/-- SNG_FORCE_WRITE (R411): a 1 that is not permitted has no effect and raises 0x01. -/
def execSngForceWrite (k : Nat) (w : W32) (s : State) : Out :=
  if !alive s || !sinceReady s || 8 ≤ k then .next s else
  let s1 := (List.range 32).foldl (fun s i => if w.getLsbD i then s else forceClear s (32 * k + i)) s
  if w = 0 then .next s1
  else if injectPermitted s then .next ((setBits w.toNat 32).foldl (fun s i => forceSet s (32 * k + i)) s1)
  else .next (note s1 0x01 0)

/-- SNG_LOG_LO_READ (R412). -/
def execSngLogLoRead (s : State) : Out :=
  if !alive s then .next s else
  match s.snag.log with
  | e :: rest =>
    .next (rpData { s with snag := { s.snag with log := rest, logHi := w32 (e.stamp / 1024) } }
      (word [(e.unit, 0, 11), (e.code, 16, 8), (e.cls, 24, 3), (b2n e.recov, 28, 1), (b2n e.latched, 29, 1), (b2n e.forced, 30, 1),
             (1, 31, 1)]))
  | [] => .next (rpData s 0)

end Sys2Proof.Machine
end

