-- ==== Sys2Proof/Machine/Bist.lean ====
section
/-!
DEFINITION. Built-in self-test (16_self_test.md): start-up classes and rounds, tile tests, memory slices, in-field offers and driver requests;
and the entry into SAFE that ends a start (R50, R96).
-/
namespace Sys2Proof.Machine

/-! ## SAFE (R50, R96) -/

/-- A channel with both switches off. -/
def Chan.off (c : Chan) : Chan := { c with on := false, tail := false, low := false }
/-- A start ends in SAFE with a failure code: every pin at its in-reset level, the cascade lanes idle, the converter and the grids stopped
(R50, R84, R96). -/
def enterSafe (s : State) (fail : Nat) : State :=
  { s with
    su := { s.su with cond := .safe, stepNo := 0xF, fail, waitThermal := false, msfGrid := false, grid := false }
    csc := { s.csc with cxaUp := false, cxbUp := false, cxaDown := false, cxbDown := false, forming := false }
    tcv := { s.tcv with run := false, calAt := none }
    pins := { s.pins with ready := false, thrReq := 7, pgOut := false, alive := false }
    zones := s.zones.map fun zn =>
      { zn.dropAll with
          st := .off, ready := false
          tiles := zn.dropAll.tiles.map fun t => { t.setNact 0 with st := if t.st = .isolated then .isolated else .off, stopping := none, test := none }
          sft := { zn.sft with hold := true, req := true, freqAck := false }
          arrays := zn.dropAll.arrays.map fun a => { a with issue := 0, gateReq := true, gnt := false, gntDur := 0, taint := false } }
    msf := { s.msf.stopTo .off (now s) with chans := s.msf.chans.map Chan.off }
    bist := { s.bist with startCls := 15, sliceRun := false } }

/-! ## Results (R422) -/

/-- BST_RESULT: in step 7 the first failure stays; otherwise the latest test (R422). -/
def setResult (s : State) (pass req : Bool) (cls step unit : Nat) : State :=
  let b := s.bist
  let w := bistWord pass false req cls step unit
  if sinceReady s || req then { s with bist := { b with result := w, failSeen := b.failSeen || !pass } }
  else if b.resFixed then { s with bist := { b with failSeen := b.failSeen || !pass } }
  else { s with bist := { b with result := w, resFixed := !pass, failSeen := b.failSeen || !pass } }
/-- A failing source 0x61 with the DETAIL of R432; it stays asserted until the next start. -/
def failSource (s : State) (unit kind cls step : Nat) (c : Cls) : State :=
  let s1 := report s 0x61 unit c (some (word [(cls, 0, 4), (kind, 4, 4), (step, 8, 8)]))
  { s1 with snag := { s1.snag with conds := if s1.snag.conds.contains (0x61, unit) then s1.snag.conds else (0x61, unit) :: s1.snag.conds } }
/-- An in-field test counts as done, and as failed where it failed. -/
def countDone (s : State) (pass : Bool) : State :=
  if !sinceReady s then s else
  { s with bist := { s.bist with
    done := satInc 0xFFFF s.bist.done, failed := if pass then s.bist.failed else satInc 255 s.bist.failed } }

/-! ## Step 7 (R416, R421, R422) -/

/-- A tile R416 keeps isolated: PERM, or ISO_N at or above PERM_N. -/
def permTile (s : State) (t : Tile) : Bool := t.summary.getLsbD 4 || s.snag.cfg.permN ≤ bitsOf t.summary.toNat 0 4
/-- Tiles of a zone still to be tested in step 7. -/
def untested (s : State) (zn : Zone) : List Nat :=
  (List.range zn.tiles.length).filter fun t => let x := zn.tiles.getD t {}; x.testLast = 3 && !permTile s x
/-- A tile is in TEST. -/
def anyTest (s : State) : Bool := s.zones.any fun zn => zn.tiles.any fun t => t.st = .test
/-- Tiles in TEST. -/
def testsNow (s : State) : Nat := sumN (s.zones.map fun zn => (zn.tiles.filter fun t => t.st = .test).length)
/-- A zone's place among the zones by untested tiles, most first, then lowest z. -/
def insZone (n : Nat → Nat) (z : Nat) : List Nat → List Nat
  | [] => [z]
  | y :: ys => if n y < n z then z :: y :: ys else y :: insZone n z ys
/-- The zones of a round: up to 32, most untested tiles first (R421). -/
def roundZones (s : State) : List Nat :=
  let n (z : Nat) : Nat := (untested s (zoneD s z)).length
  (((List.range s.zones.length).filter fun z => 0 < n z).foldl (fun l z => insZone n z l) []).take 32
/-- A round of the TILE class starts at a sample instant (R421). -/
def startRound (s : State) : State :=
  (roundZones s).foldl (fun s z => match untested s (zoneD s z) with
    | t :: _ => modTile s z t fun x => { x with st := .test, test := some { at_ := now s, startup := true } }
    | [] => s) s
/-- The TILE class runs and no tile is in TEST: the next round is due (R421). -/
def roundDue (s : State) : Bool := running s && s.su.stepNo = 7 && s.bist.startCls = 5 && !anyTest s && (s.zones.any fun zn => !(untested s zn).isEmpty)
/-- The TILE class ends: failed tiles are isolated with cause 4, tiles R416 keeps with cause 5 and PERM (R416, R422). -/
def tileClassEnd (s : State) : State :=
  let f (t : Tile) : Tile := if permTile s t then { t.isolate 5 with summary := t.summary ||| 0x10 }
    else if t.bistFail.isSome then t.isolate 4 else t
  let s1 := mapZones s fun _ zn => { zn with tiles := zn.tiles.map f }
  if s1.zones = s.zones then s1 else takeSnapshot s1
/-- The unit that stands for a whole class in BST_RESULT when it passes: its last one. -/
def lastUnit (s : State) (c : Nat) : Nat := match c with
  | 1 => sumN s.bist.cfg.memSlices - 1
  | 2 => s.bist.cfg.links - 1
  | 3 => 1
  | 4 => s.msf.cfg.nch - 1
  | _ => 0
/-- A lane failure of the LATH class (R384, R422). -/
def laneFail (s : State) (p : Nat × Bool) : State :=
  let s1 := { s with lth := { s.lth with seam := s.lth.seam ||| w32 (2 ^ (2 * p.1 + b2n p.2)) } }
  note s1 0x54 p.1
/-- The outcome of a start-up class other than TILE (R422): the state, and whether the start ends in SAFE. -/
def classOutcome (s : State) (c : Nat) (r : BistResult) : State × Bool :=
  if c = 2 then
    let s1 := r.lanes.foldl laneFail s
    (s1, r.lanes.length < r.failed.length || seamLost s1.lth)
  else if c = 4 then (r.failed.foldl excludeChan s, false)
  else (s, !r.failed.isEmpty)
/-- STARTUP_BIST_CLASS_DONE (R421, R422): the class under way ends; the TILE class once every tile has been tested. Outside step 7 it ends
a tester's request for a class (R431). -/
def execStartupBistClassDone (r : BistResult) (s : State) : Out :=
  let c := s.bist.startCls
  let fin (s : State) : State := { s with bist := { s.bist with durs := s.bist.durs.set c r.dur, startCls := if c = 5 then 16 else c + 1 } }
  if running s && s.su.stepNo = 7 && c ≤ 5 && !halted s then
    if c = 5 then
      if anyTest s || s.zones.any (fun zn => !(untested s zn).isEmpty) then .next s else .next (fin (tileClassEnd s))
    else
      let pass := r.failed.isEmpty
      let s1 := setResult s pass false c (b2n (!pass)) (if pass then lastUnit s c else r.failed.headD 0)
      let (s2, stop) := classOutcome s1 c r
      .next (if stop then enterSafe s2 0x20 else fin s2)
  else
    match s.bist.req with
    | some (cls, _, _) =>
      if alive s && s.bist.reqRun && cls < 5 && cls ≠ 1 then
        let pass := r.failed.isEmpty
        let s1 := setResult s pass true cls (b2n (!pass)) (if pass then lastUnit s cls else r.failed.headD 0)
        .next { s1 with bist := { s1.bist with req := none, reqRun := false, durs := s1.bist.durs.set cls r.dur } }
      else .next s
    | none => .next s
/-- STARTUP_BIST_DONE (R95, R392): every class is complete; formation, or step 8, follows. -/
def execStartupBistDone (s : State) : Out :=
  if running s && s.su.stepNo = 7 && s.bist.startCls = 16 && !halted s && !s.csc.forming && !s.csc.formed then
    .next (beginForming { s with bist := { s.bist with startCls := 15 } })
  else .next s

/-! ## Tile tests (R423 to R425, R430, R432) -/

/-- A tile leaves TEST re-initialised (R148, R424, R425): into START when the command in force carries RUN = 1, else OFF; ISOLATED with cause 4 after a failure. -/
def Tile.leaveTest (t : Tile) (failed : Bool) (k vmax : Nat) : Tile :=
  let t1 := { t with test := none, st := .off, armed := none, watch := [], droopOut := false, overload := false, overCount := 0
                     tripsShort := 0, row := 0, rowHeld := false, hotBefore := false, critBefore := false }
  if failed then t1.isolate 4
  else if t.cmd.run then t1.begin t.cmd k t.v vmax else t1
/-- A driver's or tester's request for this tile is over. -/
def endReq (s : State) (req : Bool) : State := if req then { s with bist := { s.bist with req := none, reqRun := false } } else s
/-- Zone z has an overdue tile (R429). -/
def hasOverdue (s : State) (z : Nat) : Bool :=
  (zoneD s z).tiles.any fun t => t.st ≠ .isolated && t.testRun + (s.bist.cfg.tperiod + 24) * 3600000000000 ≤ s.snag.runNs
/-- The source 0x60 of zone z ends once no tile is overdue (R429). -/
def overdueEnd (s : State) (z : Nat) : State := if hasOverdue s z then s else deassertCond s 0x60 z
/-- TILE_TEST_DONE (R424, R425): at a sample instant after step 8 the tile leaves TEST. `failStep` 0 is a pass. In step 7 a failing tile
gets a mark and a NOTE (R422). -/
def execTileTestDone (z t failStep : Nat) (s : State) : Out :=
  let x := tileD s z t
  match x.test with
  | some k =>
    if x.st ≠ .test || !alive s || !atSample s then .next s else
    let pass := failStep = 0
    let g := gTile s z t
    if k.abandoned then
      .next (updStretch (endReq (modTile s z t fun x => x.leaveTest false (now s) (zoneVmax s z)) k.req) z)
    else
      let s1 := modTile s z t fun x => { x.leaveTest (!pass && !k.startup) (now s) (zoneVmax s z) with
        testRun := s.snag.runNs, testLast := b2n (!pass), testStep := if pass then x.testStep else failStep
        bistFail := if pass || !k.startup then x.bistFail else some failStep }
      let s2 := setResult s1 pass k.req 5 failStep g
      let s3 := if k.startup then (if pass then s2 else note s2 0x61 g)
        else if pass then countDone s2 true
        else takeSnapshot (failSource (countDone s2 false) g 0 5 failStep .degrade)
      .next (updStretch (overdueEnd (endReq { s3 with bist := { s3.bist with durs := s3.bist.durs.set 5 3300 } } k.req) z) z)
  | none => .next s
/-- TILE_TEST_OVERDUE (R429). -/
def execTileTestOverdue (z : Nat) (s : State) : Out :=
  if hasZone s z && sinceReady s && hasOverdue s z then .next (assertCond s 0x60 z .degrade) else .next s

/-- A tile is due (R427). -/
def dueTile (s : State) (t : Tile) : Bool :=
  t.st ≠ .isolated && t.st ≠ .test && t.test.isNone && t.testRun + s.bist.cfg.tperiod * 3600000000000 ≤ s.snag.runNs
/-- The tile of zone z a driver asks for; an isolated one has no way into TEST (R139). -/
def reqTile (s : State) (z : Nat) : Option Nat :=
  match s.bist.req with
  | some (5, g, _) => if s.bist.reqRun then none else match ofGTile s g with
    | some (y, t) => if y = z && (tileD s y t).st ≠ .isolated then some t else none
    | none => none
  | _ => none
/-- The tile offered in zone z: a driver's, else the due one with the earliest due time, then the lowest number (R427, R431). -/
def offered (s : State) (z : Nat) : Option Nat :=
  let zn := zoneD s z
  match reqTile s z with
  | some t => some t
  | none =>
    ((List.range zn.tiles.length).filter fun t => dueTile s (zn.tiles.getD t {})).foldl (fun b t => match b with
      | none => some t
      | some u => if (zn.tiles.getD t {}).testRun < (zn.tiles.getD u {}).testRun then some t else some u) none
/-- Largest profile byte of the zone's class in the context in use (R428). -/
def profPeak (s : State) (z : Nat) : Nat :=
  match profOf s z (now s) with
  | some (c, cl) => maxN ((List.range 64).map (ctxProf c cl))
  | none => 0
/-- Admission of R428. -/
def admitTest (s : State) (z t : Nat) : Bool :=
  let zn := zoneD s z
  match zn.st with
  | .off => true
  | .safe | .hold => false
  | .retain | .mist | .run =>
    if zn.absentAt.isSome then false else
    let w := zn.wCfg - zn.wFailed
    let lim := qdivN 428 (s.bist.cfg.head * zn.ilimEff * (w - zn.w t)) (256 * w)
    let fc : Nat := match zn.fc with
      | some f => max (max f.f0 f.f1) (max f.f2 f.f3)
      | none => 0
    let load := max zn.law.iz.toNat fc
    let p := partOf s zn
    let load2 := if (p.ctxAt (now s)).isSome && p.cadence then max load (profPeak s z * zn.iref / 256) else load
    load2 ≤ lim
/-- The Float refuses TEST entry (R181): a failed neighbour, or a tile of the zone in TEST. -/
def refuseTest (zn : Zone) (t : Nat) : Bool :=
  ((zn.tiles.getD t {}).cfg.nbrs.any zn.failed) || zn.tiles.any fun x => x.st = .test || x.test.isSome
/-- Zones by the due time of what they offer, then global number (R427). -/
def offerOrder (s : State) : List (Nat × Nat) :=
  let l := (List.range s.zones.length).filterMap fun z => (offered s z).map fun t => (z, t)
  let key (x : Nat × Nat) : Nat := (tileD s x.1 x.2).testRun
  l.foldl (fun acc x =>
    let (a, b) := acc.partition fun y => key y ≤ key x
    a ++ [x] ++ b) []
/-- Tests in progress, those about to enter TEST among them. -/
def testsOut (s : State) : Nat := sumN (s.zones.map fun zn => (zn.tiles.filter fun t => t.st = .test || t.test.isSome).length)
/-- One offer (R427, R428, R181). -/
def offerOne (s : State) (x : Nat × Nat) : State :=
  let (z, t) := x
  let req := reqTile s z = some t
  if 32 ≤ testsOut s then s
  else if !admitTest s z t then modTile s z t fun y => { y with testRefused := false }
  else if refuseTest (zoneD s z) t then modTile s z t fun y => { y with testRefused := true }
  else
    let s1 := modTile s z t fun y => { y with testRefused := false, test := some { req } }
    if req then { s1 with bist := { s1.bist with reqRun := true } } else s1
/-- TILE_TEST_OFFER (R427, R428) at a 1 ms boundary. -/
def offerTests (s : State) : State := if ready s && s.cores.run1 then (offerOrder s).foldl offerOne s else s

/-! ## Memory slices (R426, R432) -/

/-- MEM_SLICE_TEST (R426, R431): every MGAP ms, or back to back in a driver's pass. -/
def execMemSliceTest (s : State) : Out :=
  if !alive s || s.bist.sliceRun then .next s
  else if (memReq s).isSome then .next { s with bist := { s.bist with sliceRun := true } }
  else if ready s && s.bist.sliceAt + 1000000 * max 1 s.bist.cfg.mgap ≤ now s then
    .next { s with bist := { s.bist with sliceRun := true, sliceAt := now s } }
  else .next s
/-- The next slice of the scheduled pass: the next memory after the last, and a full pass counted after the last memory (R426). -/
def nextSlice (s : State) : State :=
  let b := s.bist
  if b.slice + 1 < b.cfg.memSlices.getD b.memNo 0 then { s with bist := { b with slice := b.slice + 1 } }
  else if b.memNo + 1 < b.cfg.memSlices.length then { s with bist := { b with slice := 0, memNo := b.memNo + 1 } }
  else { s with bist := { b with slice := 0, memNo := 0, passes := if sinceReady s then satInc 255 b.passes else b.passes } }
/-- A failing slice (R432): memory 2 is the Float tables, one slice per zone (assumption 47). -/
def sliceFail (s : State) (m i : Nat) (two : Bool) : State :=
  let c : Cls := if !two then .degrade else if m = 2 then .zoneSafe else .instSafe
  let s1 := { s with bist := { s.bist with fails := if sinceReady s then satInc 255 s.bist.fails else s.bist.fails } }
  failSource s1 (if m = 2 then i else 0) (if m = 2 then 1 else 2) 1 1 c
/-- MEM_SLICE_DONE (R426, R432): the slice's users have it back unchanged. -/
def execMemSliceDone (oneSym twoSym : Bool) (s : State) : Out :=
  if !s.bist.sliceRun then .next s else
  let (m, i) := curSlice s
  let pass := !oneSym && !twoSym
  let req := memReq s
  let s0 := { s with bist := { s.bist with sliceRun := false } }
  let s1 := if pass then s0 else sliceFail s0 m i twoSym
  match req with
  | none => .next (nextSlice (setResult (countDone s1 pass) pass false 1 (b2n (!pass)) (sliceNo s m i)))
  | some _ =>
    let last := s.bist.cfg.memSlices.getD m 0 ≤ i + 1
    let s2 := { s1 with bist := { s1.bist with reqSlice := i + 1 } }
    if pass && !last then .next s2
    else .next (endReq (setResult (countDone s2 pass) pass true 1 (b2n (!pass)) (sliceNo s m i)) true)

/-! ## Driver requests (R419, R431) -/

/-- A request is refused: REFUSED. -/
def bistRefuse (s : State) : State := { s with bist := { s.bist with refused := true } }
/-- A request that runs at once on a named tile while READY is low (R431). -/
def tileAtOnce (s : State) (g : Nat) : State :=
  match ofGTile s g with
  | some (z, t) =>
    if (tileD s z t).st = .off && !refuseTest (zoneD s z) t && testsNow s < 32 then
      let s1 := modTile s z t fun x => { x with st := .test, test := some { at_ := now s, req := true } }
      { s1 with bist := { s1.bist with req := some (5, g, now s), reqRun := true, refused := false } }
    else bistRefuse s
  | none => bistRefuse s
/-- BST_RUN (R419, R431). -/
def execBstRun (cls target : Nat) (s : State) : Out :=
  if !alive s then .next s
  else if life s = some .deployed then .next (note s 0x01 0)
  else
    let busy := s.bist.req.isSome || (s.su.stepNo = 7 && s.bist.startCls ≤ 5)
    let take (run : Bool) : State :=
      { s with bist := { s.bist with req := some (cls, target, now s), reqRun := run, reqSlice := 0, refused := false } }
    let low := life s = some .manufacture || life s = some .returned
    if busy then .next (bistRefuse s)
    else if ready s then
      if driverTests s && ((cls = 5 && (ofGTile s target).isSome) || (cls = 1 && target < 5)) then .next (take (cls = 1))
      else .next (bistRefuse s)
    else if !low then .next (bistRefuse s)
    else if cls = 5 then .next (tileAtOnce s target)
    else if cls < 5 && (cls ≠ 1 || target < 5) then .next (take true)
    else .next (bistRefuse s)
/-- BST_REQUEST_DROP (R431): a tile request not admitted within 1 s. -/
def execBstRequestDrop (s : State) : Out :=
  match s.bist.req with
  | some (5, _, t) =>
    if !s.bist.reqRun && t + 1000000000 ≤ now s then .next { s with bist := { s.bist with req := none, refused := true } } else .next s
  | _ => .next s

end Sys2Proof.Machine
end

