-- ==== Sys2Proof/Machine/Boundary.lean ====
section
/-!
DEFINITION. The boundaries of the control cores (R38): the 10 µs boundary of R312, the 1 ms boundary of R316, the end of a grace (R341); and the
time base and the lockstep pairs (01_architecture.md R39, R40, R45, R46).
-/
namespace Sys2Proof.Machine

/-! ## ENFORCEMENT_BOUNDARY (R305, R308, R312 to R320, R323, R325) -/

/-- The Floats work on the grid: from the start of step 7 (R28). -/
def onGrid (s : State) : Bool := running s && s.su.grid
/-- A window of the current-cap task is over; the latest four are kept (R410). -/
def Caps.pushTask (c : Caps) (ok : Bool) : Caps := { c with taskDone := (ok :: c.taskDone).take 4 }
/-- I_WIN of the window that ends: the mean of im, in A, rounded down (R309). -/
def iWinOf (m : Msf) : Nat := if m.imCnt = 0 then 0 else (m.imSum / (m.imCnt : Int) / 100).toNat
/-- The MSF's sums of the window begin anew. -/
def clearIm (s : State) : State := { s with msf := { s.msf with imSum := 0, imCnt := 0 } }
/-- What waits for a boundary takes effect (R305, R310, R396), and the effective caps are formed (R304). -/
def boundaryInputs (s : State) (b : Nat) : State :=
  formCaps (shareDue (kcalDue { s with caps := s.caps.swDue b }) b)
/-- Pair 0's run at boundary b since READY: energy, tests, stages, groups. -/
def capRun (s : State) (b : Nat) : State :=
  let s1 := (List.range s.zones.length).foldl takeZone s
  let e := eWin s1 s1.caps.kcal
  let i := iWinOf s1.msf
  let s2 := zoneCodes (accrue (clearIm s1) b)
  let s3 := { s2 with caps := windowSums s2.caps e i b (s2.su.readyAt.getD 0) }
  kcalStale (proposals (capStages s3 b))
/-- A boundary with pair 0 stopped: the Floats keep their energy (R308), and the windows that end begin anew. -/
def capIdle (s : State) (b : Nat) : State :=
  let s1 := { s with zones := s.zones.map fun (zn : Zone) => { zn.carry with izSum := 0, izCnt := 0 } }
  clearIm { s1 with caps := (s1.caps.endWindows b).pushTask false }
/-- What pair 0 keeps at a checkpoint, and what a run that misses its deadline gives way to (R39, R40). -/
def ckptOf (s : State) : Ckpt :=
  { codes := s.caps.codes, zones := s.caps.zones, cthr := s.caps.cthr, stage2 := s.caps.stage2, gateOrder := s.caps.gateOrder
    dwell := (s.caps.overDwell, s.caps.curDwell, s.caps.relDwell), groups := s.caps.groups, therm := s.thm.zones, treq := s.thm.treq }
/-- What stands before a run is kept. -/
def modUndo (s : State) (f : Undo → Undo) : State := { s with cores := { s.cores with undo := f s.cores.undo } }
/-- ENFORCEMENT_BOUNDARY (R312). -/
def execEnforcementBoundary (s : State) : Out :=
  let b := now s
  if !onGrid s || b % 10000 ≠ 0 then .next s
  else if !s.cores.run0 then .next (capIdle s b)
  else
    let s1 := if s.caps.taskDone.head? = some true then { s with cores := { s.cores with misses := 0 } } else s
    let s2 := boundaryInputs (modUndo s1 fun u => { u with cap := some (ckptOf s1) }) b
    let s3 := if sinceReady s2 then capRun s2 b else clearIm s2
    .next (formLimits { s3 with caps := s3.caps.pushTask true })

/-! ## POWER_WINDOW_BOUNDARY (R316, R334, R338, R342, R396, R427) -/

/-- Stage 2 at a 1 ms boundary (R316): an action, or the release step R313 and R314 permit. -/
def stage2Step (s : State) : State :=
  if s.caps.isOver && exhausted s then stage2Act s
  else if s.caps.stage2 && s.caps.gateOrder.isEmpty && s.caps.cfg.relDwell ≤ s.caps.relDwell then stage2Release s else s
/-- Checkpoints of the running pairs (R40). -/
def takeCkpt (s : State) : State :=
  let c0 := if s.cores.run0 then some (ckptOf s) else s.cores.ck0
  let c1 := if s.cores.run1 then some (now s, s.fce.adapt) else s.cores.ck1
  { s with cores := { s.cores with ck0 := c0, ck1 := c1 } }
/-- Pair 0's work at a 1 ms boundary. No band is evaluated once a start has ended without READY (R96). -/
def powerRun (s : State) : State :=
  let s0 := modUndo s fun u => { u with ms := some (ckptOf s) }
  let s1 := if s0.su.stepNo = 0xE then s0 else evalBands s0
  let s2 := if sinceReady s1 then proposals (enforceAll (stage2Step (throttle s1))) else s1
  formLimits (sendLevel (raiseVz s2))
/-- Pair 1 takes up the log records that wait at a 1 ms boundary (R38). -/
def takeBatch (s : State) : State :=
  if s.cores.run1 then { s with nvm := { s.nvm with batch := s.nvm.queue.length + b2n s.nvm.fold.isSome } } else s
/-- POWER_WINDOW_BOUNDARY (R316). It follows ENFORCEMENT_BOUNDARY and precedes GRACE_END of its instant (R316, R344). -/
def execPowerWindowBoundary (s : State) : Out :=
  if !alive s || now s % 1000000 ≠ 0 then .next s
  else if !onGrid s then .next (takeBatch s) else
  let s1 := if s.cores.run0 then powerRun s else s
  let s2 := offerTests s1
  .next (takeCkpt (takeBatch (if s.cores.run0 && sinceReady s then msReport s2 else s2)))

/-- GRACE_END (R341): at a 10 µs boundary, every zone whose grace is over. An unacknowledged level is noted once (R340). -/
def execGraceEnd (s : State) : Out :=
  if onGrid s && s.cores.run0 && now s % 10000 = 0 && !(graceDue s).isEmpty then
    .next (formLimits (proposals ((graceDue s).foldl graceZone (ackLateNote s))))
  else .next s

/-! ## Time base (R45, R46) -/

/-- TBS_NOW_LO_READ (R46): the low half, with a copy of the high half. -/
def execTbsNowLoRead (s : State) : Out :=
  if alive s then
    .next (rpData { s with tb := { s.tb with hiCopy := w32 (s.tb.count / 2 ^ 32) } } (w32 s.tb.count))
  else .next s
/-- REFCLK_LOST (R45): the count runs on the holdover oscillator. -/
def execRefclkLost (s : State) : Out :=
  if alive s && s.tb.running && !s.tb.holdover then
    .next (assertCond { s with tb := { s.tb with
      lock := false, holdover := true, holdoverSeen := true, holdoverAt := now s } } 0x08 0 .degrade)
  else .next s
/-- HOLDOVER_TIMEOUT (R45): 10 ms of holdover is INSTANCE-SAFE. -/
def execHoldoverTimeout (s : State) : Out :=
  if alive s && s.tb.holdover && s.tb.holdoverAt + 10000000 ≤ now s then .next (report s 0x08 0 .instSafe) else .next s
/-- REFCLK_RETURN (R45): the multiplier locks again and the source is no longer asserted. -/
def execRefclkReturn (s : State) : Out :=
  if alive s && s.tb.holdover then
    .next (deassertCond { s with tb := { s.tb with lock := true, holdover := false } } 0x08 0)
  else .next s

/-! ## The core pairs (R39, R40) -/

/-- The pair that runs a task (R38). -/
def Task.pair : Task → Nat
  | .currentCap | .powerCap | .energyThermal | .group => 0
  | .adaptation | .learning | .calibration | .housekeeping => 1
/-- The cap loop's settings of a 10 µs run given up: codes, zone codes, gating and dwells. -/
def dropCap (s : State) : State :=
  match s.cores.undo.cap with
  | some c =>
    let back (z : Nat) (x : CapZone) : CapZone := match c.zones[z]? with
      | some y => { x with zcode := y.zcode, gated := y.gated }
      | none => x
    { s with caps := { s.caps with
      codes := c.codes, zones := s.caps.zones.mapIdx back, gateOrder := c.gateOrder
      overDwell := c.dwell.1, curDwell := c.dwell.2.1, relDwell := c.dwell.2.2 } }
  | none => s
/-- The set-points, frequency limits and stage 2 of a 1 ms run given up. -/
def dropPower (s : State) : State :=
  match s.cores.undo.ms with
  | some c =>
    let back (z : Nat) (x : CapZone) : CapZone := match c.zones[z]? with
      | some y => { x with vz := y.vz, fcap := y.fcap }
      | none => x
    { s with caps := { s.caps with zones := s.caps.zones.mapIdx back, cthr := c.cthr, stage2 := c.stage2 } }
  | none => s
/-- The bands, the throttle request and the enforcement of a 1 ms run given up. -/
def dropTherm (s : State) : State :=
  match s.cores.undo.ms with
  | some c => sendLevel { s with thm := { s.thm with zones := c.therm, treq := c.treq } }
  | none => s
/-- The group codes and proposals of a run given up. -/
def dropGroups (s : State) : State :=
  match s.cores.undo.cap with
  | some c => { s with caps := { s.caps with groups := s.caps.groups.mapIdx fun g x =>
      let y := c.groups.getD g {}
      { x with code := y.code, props := y.props, emg := y.emg } } }
  | none => s
/-- An adaptation run given up, unless its slot has been loaded since. -/
def dropAdapt (s : State) : State :=
  match s.cores.undo.adapt with
  | some (n, ws, ad) =>
    if now s < s.fce.slotAt.getD n 0 + 20000 then s else { s with fce := { s.fce with slots := s.fce.slots.set n ws, adapt := ad } }
  | none => s
/-- A step's learning given up. -/
def dropLearn (s : State) : State :=
  match s.cores.undo.learn with
  | some (p, g, ws) => { s with pcx := s.pcx.modGen p g fun x => { x with words := ws } }
  | none => s
/-- A calibration given up. -/
def dropCal (s : State) : State :=
  match s.cores.undo.cal with
  | some (k, u, r, a, c) =>
    setCond { s with caps := { s.caps with kcal := k, uncal := u, rejects := r, calAt := a, calAcc := c, kcalNext := none } } u 0x39 0 .degrade
  | none => s
/-- What the abandoned run of a task had set (R39). Energy it had accrued stays accrued (R308). -/
def dropRun (s : State) : Task → State
  | .currentCap => dropCap s
  | .powerCap => dropPower s
  | .energyThermal => dropTherm s
  | .group => dropGroups s
  | .adaptation => dropAdapt s
  | .learning => dropLearn s
  | .calibration => dropCal s
  | .housekeeping => { s with nvm := { s.nvm with batch := 0 } }
/-- TASK_DEADLINE_MISS (R39): the run is abandoned, and the limit updates of pair 0 with it; two current-cap misses in a row are DEGRADE. -/
def execTaskDeadlineMiss (pair : Nat) (task : Task) (s : State) : Out :=
  if !running s || pair ≠ Task.pair task then .next s else
  let s1 := dropRun (note s 0x09 0) task
  let s2 := if pair = 0 then { s1 with caps := { s1.caps with out := [] } } else s1
  if task = .currentCap then
    let n := satInc 2 s2.cores.misses
    let s3 : State := { s2 with caps := { s2.caps with taskDone := s2.caps.taskDone.set 0 false }, cores := { s2.cores with misses := n } }
    .next (if 2 ≤ n then report s3 0x09 0 .degrade else s3)
  else .next s2
/-- A second disagreement of a pair within 1 s (R40). -/
def disSoon (last : Option Nat) (t : Nat) : Bool := match last with
  | some a => t < a + 1000000000
  | none => false
/-- LOCKSTEP_DISAGREE (R40): the pair discards the write and restarts; the other pair keeps running. Of pair 0 that is the limit updates,
of pair 1 a KCAL not yet in force. -/
def execLockstepDisagree (pair : Nat) (s : State) : Out :=
  if !alive s || 2 ≤ pair then .next s
  else
    let cls := if disSoon (if pair = 0 then s.cores.dis0 else s.cores.dis1) (now s) then Cls.instSafe else .note
    let s1 := report s 0x0A 0 cls
    if pair = 0 then
      .next { s1 with cores := { s1.cores with run0 := false, dis0 := some (now s) }, caps := { s1.caps with out := [] } }
    else
      .next { s1 with
        cores := { s1.cores with run1 := false, dis1 := some (now s) }, caps := { s1.caps with kcalNext := none }
        nvm := { s1.nvm with batch := 0 } }
/-- Pair 0's settings as its checkpoint holds them. -/
def restore0 (s : State) : State :=
  match s.cores.ck0 with
  | some c =>
    let back (z : Nat) (x : ThmZone) : ThmZone := match c.therm[z]? with
      | some y => { x with code := y.code, gated := y.gated, enf := y.enf, watch := y.watch }
      | none => x
    { s with
      caps := { s.caps with codes := c.codes, zones := c.zones, cthr := c.cthr, stage2 := c.stage2, gateOrder := c.gateOrder
                            overDwell := 0, curDwell := 0, relDwell := 0 }
      thm := { s.thm with zones := s.thm.zones.mapIdx back } }
  | none => s
/-- Pair 1's working copies as its checkpoint holds them: a set loaded after it starts from its own weights (R222). -/
def restore1 (s : State) : State :=
  match s.cores.ck1 with
  | some (t, ad) => { s with fce := { s.fce with adapt := ad.filter fun x => s.fce.slotAt.getD x.slot 0 ≤ t } }
  | none => s
/-- CORE_PAIR_RESTART_DONE (R40): the pair runs on from its last checkpoint. -/
def execCorePairRestartDone (pair : Nat) (s : State) : Out :=
  if pair = 0 && !s.cores.run0 then .next { restore0 s with cores := { s.cores with run0 := true } }
  else if pair = 1 && !s.cores.run1 then .next { restore1 s with cores := { s.cores with run1 := true } }
  else .next s

end Sys2Proof.Machine
end

