-- ==== Sys2Proof/Machine/Crypto.lean ====
section
/-!
DEFINITION. The digest and the signature of the image (03_startup_fuses_and_image.md R118, R119): SHA-384 and ECDSA over P-384, which the
spec takes from FIPS 180-4 and FIPS 186-5 (assumption 103).
-/
namespace Sys2Proof.Machine

/-! ## SHA-384 -/

/-- Bits tried from `b` − 1 down for the k-th root of `x`, rounded down. -/
def rootFrom (k x : Nat) : Nat → Nat → Nat
  | 0, r => r
  | b + 1, r => rootFrom k x b (if (r + 2 ^ b) ^ k ≤ x then r + 2 ^ b else r)
/-- The first 64 bits of the fractional part of the k-th root of a number below 512. -/
def rootFrac (k p : Nat) : BitVec 64 := BitVec.ofNat 64 (rootFrom k (p * 2 ^ (64 * k)) 69 0)
/-- The primes from 2 to 409, of which there are 80. -/
def smallPrimes : List Nat := (List.range 410).filter fun n => 2 ≤ n && (List.range n).all fun d => d < 2 || n % d ≠ 0
/-- The round constants: cube roots of the first 80 primes. -/
def shaK : List (BitVec 64) := smallPrimes.map (rootFrac 3)

/-- The eight working words. -/
structure Sha where
  (a b c d e f g h : BitVec 64)
  deriving DecidableEq, Repr

/-- The starting words of SHA-384: square roots of the ninth to the sixteenth prime. -/
def shaInit : Sha :=
  let w (i : Nat) : BitVec 64 := rootFrac 2 (smallPrimes.getD (8 + i) 0)
  { a := w 0, b := w 1, c := w 2, d := w 3, e := w 4, f := w 5, g := w 6, h := w 7 }
/-- XOR of three rotations. -/
def rot3 (x : BitVec 64) (i j k : Nat) : BitVec 64 := x.rotateRight i ^^^ x.rotateRight j ^^^ x.rotateRight k
/-- One round with constant `k` and schedule word `w`. -/
def Sha.round (s : Sha) (k w : BitVec 64) : Sha :=
  let t := s.h + rot3 s.e 14 18 41 + ((s.e &&& s.f) ^^^ (~~~s.e &&& s.g)) + k + w
  let u := rot3 s.a 28 34 39 + ((s.a &&& s.b) ^^^ (s.a &&& s.c) ^^^ (s.b &&& s.c))
  { a := t + u, b := s.a, c := s.b, d := s.c, e := s.d + t, f := s.e, g := s.f, h := s.g }
/-- The word of the schedule that follows sixteen. -/
def shaNext (w : List (BitVec 64)) : BitVec 64 :=
  let x := w.getD 14 0
  let y := w.getD 1 0
  (x.rotateRight 19 ^^^ x.rotateRight 61 ^^^ x >>> 6) + w.getD 9 0 + (y.rotateRight 1 ^^^ y.rotateRight 8 ^^^ y >>> 7) + w.getD 0 0
/-- The rounds over a block whose next sixteen schedule words are `w`. -/
def shaRounds : List (BitVec 64) → List (BitVec 64) → Sha → Sha
  | [], _, s => s
  | k :: ks, w, s => shaRounds ks (w.tail ++ [shaNext w]) (s.round k (w.headD 0))
/-- A big-endian number of bytes. -/
def beNat (bs : List Nat) : Nat := bs.foldl (fun a b => 256 * a + b) 0
/-- One block of 128 bytes taken in. -/
def Sha.block (s : Sha) (bs : List Nat) : Sha :=
  let r := shaRounds shaK ((List.range 16).map fun i => BitVec.ofNat 64 (beNat ((bs.drop (8 * i)).take 8))) s
  { a := s.a + r.a, b := s.b + r.b, c := s.c + r.c, d := s.d + r.d, e := s.e + r.e, f := s.f + r.f, g := s.g + r.g, h := s.h + r.h }
/-- n blocks taken in. -/
def Sha.blocks : Nat → Sha → List Nat → Sha
  | 0, s, _ => s
  | n + 1, s, bs => Sha.blocks n (s.block (bs.take 128)) (bs.drop 128)
/-- The n big-endian bytes of a number. -/
def beBytes (n x : Nat) : List Nat := (List.range n).map fun i => bitsOf x (8 * (n - 1 - i)) 8
/-- The 48 bytes of the SHA-384 digest. -/
def sha384 (m : List Nat) : List Nat :=
  let n := m.length
  let p := m ++ [0x80] ++ List.replicate ((239 - n % 128) % 128) 0 ++ beBytes 16 (8 * n)
  let r := Sha.blocks (p.length / 128) shaInit p
  [r.a, r.b, r.c, r.d, r.e, r.f].flatMap fun w => beBytes 8 w.toNat

/-! ## P-384 -/

/-- The field's prime. -/
def p384 : Nat := 2 ^ 384 - 2 ^ 128 - 2 ^ 96 + 2 ^ 32 - 1
/-- The order of the base point. -/
def n384 : Nat := 0xFFFFFFFFFFFFFFFFFFFFFFFFFFFFFFFFFFFFFFFFFFFFFFFFC7634D81F4372DDF581A0DB248B0A77AECEC196ACCC52973
/-- The coefficient b of y² = x³ − 3x + b. -/
def b384 : Nat := 0xB3312FA7E23EE7E4988E056BE3F82D19181D9C6EFE8141120314088F5013875AC656398D8A2ED19D2A85C8EDD3EC2AEF
/-- The base point. -/
def g384 : Nat × Nat :=
  (0xAA87CA22BE8B05378EB1C71EF320AD746E1D3B628BA79B9859F741E082542A385502F25DBF55296C3A545E3872760AB7,
   0x3617DE4A96262C6F5D9E98BF9292DC29F8F41DBD289A147CE9DA3113B5F0B8C00A60B1CE1D7E819D7A431D7C90EA0E5F)

/-- x to the power of the low `k` bits of e, modulo m. -/
def powMod (m x e : Nat) : Nat → Nat
  | 0 => 1 % m
  | k + 1 =>
    let r := powMod m x (e / 2) k
    r * r % m * (if e % 2 = 1 then x else 1) % m
/-- Inverse modulo a prime of 384 bits. -/
def invMod (m x : Nat) : Nat := powMod m x (m - 2) 384
/-- A point of the curve; none is the point at infinity. -/
abbrev Pt := Option (Nat × Nat)
/-- The third point's coordinates on the line of slope `l` through two points, mirrored. -/
def chord (l x1 y1 x2 : Nat) : Pt :=
  let x3 := (l * l + 2 * p384 - x1 - x2) % p384
  some (x3, (l * (x1 + p384 - x3) + p384 - y1) % p384)
/-- Sum of two points. -/
def ptAdd : Pt → Pt → Pt
  | none, q => q
  | p, none => p
  | some (x1, y1), some (x2, y2) =>
    if x1 = x2 then
      if y1 = y2 && y1 ≠ 0 then chord (3 * (x1 * x1 + p384 - 1) % p384 * invMod p384 (2 * y1 % p384) % p384) x1 y1 x2 else none
    else chord ((y2 + p384 - y1) % p384 * invMod p384 ((x2 + p384 - x1) % p384) % p384) x1 y1 x2
/-- The low `k` bits of e times a point. -/
def ptMul (e : Nat) (p : Pt) : Nat → Pt
  | 0 => none
  | k + 1 =>
    let r := ptMul (e / 2) p k
    let d := ptAdd r r
    if e % 2 = 1 then ptAdd d p else d
/-- A public key of 97 bytes: 0x04, X and Y; none where it is no point of the curve. -/
def keyPoint (key : List Nat) : Pt :=
  let x := beNat ((key.drop 1).take 48)
  let y := beNat ((key.drop 49).take 48)
  if key.length = 97 && key.headD 0 = 4 && x < p384 && y < p384 && y * y % p384 = (x * x * x + 3 * (p384 - x) + b384) % p384 then some (x, y)
  else none
/-- The signature (r, s) of a digest verifies under a key (FIPS 186-5, 6.4.2). -/
def ecdsaOk (key digest : List Nat) (r s : Nat) : Bool :=
  match keyPoint key with
  | none => false
  | some q =>
    let w := invMod n384 s
    let u := ptMul (beNat digest * w % n384) (some g384) 384
    let v := ptMul (r * w % n384) (some q) 384
    1 ≤ r && r < n384 && 1 ≤ s && s < n384 && (match ptAdd u v with
      | some (x, _) => x % n384 = r
      | none => false)

end Sys2Proof.Machine
end

