-- ==== Sys2Proof/Machine/Image.lean ====
section
/-!
DEFINITION. The flash's bytes and the configuration image in them (03_startup_fuses_and_image.md R113 to R122): the byte store, the header
and the section table as they are laid out, the checks of step 3a and of step 3c with the ranges every chapter states, and what a loaded
image makes of the block.
-/
namespace Sys2Proof.Machine

/-- `x` lies from `lo` to `hi`. -/
def inR (lo hi x : Nat) : Bool := lo ≤ x && x ≤ hi

/-! ## The byte store (R112, R121) -/

/-- What an address not listed reads as: the erased flash (assumption 4). -/
def erasedByte : Byte := 0xFF
/-- A flash byte. -/
def flashGet (m : List Host.Cell) (a : Nat) : Byte := match m.find? fun c => c.1 = a with
  | some c => c.2
  | none => erasedByte
/-- A byte written; the list stays ascending and lists no erased byte. -/
def flashPut : List Host.Cell → Nat → Byte → List Host.Cell
  | [], a, b => if b = erasedByte then [] else [(a, b)]
  | c :: cs, a, b =>
    if c.1 < a then c :: flashPut cs a b
    else
      let rest := if c.1 = a then cs else c :: cs
      if b = erasedByte then rest else (a, b) :: rest
/-- A 4 KiB sector erased. -/
def flashErase (m : List Host.Cell) (addr : Nat) : List Host.Cell := m.filter fun c => c.1 / 4096 ≠ addr / 4096
/-- Bytes programmed from `base` on: a program only clears bits (assumption 61). -/
def flashProgram (m : List Host.Cell) (base : Nat) (bytes : List Nat) : List Host.Cell :=
  (bytes.mapIdx fun i b => (base + i, BitVec.ofNat 8 b)).foldl (fun m x => flashPut m x.1 (flashGet m x.1 &&& x.2)) m
/-- The canonical form: strictly ascending addresses, no erased byte listed. -/
def Memory.wf : List Host.Cell → Bool
  | [] => true
  | c :: cs => decide (c.2 ≠ erasedByte) && cs.all (fun d => decide (c.1 < d.1)) && Memory.wf cs
/-- The n bytes from address a on. -/
def flashBytes (m : List Host.Cell) (a n : Nat) : List Nat := (List.range n).map fun i => (flashGet m (a + i)).toNat
/-- A little-endian number of bytes. -/
def leNat (bs : List Nat) : Nat := bs.foldr (fun b a => b + 256 * a) 0
/-- The little-endian number of n bytes at an address of the flash. -/
def flashLe (m : List Host.Cell) (a n : Nat) : Nat := leNat (flashBytes m a n)
/-- The n little-endian words from address a on. -/
def flashWords (m : List Host.Cell) (a n : Nat) : List W32 := (List.range n).map fun i => w32 (flashLe m (a + 4 * i) 4)

/-! ## Header (R116, R119) -/

/-- Entry i of the section table. -/
def sectionAt (m : List Host.Cell) (i : Nat) : Section :=
  let a := 0x030 + 16 * i
  { type := flashLe m a 2, offset := flashLe m (a + 4) 4, length := flashLe m (a + 8) 4 }
/-- The runs of bytes that the header table does not name, as address and length. -/
def headerGaps : List (Nat × Nat) := [(0x00A, 2), (0x016, 2), (0x026, 10), (0x191, 0xE6F)]
/-- The image header in the flash. -/
def headerOf (m : List Host.Cell) : Header :=
  let flags := flashLe m 0x00C 4
  { magicOk := decide (flashBytes m 0 4 = [0x47, 0x4C, 0x44, 0x33]), format := flashLe m 0x004 2, part := flashLe m 0x006 2
    major := flashLe m 0x008 1, minor := flashLe m 0x009 1, deploy := flags.testBit 0, ret := flags.testBit 1
    flagsOther := decide (4 ≤ flags), imageLen := flashLe m 0x010 4, nvMode := flashLe m 0x014 1, nvSckDiv := flashLe m 0x015 1
    configId := w32 (flashLe m 0x018 4), logBase := flashLe m 0x01C 4, fhSectors := flashLe m 0x020 2, sdSectors := flashLe m 0x022 2
    cntSectors := flashLe m 0x024 2, sections := (List.range 16).map (sectionAt m), pubkey := flashBytes m 0x130 97
    otherZero := headerGaps.all fun g => (flashBytes m g.1 g.2).all (· = 0) }
/-- The first two checks of R119, made at the end of step 3a; 0 where both pass. -/
def headerCode (h : Header) (density : Nat) : Nat :=
  if !h.magicOk || h.format ≠ 1 || h.part ≠ 0x06D3 || h.major ≠ 3 || h.minor ≠ 1 then 0x11
  else if h.imageLen % 4096 ≠ 0 || h.imageLen < 8192 || 2 ^ density < 8 * h.imageLen || 2 < h.nvMode || !inR 10 255 h.nvSckDiv then 0x14
  else 0
/-- The read mode of the body: the header's where the SFDP table offers it, else single SPI (R115, R122). -/
def bodyMode (h : Header) (d : Discovery) : Nat :=
  if (h.nvMode = 1 && !d.quad114) || (h.nvMode = 2 && !d.quad144) then 0 else h.nvMode
/-- Two sections overlap. -/
def overlap (a b : Section) : Bool := a.offset < b.offset + b.length && b.offset < a.offset + a.length
/-- Sections in pairs do not overlap. -/
def noOverlap : List Section → Bool
  | [] => true
  | a :: rest => rest.all (fun b => !overlap a b) && noOverlap rest
/-- A section's place and length (R117): contexts are records of 576 bytes, model sets 1 to 64 slots of 4 KiB. -/
def placeOk (h : Header) (x : Section) : Bool :=
  let lenOk := if x.type = 3 then x.length % 576 = 0 else if x.type = 4 then x.length % 4096 = 0 && inR 1 64 (x.length / 4096) else true
  x.type ≤ 5 && x.offset % 4096 = 0 && 4096 ≤ x.offset && x.offset + x.length ≤ h.imageLen - 4096 && lenOk
/-- The section table and the log area (R116, R117, R119). -/
def tableOk (h : Header) (density : Nat) : Bool :=
  let used := h.sections.filter fun x => x.type ≠ 0
  let count (t : Nat) : Nat := (used.filter fun x => x.type = t).length
  let once := [1, 2, 4, 5].all fun t => count t = 1
  let logOk := h.logBase % 65536 = 0 && h.imageLen ≤ h.logBase && ([h.fhSectors, h.sdSectors, h.cntSectors].all fun n => 16 ≤ n) &&
    8 * (h.logBase + 4096 * (h.fhSectors + h.sdSectors + h.cntSectors)) ≤ 2 ^ density
  h.otherZero && once && count 3 ≤ 1 && used.all (placeOk h) && noOverlap used && logOk

/-! ## The sections' content (R109, R117) -/

/-- The section of a type, empty where the image has none. -/
def sectionOf (h : Header) (t : Nat) : Section := (h.sections.find? fun x => x.type = t).getD {}
/-- Tile g's user calibration, 8 bytes in tile order. -/
def userCalAt (m : List Host.Cell) (a g : Nat) : UserCal :=
  let b := a + 8 * g
  { vratio := flashLe m b 2, iratio := flashLe m (b + 2) 2, vofsU := signed 16 (flashLe m (b + 4) 2), tofsU := signed 16 (flashLe m (b + 6) 2) }
/-- The zones with the user calibration of their tiles and the ageing bytes of their arrays; `t` and `r` are the addresses of the next
tile's and the next array's bytes. -/
def withUserCal (m : List Host.Cell) : List ZoneImage → Nat → Nat → List ZoneImage
  | [], _, _ => []
  | z :: zs, t, r =>
    { z with tiles := z.tiles.mapIdx fun i c => { c with user := userCalAt m t i }
             arrays := z.arrays.mapIdx fun i c => { c with age := flashLe m (r + i) 1 } } ::
      withUserCal m zs (t + 8 * z.tiles.length) (r + z.arrays.length)
/-- Tiles of all zones. -/
def tileTotal (zs : List ZoneImage) : Nat := sumN (zs.map fun z => z.tiles.length)
/-- Arrays of all zones. -/
def arrayTotal (zs : List ZoneImage) : Nat := sumN (zs.map fun z => z.arrays.length)
/-- The image in the flash: its configuration section's content, the 576-byte contexts, the 4 KiB model sets and the user calibration. -/
def imageOf (m : List Host.Cell) (h : Header) : Image :=
  let cfg := sectionOf h 2
  let c := Config.configOf (flashBytes m cfg.offset cfg.length)
  let cx := sectionOf h 3
  let ms := sectionOf h 4
  let uc := (sectionOf h 5).offset
  { c with
    contexts := (List.range (cx.length / 576)).map fun i => flashWords m (cx.offset + 576 * i) 144
    sets := (List.range (ms.length / 4096)).map fun i => flashWords m (ms.offset + 4096 * i) 1024
    zones := withUserCal m c.zones uc (uc + 8 * tileTotal c.zones) }

/-! ## Content (R108, R110, R119) -/

/-- Waveform rows (R149). -/
def waveOk (w : WaveRow) : Bool := inR 8 40 w.dtHl && inR 8 40 w.dtLh && inR 25 80 w.tonMin && inR 1 8 w.drive
/-- Values each from the first number to the second. -/
def allIn (l : List (Nat × Nat × Nat)) : Bool := l.all fun x => inR x.1 x.2.1 x.2.2
/-- User calibration of a tile (R110). -/
def userOk (u : UserCal) : Bool :=
  let ratios := [u.vratio, u.iratio]
  let offsets := [u.vofsU, u.tofsU]
  ratios.all (inR 0x7800 0x8800) && offsets.all fun x => -512 ≤ x && x ≤ 511
/-- A tile's configuration (R137, R151, R153; TIL_CFG0 to TIL_CFG3) among n tiles. No rule states what becomes of an image whose neighbour
list names a tile the zone does not have: as for array masks (R275) it is refused with 0x15 (assumption 105). -/
def tileOk (n : Nat) (t : TileCfg) : Bool :=
  allIn [(0, 255, t.gf), (60, 200, t.ilim), (0, 15, t.slope), (1, 4, t.minph), (0, 63, t.angle), (10, 120, t.droopMv)] &&
  4 ≤ t.releaseMv && t.releaseMv + 4 ≤ t.droopMv && inR (t.droopMv + 5) 255 t.taintMv &&
  t.nbrs.length ≤ 8 && (t.nbrs.all fun x => x < n) && userOk t.user
/-- An array's configuration (R275, R281, R111) in a zone. -/
def arrayOk (zi : ZoneImage) (a : ArrayCfg) : Bool :=
  let n := zi.tiles.length
  let own := (List.range 64).filter fun t => a.mask.getLsbD t
  let set := (List.range n).filter fun t => own.contains t || own.any fun o => match zi.tiles[o]? with
    | some x => x.nbrs.contains t
    | none => false
  inR 1 4095 a.cw && inR 1 31 a.sag && a.pb ≤ 7 && inR 1 20 a.minLen && a.age ≤ 15 && !own.isEmpty && (own.all fun t => t < n) &&
  set.all fun t => match zi.tiles[t]? with
    | some x => 2 * a.sag + 8 ≤ 2 * x.droopMv + 5 * a.pb
    | none => true
/-- The tables of a zone (R168) with n tiles. -/
def tablesOk (zi : ZoneImage) : Bool :=
  let n := zi.tiles.length
  zi.gain.length ≤ 32 && zi.spatial.length ≤ 64 && zi.step.length ≤ 64 &&
  ((List.range 64).all fun t =>
    let w := zi.spatial.getD t 0
    fld w 12 20 = 0 && (if t < n then 1 ≤ fld w 0 8 else fld w 0 8 = 0)) &&
  zi.step.all fun w => fld w 16 16 = 0
/-- Sense tiles (R329). -/
def senseOk (m : BitVec 64) (n : Nat) : Bool :=
  let ts := (List.range 64).filter fun t => m.getLsbD t
  inR 1 8 ts.length && ts.all fun t => t < n
/-- Fused VMAX of a domain in the fuse fields (R108). -/
def vmaxOf (f : FuseFields) : Domain → Nat
  | .logic => f.vmaxLogic
  | .array => f.vmaxArray
  | .link => f.vmaxLink
  | .mif => f.vmaxMif
/-- A zone's configuration (05, 09, 10, 12, 07, 04 "Image" fields). -/
def zoneCfgOk (f : FuseFields) (nsets : Nat) (c : ZoneCfg) : Bool :=
  let vf := vmaxOf f c.domain
  let law := [(30, 80, c.psh), (1, 63, c.shedDwell), (0, 255, c.fgain), (2, 7, c.bshift), (0, 4, c.gshift), (1, 200, c.pupSlew)]
  let win := [(1, 255, c.swait), (0, 255, c.imarg), (0, 3, c.pblead), (0, 1023, c.agek), (1, 255, c.fboot), (0, 255, c.fzmax)]
  let rest := [(20, 533, c.mult), (0, 255, c.eta), (1, 65535, c.iref), (0, 7, c.stage), (0, 15, c.partition), (0, 5, c.field)]
  allIn law && allIn win && allIn rest && c.vt < vf && c.defset < nsets && c.waves.length = 5 && c.waves.all waveOk &&
  [c.safeVcode, c.vset, c.vmin, c.vmax].all fun v => v ≤ vf
/-- A zone of the image. -/
def zoneOk (f : FuseFields) (nsets : Nat) (zi : ZoneImage) : Bool :=
  zoneCfgOk f nsets zi.cfg && inR 1 64 zi.tiles.length && zi.arrays.length ≤ 8 && zi.tiles.all (tileOk zi.tiles.length) &&
  zi.arrays.all (arrayOk zi) && tablesOk zi && senseOk zi.cfg.sense zi.tiles.length
/-- The ladder (R200). -/
def ladderOk (nch : Nat) : List Nat → Bool
  | [] => true
  | [d] => 0 < d && nch % d = 0
  | d :: e :: rest => 0 < d && e % d = 0 && nch % d = 0 && ladderOk nch (e :: rest)
/-- The MSF's configuration (06). -/
def msfOk (m : MsfCfg) : Bool :=
  let chans := [(1, 48, m.nch), (0, 6, m.ngroup), (300, 900, m.imonOfs), (10, 100, m.tonMin), (5, 50, m.dmax), (0, 511, m.slope)]
  let loop := [(1, 255, m.ssSlew), (0, 50, m.fcOfsMax), (0, 1023, m.dly), (0, 255, m.vgain), (0, 4095, m.ki), (0, 4095, m.kp)]
  let vim := [(1500, 2000, m.vimMax), (1500, m.vimMax, m.vimMin), (m.vimMin, m.vimMax, m.vimSet), (20, 200, m.ovMargin), (5, 50, m.slew)]
  let ladder := m.divs.head? = some 1 && m.divs.length ≤ 6 && ladderOk m.nch m.divs && m.ssStep < m.divs.length
  allIn chans && allIn loop && allIn vim && inR 1 255 m.shedDwell && inR 5 60 m.stepMv && m.shedA < m.addA && ladder &&
  m.tshutStg ≤ 150 && m.twarnStg < m.tshutStg
/-- The cap configuration (R304, R328). -/
def capsOk (f : FuseFields) (c : CapCfg) : Bool :=
  let settings := [(0, 255, c.degMargin), (0, 255, c.etaM), (0, 4095, c.icap), (0, 255, c.pFix), (0, 7, c.cthrMax), (0, 255, c.relMargin)]
  c.floor ≤ c.ceil && ([c.ceil, c.swPower, c.swEnergy].all fun w => w ≤ f.capCeil) && allIn settings && inR 1 4 c.dstep &&
  [c.relDwell, c.gateDwell].all (inR 1 15) && c.lmin.all (inR 1 15) && c.pri.all fun p => p ≤ 7
/-- Retention codes with every ROFS (R336). -/
def retOk (f : FuseFields) (t : ThmCfg) : Bool :=
  t.bands.all fun b => [(t.retLogic, f.vmaxLogic), (t.retArray, f.vmaxArray), (t.retLink, f.vmaxLink), (t.retMif, f.vmaxMif)].all fun p =>
    60 ≤ (p.1 : Int) + b.rofs && (p.1 : Int) + b.rofs ≤ p.2
/-- The thermal configuration (R333, R336, R349) for n zones. -/
def thmOk (f : FuseFields) (n : Nat) (t : ThmCfg) : Bool :=
  t.tNom + 4 ≤ t.tWarm && t.tWarm + 4 ≤ t.tHot && t.tHot + 4 ≤ t.tCrit && t.tCrit ≤ (f.tshut : Int) && t.tRestart ≤ t.tHot - 3 &&
  inR 1 15 t.thrStep && inR 1 4 t.tstep && inR 1 15 t.tlmin && inR 1 1000 t.grace && t.bands.length = 5 && retOk f t &&
  (t.bands.all fun b => b.mofs ≤ 15 && -8 ≤ b.rofs && b.rofs ≤ 7 && b.chop ≤ 3) &&
  t.diodes.all fun d => (d.zone = 63 || d.zone < n) && inR 31130 36044 d.nf
/-- Entry of slot n of the schedule's repeating pattern (R356): a scan entry, or 32 for a cross-check slot. -/
def patEntry (c : TcvCfg) (n : Nat) : Nat :=
  let d := xDiv c.xfrac
  if isXSlot c.xfrac n then 32 else c.scan.getD ((if d = 0 then n else n - n / d) % max 1 c.scan.length) 0
/-- Channels that must recur within 10 slots (R357). -/
def mustScan (m : MsfCfg) (t : ThmCfg) : List Nat :=
  [0] ++ ((List.range m.ngroup).map (2 + ·)) ++ (((List.range 8).filter fun k => (t.diodes.getD k {}).en).map (8 + ·))
/-- The schedule (R357). -/
def scanOk (c : TcvCfg) (m : MsfCfg) (t : ThmCfg) : Bool :=
  let must := mustScan m t
  let period := max 1 c.scan.length * max 1 (xDiv c.xfrac)
  let diodes := ((List.range 8).filter fun k => (t.diodes.getD k {}).en).map (8 + ·)
  inR 1 10 c.scan.length && (c.scan.all fun e => e = 0 || inR 2 22 e || e = 31) && c.scan.contains 31 &&
  (must.all c.scan.contains) &&
  ((List.range period).all fun i => !must.contains (patEntry c i) ||
    (List.range 10).any fun j => patEntry c (i + j + 1) = patEntry c i) &&
  ((setBits c.owMask.toNat 16).all fun b => b ≠ 1 && !diodes.contains b) &&
  (setBits c.rotMask.toNat 32).all fun b => (b = 0 || inR 2 17 b || inR 19 22 b) && !diodes.contains b
/-- The converter's configuration (R357, R368, R372). -/
def tcvOk (c : TcvCfg) (m : MsfCfg) (t : ThmCfg) : Bool :=
  inR 1 255 c.owLim && inR 20 255 c.chkTol && inR 1 255 c.xtol && inR 32768 65535 c.vinDiv && scanOk c m t
/-- A context record of the image (R236, R237, R239, R241) for PCX i of n zones. -/
def ctxOk (n i : Nat) (c : List W32) : Bool :=
  if halfAt c 0 = 0 then true
  else if i = 4095 then false
  else if halfAt c 0 ≠ 0x5843 then true
  else c.length = 144 && ctxCrc c = c.getD 15 0 && zeroBytes c ((List.range 12).map (0x30 + ·)) && ctxRanges c n
/-- The rest of the configuration (07, 08, 14, 15, 16). -/
def restOk (i : Image) : Bool :=
  let fce := [(0, 16, i.fce.ofsHold), (0, 2047, i.fce.phLead), (1, 15, i.fce.qmin), (0, 15, i.fce.qdelta), (1, 255, i.fce.ofsStep)]
  let pcx := [i.pcx.suspendMax, i.pcx.claimMax, i.pcx.lrate]
  let quiet := [i.snag.quietZ, i.snag.quietD, i.snag.quietI]
  let snag := [(1, 4095, i.snag.latchWin), (1, 15, i.snag.permN), (1, 8, i.snag.latchN), (5, 500, i.snag.aliveHalf)]
  let bist := [(1, 255, i.bist.head), (1, 255, i.bist.mgap), (24, 65535, i.bist.tperiod)]
  allIn fce && i.fce.ofsDb ≤ 2047 && pcx.all (inR 1 255) && (i.pcx.spillDur.all fun d => d ≤ 65535) &&
  (i.pcx.spillFloor.all fun d => d ≤ 1023) && allIn snag && quiet.all (inR 1 60000) && inR 1 8 i.csc.ninst && i.csc.cap ≤ 65535 &&
  allIn bist && inR 1 20 i.startSlew
/-- What the integration can hold (R5): up to 48 zones and 2,048 tiles, with at most eight zones in a stage (R101). -/
def sizeOk (zs : List ZoneImage) : Bool :=
  inR 1 48 zs.length && tileTotal zs ≤ 2048 && (List.range 8).all fun g => (zs.filter fun z => z.cfg.stage = g).length ≤ 8
/-- Every range rule and fused bound (R119, code 0x15). The user calibration section holds every tile's and array's entry (R109). -/
def contentOk (f : FuseFields) (h : Header) (i : Image) : Bool :=
  let zonesOk := sizeOk i.zones && i.zones.all (zoneOk f i.sets.length)
  let setsOk := i.sets.all fun m => setCheck m = 0
  let ctxsOk := i.contexts.length ≤ 4096 && (List.range i.contexts.length).all fun k => ctxOk i.zones.length k (i.contexts.getD k [])
  let calOk := 8 * tileTotal i.zones + arrayTotal i.zones ≤ (sectionOf h 5).length
  !(h.deploy && h.ret) && !h.flagsOther && zonesOk && msfOk i.msf && capsOk f i.caps && thmOk f i.zones.length i.thm &&
  tcvOk i.tcv i.msf i.thm && restOk i && setsOk && ctxsOk && calOk
/-- The signature block (R118): r, s, and every other byte 0. -/
def sigBlockOk (m : List Host.Cell) (a : Nat) : Bool := (flashBytes m (a + 96) 4000).all (· = 0)
/-- The signature verifies (R118): it covers every byte from address 0 up to the signature block. A block with another byte set is taken as
one that does not verify (assumption 15). -/
def sigOk (m : List Host.Cell) (h : Header) : Bool :=
  let a := h.imageLen - 4096
  sigBlockOk m a && ecdsaOk h.pubkey (sha384 (flashBytes m 0 a)) (beNat (flashBytes m a 48)) (beNat (flashBytes m (a + 48) 48))
/-- The SHA-384 digest of a key as FUS_KEYROOT shows it: byte 4k of the digest in bits [7:0] of word k. -/
def keyDigest (key : List Nat) : List W32 :=
  let d := sha384 key
  (List.range 12).map fun k => w32 (leNat ((d.drop (4 * k)).take 4))
/-- The checks of step 3c on the flash's bytes, in the order of R119; 0 where all pass. -/
def imageCode (f : FuseFields) (m : List Host.Cell) (h : Header) (density : Nat) : Nat :=
  let fw := sectionOf h 1
  if keyDigest h.pubkey ≠ f.keyroot then 0x12
  else if !sigOk m h then 0x13
  else if !tableOk h density then 0x14
  else if !contentOk f h (imageOf m h) then 0x15
  else if !Config.firmware31 (flashBytes m fw.offset fw.length) then 0x16 else 0
/-- What VERIFY reports (R122): the header's checks, then those of step 3c. -/
def verifyCode (f : FuseFields) (m : List Host.Cell) (density : Nat) : Nat :=
  let h := headerOf m
  if headerCode h density ≠ 0 then headerCode h density else imageCode f m h density

/-! ## The loaded image -/

/-- A list made up to n places. -/
def padTo {α : Type} (n : Nat) (d : α) (l : List α) : List α := (l ++ List.replicate n d).take n
/-- A tile of the image, with its factory trim word. -/
def mkTile (trim : W32) (c : TileCfg) : Tile := { cfg := c, fac := trimOf trim, usr := c.user, testLast := 3 }
/-- An array of the image, with its fused Fmax. -/
def mkArr (fused : Nat) (c : ArrayCfg) : Arr := { cfg := c, fused }
/-- The zones of the image; `t` and `a` are the global numbers their tiles and arrays begin at (R13). -/
def mkZones (f : FuseFields) : List ZoneImage → Nat → Nat → List Zone
  | [], _, _ => []
  | z :: zs, t, a =>
    let tb : Tables := { gain := padTo 32 0 z.gain, spatial := padTo 64 0 z.spatial, step := padTo 64 0 z.step }
    let zn : Zone :=
      { cfg := z.cfg, active := tb, shadow := tb
        tiles := z.tiles.mapIdx fun i c => mkTile (f.trims.getD (t + i) 0) c
        arrays := z.arrays.mapIdx fun i c => mkArr (f.fmax.getD (a + i) 0) c
        lim := { ilimPol := z.cfg.ilimPol, vz := z.cfg.vset, slew := z.cfg.slew, vmin := z.cfg.vmin, vmax := z.cfg.vmax } }
    { zn with law := { zn.law with we := zn.weInit } } :: mkZones f zs (t + z.tiles.length) (a + z.arrays.length)
/-- The contexts the image holds, in their home slots (R241). -/
def mkDir (cs : List (List W32)) : List Pcx :=
  (List.range cs.length).filterMap fun i =>
    let c := cs.getD i []
    if halfAt c 0 = 0x5843 then some { no := i, gens := [{ words := c }] } else none
/-- The zones with TSHUT's memory of what their tiles measured before the image (R345). -/
def markHot (hot : List (Nat × Nat)) (zs : List Zone) : List Zone :=
  zs.mapIdx fun z zn => { zn with tiles := zn.tiles.mapIdx fun t x => { x with hotBefore := hot.contains (z, t) } }
/-- The block with an image loaded (R117, R119): configuration, contexts, sets; formation's own standing (R391). -/
def loadImage (s : State) (h : Header) (i : Image) : State :=
  let zones := markHot s.su.hotTiles (mkZones s.fus.shadow i.zones 0 0)
  let ms : Msf := { s.msf with cfg := i.msf, vimSet := i.msf.vimSet, slew := i.msf.slew, vimSetIn := i.msf.vimSet, slewIn := i.msf.slew }
  let cs : Caps := { s.caps with
    cfg := i.caps, swPower := i.caps.swPower, swEnergy := i.caps.swEnergy, swPowerIn := i.caps.swPower, swEnergyIn := i.caps.swEnergy
    zones := i.zones.map fun z => { vz := z.cfg.vset } }
  cscInit { s with
    zones, msf := ms, caps := cs
    fce := { s.fce with cfg := i.fce, slots := padTo 64 [] i.sets }
    pcx := { s.pcx with cfg := i.pcx, dir := mkDir i.contexts }
    thm := { s.thm with cfg := i.thm }
    tcv := { s.tcv with cfg := i.tcv, winHi := padTo 23 0 i.tcv.winHi, winLo := padTo 23 0 i.tcv.winLo }
    snag := { s.snag with cfg := i.snag }
    csc := { s.csc with cfg := i.csc }
    bist := { s.bist with cfg := i.bist }
    su := { s.su with startSlew := i.startSlew }
    nvm := { s.nvm with imageId := h.configId } }

end Sys2Proof.Machine
end

