-- ==== Sys2Proof/Machine/Nvm.lean ====
section
/-!
DEFINITION. The flash commands and the log (03_startup_fuses_and_image.md R120 to R124; 12 R347, R348; 15 R413, R414): programming, the
records' bytes, the rings of log sectors in the flash, their scan and their clears.
-/
namespace Sys2Proof.Machine

/-! ## Commands (R121, R122) -/

/-- The first address a command is refused at; none while the flash has not been discovered (R121). -/
def progLimit (n : Nvm) : Option Nat := if n.discovered then some (n.logBase.getD 0x600000) else none
/-- A command's common part: the pointer returns to 0, VERIFY_DONE and REFUSED clear; then it runs, or is refused (R121). -/
def nvmStart (s : State) (ok : Bool) (r : NvmRun) : Out :=
  if !alive s || s.nvm.busy.isSome then .next s else
  let n := { s.nvm with ptr := 0, verifyDone := false, refused := !ok }
  .next { s with nvm := if ok then { n with busy := some r } else n }
/-- The address lies below the limit. -/
def belowLimit (n : Nvm) : Bool := match progLimit n with
  | some l => n.progAddr.toNat < l
  | none => false
/-- NVM_ERASE (R121). -/
def execNvmErase (s : State) : Out := nvmStart s (belowLimit s.nvm) (.erase (floorTo 4096 s.nvm.progAddr.toNat))
/-- NVM_PROGRAM (R121). -/
def execNvmProgram (s : State) : Out :=
  nvmStart s (belowLimit s.nvm) (.program (floorTo 256 s.nvm.progAddr.toNat) s.nvm.page)
/-- NVM_VERIFY (R122): it names no address, so only an undiscovered flash refuses it. -/
def execNvmVerify (s : State) : Out := nvmStart s s.nvm.discovered .verify
/-- A VERIFY completes on the flash's bytes (R122). A body is read, in the header's mode and at its NV_SCK or in single SPI where the mode is
not offered, only where the header passes; NVM_FLASH_INFO then shows that mode and divider as the ones in use. -/
def verifyDone (s : State) (n : Nvm) : Nvm :=
  let h := headerOf n.flash
  let n1 := if headerCode h n.densityLog2 = 0 then { n with sckDiv := h.nvSckDiv, mode := bodyMode h (n.disc.getD {}) } else n
  { n1 with verifyDone := true, verifyCode := verifyCode s.fus.shadow n.flash n.densityLog2 }
/-- NVM_COMMAND_DONE (R121, R122). A failed erase or program leaves the bytes (assumption 62). -/
def execNvmCommandDone (flashError : Bool) (s : State) : Out :=
  let n := { s.nvm with busy := none }
  match s.nvm.busy with
  | some (.erase a) =>
    .next { s with nvm := { n with error := flashError, flash := if flashError then n.flash else flashErase n.flash a } }
  | some (.program a p) =>
    .next { s with nvm := { n with error := flashError, flash := if flashError then n.flash else flashProgram n.flash a (bytesOf p) } }
  | some .verify => .next { s with nvm := verifyDone s n }
  | none => .next s
/-- NVM_PROG_DATA_WRITE (NVM_PROG_DATA): the next word of the page buffer; the pointer wraps at its 256 bytes. -/
def execNvmProgDataWrite (w : W32) (s : State) : Out :=
  if alive s then .next { s with nvm := { s.nvm with page := s.nvm.page.set s.nvm.ptr w, ptr := (s.nvm.ptr + 1) % 64 } } else .next s

/-! ## The bytes of the records (R347, R413, R414) -/

/-- The n low bytes of a number, least significant first. -/
def le (n x : Nat) : List Nat := (List.range n).map fun i => bitsOf x (8 * i) 8
/-- The little-endian number of n bytes at an offset of a record. -/
def leAt (r : List Nat) (o n : Nat) : Nat := leNat ((r.drop o).take n)
/-- The 64 bytes of a record: 60 of payload, and their CRC-32C (R123). -/
def sealed (payload : List Nat) : List Nat :=
  let p := padTo 60 0 payload
  p ++ le 4 (crc32c p).toNat
/-- A record passes its CRC (R124). -/
def recOk (r : List Nat) : Bool := decide (leAt r 60 4 = (crc32c (r.take 60)).toNat)
/-- Fault-history record (R413). -/
def fhBytes (r : FhRec) : List Nat :=
  le 2 r.type ++ le 1 r.code ++ le 1 r.cls ++ le 2 r.unit ++ le 1 r.flags ++ le 1 0 ++ le 8 r.time ++ le 4 r.detail.toNat ++
    le 4 r.configId.toNat ++ le 2 r.recov ++ le 2 0 ++ le 8 r.last ++ le 4 r.folded
/-- Shutdown record (R347). -/
def shutBytes (r : ShutRecord) : List Nat :=
  let bands := (List.range 24).map fun i => r.bandmap.getD (2 * i) 0 % 16 + 16 * (r.bandmap.getD (2 * i + 1) 0 % 16)
  le 2 r.type ++ le 1 r.zone ++ le 1 r.source ++ le 8 r.time ++ le 2 (twos 16 r.temp) ++ le 2 (twos 16 r.tCrit) ++
    le 2 (twos 16 r.tRestart) ++ le 1 r.cause ++ le 1 0 ++ le 4 r.configId.toNat ++ bands
/-- A shutdown record from its bytes (R347). -/
def shutOf (r : List Nat) : ShutRecord :=
  { type := leAt r 0 2, zone := leAt r 2 1, source := leAt r 3 1, time := leAt r 4 8, temp := signed 16 (leAt r 12 2)
    tCrit := signed 16 (leAt r 14 2), tRestart := signed 16 (leAt r 16 2), cause := leAt r 18 1, configId := w32 (leAt r 20 4)
    bandmap := (List.range 48).map fun z => bitsOf (leAt r (24 + z / 2) 1) (4 * (z % 2)) 4 }
/-- The 5,104 bytes of a counters snapshot (R414). Within its first 16 bytes CONFIG_ID stands at 0 and the hours at 4 (assumption 106). -/
def snapImage (x : Snapshot) : List Nat :=
  le 4 x.configId.toNat ++ le 12 x.hours ++ (padTo 256 0 x.recov).flatMap (le 2) ++
    (padTo 2048 0 x.tiles).flatMap (fun t => le 2 t.toNat) ++ (padTo 48 0 x.zones).flatMap (le 2) ++ padTo 384 0 (x.ageing.map (· % 256))
/-- Part p of snapshot number k: 52 bytes of the image (R414). -/
def snapPart (x : Snapshot) (k p : Nat) : List Nat := le 2 3 ++ le 2 p ++ le 4 k ++ ((snapImage x).drop (52 * p)).take 52
/-- A snapshot from the bytes of its image (R414). -/
def snapOf (b : List Nat) : Snapshot :=
  { configId := w32 (leAt b 0 4), hours := leAt b 4 12, recov := (List.range 256).map fun i => leAt b (16 + 2 * i) 2
    tiles := (List.range 2048).map fun i => BitVec.ofNat 16 (leAt b (528 + 2 * i) 2)
    zones := (List.range 48).map fun i => leAt b (4624 + 2 * i) 2, ageing := (b.drop 4720).take 384 }

/-! ## The rings (R123, R124) -/

/-- Sectors of region r: 1 fault history, 2 shutdown records, 3 counters (R116). -/
def regionLen (h : Header) (r : Nat) : Nat := if r = 1 then h.fhSectors else if r = 2 then h.sdSectors else if r = 3 then h.cntSectors else 0
/-- Address of sector i of region r. -/
def sectorAt (h : Header) (r i : Nat) : Nat := h.logBase + 4096 * (sumN ((List.range r).map (regionLen h)) + i)
/-- Address of record slot k of a sector. -/
def slotAt (sector k : Nat) : Nat := sector + 16 + 64 * k
/-- A sector header (R123). -/
def secHeader (r seq erases : Nat) : List Nat :=
  let b := [0x47, 0x4C, r, 0] ++ le 4 seq ++ le 4 erases
  b ++ le 4 (crc32c b).toNat
/-- SEQ and ERASES of a sector of region r whose header is valid (R124). -/
def secInfo (m : List Host.Cell) (h : Header) (r i : Nat) : Option (Nat × Nat) :=
  let b := flashBytes m (sectorAt h r i) 16
  if leAt b 0 4 = 0x4C47 + 65536 * r && leAt b 12 4 = (crc32c (b.take 12)).toNat then some (leAt b 4 4, leAt b 8 4) else none
/-- The head sector: highest SEQ under serial-number arithmetic among the valid headers, with its SEQ (R123). -/
def headSector (m : List Host.Cell) (h : Header) (r : Nat) : Option (Nat × Nat) :=
  (List.range (regionLen h r)).foldl (fun best i => match secInfo m h r i, best with
    | some x, some b => if serialAfter 32 x.1 b.2 then some (i, x.1) else some b
    | some x, none => some (i, x.1)
    | none, b => b) none
/-- A record slot reads all 0xFF. -/
def slotFree (m : List Host.Cell) (a : Nat) : Bool := (flashBytes m a 64).all (· = 0xFF)
/-- The first free slot of a sector. -/
def firstFree (m : List Host.Cell) (sector : Nat) : Option Nat := ((List.range 63).map (slotAt sector)).find? (slotFree m)
/-- A sector erased, and its header written. -/
def renew (m : List Host.Cell) (h : Header) (r i seq erases : Nat) : List Host.Cell :=
  flashProgram (flashErase m (sectorAt h r i)) (sectorAt h r i) (secHeader r seq erases)
/-- The sector before sector i in the ring of region r. -/
def before (h : Header) (r i : Nat) : Nat := (i + regionLen h r - 1) % max 1 (regionLen h r)
/-- A head sector that is half full: the next sector of the ring is erased, and its header written with SEQ + 1 and ERASES + 1 (R123). -/
def openNext (m : List Host.Cell) (h : Header) (r : Nat) : List Host.Cell :=
  match headSector m h r with
  | some (i, seq) =>
    if slotFree m (slotAt (sectorAt h r i) 31) then m else
    let j := (i + 1) % max 1 (regionLen h r)
    renew m h r j ((seq + 1) % 2 ^ 32) (satInc 0xFFFFFFFF (((secInfo m h r j).map (·.2)).getD 0))
  | none => m
/-- The slot the next record of region r goes to: the free slots left in the half-full sector whose successor has just been opened, and then
the head sector's (R123, assumption 63). -/
def appendSlot (m : List Host.Cell) (h : Header) (r : Nat) : Option Nat :=
  match headSector m h r with
  | some (i, seq) =>
    let p := before h r i
    let old := match secInfo m h r p with
      | some x => x.1 = (seq + 2 ^ 32 - 1) % 2 ^ 32 && !slotFree m (slotAt (sectorAt h r p) 31) && slotFree m (slotAt (sectorAt h r i) 0)
      | none => false
    match if old then firstFree m (sectorAt h r p) else none with
    | some a => some a
    | none => firstFree m (sectorAt h r i)
  | none => none
/-- A record appended to region r. -/
def append (m : List Host.Cell) (h : Header) (r : Nat) (payload : List Nat) : List Host.Cell :=
  let m1 := openNext m h r
  match appendSlot m1 h r with
  | some a => openNext (flashProgram m1 a (sealed payload)) h r
  | none => m1
/-- The records of a region, newest first, free slots left out: sector by sector back from the head. -/
def records (m : List Host.Cell) (h : Header) (r : Nat) : List (List Nat) :=
  match headSector m h r with
  | some (i, _) =>
    let n := regionLen h r
    let secs := ((List.range n).map fun k => (i + n - k) % n).filter fun j => (secInfo m h r j).isSome
    let slots := secs.flatMap fun j => ((List.range 63).map fun k => slotAt (sectorAt h r j) (62 - k)).filter fun a => !slotFree m a
    slots.map fun a => flashBytes m a 64
  | none => []
/-- The latest valid shutdown record (R124, R348). -/
def latestShut (m : List Host.Cell) (h : Header) : Option ShutRecord := ((records m h 2).find? recOk).map shutOf
/-- The parts of one snapshot number, in part order, where all 99 are there (R414). -/
def wholeSnap (ps : List (List Nat)) (k : Nat) : Option (List Nat) :=
  let part (p : Nat) : Option (List Nat) := ps.find? fun r => leAt r 0 2 = 3 && leAt r 2 2 = p && leAt r 4 4 = k
  if (List.range 99).all fun p => (part p).isSome then
    some (((List.range 99).flatMap fun p => ((part p).getD []).drop 8 |>.take 52).take 5104)
  else none
/-- The scan of the counters records, newest first: the image of the latest valid snapshot, and how many records it took to find it. `ps`
are the valid ones so far (R124). -/
def scanSnaps : List (List Nat) → List (List Nat) → Nat → Option (List Nat) × Nat
  | [], _, n => (none, n)
  | r :: rs, ps, n =>
    if recOk r then match wholeSnap (r :: ps) (leAt r 4 4) with
      | some b => (some b, n + 1)
      | none => scanSnaps rs (r :: ps) (n + 1)
    else scanSnaps rs ps (n + 1)
/-- The latest valid counters snapshot (R124). -/
def latestSnap (m : List Host.Cell) (h : Header) : Option Snapshot := (scanSnaps (records m h 3) [] 0).1.map snapOf
/-- A torn record was skipped: among the shutdown records newer than the latest valid one, or among the counters records the scan read
(R124). -/
def tornFound (m : List Host.Cell) (h : Header) : Bool :=
  let cs := records m h 3
  (records m h 2).head?.any (fun r => !recOk r) || (cs.take (scanSnaps cs [] 0).2).any fun r => !recOk r
/-- Highest ERASES of any log sector, as NVM_LOG_STATUS shows it. -/
def eraseMaxOf (m : List Host.Cell) (h : Header) : Nat :=
  min 0xFFFF (maxN ([1, 2, 3].flatMap fun r => (List.range (regionLen h r)).map fun i => ((secInfo m h r i).map (·.2)).getD 0))
/-- The number of the snapshot that is written next: one above the latest record's (assumption 106). -/
def nextSnap (m : List Host.Cell) (h : Header) : Nat :=
  (((records m h 3).find? recOk).map fun r => (leAt r 4 4 + 1) % 2 ^ 32).getD 0
/-- A region with no valid sector header initialised: its first sector erased, SEQ 0 and ERASES 0 (R124). -/
def initRegion (m : List Host.Cell) (h : Header) (r : Nat) : List Host.Cell :=
  if (headSector m h r).isSome then m else renew m h r 0 0 0
/-- A region cleared: every sector erased, SEQ 0, ERASES kept (NVM_LOG_CLEAR, assumption 64). -/
def clearRegion (m : List Host.Cell) (h : Header) (r : Nat) : List Host.Cell :=
  (List.range (regionLen h r)).foldl (fun x i => renew x h r i 0 (((secInfo m h r i).map (·.2)).getD 0)) m

/-! ## LOG_WRITE_DONE and the clears -/

/-- The flash with new bytes in its log area: NVM_LOG_STATUS and THM_LASTSHUT follow, once the scan has found the regions (R348, R349). -/
def setLog (s : State) (n : Nvm) (h : Header) (m : List Host.Cell) : State :=
  { s with nvm := { n with flash := m, eraseMax := if n.logOk then eraseMaxOf m h else n.eraseMax }
           thm := { s.thm with lastShut := if n.logOk then latestShut m h else s.thm.lastShut } }
/-- The entry at the front of the log queue leaves it. -/
def dropEntry (n : Nvm) : Nvm := { n with queue := n.queue.drop 1, batch := n.batch - 1, part := 0 }
/-- The record pair 1 writes next, with its region and what is left to write after it and after a failure: the front of the queue, a snapshot
part by part, and a summary of folded records once the queue is empty (R121, R123, R414). -/
def nextRecord (s : State) : Option (Nat × List Nat × Nvm × Nvm) :=
  let n := s.nvm
  match n.queue with
  | .fh r :: _ => some (1, fhBytes r, dropEntry n, dropEntry n)
  | .shut r :: _ => some (2, shutBytes r, dropEntry n, dropEntry n)
  | .snap x :: _ =>
    let ended := { dropEntry n with snapNo := (n.snapNo + 1) % 2 ^ 32 }
    some (3, snapPart x n.snapNo n.part, if n.part < 98 then { n with part := n.part + 1 } else ended, ended)
  | [] => n.fold.map fun f => (1, fhBytes (foldSummary s f), { dropEntry n with fold := none }, { dropEntry n with fold := none })
/-- LOG_WRITE_DONE (R38, R121, R123): pair 1 has appended one record of those that waited at the latest 1 ms boundary, or the append has
failed. Log writes wait for a driver command, and for the log area to be located. -/
def execLogWriteDone (ok : Bool) (s : State) : Out :=
  if !alive s || s.nvm.busy.isSome || !s.nvm.logOk || !logWrites s || !s.cores.run1 || s.nvm.batch = 0 then .next s else
  match s.nvm.hdr, nextRecord s with
  | some h, some (r, payload, done, failed) =>
    .next (if ok then setLog s done h (append s.nvm.flash h r payload) else note { s with nvm := failed } 0x68 0)
  | _, _ => .next s

/-- A clear of region r acts in PROVISIONED; elsewhere it is a NOTE (R104). Before the log area is located there is none to erase. -/
def logClear (s : State) (r : Nat) : Out :=
  if !alive s then .next s
  else if !logClears s then .next (note s 0x01 0)
  else match s.nvm.hdr with
    | some h => .next (setLog s s.nvm h (clearRegion s.nvm.flash h r))
    | none => .next s
/-- LOG_CLEAR_FH. -/
def execLogClearFh (s : State) : Out := logClear s 1
/-- LOG_CLEAR_SHUT. -/
def execLogClearShut (s : State) : Out := logClear s 2
/-- LOG_CLEAR_CNT: the copy the block works with lasts until the next start (assumption 64). -/
def execLogClearCnt (s : State) : Out := logClear s 3

end Sys2Proof.Machine
end

