-- ==== Sys2Proof/Machine/Startup.lean ====
section
/-!
DEFINITION. Starts and start-up (02_ports_and_integration.md R50 to R52, R55; 03_startup_fuses_and_image.md R95 to R102, R105 to R107): reset, the steps in
order, and the rise of READY.
-/
namespace Sys2Proof.Machine

/-! ## Reset and start (R41, R51, R52, R95, R458) -/

/-- Everything a reset leaves: the flash, the fuse array, the integration parameters, the straps, the levels the outside drives and the
test access port, whose instruction drives no pin until the fuses are read again (R52, R81). -/
def blank (s : State) : State :=
  { State.reset with
    pending := s.pending, tap := { s.tap with acts := false }, rp := s.rp
    su := { State.reset.su with zones := s.su.zones, tiles := s.su.tiles, fields := s.su.fields, cascId := s.su.cascId,
                                cascMaster := s.su.cascMaster, zoneTiles := s.su.zoneTiles, starts := s.su.starts, resetN := s.su.resetN, por := s.su.por }
    pins := { State.reset.pins with thrAck := s.pins.thrAck }
    fus := { State.reset.fus with lcCells := s.fus.lcCells, words := s.fus.words }
    nvm := { State.reset.nvm with flash := s.nvm.flash } }
/-- A start begins at step 2 (R95); NONCE is drawn (R391). -/
def beginStart (s : State) : State :=
  let b := blank s
  let n : Csc := { b.csc with nonce := Config.nonce s.su.starts }
  { b with su := { b.su with cond := .run, stepNo := 2, starts := s.su.starts + 1 }, csc := n }
/-- POWER_ON_RESET_RELEASE (R24, R95): the straps are sampled; with RESET_N high a start begins. -/
def execPowerOnResetRelease (cascId : Nat) (cascMaster : Bool) (s : State) : Out :=
  if !s.su.por then .next s else
  let s1 := { s with su := { s.su with por := false, cascId := cascId % 8, cascMaster } }
  .next (if s.su.resetN then beginStart s1 else { blank s1 with su := { (blank s1).su with cond := .inReset } })
/-- VBIAS_LOSS (R50, R54, R458): unpowered; a flash command under way is lost. -/
def execVbiasLoss (s : State) : Out :=
  let b := blank s
  .next { b with su := { b.su with cond := .unpowered, por := true }, pins := { b.pins with biasOk := false }
                 tap := {} }
/-- A low pulse of RESET_N of `low` ns passes the filter (R51): below 100 ns never, from 1 µs on always. -/
def passesFilter (s : State) (low : Nat) : Bool := 1000 ≤ low || (100 ≤ low && Config.resetPulse s.su.starts low)
/-- RESET_N_FALL (R51, R52): RESET_N has been low for `low` ns. Past the filter, everything stops abruptly and takes its in-reset level. -/
def execResetNFall (low : Nat) (s : State) : Out :=
  if !passesFilter s low then .next s else
  let b := blank s
  let c := if s.su.cond = .unpowered then BlockCond.unpowered else .inReset
  .next { b with su := { b.su with cond := c, resetN := false }, pins := { b.pins with biasOk := s.pins.biasOk } }
/-- RESET_N_RISE (R51): the start begins at step 2 and samples no strap. -/
def execResetNRise (s : State) : Out :=
  let s1 := { s with su := { s.su with resetN := true } }
  .next (if !s.su.resetN && !s.su.por && s.su.cond = .inReset then beginStart s1 else s1)

/-! ## Steps 2 to 4 -/

/-- A step begins now. -/
def toStep (s : State) (n sub : Nat) : State := { s with su := { s.su with stepNo := n, sub, stepAt := now s } }
/-- The start is at step n, part `sub`, and nothing has ended it. -/
def atStep (s : State) (n sub : Nat) : Bool := running s && s.su.stepNo = n && s.su.sub = sub && !halted s
/-- Step 2 is complete when the fuses are loaded and the time base has locked. -/
def step2Done (s : State) : State := if s.su.fusesDone && s.su.lockDone then toStep s 3 0 else s
/-- The data of a fuse word, 0 where nothing has been blown. -/
def fuseWord (ws : List (Nat × BitVec 128)) (a : Nat) : BitVec 128 := ((ws.find? fun x => x.1 = a).map (·.2)).getD 0
/-- A fuse word as the array reads: its data with their check symbols (assumption 5), and the cells that read otherwise. -/
def fuseRaw (ws : List (Nat × BitVec 128)) (r : FuseRead) (a : Nat) : BitVec 144 :=
  r.flips.foldl (fun x f => if f.1 = a then x ^^^ f.2 else x) (sc144Encode (fuseWord ws a))
/-- A fuse word of the shadow (R107): corrected where it can be, else as read. -/
def fuseShadow (ws : List (Nat × BitVec 128)) (r : FuseRead) (a : Nat) : BitVec 128 :=
  match sc144Decode (fuseRaw ws r a) with
  | some x => x.1
  | none => (fuseRaw ws r a).setWidth 128
/-- The words in which a cell reads otherwise. -/
def flipped (r : FuseRead) : List Nat := (r.flips.map (·.1)).eraseDups
/-- Some fuse word cannot be corrected (R107). -/
def fuseBad (ws : List (Nat × BitVec 128)) (r : FuseRead) : Bool := (flipped r).any fun a => (sc144Decode (fuseRaw ws r a)).isNone
/-- Fuse words that were corrected (R107). -/
def fuseFixed (ws : List (Nat × BitVec 128)) (r : FuseRead) : Nat :=
  ((flipped r).filter fun a => (sc144Decode (fuseRaw ws r a)).any (·.2)).length
/-- FUSE_LOAD_DONE (R103, R107): every word is decoded under SC4-144; the shadow holds the fields of the words as read. -/
def execFuseLoadDone (r : FuseRead) (s : State) : Out :=
  if !atStep s 2 0 || s.su.fusesDone then .next s else
  let lc := lcRead s.fus.lcCells
  let bad := fuseBad s.fus.words r
  let f1 : Fuses := { s.fus with
    loaded := true, uncorrectable := bad, corrected := min 255 (fuseFixed s.fus.words r), lcRaw := lc
    shadow := Config.fuseFields (fuseShadow s.fus.words r) }
  let s1 := { s with fus := f1 }
  .next (if bad then enterSafe s1 0x01
    else if (lcOf lc).isNone then enterSafe s1 0x02
    else step2Done { s1 with su := { s1.su with fusesDone := true } })
/-- TIMEBASE_LOCK (R41, R45): the count starts at 0; no lock ends the start. -/
def execTimebaseLock (locked : Bool) (s : State) : Out :=
  if !atStep s 2 0 || s.su.lockDone then .next s
  else if !locked then .next (enterSafe s 0x04)
  else .next (step2Done { s with tb := { s.tb with count := 0, running := true, lock := true }, su := { s.su with lockDone := true } })
/-- What discovery takes from the SFDP table (R113): above 128 Mbit the 4-byte-address instructions, or else 4-byte address mode. -/
def discover (n : Nvm) (d : Discovery) : Nvm :=
  let big : Bool := 27 < d.densityLog2
  { n with discovered := true, disc := some d, densityLog2 := d.densityLog2, addr4 := big, mode4 := big && !d.table4, sckDiv := 0x28, mode := 0 }
/-- FLASH_DISCOVERY_DONE (R113 to R116, R119): discovery, the key-root check, then the header the flash holds. -/
def execFlashDiscoveryDone (d : Discovery) (s : State) : Out :=
  if !atStep s 3 0 then .next s
  else if !d.sfdpValid || !d.erase4k || !inR 26 31 d.densityLog2 then .next (enterSafe s 0x10)
  else
    let s1 := { s with nvm := discover s.nvm d }
    let h := headerOf s.nvm.flash
    let code := headerCode h d.densityLog2
    if s.fus.shadow.keyroot.all (· = 0) then .next (enterSafe s1 0x03)
    else if code ≠ 0 then .next (enterSafe s1 code)
    else
      let m := bodyMode h d
      let s2 := { s1 with nvm := { s1.nvm with hdr := some h, logBase := some h.logBase, sckDiv := h.nvSckDiv, mode := m } }
      .next (toStep (if m = h.nvMode then s2 else note s2 0x68 0) 3 1)
/-- IMAGE_BODY_READ_DONE (R95). -/
def execImageBodyReadDone (s : State) : Out := if atStep s 3 1 then .next (toStep s 3 2) else .next s
/-- The life-cycle bit a verified image blows: 1 for DEPLOYED, 2 for RETURNED (R105, R106). -/
def lcFlag (l : Option LifeCycle) (h : Header) : Option Nat :=
  if h.deploy && l = some .provisioned then some 1
  else if h.ret && (l = some .provisioned || l = some .deployed) then some 2 else none
/-- The bits a flag blows, thermometer-wise: RETURNED from PROVISIONED blows bits 1 and 2. -/
def lcBlowTo (c : BitVec 12) (i : Nat) : BitVec 12 := if i = 2 then lcBlow (lcBlow c 1) 2 else lcBlow c i
/-- LIFE_CYCLE_FUSE_BLOW (R106): it takes effect at once. -/
def applyFlag (s : State) (h : Header) : State :=
  match lcFlag (life s) h with
  | some i =>
    let c := lcBlowTo s.fus.lcCells i
    { s with fus := { s.fus with lcCells := c, lcRaw := lcRead c } }
  | none => s
/-- IMAGE_CHECK_DONE (R105, R106, R119): the checks of step 3c on the image in the flash. -/
def execImageCheckDone (s : State) : Out :=
  match s.nvm.hdr with
  | some h =>
    if !atStep s 3 2 then .next s else
    let code := imageCode s.fus.shadow s.nvm.flash h s.nvm.densityLog2
    if code = 0 then .next (toStep (loadImage (applyFlag s h) h (imageOf s.nvm.flash h)) 3 3)
    else
      let s1 := if code = 0x14 then { s with nvm := { s.nvm with logBase := none, hdr := none } } else s
      .next (enterSafe s1 code)
  | none => .next s
/-- The history the scan finds, or an empty one (R111, R124, R415). -/
def takeHistory (s : State) (c : Option Snapshot) (shut : Option ShutRecord) : State :=
  let h := c.getD {}
  let zones := s.zones.mapIdx fun z zn =>
    { zn with
      zsafeN := h.zones.getD z 0
      tiles := zn.tiles.mapIdx fun t x => { x with summary := h.tiles.getD (gTile s z t) 0 }
      arrays := zn.arrays.mapIdx fun a x => { x with logged := h.ageing.getD (gArr s z a) 0 } }
  { s with
    zones
    snag := { s.snag with recov := padTo 256 0 h.recov, runNs := h.hours * 3600000000000, ageing := h.ageing, tileSums := h.tiles
                          zoneSums := h.zones }
    thm := { s.thm with lastShut := shut } }
/-- The log area as the scan leaves it (R124): where log writes are permitted (R104), a region with no valid sector header is initialised. -/
def scannedFlash (s : State) (h : Header) : List Host.Cell :=
  if logWrites s then [1, 2, 3].foldl (fun m r => initRegion m h r) s.nvm.flash else s.nvm.flash
/-- LOG_SCAN_DONE (R95, R124): sector headers, latest counters snapshot and latest shutdown record. A scan that fails (`ok` false) is a
NOTE, and the start goes on with empty history. -/
def execLogScanDone (ok : Bool) (s : State) : Out :=
  if !atStep s 3 3 then .next s else
  match s.nvm.hdr, ok with
  | some h, true =>
    let m := scannedFlash s h
    let torn := tornFound m h
    let located := [1, 2, 3].all fun r => (headSector m h r).isSome
    let n := { s.nvm with
      flash := m, logOk := located, torn := s.nvm.torn || torn, eraseMax := eraseMaxOf m h, snapNo := nextSnap m h }
    let s1 := takeHistory { s with nvm := n } (latestSnap m h) (latestShut m h)
    .next (toStep (if torn then note s1 0x68 0 else s1) 4 0)
  | _, _ => .next (toStep (note (takeHistory s none none) 0x68 0) 4 0)
/-- USER_CAL_DONE (R95, R109, R362): the corrections are in force, and the converter's self-calibration begins. -/
def execUserCalDone (s : State) : Out := if atStep s 4 0 then .next (beginCal (toStep s 5 0)) else .next s

/-! ## Steps 5 and 6 (R99, R100, R186, R348, R362) -/

/-- Step 6: the MSF samples from here on (R28). A generator that is not locked ends the start at INSTANCE-SAFE (R186); else the soft start
begins (R100). -/
def beginStep6 (s : State) : State :=
  let s1 := toStep { s with su := { s.su with waitThermal := false, msfGrid := true } } 6 0
  if s.msf.lock && !s.msf.syncLost then { s1 with msf := s1.msf.softStart (now s) } else report s1 0x28 0 .instSafe
/-- Step 5 goes on after self-calibration: the thermal wait, or step 6 (R99). -/
def thermalGate (s : State) : State :=
  match s.thm.lastShut with
  | some r => if r.type = 1 then { s with su := { s.su with waitThermal := true, thermalAt := none } } else beginStep6 s
  | none => beginStep6 s
/-- TCV_SELF_CAL_DONE (R95, R362): the spans of 16 results of ZERO and of CALREF of each modulator. In step 5 a failure is
INSTANCE-SAFE. -/
def execTcvSelfCalDone (spanA spanB : CalSpans) (s : State) : Out :=
  match s.tcv.calAt with
  | some t =>
    if !alive s || now s < t + 19200000 then .next s else
    let a := calOf s.tcv.calChop spanA
    let b := calOf s.tcv.calChop spanB
    if sinceReady s then .next (calDoneRun s a b)
    else if !atStep s 5 0 || s.su.waitThermal then .next s
    else if calOk a && calOk b then .next (thermalGate (tcvStart { s with tcv := storeCal s.tcv a b }))
    else .next (report { s with tcv := { s.tcv with calAt := none } } 0x49 0 .instSafe)
  | none => .next s
/-- The temperature of the restart check: the recorded zone's, or the highest of any (R348). -/
def restartTz (s : State) (r : ShutRecord) : Int × Bool × Nat :=
  if r.zone < s.zones.length then tzOf s r.zone
  else match (List.range s.zones.length).map (tzOf s) with
    | x :: xs => xs.foldl (fun m y => if m.1 < y.1 then y else m) x
    | [] => (8 * s.thm.cfg.tHot, false, 0)
/-- The record of a passed check (R347, R348). -/
def clearRecord (s : State) (r : ShutRecord) (x : Int × Bool × Nat) : ShutRecord :=
  { r with type := 2, source := (if x.2.1 then 128 else 0) + x.2.2, time := now s, temp := x.1, tCrit := s.thm.cfg.tCrit
           tRestart := s.thm.cfg.tRestart, cause := 0, configId := s.nvm.imageId, bandmap := bandMap s }
/-- THERMAL_RESTART_CHECK (R99, R348): every 10 ms while WAIT_THERMAL holds. -/
def execThermalRestartCheck (s : State) : Out :=
  let due := match s.su.thermalAt with
    | some t => t + 10000000 ≤ now s
    | none => true
  match s.thm.lastShut with
  | some r =>
    if !atStep s 5 0 || !s.su.waitThermal || !due then .next s else
    let x := restartTz s r
    if x.1 < 8 * s.thm.cfg.tRestart then
      .next (beginStep6 (logOther s (.shut (clearRecord s r x))))
    else .next { s with su := { s.su with thermalAt := some (now s) } }
  | none => .next s

/-! ## Step 7 begins, and the stages of step 8 (R28, R95, R101, R102, R134, R422) -/

/-- Step 7 begins: the grid starts, the bands are formed, and the classes run; an unlocked zone generator ends the start (R422). -/
def beginStep7 (s : State) : State :=
  let su1 : StartUp := { s.su with grid := true }
  let s1 := toStep { s with su := su1, bist := { s.bist with startCls := 0 }, zones := s.zones.map fun zn => { zn with leaseAt := now s } } 7 0
  match (List.range s.zones.length).find? fun z => !(zoneD s z).syncLock || (zoneD s z).syncLost with
  | some z => enterSafe (setResult s1 false false 5 0 z) 0x20
  | none => formLimits (firstBands s1)
/-- MSF_SETTLE_END (R197): 1.0 ms after entry to SETTLE; in step 6 the step is complete. -/
def execMsfSettleEnd (s : State) : Out :=
  if s.msf.st ≠ .settle || now s < s.msf.stAt + 1000000 then .next s else
  let s1 := settleEnd s
  .next (if s1.msf.st = .run && atStep s 6 0 then beginStep7 s1 else s1)

/-- Every zone of the stage in progress has reached MIST, or is in SAFE (R101). -/
def stageOver (s : State) : Bool :=
  s.zones.all fun zn => zn.cfg.stage ≠ s.su.stage || ((zn.ramp.isNone && zn.nextSt.isNone) && zn.st ≠ .off) || zn.st = .safe
/-- What is set at READY in the parts of the block (R458): every value and count that runs since READY. -/
def atReady (s : State) : State :=
  let c := { s.caps with
    codes := List.replicate 16 15, uncal := true, kcal := 0x4000, kcalNext := none, calAt := some (now s), calAcc := none, rejects := 0, pWin := 0, iWin := 0
    p1ms := 0, p1s := 0, sumMs := 0, cntMs := 0, sumS := 0, cntS := 0, sumAll := 0, cntAll := 0, haveMs := false, haveS := false, uP := 0
    uE := 0, prSum := 0, peSum := 0, prCnt := 0, pLog := [], rxSegs := [] }
  let fz := s.fce.zones.map fun z => { z with h := List.replicate 32 0, family := none }
  let tc := { s.tcv with
    queue := [], qmask := 0, ovf := 0, pmSum := 0, pmCnt := 0, pmGap := false, estRow := 0, winEst := false, winSlots := 0
    res := s.tcv.res.map fun r => { r with valid := false, outside := false } }
  let lt := { s.lth with corr := 0, uncorr := 0, lost := 0, repeats := 0, streams := [], bad := [] }
  let zs := s.zones.map fun zn => { zn with
    segs := [], sent := [], izSum := 0, izCnt := 0, learn := [], learnRun := true, learnIssue := true }
  let full (z : Nat) : BitVec 64 × BitVec 8 :=
    (BitVec.ofNat 64 (ofBits ((List.range (zoneD s z).tiles.length).filter (senseTile (zoneD s z)))),
     BitVec.ofNat 8 (ofBits ((List.range 8).filter (diodeOf s z))))
  let tz := s.thm.zones.mapIdx fun z x => { x with validTiles := (full z).1, validDiodes := (full z).2, tmax := none }
  { s with
    caps := c, nrg := {}, zones := zs, tcv := tc, lth := lt
    fce := { s.fce with running := true, zones := fz, out := [], fpv := none, foLog := [] }
    msf := { s.msf with imSum := 0, imCnt := 0 }
    thm := { s.thm with zones := tz }
    snag := { s.snag with snapAt := now s }
    bist := { s.bist with sliceAt := now s }
    tb := { s.tb with parts := List.replicate 16 {} } }
/-- READY_RISE (R102): at a sample instant after the last stage, with no INSTANCE-SAFE or worse. -/
def readyRise (s : State) : State :=
  let s1 := atReady { s with
    su := { s.su with stepNo := 9, readyEver := true, readyAt := some (now s) }, pins := { s.pins with ready := true } }
  let k := now s
  let s2 : State := { s1 with zones := s1.zones.map fun (zn : Zone) => (zn.drive k true false).updStretch k true }
  thmLook { s2 with pins := { s2.pins with thrReq := levelIn s2 }, thm := { s2.thm with chgAt := k } }
/-- ZONE_STAGE_DONE (R101, R102): the next stage starts; after the last, READY rises at a sample instant. -/
def execZoneStageDone (s : State) : Out :=
  if !(running s && s.su.stepNo = 8) || halted s || !stageOver s then .next s else
  match (stagesOf s).find? fun g => s.su.stage < g with
  | some g => .next (startStage s g)
  | none => if atSample s && !instSafeOrWorse s then .next (readyRise s) else .next s

/-! ## STARTUP_STEP_TIMEOUT (R95) -/

/-- The time a single-SPI or quad read takes, ns, of n bytes at a divider (R115). -/
def readTime (mode div n : Nat) : Nat := n * (if mode = 0 then 8 else 2) * 2 * div
/-- Channels the highest ladder level runs. -/
def topChannels (m : MsfCfg) : Nat := ((List.range m.nch).filter fun k => k % max 1 (m.divs.getLastD 1) = 0).length
/-- The bound of the step in progress, ns; none where the count does not measure it or the step has none (R95, R421). -/
def stepBound (s : State) : Option Nat :=
  let b := s.bist.cfg
  match s.su.stepNo, s.su.sub with
    | 3, 0 => some 3000000
    | 3, 1 => some (readTime s.nvm.mode s.nvm.sckDiv ((s.nvm.hdr.map (·.imageLen)).getD 0) + 100000)
    | 3, 2 => some (6000000 + (match s.nvm.hdr with
        | some h => if (lcFlag (life s) h).isSome then 2000000 else 0
        | none => 0))
    | 3, _ => some 2000000
    | 4, _ => some 1600000
    | 5, _ => some 19200000
    | 6, _ => some 10000000
    | 7, _ =>
      let m := s.msf.cfg
      let rest := m.nch - topChannels m
      let tiles := sumN (s.zones.map fun zn => zn.tiles.length)
      let rounds := max (maxN (s.zones.map fun zn => zn.tiles.length)) ((tiles + 31) / 32)
      some (12000000 + sumN b.memSlices * 15360 + b.links * 40000 + 3200000 + (rest + 7) / 8 * 400000 + rounds * 3300000)
    | _, _ => none
/-- The step in progress has overrun its bound. Step 2 begins before any count runs, and its 1.0 ms is told by the command (assumption 107). -/
def stepOver (s : State) : Bool :=
  s.su.stepNo = 2 || (match stepBound s with
    | some n => s.su.stepAt + n < now s
    | none => false)
/-- FAIL of a step 2 that overruns (R95): 0x04 where the time base has not locked; else the fuse read has not finished, and which of its two
codes is reported is a free value. -/
def step2Fail (s : State) : Nat := if !s.su.lockDone then 0x04 else if Config.startFail 2 0 % 2 = 0 then 0x01 else 0x02
/-- STARTUP_STEP_TIMEOUT (R95): the last column of the step's row. Step 8 is bounded zone by zone (R101). -/
def execStartupStepTimeout (s : State) : Out :=
  if !running s || halted s || sinceReady s || !stepOver s then .next s else
  match s.su.stepNo, s.su.sub with
  | 2, _ => .next (enterSafe s (step2Fail s))
  | 3, 3 => execLogScanDone false s
  | 3, n => .next (enterSafe s (Config.startFail 3 n % 256))
  | 5, _ => if s.su.waitThermal then .next s else .next (report { s with tcv := { s.tcv with calAt := none } } 0x49 0 .instSafe)
  | 6, _ => if s.msf.tries = 0 && s.msf.loop then .next (report s 0x2A 0 .instSafe) else .next s
  | 7, _ => if s.csc.forming then .next s else .next (enterSafe s 0x20)
  | _, _ => .next s

end Sys2Proof.Machine
end

