-- ==== Sys2Proof/Machine/Walk.lean ====
section
/-!
DEFINITION. The zone walk (05_zone_control_law.md R174 to R176, R183), the Float tables (R168 to R170), the host's GATE_ACK, and the
zone rows that follow a sample.
-/
namespace Sys2Proof.Machine

/-! ## Transitions (R175) -/

/-- RUN = 0 at every tile of the zone at this instant. -/
def Zone.stopTiles (zn : Zone) : Zone :=
  { zn with
    law := { zn.law with cmds := [], starting := false }
    tiles := zn.tiles.map fun t => { t.stop false with cmd := { t.cmd with run := false } } }
/-- MIST or RETAIN is reached from OFF or RETAIN: G is FBOOT (R289) and an assertion of STRETCH_REQ counts from here (R59). -/
def Zone.arrive (zn : Zone) (st : ZState) (k : Nat) : Zone :=
  let z1 := { zn with st, ramp := none, nextSt := none, slowed := false, deferred := false }
  if st = .mist then
    { z1 with sft := { zn.sft with
        g := max 1 zn.cfg.fboot, floorG := max 1 zn.cfg.fboot
        since := if zn.sft.req then some k else none } }
  else z1
/-- The zone leaves HOLD for MIST (R169, R176). `abort`: a sample in HOLD called for it. The answer's second part is the FLT_STATUS bit a
NOTE goes with: TBL_REFUSED, or HOLD_ABORT. -/
def Zone.exitHold (zn : Zone) (copy abort : Bool) : Zone × Option Nat :=
  let r := zn.leaveHold copy
  ({ r.1 with st := .mist, gateAt := none, nextSt := none }, if abort then some 3 else if r.2 then some 4 else none)
/-- The end of a walk beyond MIST: OFF, RETAIN or HOLD is entered at instant k. -/
def Zone.gated (zn : Zone) (st : ZState) (k : Nat) : Zone :=
  let z1 := { zn with st, gateAt := none }
  match st with
  | .off => z1.stopTiles
  | .hold => { z1 with holdAt := some k, law := { zn.law with cmds := [] } }
  | .retain | .mist | .run | .safe => z1
/-- A zone state beyond MIST that a TARGET names. -/
def beyond (target : Nat) : ZState := if target = 0 then .off else if target = 1 then .retain else .hold
/-- GATE_ACK[a] as sample k sees it: a change less than 2 ns old is not yet seen (R57). -/
def Arr.ackAt (a : Arr) (k : Nat) : Bool := if a.gateAckAt + 2 ≤ k then a.gateAck else !a.gateAck
/-- GATE_ACK is high for every array. -/
def Zone.allAck (zn : Zone) (k : Nat) : Bool := zn.arrays.all fun a => a.ackAt k
/-- The ramp a target calls for from OFF or RETAIN, applied at r. -/
def Zone.wantRamp (zn : Zone) (k : Nat) : Zone :=
  let r : Nat := match zn.ramp with
    | some x => x.r
    | none => k
  if 2 ≤ zn.target then { zn with ramp := some { r } }
  else if zn.target = 1 && zn.st = .off then { zn with ramp := some { toRetain := true, r } }
  else { zn with ramp := none, deferred := false }
/-- One step of the walk at sample instant k (R175); the second part is the FLT_STATUS bit a NOTE 0x14 goes with. -/
def Zone.walk (zn : Zone) (k : Nat) (since : Bool) : Zone × Option Nat :=
  if zn.halted then (zn, none) else
  match zn.nextSt with
  | some st => if zn.st = .hold then zn.exitHold false true else (zn.arrive st k, none)
  | none =>
    if zn.admitted then (zn, none) else
    match zn.st with
    | .safe => (if zn.snagSafe then zn else { zn with st := .off, target := if zn.arrays.isEmpty then 0 else 1 }, none)
    | .off => (zn.wantRamp k, none)
    | .retain => (if zn.target = 0 then { zn with st := .off, ramp := none, deferred := false }.stopTiles else zn.wantRamp k, none)
    | .mist =>
      match zn.gateAt with
      | some g => (if g < k && zn.allAck k then zn.gated zn.gateTo k else zn, none)
      | none =>
        if zn.target = 2 then (zn, none)
        else if zn.target = 3 then ({ zn with st := .run }, none)
        else if zn.arrays.isEmpty then (zn.gated (beyond zn.target) k, none)
        else if zn.gateFailed then (zn, none)
        else ({ zn with gateAt := some k, gateTo := beyond zn.target }, none)
    | .run =>
      match zn.exitCnt with
      | some n => ({ zn with exitCnt := some (satInc 31 n) }, none)
      | none => (if zn.target = 3 then zn else { zn.denyLeaving k since with exitCnt := some 0 }, none)
    | .hold => if zn.target = 4 then (zn, none) else zn.exitHold true false

/-- A ramp starts at instant `at_` with its slew (R175, R183); from OFF the tiles start with RUN = 1. -/
def Zone.startRamp (zn : Zone) (r : ZRamp) (at_ slew vmaxF : Nat) : Zone :=
  let z1 := { zn with ramp := some { r with started := some at_, slew } }
  let (vz, sl) := z1.setpoint vmaxF
  { z1 with law := { zn.law with
      vz, slew := sl, starting := decide (zn.st = .off)
      cmds := if zn.st = .off then startCmds z1 vmaxF else zn.law.cmds.mapIdx fun t c => c.map fun c =>
        { c with vcode := ((vz : Int) + zn.so t).toNat, slew := sl } } }
/-- Admission of a ramp, decided at the update of sample k for k + 64 (R183); start-up ramps are not paced. -/
def Zone.admitTests (zn : Zone) (k : Nat) (busy since : Bool) (vmaxF : Nat) : Zone :=
  match zn.ramp with
  | some r =>
    match r.started with
    | some j => if j = k then { zn with deferred := false } else zn
    | none =>
      if r.startup then zn.startRamp r (k + 64) r.slew vmaxF
      else if !since then zn
      else if busy then { zn with deferred := true }
      else zn.startRamp r (k + 64) (max 1 zn.cfg.pupSlew) vmaxF
  | none => zn
/-- The output of every live tile lies within ±10 mV of the set-point, and zref has reached it (R175). -/
def Zone.atSetpoint (zn : Zone) : Bool :=
  zn.law.zref.q = codeQ zn.law.vz && !zn.liveTiles.isEmpty && zn.liveTiles.all fun t =>
    ((zn.tiles.getD t {}).rep.v - (codeQ zn.law.vz : Int) - 10 * zn.so t).natAbs ≤ 40
/-- Samples counted towards MIST or RETAIN. -/
def Zone.countRamp (zn : Zone) (k : Nat) : Zone :=
  match zn.ramp with
  | some r =>
    match r.started with
    | some j => if j ≤ k then
        { zn with ramp := some { r with within := if zn.atSetpoint then satInc 64 r.within else 0 } } else zn
    | none => zn
  | none => zn

/-! ## Rows of the walk -/

/-- A NOTE 0x14 of zone z with FLT_STATUS bit b. -/
def note14 (s : State) (z b : Nat) : State :=
  note (modZone s z fun zn => { zn with status := zn.status ||| BitVec.ofNat 8 (2 ^ b) }) 0x14 z
/-- The zone's outputs follow its state at a sample instant; between samples they wait for the next (R56, R174). -/
def redrive (s : State) (z : Nat) : State :=
  if !atSample s then s else
  updStretch (modZone s z fun zn => zn.drive (now s) (ready s) (instSafeOrWorse s)) z

/-- FLT_REQ_WRITE (R175): TARGET and COMMIT; 5 to 7 are ignored with a NOTE, OFF in a zone with arrays is RETAIN with a NOTE. -/
def execFltReqWrite (z : Nat) (w : W32) (s : State) : Out :=
  let zn := zoneD s z
  let tg := fld w 0 3
  let hold := !zn.arrays.isEmpty && tg = 0
  if !alive s || !hasZone s z || !sinceReady s then .next s
  else if 5 ≤ tg then .next (note s 0x01 0)
  else
    let s1 := modZone s z fun zn => { zn with target := if hold then 1 else tg, commit := w.getLsbD 8, gateFailed := false }
    .next (if hold then note s1 0x01 0 else s1)

/-- PUP_DEFER_EXPIRY (R183): a ramp still deferred at r + 2 ms starts at a quarter of PUP_SLEW, at least 1. -/
def execPupDeferExpiry (z : Nat) (s : State) : Out :=
  match (zoneD s z).ramp with
  | some r =>
    if hasZone s z && r.started.isNone && !r.startup && sinceReady s && r.r + 2000000 ≤ now s then
      .next (note14 (modZone s z fun zn =>
        { zn.startRamp r (now s) (max 1 (zn.cfg.pupSlew / 4)) (zoneVmax s z) with slowed := true, deferred := false }) z 7)
    else .next s
  | none => .next s

/-- ZONE_RAMP_DONE (R101, R175): 64 consecutive samples within ±10 mV; the state is entered at the next instant. -/
def execZoneRampDone (z : Nat) (s : State) : Out :=
  match (zoneD s z).ramp with
  | some r =>
    if hasZone s z && r.started.isSome && 64 ≤ r.within then
      .next (modZone s z fun zn => { zn with nextSt := some (if r.toRetain then .retain else .mist) })
    else .next s
  | none => .next s

/-- ZONE_RAMP_TIMEOUT (R101, R175): 5.0 ms from the ramp's start, or from its stage's start, without MIST or RETAIN. -/
def execZoneRampTimeout (z : Nat) (s : State) : Out :=
  let zn := zoneD s z
  match zn.ramp with
  | some r =>
    let t0 := if r.startup then some s.su.stageAt else r.started
    match t0 with
    | some t => if hasZone s z && zn.nextSt.isNone && t + 5000000 ≤ now s then .next (report s 0x1A z .zoneSafe) else .next s
    | none => .next s
  | none => .next s

/-- ZONE_RUN_EXIT_DONE (R175): after 16 samples at issue code 0 the zone is in MIST. -/
def execZoneRunExitDone (z : Nat) (s : State) : Out :=
  let zn := zoneD s z
  match zn.exitCnt with
  | some n =>
    if hasZone s z && zn.st = .run && 16 ≤ n then
      .next (redrive (modZone s z fun zn => { zn with st := .mist, exitCnt := none }) z)
    else .next s
  | none => .next s

/-- ZONE_GATE_TIMEOUT (R175): 100 µs without every GATE_ACK; GATE_REQ falls and the zone stays in MIST. -/
def execZoneGateTimeout (z : Nat) (s : State) : Out :=
  match (zoneD s z).gateAt with
  | some g =>
    if hasZone s z && g + 100000 ≤ now s then
      .next (redrive (note14 (modZone s z fun zn => { zn with gateAt := none, gateFailed := true }) z 5) z)
    else .next s
  | none => .next s

/-- HOLD_TIMEOUT (R176): at h + 2 ms the zone leaves HOLD without copying. -/
def execHoldTimeout (z : Nat) (s : State) : Out :=
  let zn := zoneD s z
  match zn.holdAt with
  | some h =>
    if hasZone s z && zn.st = .hold && h + 2000000 ≤ now s then
      .next (redrive (note14 (modZone s z fun zn => (zn.exitHold false false).1) z 2) z)
    else .next s
  | none => .next s

/-- GATE_ACK (R175, R317): the host's level for array a; beyond NARRAYS it is ignored (R64). -/
def execGateAck (z a : Nat) (level : Bool) (s : State) : Out :=
  .next (modArr s z a fun x => if x.gateAck = level then x else { x with gateAck := level, gateAckAt := now s })

/-- GATE_ACK_LATE (R317): an array gated in RUN by pair 0 has not acknowledged within 100 µs. -/
def execGateAckLate (z a : Nat) (s : State) : Out :=
  let zn := zoneD s z
  let x := arrD s z a
  if hasArr s z a && zn.st = .run && zn.gateRun a && x.gateReq && !x.gateAck && x.gateReqAt + 100000 ≤ now s then
    .next (note { s with caps := { s.caps with status := s.caps.status ||| 32 } } 0x3A 0)
  else .next s

/-! ## Tables (R168 to R170) -/

/-- A table of a bank: 0 gain, 1 spatial, 2 step-position; 3 is empty. -/
def Tables.get (x : Tables) (n : Nat) : List W32 := if n = 0 then x.gain else if n = 1 then x.spatial else if n = 2 then x.step else []
/-- One entry of a table written. -/
def Tables.put (x : Tables) (n i : Nat) (w : W32) : Tables :=
  if n = 0 then { x with gain := x.gain.set i w } else if n = 1 then { x with spatial := x.spatial.set i w }
  else if n = 2 then { x with step := x.step.set i w } else x
/-- BANK, TABLE and INDEX of FLT_TBL_ADDR. -/
def Zone.tblBank (zn : Zone) : Bool := zn.tblAddr.getLsbD 8
def Zone.tblTable (zn : Zone) : Nat := bitsOf zn.tblAddr.toNat 6 2
def Zone.tblIndex (zn : Zone) : Nat := bitsOf zn.tblAddr.toNat 0 6 % (if zn.tblTable = 0 then 32 else 64)
/-- INDEX advances, wrapping at 32 for the gain table and at 64 for the others. -/
def Zone.tblNext (zn : Zone) : Zone :=
  let m := if zn.tblTable = 0 then 32 else 64
  { zn with tblAddr := BitVec.ofNat 9 (fields [((zn.tblIndex + 1) % m, 0, 6), (zn.tblTable, 6, 2), (b2n zn.tblBank, 8, 1)]) }
/-- The entry FLT_TBL_DATA reads. -/
def Zone.tblRead (zn : Zone) : W32 := ((if zn.tblBank then zn.shadow else zn.active).get zn.tblTable).getD zn.tblIndex 0

/-- FLT_TBL_DATA_ACCESS (R169): a read, or a write of the shadow bank in HOLD; a write of it outside HOLD is refused with a NOTE. -/
def execFltTblDataAccess (z : Nat) (write : Option W32) (s : State) : Out :=
  let zn := zoneD s z
  if !alive s then .next s
  else if !hasZone s z || !sinceReady s then
    .next (match write with | none => rpData s 0 | some _ => s)
  else match write with
    | none => .next (rpData (modZone s z Zone.tblNext) zn.tblRead)
    | some w =>
      if zn.tblBank && zn.tblTable < 3 && zn.st ≠ .hold then .next (note14 (modZone s z Zone.tblNext) z 4)
      else if zn.tblBank then
        .next (modZone s z fun zn =>
          { zn.tblNext with
            shadow := zn.shadow.put zn.tblTable zn.tblIndex w
            shadowBad := zn.shadowBad.filter fun x => x ≠ (zn.tblTable, zn.tblIndex) })
      else .next (modZone s z Zone.tblNext)

/-- Every word of the shadow bank, by table and index. -/
def Tables.words (x : Tables) : List (Nat × Nat) :=
  (List.range x.gain.length).map (fun i => (0, i)) ++ (List.range x.spatial.length).map (fun i => (1, i)) ++
    (List.range x.step.length).map fun i => (2, i)
/-- FLOAT_TABLE_ECC_ERROR (R170): a corrected read sets TBL_CORRECTED; an uncorrectable error takes the zone to ZONE-SAFE in the active
bank, and is a NOTE in the shadow bank, where every word must then be rewritten before a COMMIT. -/
def execFloatTableEccError (z : Nat) (shadow corrected : Bool) (s : State) : Out :=
  if !hasZone s z then .next s
  else if corrected then .next (modZone s z fun zn => { zn with status := zn.status ||| 64 })
  else if shadow then .next (note (modZone s z fun zn => { zn with shadowBad := zn.shadow.words }) 0x14 z)
  else .next (assertCond s 0x13 z .zoneSafe)

/-- ZONE_STROBE_LOSS (R385): a Float that misses two consecutive strobes takes its zone to SAFE on its own; source 0x19. -/
def execZoneStrobeLoss (z : Nat) (s : State) : Out :=
  if running s && hasZone s z && s.su.grid && (zoneD s z).st ≠ .safe then
    .next (assertCond (zoneToSafe s z) 0x19 z .zoneSafe)
  else .next s

/-- UPDATE_OVERRUN (R30): the previous commands stay in force at the next instant; a NOTE, and DEGRADE at the second in a zone within
1,024 consecutive samples. -/
def execUpdateOverrun (z : Nat) (s : State) : Out :=
  let zn := zoneD s z
  if !running s || !hasZone s z || !s.su.grid then .next s else
  let k := floorTo 64 (now s)
  let near : Bool := match zn.overrunAt with
    | some j => k < j + 1024 * 64
    | none => false
  let s1 := modZone s z fun zn =>
    { zn with
      law := { zn.law with cmds := [] }, status := zn.status ||| 1, overrunAt := some k
      overruns := if sinceReady s then satInc 0xFFFF zn.overruns else zn.overruns }
  .next (report s1 0x10 z (if near then .degrade else .note))

end Sys2Proof.Machine
end

