-- ==== Sys2Proof/Machine/Sample.lean ====
section
/-!
DEFINITION. SAMPLE_INSTANT (01 R28, 95): what every tile, Float and the MSF do at a multiple of 64 TBT, zone by zone in ascending z.
-/
namespace Sys2Proof.Machine

/-! ## One zone -/

/-- Commands that reach the tiles at instant k: the Float's, and a stop with the BIST selection for a tile to be tested (R155, R425). -/
def Zone.cmdFor (zn : Zone) (k t : Nat) (x : Tile) : Option Cmd :=
  let c := (zn.law.cmds.getD t none).map (zn.withWin t k)
  if x.test.isSome && x.st ≠ .test && x.stopping.isNone then some { (c.getD x.cmd) with run := false, test := true } else c
/-- Tiles whose command is clamped and differs from the one before (R136). -/
def Zone.clampNotes (zn : Zone) (k vmaxF : Nat) : List Nat :=
  (List.range zn.tiles.length).filter fun t => match zn.tiles[t]? with
    | some x => (match zn.cmdFor k t x with
      | some c => x.clampNote c vmaxF
      | none => false)
    | none => false
/-- The output captured by the first tile that starts now, to which zref is set (R140, R160). -/
def Zone.startQ (zn : Zone) : Nat :=
  match (List.range zn.tiles.length).find? fun t => (zn.tiles.getD t {}).st = .off && (zn.law.cmds.getD t none).isSome with
  | some t => (zn.tiles.getD t {}).v
  | none => zn.law.zref.q
/-- TILE_COMMAND_APPLY: every tile applies its command at instant k; zref follows the set-point sent (R155, R160). -/
def Zone.applyCmds (zn : Zone) (k vmaxF : Nat) : Zone :=
  let any := zn.law.cmds.any (·.isSome)
  let vzIn := if any then zn.law.vz else zn.law.vzIn
  let slewIn := if any then zn.law.slew else zn.law.slewIn
  let l1 : Law := { zn.law with
    cmds := [], starting := false, vzIn, slewIn
    zref := zn.law.zref.retarget (decide (vzIn = zn.law.vzIn) && decide (slewIn = zn.law.slewIn)) }
  let l2 : Law := if zn.law.starting then { l1 with acc := 0, b := [], zref := { q := zn.startQ } } else l1
  { zn with
    law := l2, clr := []
    tiles := zn.tiles.mapIdx fun t x => match zn.cmdFor k t x with
      | some c => x.apply c k x.v vmaxF
      | none => x }
/-- TILE_SAMPLE_REPORT: the tiles capture their sensors, and zref moves with the reference (R28, R156, R160). -/
def Zone.capture (zn : Zone) (raw : List RawTile) (k : Nat) : Zone :=
  { zn with
    tiles := zn.tiles.mapIdx fun t x => x.capture (raw.getD t {}) k
    law := { zn.law with zref := zn.law.zref.advance (codeQ zn.law.vzIn) (slewOf zn.law.slewIn) 64 } }
/-- A sample in HOLD calls for an abort (R176). -/
def Zone.holdAbort (zn : Zone) (k : Nat) : Bool :=
  160 ≤ (zn.errorAt k).natAbs || zn.tiles.any (fun t => t.rep.droop) || !zn.allAck k
/-- FLOAT_UPDATE: the law runs, is held open in HOLD, or is not run (R160, R174). -/
def Zone.update (zn : Zone) (p : Part) (k vmaxF : Nat) : Zone :=
  let fresh := match zn.ramp with
    | some r => zn.st = .off && r.started = some (k + 64)
    | none => false
  if zn.lawRuns && zn.st ≠ .hold && !fresh then lawUpdate zn p k vmaxF
  else
    let z1 := zn.markStep
    { z1 with law := { z1.law with
        iz := z1.izAt, e := if z1.st = .hold then z1.errorAt k else z1.law.e, ilimEff := z1.ilimEff, pos := p.pos k, pub := (z1.izAt, z1.ilimEff) } }
/-- Tiles whose in-field test the sample abandons (R430). -/
def Zone.abandoned (zn : Zone) : List Nat :=
  (List.range zn.tiles.length).filter fun t =>
    let x := zn.tiles.getD t {}
    x.st = .test && ((x.cfg.nbrs.any fun m => zn.live m && (zn.tiles.getD m {}).rep.droop) ||
      (95 * zn.law.ilimEff : Int) < 100 * zn.law.iz)
/-- The Float's summary of sample k for the forecast engine (R212). -/
def Zone.summary (zn : Zone) (k : Nat) : Summary :=
  { k, band := zn.lim.band, run := decide (zn.st = .run), iz := zn.law.iz, e := zn.law.e
    nact := sumN (zn.liveTiles.map fun t => (zn.tiles.getD t {}).rep.nact), nlive := zn.liveTiles.length
    issue := sumN (zn.arrays.map (·.issue)), win := zn.arrays.any fun a => a.watch && a.w ≤ k && k < a.w + 20 * a.g }
/-- The Float's summary of sample k is kept for the forecast engine, from the start of step 7 (R28, R212). -/
def Zone.keepSummary (zn : Zone) (k : Nat) : Zone := { zn with summaries := (zn.summary k :: zn.summaries).take 512 }
/-- What a sample adds after READY: energy, the zone's mean current, and learning (R258, R260, R308, R319). -/
def Zone.account (zn : Zone) (p : Part) (k : Nat) : Zone :=
  let iz := zn.law.iz
  { zn with
    segs := addSample zn.segs (p.ownerAt k) zn.power
    izSum := zn.izSum + iz, izCnt := zn.izCnt + 1
    learn := zn.learn.modify (p.pos k) fun x => (x.1 + iz, x.2 + 1)
    learnRun := zn.learnRun && zn.st = .run, learnIssue := zn.learnIssue && zn.arrays.all fun a => 15 ≤ a.issue }
/-- The zone is not in SAFE and a sample in HOLD calls for an abort (R176). -/
def Zone.abortDue (zn : Zone) (k : Nat) : Bool := zn.st = .hold && zn.nextSt.isNone && zn.holdAbort k

/-- What a zone does at instant k before its commands are applied: a gathering closes, an action's SAFE is entered, a broken window breaks. -/
def zoneBefore (s : State) (z : Nat) : State :=
  modZone (enterZoneSafe (closeGather s z) z) z fun zn => zn.breakDue (now s) (sinceReady s)
/-- The walk at instant k, while the zone may walk; at HALT the requests of a zone in RUN are denied as at the end of RUN (R409). -/
def Zone.walkAt (zn : Zone) (k : Nat) (free since halt : Bool) : Zone × Option Nat :=
  let z1 := if halt && zn.st = .run then zn.denyLeaving k since else zn
  if free || z1.nextSt.isSome then z1.walk k since else (z1, none)
/-- What a zone does at instant k after its commands are applied: the host's requests and the reports of windows. -/
def Zone.hostPart (zn : Zone) (k vf : Nat) (up since : Bool) : Zone :=
  let z1 := (((zn.winJudge k).setReqs k).denyDue k since).freqSample k vf up since
  { z1 with arrays := z1.arrays.map fun a => a.gntFall k }
/-- A zone's part of sample instant k, up to the reports it sends: capture, walk, commands, update, outputs. -/
def zoneSample (k : Nat) (raw : List (List RawTile)) (busy : List Bool) (s0 : State) (z : Nat) : State :=
  let s := zoneBefore s0 z
  let vf := zoneVmax s z
  let since := sinceReady s
  let free := since && !instSafeOrWorse s
  let z1 := (zoneD s z).capture (raw.getD z []) k
  let (z2, bit) := z1.walkAt k free since (halted s)
  let z3 := z2.winAdvance k
  let notes := z3.clampNotes k vf
  let p := partOf s z3
  let z4 := (z3.applyCmds k vf).admitTests k (busy.getD z false) free vf
  let z5 := z4.hostPart k vf (z4.upNow (ready s) (instSafeOrWorse s)) since
  let z6 : Zone := { z5 with nextSt := if z5.abortDue k then some .mist else z5.nextSt, quietTiles := z5.busyTiles.length }
  let z7 := (z6.update p k vf).countRamp k
  let z8 := ((z7.drive k (ready s) (instSafeOrWorse s)).updStretch k since).endTaints k
  let z9 := (if since then z8.account p k else z8).keepSummary k
  let s1 := modZone s z fun _ => z9
  let s2 := notes.foldl (fun s t => note s 0x23 (gTile s z t)) s1
  let s3 := match bit with
    | some b => note14 s2 z b
    | none => s2
  let s4 := if z9.tooManyFailed && !z9.law.reported then
      assertCond (modZone s3 z fun zn => { zn with law := { zn.law with reported := true } }) 0x12 z .zoneSafe
    else s3
  z9.abandoned.foldl (fun s t => abandonTile s z t) s4

/-! ## The instant -/

/-- The Floats' part of a sample instant: the 85% flags are those published one sample before (R182). -/
def floatsSample (k : Nat) (raw : List (List RawTile)) (s : State) : State :=
  let busy := (List.range s.zones.length).map (busyNeighbour s)
  (List.range s.zones.length).foldl (zoneSample k raw busy) s
/-- READY rises again at the first sample instant after the last INSTANCE-SAFE pair has recovered (R406). -/
def readyAgain (s : State) : State :=
  if sinceReady s && !ready s && !instSafeOrWorse s then { s with pins := { s.pins with ready := true } } else s
/-- THR_REQ changes only at sample instants: 7 in SAFE and while READY is low, else the throttle level that has arrived (R66, R338, R340). -/
def thrSample (s : State) : State :=
  let lvl := if !ready s || instSafeOrWorse s then 7 else levelIn s
  if lvl = s.pins.thrReq then s else
    { s with pins := { s.pins with thrReq := lvl }, thm := { s.thm with chgAt := now s } }
/-- SAMPLE_INSTANT (R28): from step 6 the MSF, and from step 7 the zones, take the captured results. -/
def execSampleInstant (i : SampleInput) (s : State) : Out :=
  if !running s || !s.tb.running || !atSample s || !s.su.msfGrid then .next s else
  let k := now s
  let s1 := if !s.su.grid then s else
    let a := floatsSample k i.zones (readyAgain s)
    let b := if roundDue a then startRound a else a
    if sinceReady b then thmLook b else b
  .next (thrSample { s1 with msf := s1.msf.sample k i.vsns })

end Sys2Proof.Machine
end

