-- ==== Sys2Proof/Machine/Regs.lean ====
section
/-!
DEFINITION. The value every register of the management bank reads as (17_register_and_command_reference.md and the field maps of each
chapter). Each function answers none where no register stands. A read through the SMBus target takes these values (R436).
-/
namespace Sys2Proof.Machine

/-- Index of offset `o` in `n` registers at `base` with stride `st`. -/
def regIdx (o base st n : Nat) : Option Nat :=
  if base ≤ o && o < base + st * n && (o - base) % st = 0 then some ((o - base) / st) else none
/-- Whole milliseconds since an instant, saturating at 16 bits; all ones where there is none. -/
def ageMs (s : State) : Option Nat → Nat
  | some t => satF 16 ((now s - t) / 1000000)
  | none => 0xFFFF
/-- Code of a zone state (FLT_STATE). -/
def zCode : ZState → Nat
  | .off => 0 | .retain => 1 | .mist => 2 | .run => 3 | .hold => 4 | .safe => 5
/-- Code of a tile state (R139). -/
def tCode : TState → Nat
  | .off => 0 | .start => 1 | .reg => 2 | .quiet => 3 | .isolated => 4 | .test => 5
/-- Code of an MSF state. -/
def msfCode : MsfState → Nat
  | .off => 0 | .soft => 1 | .settle => 2 | .run => 3 | .hiccup => 4 | .latched => 5
/-- Code of a domain. -/
def domCode : Domain → Nat
  | .logic => 0 | .array => 1 | .link => 2 | .mif => 3
/-- Code of a set-window state (FLT_SWLAST). -/
def swCode : SwState → Nat
  | .idle => 0 | .pending => 1 | .boosting => 2 | .armed => 3 | .open_ => 4
/-- Code of a cross-check outcome (R369). -/
def xCode : XOut → Nat
  | .all => 0 | .eOut => 1 | .bOut => 2 | .aOut => 3 | .noneM => 4 | .noneE => 5
/-- Code of a life-cycle state (FUS_LC). -/
def lcCode : LifeCycle → Nat
  | .manufacture => 0 | .provisioned => 1 | .deployed => 2 | .returned => 3

/-! ## Identity and time base (00, 01) -/

/-- BLK_ID, BLK_VERSION, BLK_CFG (R21 to R24). -/
def blkId : W32 := word [(0x06D3, 0, 16), (0x0001, 16, 16)]
def blkVersion : W32 := word [(0, 8, 8), (1, 16, 8), (3, 24, 8)]
def blkCfg (s : State) : W32 :=
  word [(s.su.zones, 0, 6), (s.su.tiles, 6, 12), (s.su.fields, 18, 3), (b2n s.su.cascMaster, 21, 1), (s.su.cascId, 22, 3)]
/-- The identity page. -/
def readId (s : State) (o : Nat) : Option W32 :=
  if o = 0 then some blkId else if o = 4 then some blkVersion else if o = 8 then some (blkCfg s) else none
/-- TBS_STATUS (R45, R46). -/
def tbsStatus (s : State) : W32 := word [(b2n s.tb.lock, 0, 1), (b2n s.tb.holdover, 1, 1), (b2n s.tb.holdoverSeen, 2, 1)]
/-- The time-base page (R46). -/
def readTbs (s : State) (o : Nat) : Option W32 :=
  if o = 0x1000 then some (w32 s.tb.count) else if o = 0x1004 then some s.tb.hiCopy else if o = 0x1008 then some (tbsStatus s)
  else match regIdx o 0x1040 4 16, regIdx o 0x1080 4 16 with
    | some p, _ => some (partD s p).epoch
    | _, some p => some (w32 (min 0xFFFFFF (partD s p).period))
    | _, _ => none

/-! ## Snag unit (15, 10) -/

/-- SNG_STATUS. -/
def sngStatus (s : State) : W32 :=
  let h := s.snag.held
  word [(maxN (h.map fun x => clsCode x.cls), 0, 3), (b2n (aliveRuns s), 3, 1), (b2n (h.any (·.preReady)), 4, 1),
    (b2n (h.any (·.latched)), 5, 1), (b2n s.snag.ovfSeen, 6, 1), (b2n (!s.snag.forced.isEmpty), 7, 1), (satF 8 h.length, 16, 8)]
/-- SNG_COUNT. -/
def sngCount (s : State) : W32 := word [(s.snag.notes, 0, 16), (s.snag.raised, 16, 16)]
/-- Bits of a word of codes 32k to 32k + 31. -/
def codeBits (k : Nat) (p : Nat → Bool) : W32 := w32 (ofBits ((List.range 32).filter fun c => p (32 * k + c)))
/-- SNG_SRC for the code of SNG_SRC_SEL. -/
def sngSrc (s : State) : W32 :=
  let c := s.snag.srcSel
  let (cl, u) := match s.snag.latest.find? fun x => x.1 = c with
    | some x => x.2
    | none => (0, 0)
  word [(u, 0, 11), (cl, 11, 3), (b2n (s.snag.held.any fun h => h.code = c && h.latched), 14, 1),
    (b2n (s.snag.held.any fun h => h.code = c), 15, 1), (recovOf s c, 16, 16)]
/-- SNG_ZONE[z]: entries to ZONE-SAFE, and the lowest held ZONE-SAFE code of the zone. -/
def sngZone (s : State) (z : Nat) : W32 :=
  let cs := (s.snag.held.filter fun h => h.cls = .zoneSafe && h.unit = z).map (·.code)
  word [(cs.foldl min (cs.headD 0), 0, 8), (if hasZone s z then (zoneD s z).zsafeN else 0, 16, 16)]
/-- SNG_TNT (R68). -/
def sngTnt (s : State) : W32 := word [(s.tnt.queue.length, 0, 6), (b2n s.tnt.ovfSeen, 6, 1), (s.tnt.overflows, 16, 16)]
/-- The Snag page. -/
def readSng (s : State) (o : Nat) : Option W32 :=
  let g := s.snag
  if o = 0x2000 then some (sngStatus s)
  else if o = 0x2004 then some (word [(g.cfg.aliveHalf, 0, 9), (g.cfg.latchN, 12, 4), (g.cfg.permN, 16, 4), (g.cfg.latchWin, 20, 12)])
  else if o = 0x2008 then some (word [(g.cfg.quietD, 0, 16), (g.cfg.quietZ, 16, 16)])
  else if o = 0x200C then some (word [(g.cfg.quietI, 0, 16)])
  else if o = 0x2010 then some 0
  else if o = 0x2014 then some (word [(g.alert.toNat, 0, 5)])
  else if o = 0x2018 then some (word [(g.mask.toNat, 0, 5)])
  else if o = 0x201C then some 0
  else if o = 0x2020 then some g.logHi
  else if o = 0x2024 then some (word [(g.forceUnit, 0, 11)])
  else if o = 0x2028 then some (sngCount s)
  else if o = 0x202C then some (word [(g.srcSel, 0, 8)])
  else if o = 0x2030 then some (sngSrc s)
  else if o = 0x2034 then some (word [(g.tileSel, 0, 11)])
  else if o = 0x2038 then some (word [(((tileSummaries s).getD g.tileSel 0).toNat, 0, 16)])
  else if o = 0x2F00 then some (sngTnt s)
  else match regIdx o 0x2040 4 8, regIdx o 0x2080 4 8, regIdx o 0x20C0 4 8, regIdx o 0x2200 4 48 with
    | some k, _, _, _ => some (codeBits k fun c => g.forced.any fun f => f.1 = c)
    | _, some k, _, _ => some (codeBits k fun c => g.held.any fun h => h.code = c)
    | _, _, some k, _ => some (codeBits k fun c => g.held.any fun h => h.code = c && h.latched)
    | _, _, _, some z => some (sngZone s z)
    | _, _, _, _ => none

/-! ## Telemetry converter (13) -/

/-- TCV_STATUS. -/
def tcvStatus (s : State) : W32 :=
  let t := s.tcv
  word [(b2n t.run, 0, 1), (b2n t.calDone, 1, 1), (b2n t.lost, 2, 1), (b2n (refOk s), 3, 1), (t.status.toNat / 16, 4, 5), (t.a.chop, 16, 3)]
/-- TCV_SCAN0 and TCV_SCAN1: entry e in bits [5e + 4 : 5e] from `lo`. -/
def scanWord (c : TcvCfg) (lo n : Nat) : Nat := fields ((List.range n).map fun e => (c.scan.getD (lo + e) 0, 5 * e, 5))
/-- TCV_RESULT[c]. -/
def tcvResultReg (s : State) (c : Nat) : W32 :=
  let r := resD s c
  word [(twos 24 r.r, 0, 24), (b2n r.open_, 29, 1), (b2n r.modB, 30, 1), (b2n r.valid, 31, 1)]
/-- The converter page. -/
def readTcv (s : State) (o : Nat) : Option W32 :=
  let t := s.tcv
  let c := t.cfg
  if o = 0x4000 then some (tcvStatus s)
  else if o = 0x4004 then some (word [(c.xfrac, 0, 3), (c.xtol, 8, 8), (c.chkTol, 16, 8), (c.owLim, 24, 8)])
  else if o = 0x4008 then some (word [(c.iinGain, 0, 16), (c.vinDiv, 16, 16)])
  else if o = 0x400C then some (w32 (scanWord c 0 6))
  else if o = 0x4010 then some (w32 (scanWord c 6 4 + c.scan.length % 16 * 2 ^ 20))
  else if o = 0x4014 then some c.rotMask
  else if o = 0x4018 then some (word [(c.owMask.toNat, 0, 16)])
  else if o = 0x401C then some 0
  else if o = 0x4020 then some (word [(twos 24 t.uR, 0, 24), (t.uCh, 24, 5), (b2n t.uRefused, 30, 1), (b2n t.uValid, 31, 1)])
  else if o = 0x4024 then some t.qmask
  else if o = 0x4028 then some (word [(t.queue.length, 0, 7), (t.ovf, 16, 16)])
  else if o = 0x402C then some 0
  else if o = 0x4030 then some t.qHi
  else if o = 0x4034 then some t.wstat
  else if o = 0x4038 then some (word [(t.owstat.toNat, 0, 16)])
  else if o = 0x403C then some (word [(satF 14 t.xIb, 0, 14), (satF 14 t.xIa, 14, 14), (xCode t.xOut, 28, 4)])
  else if o = 0x4040 then some (word [(satF 16 t.pm, 0, 16), (satF 14 t.pmVin, 16, 14), (t.pmOut, 30, 2)])
  else if o = 0x4044 then some (word [(t.urgent, 0, 8), (t.outvoted, 8, 8), (t.xchks, 16, 16)])
  else if o = 0x4050 then some (word [(twos 24 t.ofsA, 0, 24)])
  else if o = 0x4054 then some (word [(t.gainA, 0, 24)])
  else if o = 0x4058 then some (word [(twos 24 t.ofsB, 0, 24)])
  else if o = 0x405C then some (word [(t.gainB, 0, 24)])
  else match regIdx o 0x4080 4 8, regIdx o 0x4100 4 23, regIdx o 0x4200 4 23 with
    | some k, _, _ => some (word [((s.thm.cfg.diodes.getD k {}).nf, 0, 16)])
    | _, some ch, _ => some (tcvResultReg s ch)
    | _, _, some ch => some (word [((t.winLo.getD ch 0).toNat, 0, 16), ((t.winHi.getD ch 0).toNat, 16, 16)])
    | _, _, _ => none

/-! ## Module stage (06) -/

/-- MSF_STATE. -/
def msfState (s : State) : W32 :=
  let m := s.msf
  word [(msfCode m.st, 0, 3), (m.srcUsed, 4, 2), (b2n (m.st = .soft), 6, 1), (b2n s.pins.pgOut, 7, 1), (b2n (!m.watch.isEmpty), 8, 1),
    (b2n m.armed.isSome, 9, 1), (m.running, 10, 6)]
/-- MSF_STATUS. -/
def msfStatus (m : Msf) : W32 := word [(m.status.toNat, 0, 8), (b2n m.syncLost, 8, 1), (b2n (m.lock && !m.syncLost), 9, 1), (m.tries, 10, 2)]
/-- Excluded channels as a bit set. -/
def chexBits (m : Msf) : Nat := ofBits ((List.range 48).filter fun k => (m.chans.getD k {}).excluded)
/-- The module-stage page. -/
def readMsf (s : State) (o : Nat) : Option W32 :=
  let m := s.msf
  let c := m.cfg
  if o = 0x6000 then some (msfState s)
  else if o = 0x6004 then
    some (word [(c.fcOfsMax, 0, 8), (c.ssSlew, 8, 8), (c.ssStep, 16, 3), (c.src, 19, 2), (c.ngroup, 21, 3), (c.nch, 24, 6)])
  else if o = 0x6008 then some (word [(c.dly, 0, 10)])
  else if o = 0x600C then some (word [(c.imonOfs, 0, 11), (c.imonGain, 16, 16)])
  else if o = 0x6010 then some (word [(c.ilimc, 0, 16), (c.riph, 16, 16)])
  else if o = 0x6014 then some (word [(b2n c.slopeTrack, 8, 1), (c.slope, 9, 9), (c.dmax, 18, 6), (c.tonMin, 24, 8)])
  else if o = 0x6018 then some (word [(c.kp, 0, 12), (c.ki, 12, 12), (c.vgain, 24, 8)])
  else if o = 0x601C then some (word [(c.vimMin, 0, 12), (c.vimMax, 12, 12), (c.ovMargin, 24, 8)])
  else if o = 0x6020 then some (word [(m.vimSet, 0, 12), (m.slew, 16, 9)])
  else if o = 0x6024 then some (word [(c.addA, 0, 8), (c.shedA, 8, 8), (c.stepMv, 16, 8), (c.shedDwell, 24, 8)])
  else if o = 0x6028 then some (w32 (fields ((List.range 5).map fun i => (c.divs.getD (i + 1) 0, 6 * i, 6))))
  else if o = 0x602C then some (word [(c.tmon25, 0, 8), (c.tmonSlope, 8, 8), (c.twarnStg, 16, 8), (c.tshutStg, 24, 8)])
  else if o = 0x6030 then some (word [(m.vsns, 0, 13), (m.vrefQ, 16, 13)])
  else if o = 0x6034 then some (word [(twos 16 (m.im / 10), 0, 16), (m.dm / 10, 16, 16)])
  else if o = 0x6038 then some (msfStatus m)
  else if o = 0x603C then some (w32 (chexBits m))
  else if o = 0x6040 then some (w32 (chexBits m / 2 ^ 32))
  else match regIdx o 0x6080 4 6 with
    | some g => some (word [(b2n (m.stgWarn.getD g false), 0, 1), (b2n (m.stgShut.getD g false), 1, 1), (twos 12 (m.stgT.getD g 0), 16, 12)])
    | none => none

/-! ## Caps and energy (11) -/

/-- Highest stage of the cap loop that is engaged. -/
def capStage (s : State) : Nat :=
  if !s.caps.gateOrder.isEmpty then 3 else if s.caps.stage2 then 2 else if s.caps.codes.any (· < 15) then 1 else 0
/-- CAP_STATUS. -/
def capStatus (s : State) : W32 :=
  word [(b2n (capDegraded s), 0, 1), (b2n s.caps.uncal, 1, 1), (s.caps.status.toNat / 4, 2, 6), (s.caps.gateOrder.length, 16, 9),
    (capStage s, 25, 2), (s.caps.cthr, 27, 3)]
/-- CAP_EFF and CAP_EST. -/
def capEff (s : State) : W32 := word [(s.caps.pEff, 0, 16), (s.caps.eEff, 16, 16)]
def capEst (s : State) : W32 := word [(satF 16 s.caps.pWin, 0, 16), (satF 16 s.caps.p1ms, 16, 16)]
/-- CAP_GROUP[g]: the fields as written, and the code in force. -/
def capGroup (g : Group) : W32 := word [(g.newMembers.toNat, 0, 16), (g.newLen, 16, 8), (g.code, 24, 4), (b2n g.newEn, 31, 1)]
/-- Halves of a counter: _LO reads bits [31:0], _HI its copy. -/
def ctrHalf (c : Ctr) (hi : Bool) : W32 := if hi then c.hi else w32 c.nj
/-- The caps and energy page, copies not taken (R436). -/
def readCap (s : State) (o : Nat) : Option W32 :=
  let p := s.caps
  let c := p.cfg
  if o = 0x8000 then some (capStatus s)
  else if o = 0x8004 then some (word [(p.swPower, 0, 16), (p.swEnergy, 16, 16)])
  else if o = 0x8008 then some (word [(c.floor, 0, 16), (c.ceil, 16, 16)])
  else if o = 0x800C then some (word [(c.icap, 0, 12), (c.etaM, 16, 8), (c.degMargin, 24, 8)])
  else if o = 0x8010 then
    some (word [(c.gateDwell, 0, 4), (c.relDwell, 4, 4), (c.relMargin, 8, 8), (c.cthrMax, 16, 4), (c.dstep, 20, 4), (c.pFix, 24, 8)])
  else if o = 0x8014 then some (capEff s)
  else if o = 0x8018 then some (capEst s)
  else if o = 0x801C then some (word [(p.kcal, 0, 16), (ageMs s p.calAcc, 16, 16)])
  else if o = 0x8020 then some (word [(p.calReject, 0, 8), (p.overE, 8, 8), (p.overP, 16, 16)])
  else if o = 0x8024 then some (word [(satF 12 p.iWin, 0, 12), (satF 12 p.icapEff, 16, 12)])
  else if o = 0x8100 then some (ctrHalf s.nrg.inst false)
  else if o = 0x8104 then some (ctrHalf s.nrg.inst true)
  else if o = 0x8108 then some (ctrHalf s.nrg.ovh false)
  else if o = 0x810C then some (ctrHalf s.nrg.ovh true)
  else if o = 0x8110 then some (w32 s.nrg.stamp)
  else if o = 0x8114 then some s.nrg.stampHi
  else match regIdx o 0x8040 4 16, regIdx o 0x8080 4 16, regIdx o 0x8200 4 32, regIdx o 0x8800 4 512 with
    | some k, _, _, _ => some (word [(if k = 15 then 0 else c.pri.getD k 0, 0, 3), (c.lmin.getD k 0, 8, 4), (codeOf s k, 16, 4)])
    | _, some g, _, _ => some (capGroup (p.groups.getD g {}))
    | _, _, some n, _ => some (ctrHalf (s.nrg.parts.getD (n / 2) {}) (n % 2 = 1))
    | _, _, _, some n => some (ctrHalf (s.nrg.q (n / 2)).energy (n % 2 = 1))
    | _, _, _, _ => none

/-! ## Thermal (12) -/

/-- THM_STATUS. -/
def thmStatus (s : State) : W32 :=
  word [(s.thm.status.toNat, 0, 3), (b2n s.thm.critical, 3, 1), (s.thm.treq, 4, 3), (instBand s, 8, 3)]
/-- THM_LASTSHUT (R348). -/
def thmLastShut (s : State) : W32 :=
  match s.thm.lastShut with
  | some r => word [(twos 12 r.temp, 0, 12), (r.cause, 20, 4), (r.zone, 24, 6), (b2n (r.type = 1), 31, 1)]
  | none => 0
/-- THM_ZSTAT[z]. -/
def thmZstat (x : ThmZone) : W32 :=
  word [(x.band, 0, 3), (x.code, 4, 4), (x.src, 10, 6), (b2n x.srcDiode, 16, 1), (x.gated.length, 17, 4), (b2n x.watch.isSome, 21, 1),
    (b2n x.enf, 22, 1), (b2n x.nosrc, 23, 1), (x.gref, 24, 8)]
/-- One of the four thermal registers of zone z. -/
def readThmZone (s : State) (z n : Nat) : W32 :=
  if !hasZone s z then 0 else
  let x := thmD s z
  let m := (zoneD s z).cfg.sense.toNat
  if n = 0 then w32 m else if n = 1 then w32 (m / 2 ^ 32) else if n = 2 then thmZstat x
  else word [(twos 12 x.tz, 0, 12), (twos 12 (x.tmax.getD 0), 16, 12)]
/-- The thermal page. -/
def readThm (s : State) (o : Nat) : Option W32 :=
  let c := s.thm.cfg
  if o = 0xA000 then some (thmStatus s)
  else if o = 0xA004 then some (word [(twos 8 c.tNom, 0, 8), (twos 8 c.tWarm, 8, 8), (twos 8 c.tHot, 16, 8), (twos 8 c.tCrit, 24, 8)])
  else if o = 0xA008 then
    some (word [(c.grace, 0, 10), (c.tlmin, 12, 4), (c.tstep - 1, 16, 2), (c.thrStep, 20, 4), (twos 8 c.tRestart, 24, 8)])
  else if o = 0xA00C then some (word [(c.retLogic, 0, 9), (c.retArray, 16, 9)])
  else if o = 0xA010 then some (word [(c.retMif, 0, 9), (c.retLink, 16, 9)])
  else if o = 0xA014 then some (thmLastShut s)
  else if o = 0xA018 then some (word [(s.thm.ackLate, 0, 8), (s.thm.enforced, 8, 8), (s.thm.hotEntries, 16, 16)])
  else match regIdx o 0xA040 4 5, regIdx o 0xA080 4 8, regIdx o 0xA100 4 192 with
    | some b, _, _ => let x := c.bands.getD b {}; some (word [(x.mofs, 0, 4), (twos 4 x.rofs, 4, 4), (x.chop, 8, 2)])
    | _, some k, _ =>
      let d := c.diodes.getD k {}
      some (word [(twos 12 (s.thm.diodes.getD k {}).t, 0, 12), (d.zone, 24, 6), (b2n (d.en && diodeValid s k), 30, 1), (b2n d.en, 31, 1)])
    | _, _, some n => some (readThmZone s (n / 4) (n % 4))
    | _, _, _ => none

/-! ## Lath, cascade, BIST (14, 16) -/

/-- CSC_STATUS. -/
def cscStatus (s : State) : W32 :=
  let c := s.csc
  let set (p : Peer → Bool) : Nat := ofBits ((List.range 8).filter fun i => p (c.peers.getD i {}))
  word [(b2n c.forming, 0, 1), (b2n c.aligned, 1, 1), (b2n c.cxaUp, 2, 1), (b2n c.cxbUp, 3, 1), (c.fail, 4, 2), (set (·.seen), 8, 8),
    (set (·.lost), 16, 8), (b2n c.isMaster, 24, 1), (c.masterId, 25, 3), (c.term, 28, 4)]
/-- CSC_PEER[i]. -/
def cscPeer (s : State) (p : Peer) : W32 :=
  word [(if p.seen then min 31 ((now s - p.at_) / 1000) else 31, 0, 5), (p.state, 5, 3), (b2n p.master, 8, 1), (p.term, 12, 4),
    (p.nonce.toNat, 16, 16)]
/-- The Lath and cascade page. -/
def readLth (s : State) (o : Nat) : Option W32 :=
  let l := s.lth
  let c := s.csc
  if o = 0xC000 then some (word [(l.status.toNat, 0, 4), (b2n (seamLost l), 4, 1)])
  else if o = 0xC004 then some (word [(l.corr, 0, 16), (l.uncorr, 16, 16)])
  else if o = 0xC008 then some (word [(l.lost, 0, 16), (l.repeats, 16, 16)])
  else if o = 0xC00C then some l.seam
  else if o = 0xC020 then some l.injCtl
  else if o = 0xC024 then some l.injPat
  else if o = 0xC100 then some (cscStatus s)
  else if o = 0xC104 then some (word [(s.su.cascId, 0, 3), (c.cfg.ninst, 4, 4), (b2n s.fus.shadow.succession, 8, 1), (c.cfg.cap, 16, 16)])
  else if o = 0xC108 then some c.cfg.key
  else if o = 0xC10C then some (word [(ageMs s c.shareAt, 0, 16), (c.shareIn.getD 0xFFFF, 16, 16)])
  else if o = 0xC110 then some (word [(twos 16 (clampI (-32767) 32767 c.theta), 0, 16), (c.exchanges, 16, 16)])
  else match regIdx o 0xC140 4 8 with
    | some i => some (cscPeer s (c.peers.getD i {}))
    | none => none
/-- Coverage of a BIST class, 0.1% (R418). -/
def coverOf (c : Nat) : Nat := [975, 1000, 1000, 950, 920, 960].getD c 0
/-- A tile is overdue (R429). -/
def overdueTile (s : State) (t : Tile) : Bool := t.st ≠ .isolated && t.testRun + (s.bist.cfg.tperiod + 24) * 3600000000000 ≤ s.snag.runNs
/-- BST_STATUS. -/
def bstStatus (s : State) : W32 :=
  let b := s.bist
  word [(if s.su.stepNo = 7 && b.startCls < 6 then b.startCls else 15, 0, 4), (b2n b.req.isSome, 8, 1), (b2n b.failSeen, 9, 1),
    (b2n b.abandonSeen, 10, 1), (b2n ((List.range s.zones.length).any (hasOverdue s)), 11, 1), (b2n b.refused, 12, 1), (testsNow s, 20, 6)]
/-- BST_TILE for the tile of BST_TILE_SEL; 0 beyond TILES. -/
def bstTile (s : State) : W32 :=
  match ofGTile s s.bist.tileSel with
  | some (z, t) =>
    let x := tileD s z t
    let due := x.st ≠ .isolated && x.testRun + s.bist.cfg.tperiod * 3600000000000 ≤ s.snag.runNs
    word [(x.testStep, 0, 8), (x.testLast, 11, 2), (b2n x.testRefused, 13, 1), (b2n (overdueTile s x), 14, 1), (b2n due, 15, 1),
      (satF 16 ((s.snag.runNs - x.testRun) / 3600000000000), 16, 16)]
  | none => 0
/-- The BIST page. -/
def readBst (s : State) (o : Nat) : Option W32 :=
  let b := s.bist
  if o = 0xE000 then some (bstStatus s)
  else if o = 0xE004 then some (word [(b.cfg.tperiod, 0, 16), (b.cfg.mgap, 16, 8), (b.cfg.head, 24, 8)])
  else if o = 0xE008 then some 0
  else if o = 0xE00C then some b.result
  else if o = 0xE010 then some (word [(b.abandoned, 0, 8), (b.failed, 8, 8), (b.done, 16, 16)])
  else if o = 0xE014 then some (word [(b.tileSel, 0, 11)])
  else if o = 0xE018 then some (bstTile s)
  else if o = 0xE01C then some (word [(b.fails, 0, 8), (b.passes, 8, 8), ((curSlice s).2, 16, 13), ((curSlice s).1, 29, 3)])
  else match regIdx o 0xE040 4 6 with
    | some c => some (word [(b.durs.getD c 0, 0, 22), (coverOf c, 22, 10)])
    | none => none

/-! ## Forecast engine and contexts (07, 08) -/

/-- FCE_ZSTAT[z]. -/
def fceZstat (x : FceZone) : W32 := word [(x.set, 0, 6), (b2n x.ctx, 6, 1), (b2n x.floorOn, 7, 1), (x.plan, 8, 3), (satF 16 (x.f1 / 100), 16, 16)]
/-- The forecast-engine page and slot window. -/
def readFce (s : State) (o : Nat) : Option W32 :=
  let f := s.fce
  if o = 0x40000 then some (word [(b2n f.running, 0, 1), (f.status.toNat / 2, 1, 3), ((f.slots.filter fun x => !x.isEmpty).length, 16, 7)])
  else if o = 0x40004 then some (word [(f.cfg.phLead, 0, 11), (f.cfg.ofsHold, 16, 8)])
  else if o = 0x40008 then some (word [(f.cfg.ofsDb, 0, 11), (f.cfg.ofsStep, 16, 8), (f.cfg.qdelta, 24, 4), (f.cfg.qmin, 28, 4)])
  else if o = 0x4000C then some (word [(f.runs, 0, 16), (f.skipped, 16, 16)])
  else if o = 0x40010 then some (word [(f.slotSel, 0, 6)])
  else if o = 0x40014 then some 0
  else if o = 0x40018 then some (word [(b2n f.copy.isSome, 0, 1), (b2n f.done, 1, 1), (f.fail, 8, 8), (f.staged.length, 16, 11)])
  else if o = 0x4001C then some (word [(f.winSlot, 0, 6)])
  else if o = 0x40020 then some (word [(b2n f.freeze, 0, 1)])
  else match regIdx o 0x40100 4 48, regIdx o 0x40200 4 48, regIdx o 0x40300 4 48, regIdx o 0x50000 4 1024 with
    | some z, _, _, _ => let c := (zoneD s z).cfg
                         some (if hasZone s z then word [(c.iref, 0, 16), (c.defset, 16, 6), (c.eta, 24, 8)] else 0)
    | _, some z, _, _ => some (if hasZone s z then fceZstat (f.zones.getD z {}) else 0)
    | _, _, some z, _ => some (if hasZone s z then word [((f.zones.getD z {}).err1, 0, 16), ((f.zones.getD z {}).runs, 16, 16)] else 0)
    | _, _, _, some n => some ((f.slot f.winSlot).getD n 0)
    | _, _, _, _ => none
/-- The generation PCX_SEL names. -/
def selGen (s : State) : Option Gen :=
  let e := s.pcx.entry (bitsOf s.pcx.sel.toNat 0 12)
  if s.pcx.dead then none else e.gens[b2n (s.pcx.sel.getLsbD 12)]?
/-- PCX_DIR. -/
def pcxDir (s : State) : W32 :=
  let n := bitsOf s.pcx.sel.toNat 0 12
  let gens := if s.pcx.dead then [] else (s.pcx.entry n).gens
  match selGen s with
  | some g => word [(gens.length, 0, 2), (b2n g.pool.isSome, 4, 1), (b2n (now s < g.holdUntil), 5, 1),
      (min 1023 (s.pcx.claimsOn n g.no), 6, 10), (g.no, 16, 16)]
  | none => word [(gens.length, 0, 2)]
/-- PCX_PART[p] and PCX_QUEUE[q]. -/
def pcxPart (s : State) (p : Nat) : W32 :=
  let x := partD s p
  let r := x.recs.head?
  word [((r.map (·.pcx)).getD 0, 0, 12), (x.marks.length, 24, 3), (b2n ((r.map (·.hasCtx)).getD false), 30, 1),
    (b2n (x.hints.any fun h => now s < h.2), 31, 1)]
def pcxQueue (s : State) (q : Nat) : W32 :=
  let ls := s.pcx.leases.filter fun l => l.queue = q
  word [(satF 8 (ls.filter fun l => l.active (now s)).length, 0, 8), (satF 8 (ls.filter fun l => l.susp.isSome).length, 8, 8),
    (min 1023 (s.pcx.claims.filter fun c => c.queue = q).length, 16, 10)]
/-- The PCX page and read window (R257). -/
def readPcx (s : State) (o : Nat) : Option W32 :=
  let x := s.pcx
  if o = 0x60000 then some (word [(x.status.toNat, 0, 6), (x.pool.length, 16, 9)])
  else if o = 0x60004 then some (word [(x.cfg.lrate, 0, 8), (x.cfg.claimMax, 8, 8), (x.cfg.suspendMax, 16, 8)])
  else if o = 0x60008 then some 0
  else if o = 0x6000C then some 0
  else if o = 0x60010 then some (word [(b2n x.copy.isSome, 0, 1), (b2n x.done, 1, 1), (x.staged.length, 8, 8), (x.fail, 16, 8)])
  else if o = 0x60014 then some (word [(x.sel.toNat, 0, 13)])
  else if o = 0x60018 then some (pcxDir s)
  else if o = 0x6001C then some (word [(b2n x.freeze, 0, 1)])
  else if o = 0x60020 then some (word [(x.fcpLost, 0, 16), (x.malformed, 16, 16)])
  else if o = 0x60024 then some (word [(x.genMiss, 0, 16), (x.leaseRefused, 16, 16)])
  else if o = 0x60028 then some (word [(x.learned, 0, 16), (x.learnSkip, 16, 16)])
  else match regIdx o 0x60040 4 16, regIdx o 0x60080 4 16, regIdx o 0x60400 4 256, regIdx o 0x61000 4 144 with
    | some p, _, _, _ => some (word [(x.cfg.spillFloor.getD p 0, 0, 10), (x.cfg.spillDur.getD p 0, 16, 16)])
    | _, some p, _, _ => some (pcxPart s p)
    | _, _, some q, _ => some (pcxQueue s q)
    | _, _, _, some n => some (match selGen s with | some g => g.words.getD n 0 | none => 0)
    | _, _, _, _ => none

/-! ## Flash and fuses (03) -/

/-- NVM_START_STATUS. -/
def nvmStartStatus (s : State) : W32 := word [(s.su.stepNo, 0, 4), (b2n s.su.waitThermal, 4, 1), (s.su.fail, 8, 8)]
/-- FUS_LC. -/
def fusLc (s : State) : W32 := word [(s.fus.lcRaw.toNat, 0, 4), ((lcOf s.fus.lcRaw).elim 0 lcCode, 4, 2)]
/-- FUS_CAL_DATA for FUS_CAL_INDEX. -/
def fusCalData (s : State) : W32 :=
  let i := fld s.fus.calIndex 0 11
  if !s.fus.loaded then 0
  else if s.fus.calIndex.getLsbD 15 then word [(s.fus.shadow.fmax.getD i 0, 0, 8)]
  else if i < s.su.tiles then s.fus.shadow.trims.getD i 0 else 0
/-- The flash and fuse page. -/
def readNvm (s : State) (o : Nat) : Option W32 :=
  let n := s.nvm
  let f := s.fus.shadow
  let ld (w : W32) : W32 := if s.fus.loaded then w else 0
  if o = 0x70000 then some (nvmStartStatus s)
  else if o = 0x70004 then some (w32 ((s.su.readyAt.map (· / 1000)).getD 0))
  else if o = 0x70008 then some (word [(n.densityLog2, 0, 8), (b2n n.addr4, 8, 1), (n.mode, 16, 2), (n.sckDiv, 24, 8)])
  else if o = 0x7000C then some n.imageId
  else if o = 0x70010 then some (word [(b2n n.logOk, 0, 1), (b2n n.torn, 1, 1), (b2n n.folded, 2, 1), (n.eraseMax, 16, 16)])
  else if o = 0x70014 then some 0
  else if o = 0x70020 then some n.progAddr
  else if o = 0x70024 then some 0
  else if o = 0x70028 then some 0
  else if o = 0x7002C then
    some (word [(b2n n.busy.isSome, 0, 1), (b2n n.error, 1, 1), (b2n n.refused, 2, 1), (b2n n.verifyDone, 3, 1), (n.verifyCode, 8, 8)])
  else if o = 0x70100 then some (fusLc s)
  else if o = 0x70104 then some (ld (word [(f.vmaxLogic, 0, 9), (f.vmaxArray, 16, 9)]))
  else if o = 0x70108 then some (ld (word [(f.vmaxMif, 0, 9), (f.vmaxLink, 16, 9)]))
  else if o = 0x7010C then
    some (ld (word [(f.faultInj, 0, 2), (b2n f.succession, 3, 1), (b2n f.testDeny, 4, 1), (f.tshut, 8, 8), (f.capCeil, 16, 16)]))
  else if o = 0x70110 then some (word [(b2n s.fus.loaded, 0, 1), (b2n s.fus.uncorrectable, 1, 1), (s.fus.corrected, 8, 8)])
  else if o = 0x70180 then some (ld s.fus.calIndex)
  else if o = 0x70184 then some (fusCalData s)
  else match regIdx o 0x70120 4 12 with
    | some k => some (ld (f.keyroot.getD k 0))
    | none => none

/-! ## Float pages (04, 05, 09, 10) -/

/-- FLT_STATE of zone z. -/
def fltState (s : State) (zn : Zone) : W32 :=
  let ht := match zn.holdAt with
    | some h => satF 8 ((now s - h) / 10000)
    | none => 0
  word [(zCode zn.st, 0, 3), (zn.target, 4, 3), (b2n (zn.ramping (now s)), 7, 1), (b2n zn.deferred, 8, 1), (b2n zn.slowed, 9, 1),
    (b2n zn.leaseLost, 10, 1), (b2n (zn.fcAt (now s)).isNone, 11, 1), (b2n (partOf s zn).cadence, 12, 1), (ht, 16, 8)]
/-- The Float's own registers. -/
def readFloat (s : State) (zn : Zone) (o : Nat) : Option W32 :=
  let c := zn.cfg
  let l := zn.law
  if o = 0x000 then some (fltState s zn)
  else if o = 0x004 then some (word [(zn.target, 0, 3), (b2n zn.commit, 8, 1)])
  else if o = 0x008 then
    some (word [(zn.tiles.length, 0, 7), (zn.arrays.length, 8, 4), (c.field, 12, 3), (domCode c.domain, 16, 2), (c.partition, 20, 4), (c.pupSlew, 24, 8)])
  else if o = 0x00C then some (word [(c.gshift, 0, 3), (c.bshift, 4, 3), (c.fgain, 8, 8), (c.shedDwell, 16, 6), (c.psh, 24, 8)])
  else if o = 0x010 then some (word [(l.vz, 0, 9), (l.zref.q, 16, 13)])
  else if o = 0x014 then some (word [(satF 16 (zn.lim.ilimPol / 100), 0, 16), (satF 16 (l.ilimEff / 100), 16, 16)])
  else if o = 0x018 then some (word [(c.safeVcode, 0, 9), (c.safeIlim, 16, 16)])
  else if o = 0x01C then some (word [(twos 13 l.e, 0, 13), (twos 16 (tdiv 1 l.iz 100), 16, 16)])
  else if o = 0x020 then some (word [(l.d, 0, 18), (l.pos, 24, 6)])
  else if o = 0x024 then some (w32 (ofBits zn.failedTiles))
  else if o = 0x028 then some (w32 (ofBits zn.failedTiles / 2 ^ 32))
  else if o = 0x02C then some (word [(zn.status.toNat, 0, 8), (zn.failedTiles.length, 16, 6)])
  else if o = 0x030 then some (word [(zn.overruns, 0, 16), (zn.leaseExpiries, 16, 16)])
  else if o = 0x040 then some (word [(zn.tblAddr.toNat, 0, 9)])
  else if o = 0x044 then some zn.tblRead
  else none
/-- FLT_SWARR, FLT_SWMASK and FLT_SWLAST of an array. -/
def readArr (a : Arr) (n : Nat) : W32 :=
  let c := a.cfg
  if n = 0 then word [(c.cw, 0, 12), (c.sag, 12, 5), (c.pb, 17, 3), (c.minLen, 20, 5)]
  else if n = 1 then w32 c.mask.toNat else if n = 2 then w32 (c.mask.toNat / 2 ^ 32)
  else word [(swCode a.sw, 0, 3), (a.lastDur, 8, 5)]
/-- The set-window, frequency and taint registers. -/
def readHostRegs (s : State) (z : Nat) (zn : Zone) (o : Nat) : Option W32 :=
  let c := zn.cfg
  let f := zn.sft
  if o = 0x100 then some (word [(c.pblead, 0, 2), (c.imarg, 8, 8), (c.swait, 16, 8)])
  else if o = 0x104 then
    some (word [(b2n (zn.arrays.any fun a => a.sw = .open_), 0, 1), (zn.swSeen.toNat / 2, 1, 3), (zn.quietTiles, 16, 6)])
  else if o = 0x108 then some (word [(zn.swGranted, 0, 16), (zn.swDenied, 16, 16)])
  else if o = 0x10C then some (word [(zn.swShort, 0, 16), (zn.swBroken, 16, 16)])
  else if o = 0x200 then
    some (word [(f.g, 0, 8), (f.fceil, 8, 8), (zn.vneedReg (zoneVmax s z), 16, 9),
      (b2n ((f.pending.map fun p => decide (f.g < p.1)).getD false), 30, 1), (b2n f.freqOver, 31, 1)])
  else if o = 0x204 then some (word [(c.vt, 0, 8), (c.fboot, 8, 8), (c.agek, 16, 10)])
  else if o = 0x208 then some (word [(b2n f.req, 0, 1), (b2n f.ack, 1, 1), (b2n f.ackLateSeen, 2, 1), (c.fzmax, 16, 8)])
  else if o = 0x20C then some (word [(f.stretches, 0, 16), (f.ackLate, 16, 8), (f.invalid, 24, 8)])
  else if o = 0x210 then some (word [(f.records, 0, 16), (f.brokenRecs, 16, 8), (f.unmapped, 24, 8)])
  else if o = 0x214 then some (w32 f.lastStart)
  else if o = 0x218 then
    some (word [(f.lastStart / 2 ^ 32, 0, 16), (min 15 ((f.lastEnd - f.lastStart + 63) / 64), 16, 4), (f.lastArrays, 24, 8)])
  else match regIdx o 0x140 4 32, regIdx o 0x240 4 8 with
    | some n, _ => some (match zn.arrays[n / 4]? with | some a => readArr a (n % 4) | none => 0)
    | _, some a => some (match zn.arrays[a]? with
      | some x => word [(x.fused, 0, 8), (x.cfg.age, 8, 4), (x.logged, 16, 8), (x.feff, 24, 8)]
      | none => 0)
    | _, _ => none
/-- Four entries of a neighbour list. -/
def nbrWord (l : List Nat) : W32 := w32 (fields (((l.take 4).mapIdx fun k n => (n % 64 + 128, 8 * k, 8))))
/-- TIL_CFG0 to TIL_CFG3 of a tile. -/
def readTileCfg (c : TileCfg) (n : Nat) : W32 :=
  if n = 0 then word [(c.angle, 0, 6), (c.minph, 8, 3), (c.slope, 12, 4), (c.ilim, 16, 8), (c.gf, 24, 8)]
  else if n = 1 then word [(c.droopMv, 0, 8), (c.releaseMv, 8, 8), (c.taintMv, 16, 8)]
  else if n = 2 then nbrWord c.nbrs else nbrWord (c.nbrs.drop 4)
/-- TIL_STAT, TIL_V, TIL_IT and TIL_HEALTH: the same sample (R158). -/
def readTileStat (r : Report) (n : Nat) : W32 :=
  if n = 0 then
    word [(tCode r.st, 0, 3), (b2n r.droop, 6, 1), (b2n r.overload, 7, 1), (b2n r.armed, 8, 1), (r.nact, 9, 3), (r.row, 16, 3)]
  else if n = 1 then word [(r.v, 0, 13), (r.vcode, 16, 9)]
  else if n = 2 then word [(twos 14 r.i, 0, 14), (twos 12 r.t, 16, 12)]
  else word [(r.droops, 0, 8), (r.cause, 8, 4), (r.age, 16, 16)]
/-- The tile registers of a Float page. -/
def readTiles (zn : Zone) (o : Nat) : Option W32 :=
  if o = 0x7D4 then some (word [(zn.cfg.mult, 0, 10)])
  else if o = 0x7D8 then some (word [(b2n (zn.syncLock && !zn.syncLost), 0, 1), (b2n zn.syncLost, 1, 1), (b2n zn.syncLostSeen, 2, 1)])
  else match regIdx o 0x7C0 4 5, regIdx o 0x800 4 256, regIdx o 0xC00 4 256 with
    | some b, _, _ => some (match zn.cfg.waves[b]? with
      | some w => word [(w.dtHl, 0, 8), (w.dtLh, 8, 8), (w.drive, 16, 4), (w.tonMin, 24, 8)]
      | none => 0)
    | _, some n, _ => some (match zn.tiles[n / 4]? with | some t => readTileCfg t.cfg (n % 4) | none => 0)
    | _, _, some n => some (match zn.tiles[n / 4]? with | some t => readTileStat t.rep (n % 4) | none => 0)
    | _, _, _ => none
/-- The page of zone z; a page at or above ZONES is unoccupied (R435). -/
def readPage (s : State) (z o : Nat) : Option W32 :=
  if s.su.zones ≤ z then none else
  let zn := zoneD s z
  match readFloat s zn o with
  | some w => some w
  | none => match readHostRegs s z zn o with
    | some w => some w
    | none => readTiles zn o

/-! ## The bank (R434) -/

/-- The units of the lower part of the bank, below offset 0x8000. -/
def peekLow (s : State) (o : Nat) : Option W32 :=
  if o < 0x1000 then readId s o else if o < 0x2000 then readTbs s o else if o < 0x4000 then readSng s o
  else if o < 0x6000 then readTcv s o else readMsf s o
/-- The units from offset 0x8000 to the zone pages. -/
def peekMid (s : State) (o : Nat) : Option W32 :=
  if 0xE000 ≤ o then readBst s o else if 0xC000 ≤ o then readLth s o else if 0xA000 ≤ o then readThm s o else readCap s o
/-- The units beyond the zone pages; offsets from 0x80000 are unoccupied. -/
def peekHigh (s : State) (o : Nat) : Option W32 :=
  if o < 0x60000 then readFce s o else if o < 0x70000 then readPcx s o else if o < 0x80000 then readNvm s o else none
/-- The register at offset `o` of the management bank, copies and queues untouched; none where the offset is unoccupied. -/
def regPeek (s : State) (o : Nat) : Option W32 :=
  if o % 4 ≠ 0 then none
  else if o < 0x8000 then peekLow s o
  else if o < 0x10000 then peekMid s o
  else if o < 0x40000 then readPage s ((o - 0x10000) / 0x1000) (o % 0x1000)
  else peekHigh s o
/-- Registers that RP answers before the first rise of READY (R98). -/
def openEarly (o : Nat) : Bool :=
  o < 0x2000 || (0x70000 ≤ o && o < 0x80000) ||
  o = 0x2000 || o = 0x2014 || o = 0x2018 || o = 0x201C || o = 0x2020 || o = 0x2028 || o = 0x202C || o = 0x2030 ||
  (0x2080 ≤ o && o < 0x20E0) || o = 0xE000 || o = 0xE008 || o = 0xE00C || (0xE040 ≤ o && o < 0xE058)
/-- The registers that answer now. -/
def regOpen (s : State) (o : Nat) : Bool := sinceReady s || openEarly o
/-- What a register of the bank reads as to a reader that changes nothing: 0 where it does not answer. -/
def regValue (s : State) (o : Nat) : W32 := if regOpen s o then (regPeek s o).getD 0 else 0

end Sys2Proof.Machine
end

