-- ==== Sys2Proof/Machine/Operands.lean ====
section
/-!
DEFINITION. Operand forms of the SMBus and of the test port: little-endian bytes, LINEAR11 and LINEAR16 (17 R441), the packet error code,
and the register-port address of RP_ACCESS (16 R420).
-/
namespace Sys2Proof.Machine

/-- The n low bytes of a number, least significant first (R441). -/
def leBytes : Nat → Nat → List Byte
  | 0, _ => []
  | n + 1, x => BitVec.ofNat 8 x :: leBytes n (x / 256)
/-- A LINEAR11 word: exponent e in [15:11], mantissa in [10:0] saturated to −1,024 to 1,023 (R441). -/
def linear11 (e mant : Int) : Nat := twos 5 e * 2048 + twos 11 (clampI (-1024) 1023 mant)
/-- A LINEAR16 mantissa, from 0 to 65,535 (R441). -/
def linear16 (mant : Int) : Nat := (clampI 0 65535 mant).toNat
/-- n ÷ d to nearest with ties upward, for a divisor a rule fixes (R441). -/
def nearest (n : Int) (d : Nat) : Int := (2 * n + d) / (2 * (d : Int))

/-- One bit of the CRC-8 of polynomial x⁸ + x² + x + 1 (17, worked case). -/
def crc8Bit (c : Nat) : Nat := if 128 ≤ c then (2 * c) % 256 ^^^ 7 else 2 * c
/-- One byte into the CRC-8. -/
def crc8Byte (c b : Nat) : Nat :=
  crc8Bit (crc8Bit (crc8Bit (crc8Bit (crc8Bit (crc8Bit (crc8Bit (crc8Bit (c ^^^ b))))))))
/-- The packet error code of a transaction's bytes (R439). -/
def pec (bytes : List Nat) : Nat := bytes.foldl crc8Byte 0

/-- The offset a 32-bit test-port address reaches: RP carries address bits [19:2] (02, 16 R420; assumption 66). -/
def rpOffset (addr : W32) : Nat := fld addr 2 18 * 4

end Sys2Proof.Machine
end

