-- ==== Sys2Proof/Machine/Flags.lean ====
section
/-!
DEFINITION. The PMBus status bits (17_register_and_command_reference.md, table "Status bits") and the SMB_ALERT_N pin (15 R412).
-/
namespace Sys2Proof.Machine

/-- STATUS_TEMPERATURE: bit 7 CRITICAL in THM_STATUS, bit 6 a zone band of HOT or higher. -/
def statusTemp (s : State) : Nat :=
  let hot := (List.range s.zones.length).any fun z => 3 ≤ fld (regValue s (0xA108 + 0x10 * z)) 0 3
  fields [(b2n ((regValue s 0xA000).getLsbD 3), 7, 1), (b2n hot, 6, 1)]
/-- STATUS_MFR_SPECIFIC: SNG_ALERT.CLASS_SEEN. -/
def statusMfr (s : State) : Nat := s.snag.alert.toNat
/-- STATUS_BYTE. -/
def statusLow (s : State) : Nat :=
  fields [(b2n (!ready s), 6, 1), (b2n s.pmb.ov, 5, 1), (b2n s.pmb.oc, 4, 1), (b2n (statusTemp s ≠ 0), 2, 1), (b2n (s.pmb.cml ≠ 0), 1, 1),
    (b2n (s.pmb.inp || statusMfr s ≠ 0), 0, 1)]
/-- STATUS_WORD. -/
def statusAll (s : State) : Nat :=
  statusLow s + fields [(b2n s.pmb.ov, 15, 1), (b2n s.pmb.oc, 14, 1), (b2n s.pmb.inp, 13, 1), (b2n (statusMfr s ≠ 0), 12, 1),
    (b2n (!s.pins.pgOut), 11, 1)]
/-- SMB_ALERT_N is low: an unmasked bit of SNG_ALERT is set (R412). Until READY rises, and in SAFE, the pin is released (R50, R97). -/
def smbAlertLow (s : State) : Bool := running s && sinceReady s && s.snag.alert &&& s.snag.mask ≠ 0

/-! ## Output levels (R50, R52, R73, R97) -/

/-- The command on an MS_PWM line: its high level, its middle level, its low level, or high impedance (R73). -/
inductive PwmLevel where
  | highSide | lowSide | off | highZ
  deriving DecidableEq, Repr
/-- MS_PWM[k] at the turn-on of its latest cycle, and after the on-time: driven low except while a start is under way from step 6 on, or has
completed (R50, R97). -/
def msPwm (s : State) (k : Nat) (onTime : Bool) : PwmLevel :=
  let c := s.msf.chans.getD k {}
  if s.su.cond = .unpowered || s.pins.highz then .highZ
  else if !running s || !s.su.msfGrid || s.msf.cfg.nch ≤ k then .off
  else if onTime && c.on then .highSide else if !onTime && c.low then .lowSide else .off
/-- SYNC_OUT repeats SYNC_IN; else it is driven low (R50, R97). -/
def syncOutRuns (s : State) : Bool := running s && sinceReady s
/-- The NV pins operate: from step 3a, and in SAFE once the flash has been discovered (R50, R97, R121). -/
def nvOperates (s : State) : Bool := (running s && 3 ≤ s.su.stepNo) || (s.su.cond = .safe && s.nvm.discovered)

end Sys2Proof.Machine
end

