-- ==== Sys2Proof/Machine/Pmbus.lean ====
section
/-!
DEFINITION. The PMBus target (17_register_and_command_reference.md R439 to R445). An answer stands in `pmb.resp`; `pmb.acked` is the
acknowledgement of the latest command byte.
-/
namespace Sys2Proof.Machine

/-! ## When the target serves (R440) -/

/-- The target answers its address: fuses loaded, or SAFE (R50, R78, R440). -/
def pmbUp (s : State) : Bool := alive s && (s.fus.loaded || s.su.cond = .safe)
/-- The target serves writes: from READY, outside HALT (R440). -/
def pmbWrites (s : State) : Bool := alive s && sinceReady s && !halted s
/-- WRITE_PROTECT permits a write of OPERATION and PAGE. -/
def wpOper (s : State) : Bool := s.pmb.wp ≠ 0x80
/-- WRITE_PROTECT permits every other write. -/
def wpOther (s : State) : Bool := s.pmb.wp = 0
/-- The command byte acknowledged, or not. -/
def pmbAck (s : State) (a : Bool) : State := { s with pmb := { s.pmb with acked := a } }
/-- A read command answers `bytes` (R441). -/
def pmbRead (s : State) (bytes : List Byte) : Out :=
  if pmbUp s then .next { s with pmb := { s.pmb with resp := bytes, acked := true } } else .next (pmbAck s false)
/-- An invalid transaction: its bit of STATUS_CML and a NOTE (R440). -/
def pmbBad (s : State) (bit : Nat) : State :=
  note { s with pmb := { s.pmb with cml := s.pmb.cml ||| BitVec.ofNat 8 (2 ^ bit), acked := true } } 0x01 0
/-- A write command, carried out where writes are served; else its command byte is not acknowledged (R440). -/
def pmbWrite (s : State) (f : State → State) : Out := if pmbWrites s then .next (f (pmbAck s true)) else .next (pmbAck s false)

/-! ## Commands with a write form (R440, R442 to R445) -/

/-- PAGE (R442). -/
def execPage (write : Option Nat) (s : State) : Out :=
  match write with
  | none => pmbRead s (leBytes 1 s.pmb.page)
  | some p => pmbWrite s fun s =>
    if p ≠ 0xFF && s.su.zones ≤ p then pmbBad s 6
    else if wpOper s then { s with pmb := { s.pmb with page := p } } else s
/-- OPERATION (R444): 0x00 and 0x40 start HALT, with a correct PEC and where WRITE_PROTECT permits. `pecOk` is none where the host sends no
PEC byte; one that does not match makes the transaction invalid (R440). -/
def execOperation (write : Option Nat) (pecOk : Option Bool) (s : State) : Out :=
  match write with
  | none => pmbRead s (leBytes 1 (if ready s then 0x80 else 0))
  | some v => pmbWrite s fun s =>
    if pecOk = some false then pmbBad s 5
    else if v = 0 || v = 0x40 then (if pecOk.isSome && wpOper s then report s 0x02 0 .halt else s)
    else if v = 0x80 && ready s then s else pmbBad s 6
/-- CLEAR_FAULTS (R445): bits set by raises stamped before now. -/
def execClearFaults (s : State) : Out := pmbWrite s fun s =>
  let c := now s
  { s with
    pmb := { s.pmb with ov := s.pmb.ov && c ≤ s.pmb.ovAt, oc := s.pmb.oc && c ≤ s.pmb.ocAt, inp := s.pmb.inp && c ≤ s.pmb.inAt
                        cml := 0, clearAt := c }
    snag := { s.snag with alert := s.snag.alert &&& BitVec.ofNat 5 (ofBits ((List.range 5).filter fun k => c ≤ s.snag.alertAt.getD k 0)) } }
/-- WRITE_PROTECT (R440): 0x00, 0x20, 0x40 or 0x80. -/
def execWriteProtect (write : Option Nat) (s : State) : Out :=
  match write with
  | none => pmbRead s (leBytes 1 s.pmb.wp)
  | some v => pmbWrite s fun s => if v ∈ [0, 0x20, 0x40, 0x80] then { s with pmb := { s.pmb with wp := v } } else pmbBad s 6
/-- MFR_POWER_CAP (R443): CAP_SW.POWER alone. -/
def execMfrPowerCap (write : Option Nat) (s : State) : Out :=
  match write with
  | none => pmbRead s (leBytes 2 (fld (regValue s 0x8004) 0 16))
  | some w => pmbWrite s fun s => if wpOther s then setCapSw s (some (w % 65536)) none else s
/-- MFR_ENERGY_CAP (R443): CAP_SW.ENERGY alone. -/
def execMfrEnergyCap (write : Option Nat) (s : State) : Out :=
  match write with
  | none => pmbRead s (leBytes 2 (fld (regValue s 0x8004) 16 16))
  | some w => pmbWrite s fun s => if wpOther s then setCapSw s none (some (w % 65536)) else s

/-! ## Fixed answers and status (R439, R441, table "Status bits") -/

/-- CAPABILITY: 0xD0. -/
def execCapability (s : State) : Out := pmbRead s (leBytes 1 0xD0)
/-- VOUT_MODE: 0x14. -/
def execVoutMode (s : State) : Out := pmbRead s (leBytes 1 0x14)
/-- STATUS_BYTE. -/
def execStatusByte (s : State) : Out := pmbRead s (leBytes 1 (statusLow s))
/-- STATUS_WORD. -/
def execStatusWord (s : State) : Out := pmbRead s (leBytes 2 (statusAll s))
/-- STATUS_TEMPERATURE. -/
def execStatusTemperature (s : State) : Out := pmbRead s (leBytes 1 (statusTemp s))
/-- STATUS_CML. -/
def execStatusCml (s : State) : Out := pmbRead s (leBytes 1 s.pmb.cml.toNat)
/-- STATUS_MFR_SPECIFIC. -/
def execStatusMfrSpecific (s : State) : Out := pmbRead s (leBytes 1 (statusMfr s))
/-- PMBUS_REVISION: 0x44. -/
def execPmbusRevision (s : State) : Out := pmbRead s (leBytes 1 0x44)
/-- MFR_ID: "WENWIA". -/
def execMfrId (s : State) : Out := pmbRead s [0x57, 0x45, 0x4E, 0x57, 0x49, 0x41]
/-- MFR_MODEL: "GLD-3". -/
def execMfrModel (s : State) : Out := pmbRead s [0x47, 0x4C, 0x44, 0x2D, 0x33]
/-- MFR_REVISION: "3.1.0". -/
def execMfrRevision (s : State) : Out := pmbRead s [0x33, 0x2E, 0x31, 0x2E, 0x30]

/-! ## Telemetry (R441, R442) -/

/-- R of TCV_RESULT[c] as its register shows it. -/
def resR (s : State) (c : Nat) : Int := signed 24 (fld (regValue s (0x4100 + 4 * c)) 0 24)
/-- READ_VIN: VIN = v ÷ VIN_DIV in 1/16 V (R354). -/
def execReadVin (s : State) : Out := pmbRead s (leBytes 2 (linear11 (-4) (rdiv 439 (5 * resR s 0) s.tcv.cfg.vinDiv)))
/-- READ_IIN: IIN = v ÷ IIN_GAIN in 1/8 A (R354). -/
def execReadIin (s : State) : Out :=
  pmbRead s (leBytes 2 (linear11 (-3) (rdiv 4391 (100000 * resR s 1) (8388608 * s.tcv.cfg.iinGain))))
/-- A zone page register. -/
def zoneReg (s : State) (z o : Nat) : W32 := regValue s (0x10000 + 0x1000 * z + o)
/-- READ_VOUT in 2⁻¹² V: VSNS of MSF_VIM, or ZREF − E of the zone. -/
def readVoutMant (s : State) : Int :=
  if s.pmb.page = 0xFF then nearest (4096 * (fld (regValue s 0x6030) 0 13 : Nat)) 4000
  else nearest (4096 * ((fld (zoneReg s s.pmb.page 0x010) 16 13 : Nat) - signed 13 (fld (zoneReg s s.pmb.page 0x01C) 0 13))) 4000
/-- READ_VOUT. -/
def execReadVout (s : State) : Out := pmbRead s (leBytes 2 (linear16 (readVoutMant s)))
/-- READ_IOUT: I_WIN of CAP_CUR at exponent 1, or IZ of the zone at exponent −1. -/
def readIoutWord (s : State) : Nat :=
  if s.pmb.page = 0xFF then linear11 1 (nearest (fld (regValue s 0x8024) 0 12 : Nat) 2)
  else linear11 (-1) (nearest (2 * signed 16 (fld (zoneReg s s.pmb.page 0x01C) 16 16)) 10)
/-- READ_IOUT. -/
def execReadIout (s : State) : Out := pmbRead s (leBytes 2 (readIoutWord s))
/-- TZ of THM_ZTEMP[z], 0.125 °C. -/
def tzReg (s : State) (z : Nat) : Int := signed 12 (fld (regValue s (0xA10C + 0x10 * z)) 0 12)
/-- The largest of a list of readings; 0 of none. -/
def highest : List Int → Int
  | [] => 0
  | x :: xs => xs.foldl max x
/-- READ_TEMPERATURE_1: the highest TZ, or the zone's, at exponent −2. -/
def execReadTemperature1 (s : State) : Out :=
  let t := if s.pmb.page = 0xFF then highest ((List.range s.su.zones).map (tzReg s)) else tzReg s s.pmb.page
  pmbRead s (leBytes 2 (linear11 (-2) (nearest (4 * t) 8)))
/-- READ_TEMPERATURE_2: the highest T of MSF_STG_T[g], g below NGROUP, at exponent −2. -/
def execReadTemperature2 (s : State) : Out :=
  let t := highest ((List.range s.msf.cfg.ngroup).map fun g => signed 12 (fld (regValue s (0x6080 + 4 * g)) 16 12))
  pmbRead s (leBytes 2 (linear11 (-2) (nearest (4 * t) 8)))
/-- READ_PIN: P_1MS of CAP_EST at exponent 2. -/
def execReadPin (s : State) : Out := pmbRead s (leBytes 2 (linear11 2 (nearest (fld (regValue s 0x8018) 16 16 : Nat) 4)))

/-! ## Blocks -/

/-- MFR_CAP_EFF: CAP_EFF. -/
def execMfrCapEff (s : State) : Out := pmbRead s (leBytes 4 (regValue s 0x8014).toNat)
/-- MFR_CAP_LIMITS: FLOOR_CFG, CEIL_CFG, CAP_CEIL. -/
def execMfrCapLimits (s : State) : Out :=
  let c := regValue s 0x8008
  pmbRead s (leBytes 2 (fld c 0 16) ++ leBytes 2 (fld c 16 16) ++ leBytes 2 (fld (regValue s 0x7010C) 16 16))
/-- MFR_READ_ENERGY: NRG_INST and NRG_STAMP of one boundary, in a snapshot of its own (R325, R436). -/
def execMfrReadEnergy (s : State) : Out :=
  pmbRead s (if sinceReady s then leBytes 8 s.nrg.inst.nj ++ leBytes 8 s.nrg.stamp else leBytes 16 0)
/-- MFR_BLK: BLK_ID, BLK_VERSION, BLK_CFG. -/
def execMfrBlk (s : State) : Out :=
  pmbRead s (leBytes 4 (regValue s 0).toNat ++ leBytes 4 (regValue s 4).toNat ++ leBytes 4 (regValue s 8).toNat)
/-- MFR_SNAG: SNG_STATUS, SNG_COUNT. -/
def execMfrSnag (s : State) : Out := pmbRead s (leBytes 4 (regValue s 0x2000).toNat ++ leBytes 4 (regValue s 0x2028).toNat)

/-! ## Transactions outside the command set (R439, R440) -/

/-- PMBUS_INVALID (R440): `bit` 7 command, 6 data, 5 PEC, 1 length. An invalid write is not acknowledged where writes are not served. -/
def execPmbusInvalid (write : Bool) (bit : Nat) (s : State) : Out :=
  if !(if write then pmbWrites s else pmbUp s) then .next (pmbAck s false)
  else if bit ∈ [7, 6, 5, 1] then .next (pmbBad s bit) else .next s
/-- SMBUS_TIMEOUT (R439): the bus is released and the transaction discarded. -/
def execSmbusTimeout (s : State) : Out := .next { s with pmb := { s.pmb with resp := [] } }
/-- ALERT_RESPONSE (R439, R445): the target's address in bits 7 to 1 while SMB_ALERT_N is low; the pin stays low. -/
def execAlertResponse (s : State) : Out :=
  if pmbUp s && smbAlertLow s then pmbRead s (leBytes 1 (2 * (0x58 + s.su.cascId))) else .next (pmbAck s false)

end Sys2Proof.Machine
end

