-- ==== Sys2Proof/Machine/RegWrite.lean ====
section
/-!
DEFINITION. Accesses by the register port: reads with their side effects, writes, unoccupied offsets and the wrapper's time-out
(00 R17 to R19, 02 R69 to R72, 03 R98, 17 R434 to R437).
-/
namespace Sys2Proof.Machine

/-- The state an outcome answers; `s` itself where there is none. -/
def outState (s : State) : Out → State
  | .next t => t
  | .fault _ => s
  | .refused _ => s

/-! ## Reads -/

/-- An offset whose read takes copies, removes an entry or advances an index. -/
def readActs (o : Nat) : Bool :=
  o = 0x1000 || o = 0x201C || o = 0x402C || o = 0x8100 || o = 0x8108 || o = 0x8110 ||
  (0x8200 ≤ o && o < 0x8280 && o % 8 = 0) || (0x8800 ≤ o && o < 0x9000 && o % 8 = 0) ||
  (0x10000 ≤ o && o < 0x40000 && o % 0x1000 = 0x044)
/-- A read of the management bank at offset `o` by RP (R19, R69, R98, R436). -/
def regRead (s : State) (o : Nat) : State :=
  if !alive s then s
  else if !regOpen s o then rpData s 0
  else match regPeek s o with
    | none => if sinceReady s then note (rpData s 0) 0x01 0 else rpData s 0
    | some w =>
      if !readActs o then rpData s w
      else if o = 0x1000 then outState s (execTbsNowLoRead s)
      else if o = 0x201C then outState s (execSngLogLoRead s)
      else if o = 0x402C then outState s (execTcvQLoRead s)
      else if o < 0x10000 then outState s (execNrgLoRead o s)
      else outState s (execFltTblDataAccess ((o - 0x10000) / 0x1000) none s)
/-- A read of the user window at page q, offset n (R70, R98, R327). -/
def userRead (s : State) (q n : Nat) : State :=
  if !alive s then s
  else if n = 0 then outState s (execUserWindowEnergyRead q s)
  else rpData s (if sinceReady s then userWindow s q n else 0)

/-! ## Writes -/

/-- W1C bits of a field: those of `mask` written as 1 clear (R17). -/
def w1c {n : Nat} (old : BitVec n) (mask w : Nat) : BitVec n := old &&& ~~~(BitVec.ofNat n (w &&& mask))
/-- Writes of the instance pages that set RW fields or clear W1C bits; none where the register has no such field. -/
def writeField (s : State) (o : Nat) (w : W32) : Option State :=
  let n := w.toNat
  if o = 0x1008 then some { s with tb := { s.tb with holdoverSeen := s.tb.holdoverSeen && !n.testBit 2 } }
  else if o = 0x2000 then some { s with snag := { s.snag with ovfSeen := s.snag.ovfSeen && !n.testBit 6 } }
  else if o = 0x2014 then some { s with snag := { s.snag with alert := w1c s.snag.alert 0x1F n } }
  else if o = 0x2018 then some { s with snag := { s.snag with mask := BitVec.ofNat 5 n } }
  else if o = 0x2024 then some { s with snag := { s.snag with forceUnit := fld w 0 11 } }
  else if o = 0x202C then some { s with snag := { s.snag with srcSel := fld w 0 8 } }
  else if o = 0x2034 then some { s with snag := { s.snag with tileSel := fld w 0 11 } }
  else if o = 0x2F00 then some { s with tnt := { s.tnt with ovfSeen := s.tnt.ovfSeen && !n.testBit 6 } }
  else if o = 0x4000 then some { s with tcv := { s.tcv with status := w1c s.tcv.status 0x1F0 n } }
  else if o = 0x4024 then some { s with tcv := { s.tcv with qmask := w } }
  else if o = 0x4034 then some { s with tcv := { s.tcv with wstat := s.tcv.wstat &&& ~~~w } }
  else if o = 0x6038 then some { s with msf := { s.msf with status := w1c s.msf.status 0xFF n } }
  else if o = 0x8000 then some { s with caps := { s.caps with status := w1c s.caps.status 0xFC n } }
  else if o = 0xA000 then some { s with thm := { s.thm with status := w1c s.thm.status 0x7 n } }
  else if o = 0xC000 then some { s with lth := { s.lth with status := w1c s.lth.status 0xF n } }
  else if o = 0xE000 then some { s with bist := { s.bist with
      failSeen := s.bist.failSeen && !n.testBit 9, abandonSeen := s.bist.abandonSeen && !n.testBit 10 } }
  else if o = 0xE014 then some { s with bist := { s.bist with tileSel := fld w 0 11 } }
  else if o = 0x40000 then some { s with fce := { s.fce with status := w1c s.fce.status 0xE n } }
  else if o = 0x4001C then some { s with fce := { s.fce with winSlot := fld w 0 6 } }
  else if o = 0x40020 then some { s with fce := { s.fce with freeze := w.getLsbD 0 } }
  else if o = 0x60000 then some { s with pcx := { s.pcx with status := w1c s.pcx.status 0x3F n } }
  else if o = 0x60014 then some { s with pcx := { s.pcx with sel := BitVec.ofNat 13 n } }
  else if o = 0x6001C then some { s with pcx := { s.pcx with freeze := w.getLsbD 0 } }
  else if o = 0x70010 then some { s with nvm := { s.nvm with torn := s.nvm.torn && !n.testBit 1, folded := s.nvm.folded && !n.testBit 2 } }
  else if o = 0x70020 then some { s with nvm := { s.nvm with progAddr := w } }
  else if o = 0x70180 then some { s with fus := { s.fus with calIndex := w &&& 0x87FF } }
  else none
/-- TCV_WIN[c]. -/
def writeWin (s : State) (c : Nat) (w : W32) : State :=
  { s with tcv := { s.tcv with
      winLo := s.tcv.winLo.set c (BitVec.ofNat 16 (fld w 0 16)), winHi := s.tcv.winHi.set c (BitVec.ofNat 16 (fld w 16 16)) } }
/-- TCV_CMD, BST_CMD, SNG_CMD, FCE_LOAD_CTL, PCX_CMD, NVM_PROG_CMD and NVM_LOG_CLEAR: the command a word names. -/
def writeCmd (s : State) (o : Nat) (w : W32) : State :=
  let c (x : Out) : State := outState s x
  if o = 0x2010 then
    if fld w 0 2 = 1 then c (execSngCmdHalt (fld w 24 8) s) else if fld w 0 2 = 2 then c (execSngCmdSnapshot s) else s
  else if o = 0x401C then
    if fld w 0 2 = 1 then c (execTcvSelfCal s) else if fld w 0 2 = 2 then c (execTcvUrgent (fld w 8 5) s)
    else if fld w 0 2 = 3 then c (execTcvCapture s) else s
  else if o = 0xE008 then if fld w 0 4 = 1 then c (execBstRun (fld w 4 4) (fld w 12 11) s) else s
  else if o = 0x40010 then
    let k := fld w 8 2
    let n := fld w 0 6
    if k = 1 then c (execFceStagingReset n s) else if k = 2 then c (execFceCommit n s) else if k = 3 then c (execFceClear n s)
    else { s with fce := { s.fce with slotSel := n } }
  else if o = 0x60008 then
    let k := fld w 0 3
    if k = 1 then c (execPcxStagingReset s) else if k = 2 then c (execPcxCommit (fld w 16 12) s)
    else if k = 3 then c (execPcxDrop (fld w 16 12) s) else s
  else if o = 0x70014 then
    if !logClears s then note s 0x01 0 else
    let s1 := if w.getLsbD 0 then outState s (execLogClearFh s) else s
    let s2 := if w.getLsbD 1 then outState s1 (execLogClearShut s1) else s1
    if w.getLsbD 2 then outState s2 (execLogClearCnt s2) else s2
  else if o = 0x70028 then
    let k := fld w 0 2
    if k = 1 then c (execNvmErase s) else if k = 2 then c (execNvmProgram s)
    else if k = 3 then c (execNvmVerify s) else s
  else s
/-- A register of zone z's page written. -/
def writePage (s : State) (z o : Nat) (w : W32) : State :=
  let n := w.toNat
  if o = 0x004 then outState s (execFltReqWrite z w s)
  else if o = 0x02C then modZone s z fun zn => { zn with status := w1c zn.status 0xFF n }
  else if o = 0x040 then modZone s z fun zn => { zn with tblAddr := BitVec.ofNat 9 n }
  else if o = 0x044 then outState s (execFltTblDataAccess z (some w) s)
  else if o = 0x104 then modZone s z fun zn => { zn with swSeen := w1c zn.swSeen 0xE n }
  else if o = 0x208 then modZone s z fun zn => { zn with sft := { zn.sft with ackLateSeen := zn.sft.ackLateSeen && !n.testBit 2 } }
  else if o = 0x7D8 then modZone s z fun zn => { zn with syncLostSeen := zn.syncLostSeen && !n.testBit 2 }
  else s
/-- A write of an occupied register: RW and W1C fields, the command registers and the registers with a row of their own; read-only
fields ignore it (R17, R18). -/
def writeOccupied (s : State) (o : Nat) (w : W32) : State :=
  let c (x : Out) : State := outState s x
  match writeField s o w with
  | some t => t
  | none =>
    if o = 0x6020 then c (execMsfVsetWrite w s)
    else if o = 0x8004 then c (execCapSwWrite w s)
    else if o = 0xC020 then c (execLthInjCtlWrite w s)
    else if o = 0xC024 then injPatWrite s w
    else if o = 0x40014 then c (execFceLoadData w s)
    else if o = 0x6000C then c (execPcxStageWrite w s)
    else if o = 0x70024 then c (execNvmProgDataWrite w s)
    else if 0x10000 ≤ o && o < 0x40000 then writePage s ((o - 0x10000) / 0x1000) (o % 0x1000) w
    else match regIdx o 0x2040 4 8, regIdx o 0x4200 4 23, regIdx o 0x8080 4 16 with
      | some k, _, _ => c (execSngForceWrite k w s)
      | _, some ch, _ => writeWin s ch w
      | _, _, some g => c (execCapGroupWrite g w s)
      | _, _, _ => writeCmd s o w
/-- A write of the management bank at offset `o` (R19, R69, R98). -/
def regWrite (s : State) (o : Nat) (w : W32) : State :=
  if !alive s || !regOpen s o then s
  else if (regPeek s o).isNone then (if sinceReady s then note s 0x01 0 else s)
  else writeOccupied s o w

/-! ## Commands -/

/-- REGISTER_WRITE (R17): a write of a register of the bank. -/
def execRegisterWrite (o : Nat) (w : W32) (s : State) : Out := .next (regWrite s o w)
/-- UNOCCUPIED_ACCESS (R19, R98): a read returns 0, a write has no effect; from READY either is a NOTE. -/
def execUnoccupiedAccess (write : Bool) (o : Nat) (s : State) : Out :=
  if !alive s || (regPeek s o).isSome then .next s
  else
    let s1 := if write then s else rpData s 0
    .next (if sinceReady s then note s1 0x01 0 else s1)
/-- RP_TIMEOUT (R72): of a block that does not answer, the wrapper completes the access with 0xFFFF_FFFF and a pulse of RPW_ERR. -/
def execRpTimeout (s : State) : Out :=
  if alive s then .next s else .next { s with rp := { rdata := 0xFFFFFFFF, pulses := s.rp.pulses + 1 } }

end Sys2Proof.Machine
end

