-- ==== Sys2Proof/Machine/Tap.lean ====
section
/-!
DEFINITION. The test access port (02 R81, 16 R420, 03 R105). The test instructions act where R104 permits them; elsewhere they select
the bypass register and change no pin.
-/
namespace Sys2Proof.Machine

/-- Instruction `ir` is selected, and acts or not; an earlier EXTEST or HIGHZ ends (R420). -/
def tapSelect (s : State) (ir : Nat) (acts : Bool) : State :=
  { s with tap := { s.tap with ir := BitVec.ofNat 8 ir, acts }, pins := { s.pins with highz := false, extest := none } }
/-- The boundary cells are captured: what the pins hold is the free value of each cell (assumption 9); `pins` is shifted in. -/
def tapScan (s : State) (pins : List Bool) : State :=
  let n := s.tap.frees
  { s with tap := { s.tap with bsr := pins, captured := (List.range pins.length).map fun i => Config.boundaryCell n i, frees := n + 1 } }
/-- An instruction of a powered port; unpowered, the pins are high impedance and nothing is shifted (R50, R81). -/
def tapOn (s : State) (o : Out) : Out := if s.su.cond = .unpowered then .next s else o
/-- EXTEST (R420): the pins follow the boundary scan register. -/
def execExtest (pins : List Bool) (s : State) : Out := tapOn s <|
  if testPermitted s then
    let t : State := tapScan (tapSelect s 0x00 true) pins
    .next { t with pins := { t.pins with extest := some pins } }
  else .next (tapSelect s 0x00 false)
/-- SAMPLE/PRELOAD (R81, R420). -/
def execSamplePreload (pins : List Bool) (s : State) : Out := tapOn s (.next (tapScan (tapSelect s 0x01 true) pins))
/-- IDCODE (R81): version 3, part 0x06D3, manufacturer 0x5A7. -/
def execIdcode (s : State) : Out := tapOn s <|
  let t : State := tapSelect s 0x02 true
  .next { t with tap := { t.tap with dr := 0x306D3B4F } }
/-- HIGHZ (R420). -/
def execHighz (s : State) : Out := tapOn s <|
  if testPermitted s then
    let t : State := tapSelect s 0x03 true
    .next { t with pins := { t.pins with highz := true } }
  else .next (tapSelect s 0x03 false)
/-- An access of the register port from the test port (R420): the bank, or the user window. -/
def tapAccess (s : State) (write space : Bool) (o : Nat) (w : W32) : State :=
  if space then
    if write then outState s (execUserWindowWrite (o / 0x1000) (o % 0x1000) s) else userRead s (o / 0x1000) (o % 0x1000)
  else if write then regWrite s o w else regRead s o
/-- RP_ACCESS (R420): the next capture returns the read data. -/
def execRpAccess (write space : Bool) (addr data : W32) (s : State) : Out := tapOn s <|
  if testPermitted s then
    let t : State := tapAccess (tapSelect s 0x10 true) write space (rpOffset addr) data
    .next { t with tap := { t.tap with dr := if write then t.tap.dr else t.rp.rdata } }
  else .next (tapSelect s 0x10 false)
/-- The 1 bits of a fuse word blown; a fuse only goes from 0 to 1 (R103, R420). -/
def fuseOr (ws : List (Nat × BitVec 128)) (a : Nat) (d : BitVec 128) : List (Nat × BitVec 128) :=
  if ws.any fun x => x.1 = a then ws.map fun x => if x.1 = a then (a, x.2 ||| d) else x else (a, d) :: ws
/-- FUSE_PROG (R104, R420): MANUFACTURE only. -/
def execFuseProg (addr : W32) (data : BitVec 128) (s : State) : Out := tapOn s <|
  if life s = some .manufacture then
    let t : State := tapSelect s 0x20 true
    .next { t with fus := { t.fus with words := fuseOr t.fus.words addr.toNat data } }
  else .next (tapSelect s 0x20 false)
/-- The conditions of FUSE_PROVISION on the array's fields (R105). -/
def provisionable (f : FuseFields) : Bool :=
  f.keyroot.any (· ≠ 0) && (f.vmaxLogic ≠ 0 || f.vmaxArray ≠ 0) && (f.vmaxMif ≠ 0 || f.vmaxLink ≠ 0) && f.capCeil ≠ 0
/-- FUSE_PROVISION (R105): its conditions hold of the words the array now holds; it blows life-cycle bit 0, and the shadow follows at the
next fuse read (assumption 67). -/
def execFuseProvision (s : State) : Out := tapOn s <|
  if life s = some .manufacture then
    let t : State := tapSelect s 0x21 true
    let f := Config.fuseFields (fuseWord t.fus.words)
    .next (if provisionable f then { t with fus := { t.fus with lcCells := lcBlow t.fus.lcCells 0 } } else t)
  else .next (tapSelect s 0x21 false)
/-- BYPASS (R420); codes not listed select the same register. -/
def execBypass (s : State) : Out := tapOn s (.next (tapSelect s 0xFF true))
/-- TAP_RESET (R81): Test-Logic-Reset selects IDCODE (IEEE 1149.1). -/
def execTapReset (s : State) : Out := tapOn s (.next (tapSelect s 0x02 true))

end Sys2Proof.Machine
end

