-- ==== Sys2Proof/Machine/Dispatch.lean ====
section
/-!
DEFINITION. The dispatch: one arm per command, each one direct call of its meaning.
-/
namespace Sys2Proof.Machine

def exec (i : Instr) (s : State) : Host.Outcome State Fault Refusal :=
  match i with
  | .powerOnResetRelease cascId cascMaster => Sys2Proof.Machine.execPowerOnResetRelease cascId cascMaster s
  | .vbiasLoss => Sys2Proof.Machine.execVbiasLoss s
  | .resetNFall low => Sys2Proof.Machine.execResetNFall low s
  | .resetNRise => Sys2Proof.Machine.execResetNRise s
  | .fuseLoadDone r => Sys2Proof.Machine.execFuseLoadDone r s
  | .timebaseLock locked => Sys2Proof.Machine.execTimebaseLock locked s
  | .flashDiscoveryDone d => Sys2Proof.Machine.execFlashDiscoveryDone d s
  | .imageBodyReadDone => Sys2Proof.Machine.execImageBodyReadDone s
  | .imageCheckDone => Sys2Proof.Machine.execImageCheckDone s
  | .logScanDone ok => Sys2Proof.Machine.execLogScanDone ok s
  | .userCalDone => Sys2Proof.Machine.execUserCalDone s
  | .thermalRestartCheck => Sys2Proof.Machine.execThermalRestartCheck s
  | .msfBaseReached => Sys2Proof.Machine.execMsfBaseReached s
  | .msfSettleEnd => Sys2Proof.Machine.execMsfSettleEnd s
  | .startupBistDone => Sys2Proof.Machine.execStartupBistDone s
  | .startupBistClassDone r => Sys2Proof.Machine.execStartupBistClassDone r s
  | .formationTimeout => Sys2Proof.Machine.execFormationTimeout s
  | .zoneStageDone => Sys2Proof.Machine.execZoneStageDone s
  | .sampleInstant x => Sys2Proof.Machine.execSampleInstant x s
  | .updateOverrun z => Sys2Proof.Machine.execUpdateOverrun z s
  | .forecastRound => Sys2Proof.Machine.execForecastRound s
  | .forecastPacketRx z => Sys2Proof.Machine.execForecastPacketRx z s
  | .fpvRx => Sys2Proof.Machine.execFpvRx s
  | .forecastExpiry z => Sys2Proof.Machine.execForecastExpiry z s
  | .forecastAbsentDegrade => Sys2Proof.Machine.execForecastAbsentDegrade s
  | .limitUpdate z => Sys2Proof.Machine.execLimitUpdate z s
  | .leaseExpiry z => Sys2Proof.Machine.execLeaseExpiry z s
  | .submitPp b0 b1 b2 => Sys2Proof.Machine.execSubmitPp b0 b1 b2 s
  | .submitCb b0 b1 b2 => Sys2Proof.Machine.execSubmitCb b0 b1 b2 s
  | .step b0 b1 => Sys2Proof.Machine.execStep b0 b1 s
  | .done b0 => Sys2Proof.Machine.execDone b0 s
  | .doneLast b0 => Sys2Proof.Machine.execDoneLast b0 s
  | .preempt b0 => Sys2Proof.Machine.execPreempt b0 s
  | .resume b0 => Sys2Proof.Machine.execResume b0 s
  | .malformedRecord beats => Sys2Proof.Machine.execMalformedRecord beats s
  | .contextFetchDone p uncorrectable directory => Sys2Proof.Machine.execContextFetchDone p uncorrectable directory s
  | .stepMarkTaken p => Sys2Proof.Machine.execStepMarkTaken p s
  | .cadenceLost p => Sys2Proof.Machine.execCadenceLost p s
  | .claimExpiry q sid => Sys2Proof.Machine.execClaimExpiry q sid s
  | .genRetire pcx => Sys2Proof.Machine.execGenRetire pcx s
  | .pcxHomeMove pcx => Sys2Proof.Machine.execPcxHomeMove pcx s
  | .leaseEnd q sid => Sys2Proof.Machine.execLeaseEnd q sid s
  | .suspendExpiry q => Sys2Proof.Machine.execSuspendExpiry q s
  | .hintExpiry p => Sys2Proof.Machine.execHintExpiry p s
  | .pcxStagingReset => Sys2Proof.Machine.execPcxStagingReset s
  | .pcxStageWrite w => Sys2Proof.Machine.execPcxStageWrite w s
  | .pcxCommit pcx => Sys2Proof.Machine.execPcxCommit pcx s
  | .pcxDrop pcx => Sys2Proof.Machine.execPcxDrop pcx s
  | .pcxDirSwitch => Sys2Proof.Machine.execPcxDirSwitch s
  | .fceStagingReset slot => Sys2Proof.Machine.execFceStagingReset slot s
  | .fceLoadData w => Sys2Proof.Machine.execFceLoadData w s
  | .fceCommit slot => Sys2Proof.Machine.execFceCommit slot s
  | .fceClear slot => Sys2Proof.Machine.execFceClear slot s
  | .fceCopyDone => Sys2Proof.Machine.execFceCopyDone s
  | .fceSlotLost slot => Sys2Proof.Machine.execFceSlotLost slot s
  | .adaptationRun => Sys2Proof.Machine.execAdaptationRun s
  | .droopCrossing z t => Sys2Proof.Machine.execDroopCrossing z t s
  | .droopRelease z t => Sys2Proof.Machine.execDroopRelease z t s
  | .stretchTimeout z => Sys2Proof.Machine.execStretchTimeout z s
  | .stretchAckCheck z ack => Sys2Proof.Machine.execStretchAckCheck z ack s
  | .taintExcursionEnd z t fine => Sys2Proof.Machine.execTaintExcursionEnd z t fine s
  | .taintIntervalSplit z t => Sys2Proof.Machine.execTaintIntervalSplit z t s
  | .taintEventRx z => Sys2Proof.Machine.execTaintEventRx z s
  | .taintStrobeEnd z => Sys2Proof.Machine.execTaintStrobeEnd z s
  | .tntRecordSend => Sys2Proof.Machine.execTntRecordSend s
  | .tntOverflowRecord => Sys2Proof.Machine.execTntOverflowRecord s
  | .freqReq z code => Sys2Proof.Machine.execFreqReq z code s
  | .freqIncreaseGrant z => Sys2Proof.Machine.execFreqIncreaseGrant z s
  | .freqReqFall z => Sys2Proof.Machine.execFreqReqFall z s
  | .setReq z a dur => Sys2Proof.Machine.execSetReq z a dur s
  | .setWindowSchedule z a => Sys2Proof.Machine.execSetWindowSchedule z a s
  | .setWaitExpiry z a => Sys2Proof.Machine.execSetWaitExpiry z a s
  | .setReqFall z a => Sys2Proof.Machine.execSetReqFall z a s
  | .windowStart z a => Sys2Proof.Machine.execWindowStart z a s
  | .windowEnd z a => Sys2Proof.Machine.execWindowEnd z a s
  | .gateAck z a level => Sys2Proof.Machine.execGateAck z a level s
  | .gateAckLate z a => Sys2Proof.Machine.execGateAckLate z a s
  | .zoneGateTimeout z => Sys2Proof.Machine.execZoneGateTimeout z s
  | .thrAckToggle => Sys2Proof.Machine.execThrAckToggle s
  | .fltReqWrite z w => Sys2Proof.Machine.execFltReqWrite z w s
  | .pupDeferExpiry z => Sys2Proof.Machine.execPupDeferExpiry z s
  | .zoneRampDone z => Sys2Proof.Machine.execZoneRampDone z s
  | .zoneRampTimeout z => Sys2Proof.Machine.execZoneRampTimeout z s
  | .zoneRunExitDone z => Sys2Proof.Machine.execZoneRunExitDone z s
  | .holdTimeout z => Sys2Proof.Machine.execHoldTimeout z s
  | .fltTblDataAccess z write => Sys2Proof.Machine.execFltTblDataAccess z write s
  | .floatTableEccError z shadow corrected => Sys2Proof.Machine.execFloatTableEccError z shadow corrected s
  | .zoneStrobeLoss z => Sys2Proof.Machine.execZoneStrobeLoss z s
  | .tileTripShort z t => Sys2Proof.Machine.execTileTripShort z t s
  | .tileSwitchFail z t => Sys2Proof.Machine.execTileSwitchFail z t s
  | .tileOverloadSet z t => Sys2Proof.Machine.execTileOverloadSet z t s
  | .tileTempResult z t raw => Sys2Proof.Machine.execTileTempResult z t raw s
  | .tileOverloadClear z t => Sys2Proof.Machine.execTileOverloadClear z t s
  | .tileLoadStep z t => Sys2Proof.Machine.execTileLoadStep z t s
  | .tileWatchEnd z t => Sys2Proof.Machine.execTileWatchEnd z t s
  | .ageingUpdate => Sys2Proof.Machine.execAgeingUpdate s
  | .tileRegEntry z t => Sys2Proof.Machine.execTileRegEntry z t s
  | .tileStopDone z t => Sys2Proof.Machine.execTileStopDone z t s
  | .tileAgeResult z t age => Sys2Proof.Machine.execTileAgeResult z t age s
  | .tileTestDone z t failStep => Sys2Proof.Machine.execTileTestDone z t failStep s
  | .zoneSyncLost z x => Sys2Proof.Machine.execZoneSyncLost z x s
  | .zoneSyncRelock z x => Sys2Proof.Machine.execZoneSyncRelock z x s
  | .msfSyncLost x => Sys2Proof.Machine.execMsfSyncLost x s
  | .msfSyncRelock x => Sys2Proof.Machine.execMsfSyncRelock x s
  | .vsetInLost => Sys2Proof.Machine.execVsetInLost s
  | .vsetFallback => Sys2Proof.Machine.execVsetFallback s
  | .vsetInReturn => Sys2Proof.Machine.execVsetInReturn s
  | .msfVsetWrite w => Sys2Proof.Machine.execMsfVsetWrite w s
  | .msfShedArm => Sys2Proof.Machine.execMsfShedArm s
  | .msfShedCommit => Sys2Proof.Machine.execMsfShedCommit s
  | .msfWatchEnd => Sys2Proof.Machine.execMsfWatchEnd s
  | .msfShort => Sys2Proof.Machine.execMsfShort s
  | .msfHiccupEnd => Sys2Proof.Machine.execMsfHiccupEnd s
  | .msfTriesReset => Sys2Proof.Machine.execMsfTriesReset s
  | .msfOvervoltage => Sys2Proof.Machine.execMsfOvervoltage s
  | .msfChannelExclude k => Sys2Proof.Machine.execMsfChannelExclude k s
  | .pgFault => Sys2Proof.Machine.execPgFault s
  | .pgRestore => Sys2Proof.Machine.execPgRestore s
  | .enforcementBoundary => Sys2Proof.Machine.execEnforcementBoundary s
  | .energySegmentRx z delivered => Sys2Proof.Machine.execEnergySegmentRx z delivered s
  | .powerWindowBoundary => Sys2Proof.Machine.execPowerWindowBoundary s
  | .graceEnd => Sys2Proof.Machine.execGraceEnd s
  | .calibrationWindow => Sys2Proof.Machine.execCalibrationWindow s
  | .capSwWrite w => Sys2Proof.Machine.execCapSwWrite w s
  | .capGroupWrite g w => Sys2Proof.Machine.execCapGroupWrite g w s
  | .groupProposalRx src g code gbLen decided emergency => Sys2Proof.Machine.execGroupProposalRx src g code gbLen decided emergency s
  | .groupBoundary g => Sys2Proof.Machine.execGroupBoundary g s
  | .nrgLoRead offset => Sys2Proof.Machine.execNrgLoRead offset s
  | .userWindowEnergyRead q => Sys2Proof.Machine.execUserWindowEnergyRead q s
  | .userWindowWrite q offset => Sys2Proof.Machine.execUserWindowWrite q offset s
  | .tbsNowLoRead => Sys2Proof.Machine.execTbsNowLoRead s
  | .refclkLost => Sys2Proof.Machine.execRefclkLost s
  | .holdoverTimeout => Sys2Proof.Machine.execHoldoverTimeout s
  | .taskDeadlineMiss pair task => Sys2Proof.Machine.execTaskDeadlineMiss pair task s
  | .lockstepDisagree pair => Sys2Proof.Machine.execLockstepDisagree pair s
  | .corePairRestartDone pair => Sys2Proof.Machine.execCorePairRestartDone pair s
  | .tcvResult modB bits => Sys2Proof.Machine.execTcvResult modB bits s
  | .tcvSelfCal => Sys2Proof.Machine.execTcvSelfCal s
  | .tcvSelfCalDone a b => Sys2Proof.Machine.execTcvSelfCalDone a b s
  | .tcvUrgent ch => Sys2Proof.Machine.execTcvUrgent ch s
  | .tcvCapture => Sys2Proof.Machine.execTcvCapture s
  | .tcvAdmission => Sys2Proof.Machine.execTcvAdmission s
  | .tcvQLoRead => Sys2Proof.Machine.execTcvQLoRead s
  | .tcvStopped => Sys2Proof.Machine.execTcvStopped s
  | .lathTransferRx rx zoneNet kind header word waiting => Sys2Proof.Machine.execLathTransferRx rx zoneNet kind header word waiting s
  | .lathAckRx zoneNet header => Sys2Proof.Machine.execLathAckRx zoneNet header s
  | .lathRetry zoneNet src dest cls seq kind zone => Sys2Proof.Machine.execLathRetry zoneNet src dest cls seq kind zone s
  | .seamLaneFail j laneB => Sys2Proof.Machine.execSeamLaneFail j laneB s
  | .lthInjCtlWrite w => Sys2Proof.Machine.execLthInjCtlWrite w s
  | .cxLinkUp cxb => Sys2Proof.Machine.execCxLinkUp cxb s
  | .cxLinkDown cxb => Sys2Proof.Machine.execCxLinkDown cxb s
  | .cxLathFrameRx cxb kind frame => Sys2Proof.Machine.execCxLathFrameRx cxb kind frame s
  | .heartbeatSend => Sys2Proof.Machine.execHeartbeatSend s
  | .heartbeatRx hb => Sys2Proof.Machine.execHeartbeatRx hb s
  | .timeExchangeStart => Sys2Proof.Machine.execTimeExchangeStart s
  | .timeRequestRx src => Sys2Proof.Machine.execTimeRequestRx src s
  | .timeAnswerRx t1 t2 t3 t4 => Sys2Proof.Machine.execTimeAnswerRx t1 t2 t3 t4 s
  | .peerLost x => Sys2Proof.Machine.execPeerLost x s
  | .masterSuccession => Sys2Proof.Machine.execMasterSuccession s
  | .shareReportRx src pset floor p1ms => Sys2Proof.Machine.execShareReportRx src pset floor p1ms s
  | .shareRx w => Sys2Proof.Machine.execShareRx w s
  | .faultReport => Sys2Proof.Machine.execFaultReport s
  | .faultRecovery code unit => Sys2Proof.Machine.execFaultRecovery code unit s
  | .haltStageOff => Sys2Proof.Machine.execHaltStageOff s
  | .haltMsfOff => Sys2Proof.Machine.execHaltMsfOff s
  | .aliveToggle => Sys2Proof.Machine.execAliveToggle s
  | .sngCmdHalt confirm => Sys2Proof.Machine.execSngCmdHalt confirm s
  | .sngCmdSnapshot => Sys2Proof.Machine.execSngCmdSnapshot s
  | .sngForceWrite k w => Sys2Proof.Machine.execSngForceWrite k w s
  | .sngLogLoRead => Sys2Proof.Machine.execSngLogLoRead s
  | .snapshotTimer => Sys2Proof.Machine.execSnapshotTimer s
  | .cleanPeriod => Sys2Proof.Machine.execCleanPeriod s
  | .nvmErase => Sys2Proof.Machine.execNvmErase s
  | .nvmProgram => Sys2Proof.Machine.execNvmProgram s
  | .nvmVerify => Sys2Proof.Machine.execNvmVerify s
  | .nvmCommandDone flashError => Sys2Proof.Machine.execNvmCommandDone flashError s
  | .nvmProgDataWrite w => Sys2Proof.Machine.execNvmProgDataWrite w s
  | .logClearFh => Sys2Proof.Machine.execLogClearFh s
  | .logClearShut => Sys2Proof.Machine.execLogClearShut s
  | .logClearCnt => Sys2Proof.Machine.execLogClearCnt s
  | .bstRun cls target => Sys2Proof.Machine.execBstRun cls target s
  | .bstRequestDrop => Sys2Proof.Machine.execBstRequestDrop s
  | .memSliceTest => Sys2Proof.Machine.execMemSliceTest s
  | .memSliceDone oneSymbol twoSymbols => Sys2Proof.Machine.execMemSliceDone oneSymbol twoSymbols s
  | .tileTestOverdue z => Sys2Proof.Machine.execTileTestOverdue z s
  | .unoccupiedAccess write offset => Sys2Proof.Machine.execUnoccupiedAccess write offset s
  | .registerWrite offset w => Sys2Proof.Machine.execRegisterWrite offset w s
  | .rpTimeout => Sys2Proof.Machine.execRpTimeout s
  | .page write => Sys2Proof.Machine.execPage write s
  | .operation write pec => Sys2Proof.Machine.execOperation write pec s
  | .clearFaults => Sys2Proof.Machine.execClearFaults s
  | .capability => Sys2Proof.Machine.execCapability s
  | .voutMode => Sys2Proof.Machine.execVoutMode s
  | .statusByte => Sys2Proof.Machine.execStatusByte s
  | .statusWord => Sys2Proof.Machine.execStatusWord s
  | .writeProtect write => Sys2Proof.Machine.execWriteProtect write s
  | .statusTemperature => Sys2Proof.Machine.execStatusTemperature s
  | .statusCml => Sys2Proof.Machine.execStatusCml s
  | .statusMfrSpecific => Sys2Proof.Machine.execStatusMfrSpecific s
  | .readVin => Sys2Proof.Machine.execReadVin s
  | .readIin => Sys2Proof.Machine.execReadIin s
  | .mfrPowerCap write => Sys2Proof.Machine.execMfrPowerCap write s
  | .readVout => Sys2Proof.Machine.execReadVout s
  | .readIout => Sys2Proof.Machine.execReadIout s
  | .readTemperature1 => Sys2Proof.Machine.execReadTemperature1 s
  | .readTemperature2 => Sys2Proof.Machine.execReadTemperature2 s
  | .readPin => Sys2Proof.Machine.execReadPin s
  | .mfrEnergyCap write => Sys2Proof.Machine.execMfrEnergyCap write s
  | .pmbusRevision => Sys2Proof.Machine.execPmbusRevision s
  | .mfrId => Sys2Proof.Machine.execMfrId s
  | .mfrModel => Sys2Proof.Machine.execMfrModel s
  | .mfrRevision => Sys2Proof.Machine.execMfrRevision s
  | .mfrCapEff => Sys2Proof.Machine.execMfrCapEff s
  | .mfrCapLimits => Sys2Proof.Machine.execMfrCapLimits s
  | .mfrReadEnergy => Sys2Proof.Machine.execMfrReadEnergy s
  | .mfrBlk => Sys2Proof.Machine.execMfrBlk s
  | .mfrSnag => Sys2Proof.Machine.execMfrSnag s
  | .pmbusInvalid write bit => Sys2Proof.Machine.execPmbusInvalid write bit s
  | .smbusTimeout => Sys2Proof.Machine.execSmbusTimeout s
  | .alertResponse => Sys2Proof.Machine.execAlertResponse s
  | .extest pins => Sys2Proof.Machine.execExtest pins s
  | .samplePreload pins => Sys2Proof.Machine.execSamplePreload pins s
  | .idcode => Sys2Proof.Machine.execIdcode s
  | .highz => Sys2Proof.Machine.execHighz s
  | .rpAccess write space addr data => Sys2Proof.Machine.execRpAccess write space addr data s
  | .fuseProg addr data => Sys2Proof.Machine.execFuseProg addr data s
  | .fuseProvision => Sys2Proof.Machine.execFuseProvision s
  | .bypass => Sys2Proof.Machine.execBypass s
  | .tapReset => Sys2Proof.Machine.execTapReset s
  | .refclkReturn => Sys2Proof.Machine.execRefclkReturn s
  | .vsetInSample mvs periods => Sys2Proof.Machine.execVsetInSample mvs periods s
  | .logWriteDone ok => Sys2Proof.Machine.execLogWriteDone ok s
  | .startupStepTimeout => Sys2Proof.Machine.execStartupStepTimeout s
  | .tileSwitchingCycle z t ph c => Sys2Proof.Machine.execTileSwitchingCycle z t ph c s
  | .msfChannelCycle k c => Sys2Proof.Machine.execMsfChannelCycle k c s
  | .taintExcursionStart z t fine => Sys2Proof.Machine.execTaintExcursionStart z t fine s

end Sys2Proof.Machine
end

