-- ==== Sys2Proof/Machine/Tick.lean ====
section
/-!
DEFINITION. What a step does on an empty queue: one tick of the time base (01 R28, R41; 14 R393).
-/
namespace Sys2Proof.Machine

/-- A tick at which the count is corrected: at least 2,000 ticks after the last one, and skipping no boundary of the time grid (R393;
assumption 68). -/
def slewNow (c : Csc) (count : Nat) : Bool := c.slew ≠ 0 && 1999 ≤ c.slewCnt && (c.slew < 0 || (count + 1) % 8 ≠ 0)
/-- The count after a tick. -/
def tickCount (c : Csc) (count : Nat) : Nat := if slewNow c count then (if c.slew < 0 then count else count + 2) else count + 1
/-- What is left of a correction after a tick. -/
def tickSlew (c : Csc) (count : Nat) : Csc :=
  if slewNow c count then { c with slew := if c.slew < 0 then c.slew + 1 else c.slew - 1, slewCnt := 0 }
  else { c with slewCnt := min 1999 (c.slewCnt + 1) }
/-- One tick: the count, a correction under way (R393) and the hours in READY (R414) move; a time base that does not run stands still. -/
def tick (s : State) : State :=
  if !s.tb.running then s else
  { s with
    tb := { s.tb with count := tickCount s.csc s.tb.count }
    csc := tickSlew s.csc s.tb.count
    snag := { s.snag with runNs := if s.pins.ready then s.snag.runNs + 1 else s.snag.runNs } }

end Sys2Proof.Machine
end

