-- ==== Sys2Proof/Certificates/Slice0/Obligations.lean ====
section
/-!
DEFINITION. The statements for the provers. Each says for all states and operands what the spec's rules say a command does; the hypotheses
speak of the state and the operands alone.
-/
open Sys2Proof Sys2Proof.Machine

/-- For every command c, every rest of a queue and every state s: one step of s with c at the front of its queue and the rest behind it is
exec of c on s with that rest as its queue. The queue is first in, first out (model: the block takes commands). (95_what_each_step_holds.md). -/
def Obligations.StepTakesFrontCommand : Prop :=
  (∀ (c : Instr) (rest : List Instr) (s : State), step { s with pending := c :: rest } = exec c { s with pending := rest })

/-- Design choice of the model (assumption 1): with no command waiting, a step answers the state after one tick. A time base that does not run
stands still; one that runs with no correction under way counts up by 1 and leaves everything outside the time base, the correction
counter and the hours in READY alone. (R28, R41, 01_architecture.md). -/
def Obligations.IdleStepTicks : Prop :=
  (∀ (s : State), s.pending = [] → s.tb.running = false → step s = .next s) ∧
  (∀ (s : State), s.pending = [] → s.tb.running = true → s.csc.slew = 0 → ∃ t, step s = .next t ∧ t.tb.count = s.tb.count + 1 ∧ t.csc.slew = 0 ∧
    { t with tb := { t.tb with count := s.tb.count }, csc := { t.csc with slewCnt := s.csc.slewCnt }, snag := { t.snag with runNs := s.snag.runNs } } = s)

/-- For every command and every state, exec answers a next state (no fault, no refusal), and the commands that wait are the same, in the same
order. A protection, an error flag, a SAFE entry or a reset is an effect on the state, never a stop of the block. (R50, 95_what_each_step_holds.md). -/
def Obligations.EveryCommandAnswersAndLeavesQueue : Prop :=
  (∀ (c : Instr) (s : State), ∃ t, exec c s = .next t ∧ t.pending = s.pending)

/-- For every state whose flash list is ascending and lists no erased byte, every step that answers a next state leaves it so: equal flash
contents stay equal data under every command and every tick. (R121, 03_startup_fuses_and_image.md). -/
def Obligations.FlashFormKeptByEveryStep : Prop :=
  (∀ (s t : State), Memory.wf s.nvm.flash = true → step s = .next t → Memory.wf t.nvm.flash = true)

/-- Call a state ready-safe when READY high implies: the block is in its run condition, READY has risen in the present start, no INSTANCE-SAFE
pair is held and no HALT has been decided. From every ready-safe state, every step that answers a next state leaves a ready-safe state:
READY falls with reset, SAFE, INSTANCE-SAFE and HALT, and rises only where none of them is in force. (R50, R55, R402, R406). -/
def Obligations.ReadyKeptSafeByEveryStep : Prop :=
  (∀ (s t : State), (s.pins.ready = true → s.su.cond = .run ∧ s.su.readyEver = true ∧ instSafeOrWorse s = false) → step s = .next t → t.pins.ready = true → t.su.cond = .run ∧ t.su.readyEver = true ∧ instSafeOrWorse t = false)

/-- Each life-cycle bit has three fuse cells and reads 1 exactly where two or three of them are blown. 0000, 0001, 0011 and 0111 code
MANUFACTURE, PROVISIONED, DEPLOYED and RETURNED; every other value codes no state, and a fuse read of step 2 that finds one ends the start
in SAFE with failure code 0x02. No transition leads to an earlier state: over every step that answers a next state, every life-cycle cell
that was blown is blown, every majority bit that read 1 reads 1, and where the cells coded a state before and code one after, the state
after is no earlier. Fuse words keep every 1 bit they had. (R103). -/
def Obligations.LifeCycleNeverGoesBack : Prop :=
  (∀ (c : BitVec 12) (i : Nat), i < 4 → (lcRead c).getLsbD i =
    (c.getLsbD (3 * i) && c.getLsbD (3 * i + 1) || c.getLsbD (3 * i) && c.getLsbD (3 * i + 2) || c.getLsbD (3 * i + 1) && c.getLsbD (3 * i + 2))) ∧
  (∀ (r : BitVec 4), (lcOf r = some .manufacture ↔ r = 0) ∧ (lcOf r = some .provisioned ↔ r = 1) ∧ (lcOf r = some .deployed ↔ r = 3) ∧
    (lcOf r = some .returned ↔ r = 7)) ∧
  (∀ (r : FuseRead) (s : State), s.su.cond = .run → s.su.stepNo = 2 → s.su.sub = 0 → s.snag.haltAt = none → s.su.fusesDone = false → fuseBad s.fus.words r = false → lcOf (lcRead s.fus.lcCells) = none → ∃ t, exec (.fuseLoadDone r) s = .next t ∧ t.su.cond = .safe ∧ t.su.stepNo = 0xF ∧ t.su.fail = 0x02) ∧
  (∀ (s t : State), step s = .next t → t.fus.lcCells &&& s.fus.lcCells = s.fus.lcCells ∧ lcRead t.fus.lcCells &&& lcRead s.fus.lcCells = lcRead s.fus.lcCells ∧
    (∀ a ∈ lcOf (lcRead s.fus.lcCells), ∀ b ∈ lcOf (lcRead t.fus.lcCells), lcCode a ≤ lcCode b) ∧
    ∀ x ∈ s.fus.words, ∃ y ∈ t.fus.words, y.1 = x.1 ∧ y.2 &&& x.2 = x.2)

/-- For every command other than POWER_ON_RESET_RELEASE, VBIAS_LOSS, RESET_N_FALL, RESET_N_RISE, TIMEBASE_LOCK and TIME_ANSWER_RX, and every
state: when it answers a next state, the time-base count is what it was. Time passes by ticks alone. (R28, R41, R393). -/
def Obligations.CountMovesOnlyByTheTimeBase : Prop :=
  (∀ (c : Instr) (s t : State), (match c with
    | .powerOnResetRelease _ _ | .vbiasLoss | .resetNFall _ | .resetNRise | .timebaseLock _ | .timeAnswerRx _ _ _ _ => False
    | _ => True) → exec c s = .next t → t.tb.count = s.tb.count)

/-- At State.reset the block is in its in-reset condition with power-on reset active; READY, ALIVE and PG_OUT are 0 and THR_REQ is 7; the
count is 0 and does not run; no command waits, the flash lists nothing and is in canonical form, no fault pair is held; PMBus PAGE is 0xFF
and SNG_ALERT_MASK is 0x1E. (R41, R50, R55, R66, 02_ports_and_integration.md, 15_faults_and_snag_unit.md, 17_register_and_command_reference.md). -/
def Obligations.ResetIsSafeAndIdle : Prop :=
  (State.reset.su.cond = .inReset ∧ State.reset.su.por = true ∧ State.reset.pins.ready = false ∧ State.reset.pins.alive = false ∧
    State.reset.pins.pgOut = false ∧ State.reset.pins.thrReq = 7 ∧ State.reset.tb.count = 0 ∧ State.reset.tb.running = false ∧
    State.reset.pending = [] ∧ State.reset.nvm.flash = [] ∧ Memory.wf State.reset.nvm.flash = true ∧ State.reset.snag.held = [] ∧
    State.reset.pmb.page = 0xFF ∧ State.reset.snag.mask = 0x1E ∧
    (State.reset.pins.ready = true → State.reset.su.cond = .run ∧ State.reset.su.readyEver = true ∧ instSafeOrWorse State.reset = false))

/-- Release of power-on reset with RESET_N high samples the straps and begins the start at step 2; with RESET_N low the block stays in reset.
Loss of VBIAS makes it unpowered with BIAS_OK low. A fall of RESET_N that passes the pulse filter puts a powered block in reset, a pulse below 100 ns never passes and one of 1 µs or more
always does; one that does not pass changes nothing; a rise, with power-on reset released,
begins the start at step 2 and samples no strap. After each, READY, ALIVE and PG_OUT are 0 and THR_REQ is 7, no fuse is loaded, no flash
command runs, the flash bytes, the fuse cells and the fuse words are as before, and all the rest of the block (time base, zones, module
stage, forecast, contexts, caps, energy, thermal, converter, Lath, Snag unit, BIST, cores, ports) is as at reset. (R50, R55, R458, 02_ports_and_integration.md, 03_startup_fuses_and_image.md). -/
def Obligations.ResetAndReleaseRows : Prop :=
  (∀ (id : Nat) (m : Bool) (s : State), s.su.por = true → s.su.resetN = true → id < 8 → ∃ t, exec (.powerOnResetRelease id m) s = .next t ∧ t.su.cond = .run ∧ t.su.stepNo = 2 ∧ t.su.por = false ∧
    t.su.cascId = id ∧ t.su.cascMaster = m ∧ t.pins.ready = false ∧ t.pins.alive = false ∧ t.pins.pgOut = false ∧ t.pins.thrReq = 7 ∧ t.fus.lcCells = s.fus.lcCells ∧ t.fus.words = s.fus.words ∧ t.fus.loaded = false ∧ t.nvm.flash = s.nvm.flash ∧ t.nvm.busy = none ∧
    { t with su := State.reset.su, rp := State.reset.rp, pins := State.reset.pins, fus := State.reset.fus, nvm := State.reset.nvm, csc := State.reset.csc, tap := State.reset.tap, pending := [] } =
      State.reset) ∧
  (∀ (id : Nat) (m : Bool) (s : State), s.su.por = true → s.su.resetN = false → id < 8 → ∃ t, exec (.powerOnResetRelease id m) s = .next t ∧ t.su.cond = .inReset ∧ t.su.por = false ∧ t.su.cascId = id ∧
    t.su.cascMaster = m ∧ t.pins.ready = false ∧ t.pins.alive = false ∧ t.pins.pgOut = false ∧ t.pins.thrReq = 7 ∧ t.fus.lcCells = s.fus.lcCells ∧ t.fus.words = s.fus.words ∧ t.fus.loaded = false ∧ t.nvm.flash = s.nvm.flash ∧ t.nvm.busy = none ∧
    { t with su := State.reset.su, rp := State.reset.rp, pins := State.reset.pins, fus := State.reset.fus, nvm := State.reset.nvm, csc := State.reset.csc, tap := State.reset.tap, pending := [] } =
      State.reset) ∧
  (∀ (s : State), ∃ t, exec .vbiasLoss s = .next t ∧ t.su.cond = .unpowered ∧ t.su.por = true ∧ t.pins.biasOk = false ∧ t.pins.ready = false ∧ t.pins.alive = false ∧ t.pins.pgOut = false ∧ t.pins.thrReq = 7 ∧ t.fus.lcCells = s.fus.lcCells ∧ t.fus.words = s.fus.words ∧ t.fus.loaded = false ∧ t.nvm.flash = s.nvm.flash ∧ t.nvm.busy = none ∧
    { t with su := State.reset.su, rp := State.reset.rp, pins := State.reset.pins, fus := State.reset.fus, nvm := State.reset.nvm, csc := State.reset.csc, tap := State.reset.tap, pending := [] } =
      State.reset) ∧
  (∀ (low : Nat) (s : State), s.su.cond ≠ .unpowered → passesFilter s low = true → ∃ t, exec (.resetNFall low) s = .next t ∧ t.su.cond = .inReset ∧ t.su.resetN = false ∧ t.su.por = s.su.por ∧
    t.su.cascId = s.su.cascId ∧ t.su.cascMaster = s.su.cascMaster ∧ t.pins.ready = false ∧ t.pins.alive = false ∧ t.pins.pgOut = false ∧ t.pins.thrReq = 7 ∧ t.fus.lcCells = s.fus.lcCells ∧ t.fus.words = s.fus.words ∧ t.fus.loaded = false ∧ t.nvm.flash = s.nvm.flash ∧ t.nvm.busy = none ∧
    { t with su := State.reset.su, rp := State.reset.rp, pins := State.reset.pins, fus := State.reset.fus, nvm := State.reset.nvm, csc := State.reset.csc, tap := State.reset.tap, pending := [] } =
      State.reset) ∧
  (∀ (s : State), s.su.resetN = false → s.su.por = false → s.su.cond = .inReset → ∃ t, exec .resetNRise s = .next t ∧ t.su.cond = .run ∧ t.su.stepNo = 2 ∧ t.su.resetN = true ∧
    t.su.cascId = s.su.cascId ∧ t.su.cascMaster = s.su.cascMaster ∧ t.pins.ready = false ∧ t.pins.alive = false ∧ t.pins.pgOut = false ∧ t.pins.thrReq = 7 ∧ t.fus.lcCells = s.fus.lcCells ∧ t.fus.words = s.fus.words ∧ t.fus.loaded = false ∧ t.nvm.flash = s.nvm.flash ∧ t.nvm.busy = none ∧
    { t with su := State.reset.su, rp := State.reset.rp, pins := State.reset.pins, fus := State.reset.fus, nvm := State.reset.nvm, csc := State.reset.csc, tap := State.reset.tap, pending := [] } =
      State.reset) ∧
  (∀ (low : Nat) (s : State), (low < 100 → passesFilter s low = false) ∧ (1000 ≤ low → passesFilter s low = true)) ∧
  (∀ (low : Nat) (s : State), passesFilter s low = false → exec (.resetNFall low) s = .next s)

/-- Each life-cycle bit reads 1 exactly when two or three of its three cells are blown. 0000, 0001, 0011 and 0111 code MANUFACTURE,
PROVISIONED, DEPLOYED and RETURNED, every other value codes none. In step 2 the fuse read loads the shadow with the fields of the words, each
read whole where no cell of it reads otherwise; an uncorrectable word ends the
start in SAFE with code 0x01, else a life-cycle value that codes no state with code 0x02; else step 3 follows once the time base has
locked. The multiplier lock starts the count at 0 and, once the fuses are loaded, step 3 follows; no lock ends the start in SAFE with code
0x04. READY is 0 and THR_REQ 7 in SAFE. (03_startup_fuses_and_image.md R103, R41, R107, R50, R95). -/
def Obligations.LifeCycleReadAtStepTwo : Prop :=
  (∀ (c : BitVec 12) (i : Nat), i < 4 → (lcRead c).getLsbD i =
    (c.getLsbD (3 * i) && c.getLsbD (3 * i + 1) || c.getLsbD (3 * i) && c.getLsbD (3 * i + 2) || c.getLsbD (3 * i + 1) && c.getLsbD (3 * i + 2))) ∧
  (∀ (r : BitVec 4), (lcOf r = some .manufacture ↔ r = 0) ∧ (lcOf r = some .provisioned ↔ r = 1) ∧ (lcOf r = some .deployed ↔ r = 3) ∧
    (lcOf r = some .returned ↔ r = 7)) ∧
  (∀ (r : FuseRead) (s : State), s.su.cond = .run → s.su.stepNo = 2 → s.su.sub = 0 → s.snag.haltAt = none → s.su.fusesDone = false → fuseBad s.fus.words r = true → ∃ t, exec (.fuseLoadDone r) s = .next t ∧ t.su.cond = .safe ∧ t.su.stepNo = 0xF ∧ t.su.fail = 0x01 ∧ t.pins.ready = false ∧ t.pins.thrReq = 7) ∧
  (∀ (r : FuseRead) (s : State), s.su.cond = .run → s.su.stepNo = 2 → s.su.sub = 0 → s.snag.haltAt = none → s.su.fusesDone = false → fuseBad s.fus.words r = false → lcOf (lcRead s.fus.lcCells) = none → ∃ t, exec (.fuseLoadDone r) s = .next t ∧ t.su.cond = .safe ∧ t.su.stepNo = 0xF ∧ t.su.fail = 0x02 ∧ t.pins.ready = false ∧ t.pins.thrReq = 7) ∧
  (∀ (r : FuseRead) (s : State), s.su.cond = .run → s.su.stepNo = 2 → s.su.sub = 0 → s.snag.haltAt = none → s.su.fusesDone = false → fuseBad s.fus.words r = false → lcOf (lcRead s.fus.lcCells) ≠ none → ∃ t, exec (.fuseLoadDone r) s = .next t ∧ t.fus.loaded = true ∧ t.fus.shadow = Config.fuseFields (fuseShadow s.fus.words r) ∧ t.fus.lcRaw = lcRead s.fus.lcCells ∧
    t.fus.corrected = min 255 (fuseFixed s.fus.words r) ∧ t.fus.uncorrectable = false ∧ t.su.cond = .run ∧
    t.su.stepNo = (if s.su.lockDone then 3 else 2) ∧ { t with su := s.su, fus := s.fus } = s) ∧
  (∀ (s : State), s.su.cond = .run → s.su.stepNo = 2 → s.su.sub = 0 → s.snag.haltAt = none → s.su.lockDone = false → ∃ t, exec (.timebaseLock true) s = .next t ∧ t.tb.count = 0 ∧ t.tb.running = true ∧ t.tb.lock = true ∧ t.su.cond = .run ∧
    t.su.stepNo = (if s.su.fusesDone then 3 else 2) ∧ { t with su := s.su, tb := s.tb } = s) ∧
  (∀ (s : State), s.su.cond = .run → s.su.stepNo = 2 → s.su.sub = 0 → s.snag.haltAt = none → s.su.lockDone = false → ∃ t, exec (.timebaseLock false) s = .next t ∧ t.su.cond = .safe ∧ t.su.stepNo = 0xF ∧ t.su.fail = 0x04 ∧ t.pins.ready = false ∧ t.pins.thrReq = 7)

/-- FLASH_DISCOVERY_DONE, step 3a: with valid SFDP tables, a 4 KiB erase, a density of 2^26 to 2^31 bits, a key root that is not all zero and a
header in the flash that passes its checks, discovery records the flash (4-byte addressing above 2^27 bits, by instructions or else by mode),
takes LOG_BASE and the divider from that header, and step 3b follows. An invalid discovery ends in SAFE 0x10, a key root of zeros in SAFE
0x03, a header that fails in SAFE with its code. IMAGE_BODY_READ_DONE ends step 3b into 3c. IMAGE_CHECK_DONE, step 3c: when every check
passes on the flash's bytes, the module stage, caps and thermal configuration, the zones and the CONFIG_ID are those of the image in the
flash, the life-cycle fuse its flag calls for is blown, and 3d follows; a failing check ends in SAFE with its code. LOG_SCAN_DONE, step 3d:
after a scan the latest shutdown record, the hours, the torn mark and the highest ERASES are those of the log area as the scan leaves it,
and step 4 follows; a scan that fails is a NOTE and leaves no shutdown record and no hours. USER_CAL_DONE ends step 4 into step 5, and the
self-calibration of the converter begins at the grid instant from then on. (R95, R99, R106, R113, R114, R119, R124, R362, 03_startup_fuses_and_image.md). -/
def Obligations.ImageStepsThreeAndFour : Prop :=
  (∀ (d : Discovery) (s : State), s.su.cond = .run → s.su.stepNo = 3 → s.su.sub = 0 → s.snag.haltAt = none → d.sfdpValid = true → d.erase4k = true → 26 ≤ d.densityLog2 → d.densityLog2 ≤ 31 → s.fus.shadow.keyroot.all (· = 0) = false → headerCode (headerOf s.nvm.flash) d.densityLog2 = 0 → ∃ t, exec (.flashDiscoveryDone d) s = .next t ∧ t.su.stepNo = 3 ∧ t.su.sub = 1 ∧ t.su.cond = .run ∧ t.nvm.discovered = true ∧
    t.nvm.disc = some d ∧ t.nvm.hdr = some (headerOf s.nvm.flash) ∧ t.nvm.logBase = some (headerOf s.nvm.flash).logBase ∧
    t.nvm.sckDiv = (headerOf s.nvm.flash).nvSckDiv ∧ t.nvm.addr4 = decide (27 < d.densityLog2) ∧
    t.nvm.mode4 = (decide (27 < d.densityLog2) && !d.table4) ∧ t.nvm.flash = s.nvm.flash ∧ { t with su := s.su, nvm := s.nvm, snag := s.snag } = s) ∧
  (∀ (d : Discovery) (s : State), s.su.cond = .run → s.su.stepNo = 3 → s.su.sub = 0 → s.snag.haltAt = none → (d.sfdpValid = false ∨ d.erase4k = false ∨ d.densityLog2 < 26 ∨ 31 < d.densityLog2) → ∃ t, exec (.flashDiscoveryDone d) s = .next t ∧ t.su.cond = .safe ∧ t.su.stepNo = 0xF ∧ t.su.fail = 0x10 ∧ t.pins.ready = false ∧ t.pins.thrReq = 7) ∧
  (∀ (d : Discovery) (s : State), s.su.cond = .run → s.su.stepNo = 3 → s.su.sub = 0 → s.snag.haltAt = none → d.sfdpValid = true → d.erase4k = true → 26 ≤ d.densityLog2 → d.densityLog2 ≤ 31 → s.fus.shadow.keyroot.all (· = 0) = true → ∃ t, exec (.flashDiscoveryDone d) s = .next t ∧ t.su.cond = .safe ∧ t.su.stepNo = 0xF ∧ t.su.fail = 0x03 ∧ t.pins.ready = false ∧ t.pins.thrReq = 7) ∧
  (∀ (d : Discovery) (s : State), s.su.cond = .run → s.su.stepNo = 3 → s.su.sub = 0 → s.snag.haltAt = none → d.sfdpValid = true → d.erase4k = true → 26 ≤ d.densityLog2 → d.densityLog2 ≤ 31 → s.fus.shadow.keyroot.all (· = 0) = false → headerCode (headerOf s.nvm.flash) d.densityLog2 ≠ 0 → ∃ t, exec (.flashDiscoveryDone d) s = .next t ∧ t.su.cond = .safe ∧ t.su.stepNo = 0xF ∧ t.su.fail = headerCode (headerOf s.nvm.flash) d.densityLog2 ∧ t.pins.ready = false ∧ t.pins.thrReq = 7) ∧
  (∀ (s : State), s.su.cond = .run → s.su.stepNo = 3 → s.su.sub = 1 → s.snag.haltAt = none → ∃ t, exec .imageBodyReadDone s = .next t ∧ t.su.stepNo = 3 ∧ t.su.sub = 2 ∧ t.su.stepAt = s.tb.count ∧ { t with su := s.su } = s) ∧
  (∀ (h : Header) (s : State), s.su.cond = .run → s.su.stepNo = 3 → s.su.sub = 2 → s.snag.haltAt = none → s.nvm.hdr = some h → ∃ t, exec .imageCheckDone s = .next t ∧ t.su.stepNo = (if imageCode s.fus.shadow s.nvm.flash h s.nvm.densityLog2 = 0 then 3 else 0xF) ∧ t.nvm.flash = s.nvm.flash ∧
    (imageCode s.fus.shadow s.nvm.flash h s.nvm.densityLog2 = 0 → t.su.sub = 3 ∧ t.su.cond = .run ∧ t.msf.cfg = (imageOf s.nvm.flash h).msf ∧
      t.caps.cfg = (imageOf s.nvm.flash h).caps ∧ t.thm.cfg = (imageOf s.nvm.flash h).thm ∧ t.nvm.imageId = h.configId ∧
      t.zones.length = (imageOf s.nvm.flash h).zones.length ∧
      t.fus.lcCells = (match lcFlag (life s) h with
        | some i => lcBlowTo s.fus.lcCells i
        | none => s.fus.lcCells) ∧ t.pins = s.pins ∧ t.tb = s.tb) ∧
    (imageCode s.fus.shadow s.nvm.flash h s.nvm.densityLog2 ≠ 0 → t.su.cond = .safe ∧ t.su.fail = imageCode s.fus.shadow s.nvm.flash h s.nvm.densityLog2 ∧ t.pins.ready = false ∧ t.pins.thrReq = 7)) ∧
  (∀ (h : Header) (s : State), s.su.cond = .run → s.su.stepNo = 3 → s.su.sub = 3 → s.snag.haltAt = none → s.nvm.hdr = some h → ∃ t, exec (.logScanDone true) s = .next t ∧ t.su.stepNo = 4 ∧ t.su.cond = .run ∧ t.nvm.flash = scannedFlash s h ∧
    t.nvm.torn = (s.nvm.torn || tornFound (scannedFlash s h) h) ∧ t.nvm.eraseMax = eraseMaxOf (scannedFlash s h) h ∧
    t.thm.lastShut = latestShut (scannedFlash s h) h ∧ t.snag.runNs = ((latestSnap (scannedFlash s h) h).getD {}).hours * 3600000000000 ∧
    t.zones.length = s.zones.length ∧ t.pins = s.pins ∧ t.fus = s.fus) ∧
  (∀ (s : State), s.su.cond = .run → s.su.stepNo = 3 → s.su.sub = 3 → s.snag.haltAt = none → ∃ t, exec (.logScanDone false) s = .next t ∧ t.su.stepNo = 4 ∧ t.su.cond = .run ∧ t.nvm = s.nvm ∧ t.thm.lastShut = none ∧ t.snag.runNs = 0 ∧
    (∃ r ∈ t.snag.inbox, r.code = 0x68 ∧ r.unit = 0 ∧ r.cls = .note ∧ r.stamp = s.tb.count)) ∧
  (∀ (s : State), s.su.cond = .run → s.su.stepNo = 4 → s.su.sub = 0 → s.snag.haltAt = none → ∃ t, exec .userCalDone s = .next t ∧ t.su.stepNo = 5 ∧ t.su.stepAt = s.tb.count ∧ t.tcv.calAt = some (ceilTo 400000 s.tb.count) ∧ t.tcv.run = s.tcv.run ∧
    { t with su := s.su, tcv := s.tcv } = s)

/-- TCV_SELF_CAL_DONE, when self-calibration ends in step 5, 19.2 ms after its start, and both modulators give factors in range: the factors
(OFS the rounded mean of 16 results of ZERO, GAIN rounded from 2^22 times 6,710,886 over the mean of CALREF less OFS) are stored with CAL_DONE.
With no CRITICAL shutdown on record step 6 begins, where the MSF samples, with the MSF in SOFT where its generator is locked, or reports
source 0x28 at INSTANCE-SAFE where it is not; after a CRITICAL shutdown (record type 1) WAIT_THERMAL is set and step 5 holds. Factors out of
range report 0x49 at INSTANCE-SAFE and store nothing. THERMAL_RESTART_CHECK: while WAIT_THERMAL holds, a check due starts step 6 when the
recorded zone is below TRESTART, else it only notes when it looked. (R95, R99, R100, R186, R362, R348). -/
def Obligations.StepFiveSelfCalibrationAndThermalWait : Prop :=
  (∀ (a b : CalSpans) (c0 : Nat) (s : State), s.su.cond = .run → s.su.stepNo = 5 → s.su.sub = 0 → s.snag.haltAt = none → s.tcv.calAt = some c0 → c0 + 19200000 ≤ s.tb.count → s.su.readyEver = false → s.su.waitThermal = false → calOk (calOf s.tcv.calChop a) = true → calOk (calOf s.tcv.calChop b) = true → s.thm.lastShut = none → s.msf.lock = true → s.msf.syncLost = false → ∃ t, exec (.tcvSelfCalDone a b) s = .next t ∧ t.su.stepNo = 6 ∧ t.su.cond = .run ∧ t.msf.st = .soft ∧ t.msf.capture = true ∧
    t.tcv.calDone = true ∧ t.tcv.ofsA = (calOf s.tcv.calChop a).1 ∧ t.tcv.gainA = (calOf s.tcv.calChop a).2.toNat ∧ t.tcv.ofsB = (calOf s.tcv.calChop b).1 ∧
    t.tcv.gainB = (calOf s.tcv.calChop b).2.toNat ∧ t.tcv.run = true ∧ { t with su := s.su, msf := s.msf, tcv := s.tcv } = s) ∧
  (∀ (a b : CalSpans) (c0 : Nat) (s : State), s.su.cond = .run → s.su.stepNo = 5 → s.su.sub = 0 → s.snag.haltAt = none → s.tcv.calAt = some c0 → c0 + 19200000 ≤ s.tb.count → s.su.readyEver = false → s.su.waitThermal = false → calOk (calOf s.tcv.calChop a) = true → calOk (calOf s.tcv.calChop b) = true → s.thm.lastShut = none → s.msf.lock = false → ∃ t, exec (.tcvSelfCalDone a b) s = .next t ∧ t.su.stepNo = 6 ∧ t.msf = s.msf ∧ t.tcv.calDone = true ∧
    (∃ r ∈ t.snag.inbox, r.code = 0x28 ∧ r.unit = 0 ∧ r.cls = .instSafe ∧ r.stamp = s.tb.count)) ∧
  (∀ (a b : CalSpans) (c0 : Nat) (r : ShutRecord) (s : State), s.su.cond = .run → s.su.stepNo = 5 → s.su.sub = 0 → s.snag.haltAt = none → s.tcv.calAt = some c0 → c0 + 19200000 ≤ s.tb.count → s.su.readyEver = false → s.su.waitThermal = false → calOk (calOf s.tcv.calChop a) = true → calOk (calOf s.tcv.calChop b) = true → s.thm.lastShut = some r → r.type = 1 → ∃ t, exec (.tcvSelfCalDone a b) s = .next t ∧ t.su.stepNo = 5 ∧ t.su.waitThermal = true ∧ t.tcv.calDone = true ∧ t.msf = s.msf ∧
    { t with su := s.su, tcv := s.tcv } = s) ∧
  (∀ (a b : CalSpans) (c0 : Nat) (s : State), s.su.cond = .run → s.su.stepNo = 5 → s.su.sub = 0 → s.snag.haltAt = none → s.tcv.calAt = some c0 → c0 + 19200000 ≤ s.tb.count → s.su.readyEver = false → s.su.waitThermal = false → (calOk (calOf s.tcv.calChop a) && calOk (calOf s.tcv.calChop b)) = false → ∃ t, exec (.tcvSelfCalDone a b) s = .next t ∧ t.su = s.su ∧ t.msf = s.msf ∧ t.tcv.calDone = s.tcv.calDone ∧
    (∃ r ∈ t.snag.inbox, r.code = 0x49 ∧ r.unit = 0 ∧ r.cls = .instSafe ∧ r.stamp = s.tb.count) ∧ { t with snag := s.snag, tcv := s.tcv } = s) ∧
  (∀ (r : ShutRecord) (s : State), s.su.cond = .run → s.su.stepNo = 5 → s.su.sub = 0 → s.snag.haltAt = none → s.su.waitThermal = true → s.su.thermalAt = none → s.thm.lastShut = some r → (restartTz s r).1 < 8 * s.thm.cfg.tRestart → s.msf.lock = true → s.msf.syncLost = false → ∃ t, exec .thermalRestartCheck s = .next t ∧ t.su.stepNo = 6 ∧ t.su.waitThermal = false ∧ t.msf.st = .soft ∧ t.tb = s.tb ∧ t.tcv = s.tcv) ∧
  (∀ (r : ShutRecord) (s : State), s.su.cond = .run → s.su.stepNo = 5 → s.su.sub = 0 → s.snag.haltAt = none → s.su.waitThermal = true → s.su.thermalAt.all (fun c => decide (c + 10000000 ≤ s.tb.count)) = true → s.thm.lastShut = some r → 8 * s.thm.cfg.tRestart ≤ (restartTz s r).1 → exec .thermalRestartCheck s = .next { s with su := { s.su with thermalAt := some s.tb.count } }) ∧
  (∀ (chop : Nat) (x : CalSpans), calOf chop x = calFactors (sumI (x.zero.map (rawOf 3 chop))) (sumI (x.ref.map (rawOf 3 chop)))) ∧
  (∀ (z c : Int), 0 < rdiv 362 c 16 - rdiv 362 z 16 → calFactors z c = (rdiv 362 z 16, rdiv 362 (4194304 * 6710886) (rdiv 362 c 16 - rdiv 362 z 16).toNat))

/-- MSF_BASE_REACHED: base at tgt moves the MSF from SOFT to SETTLE at a sample instant. MSF_SETTLE_END: after 1.0 ms in SETTLE, VSNS within
2% of vref_q makes it RUN with PG_OUT high, and in step 6 with every zone generator locked step 7 begins with the LOGIC class; outside 2%
it goes OFF and asserts 0x2A at INSTANCE-SAFE. STARTUP_BIST_CLASS_DONE: one of the first five classes of step 7 that completes without a
failure starts the next, and its duration is kept; a failing LOGIC, MEM or TCV class ends the start in SAFE 0x20 with its outputs low; the
TILE class ends once no tile is left to test or in TEST. STARTUP_BIST_DONE: when all classes are complete a constellation forms, a single
instance starts step 8. FORMATION_TIMEOUT: after 1 s of formation the master completes it and starts step 8; a follower with no master
reports 0x5A at INSTANCE-SAFE. (R95, R197, R206, R392, R421, R422). -/
def Obligations.StepsSixAndSeven : Prop :=
  (∀ (s : State), s.msf.st = .soft → s.msf.reached = true → s.msf.capture = false → s.tb.count % 64 = 0 → exec .msfBaseReached s = .next { s with msf := { s.msf.refTo s.tb.count with st := .settle, stAt := s.tb.count } }) ∧
  (∀ (s : State), s.msf.st = .settle → s.msf.stAt + 1000000 ≤ s.tb.count → withinPc 2 s.msf.vsns s.msf.vrefQ = true → s.su.stepNo ≠ 6 → ∃ t, exec .msfSettleEnd s = .next t ∧ t.msf.st = .run ∧ t.msf.stAt = s.tb.count ∧ t.msf.vimSetIn = s.msf.vimSet ∧ t.msf.slewIn = s.msf.slew ∧
    t.pins.pgOut = true ∧ { t with msf := s.msf, pins := { t.pins with pgOut := s.pins.pgOut }, snag := s.snag } = s) ∧
  (∀ (s : State), s.msf.st = .settle → s.msf.stAt + 1000000 ≤ s.tb.count → withinPc 2 s.msf.vsns s.msf.vrefQ = true → s.su.cond = .run → s.su.stepNo = 6 → s.su.sub = 0 → s.snag.haltAt = none → (s.zones.all fun zn => zn.syncLock && !zn.syncLost) = true → ∃ t, exec .msfSettleEnd s = .next t ∧ t.msf.st = .run ∧ t.pins.pgOut = true ∧ t.su.stepNo = 7 ∧ t.su.cond = .run ∧ t.bist.startCls = 0) ∧
  (∀ (s : State), s.msf.st = .settle → s.msf.stAt + 1000000 ≤ s.tb.count → withinPc 2 s.msf.vsns s.msf.vrefQ = false → s.snag.conds.contains (0x2A, 0) = false → ∃ t, exec .msfSettleEnd s = .next t ∧ t.msf.st = .off ∧ t.pins = s.pins ∧ t.su = s.su ∧ (0x2A, 0) ∈ t.snag.conds ∧
    (∃ r ∈ t.snag.inbox, r.code = 0x2A ∧ r.unit = 0 ∧ r.cls = .instSafe ∧ r.stamp = s.tb.count)) ∧
  (∀ (r : BistResult) (s : State), s.su.cond = .run → s.su.stepNo = 7 → s.bist.startCls < 5 → s.snag.haltAt = none → r.failed = [] → r.lanes = [] → seamLost s.lth = false → ∃ t, exec (.startupBistClassDone r) s = .next t ∧ t.bist.startCls = s.bist.startCls + 1 ∧ t.su = s.su ∧ t.bist.failSeen = s.bist.failSeen ∧
    t.bist.durs = s.bist.durs.set s.bist.startCls r.dur ∧ { t with bist := s.bist } = s) ∧
  (∀ (r : BistResult) (s : State), s.su.cond = .run → s.su.stepNo = 7 → (s.bist.startCls = 0 ∨ s.bist.startCls = 1 ∨ s.bist.startCls = 3) → s.snag.haltAt = none → r.failed ≠ [] → ∃ t, exec (.startupBistClassDone r) s = .next t ∧ t.bist.failSeen = true ∧ t.su.cond = .safe ∧ t.su.stepNo = 0xF ∧ t.su.fail = 0x20 ∧ t.pins.ready = false ∧ t.pins.thrReq = 7 ∧
    t.pins.pgOut = false ∧ t.pins.alive = false ∧ t.msf.st = .off) ∧
  (∀ (r : BistResult) (s : State), s.su.cond = .run → s.su.stepNo = 7 → s.bist.startCls = 5 → s.snag.haltAt = none → anyTest s = false → (s.zones.all fun zn => (untested s zn).isEmpty) = true → ∃ t, exec (.startupBistClassDone r) s = .next t ∧ t.bist.startCls = 16 ∧ t.bist.durs = s.bist.durs.set 5 r.dur ∧ t.su = s.su ∧ t.pins = s.pins) ∧
  (∀ (s : State), s.su.cond = .run → s.su.stepNo = 7 → s.bist.startCls = 16 → s.snag.haltAt = none → s.csc.forming = false → s.csc.formed = false → s.csc.cfg.ninst ≤ 1 → ∃ t, exec .startupBistDone s = .next t ∧ t.su.stepNo = 8 ∧ t.su.stage = (stagesOf s).headD 0 ∧ t.su.stageAt = s.tb.count ∧ t.csc.formed = true ∧
    t.bist.startCls = 15 ∧ { t with su := s.su, csc := s.csc, bist := s.bist, zones := s.zones } = s) ∧
  (∀ (s : State), s.su.cond = .run → s.su.stepNo = 7 → s.bist.startCls = 16 → s.snag.haltAt = none → s.csc.forming = false → s.csc.formed = false → 1 < s.csc.cfg.ninst → ∃ t, exec .startupBistDone s = .next t ∧ t.su = s.su ∧ t.csc.forming = true ∧ t.csc.formAt = s.tb.count ∧ t.bist.startCls = 15 ∧
    { t with csc := s.csc, bist := s.bist } = s) ∧
  (∀ (s : State), s.su.cond = .run → s.csc.forming = true → s.csc.formAt + 1000000000 ≤ s.tb.count → s.su.stepNo = 7 → s.csc.isMaster = true → ∃ t, exec .formationTimeout s = .next t ∧ t.csc.formed = true ∧ t.csc.forming = false ∧ t.su.stepNo = 8 ∧ t.su.stageAt = s.tb.count) ∧
  (∀ (s : State), s.su.cond = .run → s.csc.forming = true → s.csc.formAt + 1000000000 ≤ s.tb.count → s.csc.isMaster = false → s.csc.hasMaster = false → ∃ t, exec .formationTimeout s = .next t ∧ t.csc.forming = false ∧ t.csc.formed = s.csc.formed ∧ t.csc.fail = 3 ∧
    (∃ r ∈ t.snag.inbox, r.code = 0x5A ∧ r.unit = s.su.cascId ∧ r.cls = .instSafe ∧ r.stamp = s.tb.count) ∧
    { t with csc := s.csc, snag := s.snag } = s)

/-- ZONE_STAGE_DONE: when every zone of the stage in progress has reached MIST or ZONE-SAFE, the lowest stage above it that holds a zone starts,
its zones in OFF all ramping at the start-up slew from one instant. After the last stage READY rises at a sample instant, provided no
INSTANCE-SAFE pair is held and no HALT decided: step 9, the count recorded, THR_REQ showing the level that has arrived, and the caps UNCAL
with KCAL 0x4000; with an INSTANCE-SAFE pair held it does not. STARTUP_STEP_TIMEOUT: a step that overruns its bound ends as its row says:
step 2 in SAFE 0x04 without a lock and 0x01 or 0x02 with it, 3a to 3c in SAFE (with a code the table leaves open), 3d with a NOTE and no
history, step 5 at INSTANCE-SAFE 0x49, step 6 at INSTANCE-SAFE 0x2A (no short detected), step 7 (no formation running) in SAFE 0x20.
(R95, R101, R102, R458, R310). -/
def Obligations.StageOrderReadyRiseAndStepTimeouts : Prop :=
  (∀ (g : Nat) (s : State), s.su.cond = .run → s.su.stepNo = 8 → s.snag.haltAt = none → stageOver s = true → ((stagesOf s).find? fun x => s.su.stage < x) = some g → ∃ t, exec .zoneStageDone s = .next t ∧ t.su.stepNo = 8 ∧ t.su.stage = g ∧ t.su.stageAt = s.tb.count ∧ t.pins = s.pins ∧
    t.zones = (s.zones.map fun zn => if zn.cfg.stage = g ∧ zn.st = .off then
      { zn with ramp := some { r := s.tb.count, slew := s.su.startSlew, startup := true } } else zn) ∧ { t with su := s.su, zones := s.zones } = s) ∧
  (∀ (s : State), s.su.cond = .run → s.su.stepNo = 8 → s.snag.haltAt = none → stageOver s = true → ((stagesOf s).find? fun x => s.su.stage < x) = none → s.tb.count % 64 = 0 → instSafeHeld s = false → ∃ t, exec .zoneStageDone s = .next t ∧ t.pins.ready = true ∧ t.su.stepNo = 9 ∧ t.su.readyEver = true ∧ t.su.readyAt = some s.tb.count ∧
    t.pins.thrReq = levelIn s ∧ t.caps.uncal = true ∧ t.caps.kcal = 0x4000 ∧ t.nrg = {} ∧ t.fce.running = true ∧ t.tb.count = s.tb.count ∧
    t.tb.parts = List.replicate 16 {}) ∧
  (∀ (s : State), s.su.cond = .run → s.su.stepNo = 8 → s.snag.haltAt = none → stageOver s = true → ((stagesOf s).find? fun x => s.su.stage < x) = none → instSafeHeld s = true → exec .zoneStageDone s = .next s) ∧
  (∀ (s : State), s.su.cond = .run → s.snag.haltAt = none → s.su.readyEver = false → s.su.stepNo = 2 → s.su.lockDone = false → ∃ t, exec .startupStepTimeout s = .next t ∧ t.su.cond = .safe ∧ t.su.stepNo = 0xF ∧ t.su.fail = 0x04 ∧ t.pins.ready = false) ∧
  (∀ (s : State), s.su.cond = .run → s.snag.haltAt = none → s.su.readyEver = false → s.su.stepNo = 2 → s.su.lockDone = true → ∃ t, exec .startupStepTimeout s = .next t ∧ t.su.cond = .safe ∧ t.su.stepNo = 0xF ∧ (t.su.fail = 0x01 ∨ t.su.fail = 0x02) ∧ t.pins.ready = false) ∧
  (∀ (s : State), s.su.cond = .run → s.snag.haltAt = none → s.su.readyEver = false → s.su.stepNo = 3 → s.su.sub < 3 → stepOver s = true → ∃ t, exec .startupStepTimeout s = .next t ∧ t.su.cond = .safe ∧ t.su.stepNo = 0xF ∧ t.su.fail = Config.startFail 3 s.su.sub % 256 ∧ t.pins.ready = false) ∧
  (∀ (s : State), s.su.cond = .run → s.snag.haltAt = none → s.su.readyEver = false → s.su.stepNo = 3 → s.su.sub = 3 → s.su.stepAt + 2000000 < s.tb.count → ∃ t, exec .startupStepTimeout s = .next t ∧ t.su.cond = .run ∧ t.su.stepNo = 4 ∧ t.nvm = s.nvm ∧ t.thm.lastShut = none ∧ t.snag.runNs = 0 ∧
    (∃ r ∈ t.snag.inbox, r.code = 0x68 ∧ r.cls = .note)) ∧
  (∀ (s : State), s.su.cond = .run → s.snag.haltAt = none → s.su.readyEver = false → s.su.stepNo = 5 → s.su.waitThermal = false → s.su.stepAt + 19200000 < s.tb.count → exec .startupStepTimeout s = .next (report { s with tcv := { s.tcv with calAt := none } } 0x49 0 .instSafe)) ∧
  (∀ (s : State), s.su.cond = .run → s.snag.haltAt = none → s.su.readyEver = false → s.su.stepNo = 6 → s.msf.tries = 0 → s.msf.loop = true → s.su.stepAt + 10000000 < s.tb.count → exec .startupStepTimeout s = .next (report s 0x2A 0 .instSafe)) ∧
  (∀ (s : State), s.su.cond = .run → s.snag.haltAt = none → s.su.readyEver = false → s.su.stepNo = 7 → s.csc.forming = false → stepOver s = true → ∃ t, exec .startupStepTimeout s = .next t ∧ t.su.cond = .safe ∧ t.su.stepNo = 0xF ∧ t.su.fail = 0x20 ∧ t.pins.ready = false)

/-- SAMPLE_INSTANT acts at a multiple of 64 TBT while the time base runs and the module stage samples, which it does from step 6. Before the
Floats are on the grid only the MSF takes in its captured VIM result. With the Floats on the grid, from step 7, the zones keep their number;
after READY has risen once it rises again as soon as no INSTANCE-SAFE pair is held and no HALT decided; THR_REQ is 7 while READY is low or
INSTANCE-SAFE or worse holds, else the throttle level that has arrived; the time base, the start-up state, the fuses and the flash's bytes
stand still. Each tile goes by its capture (TileCaptureFormsTheReport). Away from a sample instant nothing happens. (R28, R66, R156, R190, R338, R406). -/
def Obligations.SampleInstantTakesTheBlockOneSlotOn : Prop :=
  (∀ (i : SampleInput) (s : State), s.su.cond = .run → s.tb.running = true → s.tb.count % 64 = 0 → s.su.msfGrid = true → s.su.grid = false → s.pins.ready = false → s.pins.thrReq = 7 → exec (.sampleInstant i) s = .next { s with msf := s.msf.sample s.tb.count i.vsns }) ∧
  (∀ (i : SampleInput) (s : State), s.su.cond = .run → s.tb.running = true → s.tb.count % 64 = 0 → s.su.msfGrid = true → s.su.grid = true → ∃ t, exec (.sampleInstant i) s = .next t ∧ t.msf = s.msf.sample s.tb.count i.vsns ∧ t.zones.length = s.zones.length ∧
    t.pins.ready = (s.pins.ready || (s.su.readyEver && !instSafeOrWorse s)) ∧
    t.pins.thrReq = (if !t.pins.ready || instSafeOrWorse s then 7 else levelIn s) ∧ t.tb = s.tb ∧ t.su = s.su ∧ t.fus = s.fus ∧
    t.nvm.flash = s.nvm.flash) ∧
  (∀ (i : SampleInput) (s : State), s.tb.count % 64 ≠ 0 → exec (.sampleInstant i) s = .next s)

/-- At a capture a tile takes the trimmed output result and the sum of its four trimmed phase results limited to 14 signed bits. The overload
count rises by one when that current exceeds 4,000 mA, or when OVERLOAD is set and the clamp acted in the slot, saturating at 157, and
otherwise falls by one, never below 0. The trips of the short rule clear when the output result is 200 or more. The report shows the slot
just ended; its DROOP, TAINT, TRIPS and CANCELLED start afresh, DROOP high again where the droop output still is (it is for a tile in OFF), and the reference has moved up to the instant. (R129, R141, R150, R156). -/
def Obligations.TileCaptureFormsTheReport : Prop :=
  (∀ (x : Tile) (r : RawTile) (k : Nat), (x.capture r k).v = trimV x.fac x.usr r.v ∧
    (x.capture r k).i = clampI (-8192) 8191 (sumI ((List.range 4).map fun p => trimI x.fac x.usr (r.ip.getD p 0))) ∧
    (x.capture r k).overCount = (if (x.capture r k).i > 4000 ∨ (x.overload = true ∧ x.clampActed = true) then min 157 (x.overCount + 1)
      else x.overCount - 1) ∧
    (x.capture r k).tripsShort = (if 200 ≤ (x.capture r k).v then 0 else x.tripsShort) ∧
    (x.capture r k).rep.v = (x.capture r k).v ∧ (x.capture r k).rep.i = (x.capture r k).i ∧ (x.capture r k).rep.trips = min 15 x.tripsSlot ∧
    (x.capture r k).rep.cancelled = x.cancelled ∧ (x.capture r k).rep.taint = x.taintSlot ∧
    (x.capture r k).rep.droop = (x.droopSlot || x.droopLine) ∧ (x.capture r k).tripsSlot = 0 ∧ (x.capture r k).cancelled = false ∧
    (x.capture r k).taintSlot = false ∧ (x.capture r k).droopSlot = x.droopLine ∧ (x.capture r k).clampActed = false ∧
    (x.capture r k).st = x.st ∧
    (x.capture r k).vref = (x.refTo k).vref ∧ (x.capture r k).nact = x.nact ∧ (x.capture r k).cmd = x.cmd)

/-- UPDATE_OVERRUN: with the Floats on the grid an update overrun leaves the previous commands in force (no command is sent), sets the overrun
flag, counts since READY and reports 0x10: a NOTE, or DEGRADE when the zone had one within the 1,024 samples before. LEASE_EXPIRY: when no
limit update has reached a Float for 3 ms it marks its lease lost, counts since READY and asserts 0x11 with DEGRADE. LIMIT_UPDATE: a limit
update on its way to the Float puts its limits in force, renews the lease and ends the source. (R30, R47, R163). -/
def Obligations.OverrunLeaseAndLimitUpdates : Prop :=
  (∀ (z : Nat) (s : State), s.su.cond = .run → z < s.zones.length → s.su.grid = true → (zoneD s z).overrunAt = none → exec (.updateOverrun z) s = .next (report (modZone s z fun zn => { zn with
      law := { zn.law with cmds := [] }, status := zn.status ||| 1, overrunAt := some (s.tb.count / 64 * 64)
      overruns := if s.su.readyEver then min 0xFFFF (zn.overruns + 1) else zn.overruns }) 0x10 z .note)) ∧
  (∀ (z j : Nat) (s : State), s.su.cond = .run → z < s.zones.length → s.su.grid = true → (zoneD s z).overrunAt = some j → ∃ t, exec (.updateOverrun z) s = .next t ∧ (zoneD t z).law.cmds = [] ∧ (zoneD t z).tiles = (zoneD s z).tiles ∧
    (∃ r ∈ t.snag.inbox, r.code = 0x10 ∧ r.unit = z ∧ r.stamp = s.tb.count ∧
      r.cls = (if s.tb.count / 64 * 64 < j + 65536 then .degrade else .note)) ∧ { t with zones := s.zones, snag := s.snag } = s) ∧
  (∀ (z : Nat) (s : State), s.su.cond = .run → z < s.zones.length → s.su.grid = true → (zoneD s z).leaseLost = false → (zoneD s z).leaseAt + 3000000 ≤ s.tb.count → exec (.leaseExpiry z) s = .next (assertCond (modZone s z fun zn => { zn with
      leaseLost := true, status := zn.status ||| 2
      leaseExpiries := if s.su.readyEver then min 0xFFFF (zn.leaseExpiries + 1) else zn.leaseExpiries }) 0x11 z .degrade)) ∧
  (∀ (z : Nat) (l : Limit) (s : State), (s.caps.out.find? fun x => x.1 = z) = some (z, l) → exec (.limitUpdate z) s = .next (deassertCond { modZone s z (fun zn => { zn with lim := l, leaseAt := s.tb.count, leaseLost := false }) with
      caps := { s.caps with out := s.caps.out.filter fun x => x.1 ≠ z } } 0x11 z))

/-- A report leaves stamped with the present count and joins the reports on their way in the order of stamp, code and unit, none lost.
Asserting a condition that is not asserted sends one report and marks the condition asserted; one already asserted sends none. Ending a
condition removes the mark and makes the present instant the stamp of the last assertion of its held pair and of its report on the way.
Every other part of the block stays as it is. (R399, R401, R403, R404). -/
def Obligations.SnagReportsAndConditions : Prop :=
  (∀ (s : State) (code unit : Nat) (c : Cls) (d : Option W32) (l : Bool) (k : Option CritRep), (∃ r ∈ (report s code unit c d l k).snag.inbox, r.code = code ∧ r.unit = unit ∧ r.cls = c ∧ r.stamp = s.tb.count ∧ r.latch = l ∧ r.crit = k ∧
      ∀ w, d = some w → r.detail = w) ∧
    (∀ x ∈ s.snag.inbox, x ∈ (report s code unit c d l k).snag.inbox) ∧
    (report s code unit c d l k).snag.inbox.length = s.snag.inbox.length + 1 ∧
    { report s code unit c d l k with snag := { (report s code unit c d l k).snag with inbox := s.snag.inbox } } = s) ∧
  (∀ (s : State) (code unit : Nat) (c : Cls), (code, unit) ∉ s.snag.conds → (code, unit) ∈ (assertCond s code unit c).snag.conds ∧ (assertCond s code unit c).snag.conds.length = s.snag.conds.length + 1 ∧
    (∃ r ∈ (assertCond s code unit c).snag.inbox, r.code = code ∧ r.unit = unit ∧ r.cls = c ∧ r.stamp = s.tb.count) ∧
    { assertCond s code unit c with snag := s.snag } = s) ∧
  (∀ (s : State) (code unit : Nat) (c : Cls), (code, unit) ∈ s.snag.conds → assertCond s code unit c = s) ∧
  (∀ (s : State) (code unit : Nat), (code, unit) ∈ s.snag.conds → (deassertCond s code unit).snag.conds = s.snag.conds.erase (code, unit) ∧
    (deassertCond s code unit).snag.held = (s.snag.held.map fun h => if h.code = code ∧ h.unit = unit then { h with l := s.tb.count } else h) ∧
    (deassertCond s code unit).snag.inbox = (s.snag.inbox.map fun r => if r.code = code ∧ r.unit = unit then { r with l := s.tb.count } else r) ∧
    { deassertCond s code unit with snag := s.snag } = s) ∧
  (∀ (s : State) (code unit : Nat), (code, unit) ∉ s.snag.conds → deassertCond s code unit = s) ∧
  (∀ (r : FaultRep) (l : List FaultRep), l.Pairwise (fun a b => b.before a = false) → (insRep r l).Pairwise (fun a b => b.before a = false)) ∧
  (∀ (a b : FaultRep), a.before b = true ↔ a.stamp < b.stamp ∨ (a.stamp = b.stamp ∧ (a.code < b.code ∨ (a.code = b.code ∧ a.unit < b.unit))))

/-- FORECAST_ROUND: at a multiple of 256 TBT a running engine makes one evaluation of every zone and sends their packets and the FPV word
stamped with the round start. FORECAST_PACKET_RX: a pair FP0 and FP1 that reaches Float z is its forecast in force, with s the count rounded
down to 256 and currents 50 times the fields. FPV_RX: the FPV word that reaches the MSF gives its forecast and fo, its references having
moved up to the instant; in RUN the sheds it calls off are cancelled. The DEGRADE condition of an absence ends when no receiver is without
forecasts. FORECAST_EXPIRY: after 1,024 ns a forecast lapses and the receiver, Float or MSF, treats forecasts as absent: ABSENT_SEEN, and at
a Float's a NOTE 0x0B where no receiver was without them before. FORECAST_ABSENT_DEGRADE: an absence of 1 ms is a DEGRADE condition 0x0B.
(R33, R48, R224, R227, R228, R229). -/
def Obligations.ForecastRoundAndArrival : Prop :=
  (∀ (s : State), s.fce.running = true → s.tb.count % 256 = 0 → ∃ t, exec .forecastRound s = .next t ∧ t.fce.out = ((List.range s.zones.length).map (evalZone s · s.tb.count)).filterMap (·.pkt) ∧
    (∀ p ∈ t.fce.out, p.s = s.tb.count) ∧ (∃ w, t.fce.fpv = some (s.tb.count, w)) ∧ { t with fce := s.fce } = s) ∧
  (∀ (z : Nat) (p : FcPkt) (s : State), (s.fce.out.find? fun x => x.zone = z) = some p → exec (.forecastPacketRx z) s = .next (absenceOver { modZone s z (fun zn => { zn with fc := some (Fcst.ofPkt p s.tb.count), absentAt := none }) with
      fce := { s.fce with out := s.fce.out.filter fun x => x.zone ≠ z } })) ∧
  (∀ (p : FcPkt) (k : Nat), (Fcst.ofPkt p k).s = k / 256 * 256 ∧ (Fcst.ofPkt p k).at_ = k ∧ (Fcst.ofPkt p k).f0 = 50 * (p.fp0.toNat / 2 ^ 10 % 2 ^ 13) ∧
    (Fcst.ofPkt p k).f1 = 50 * (p.fp0.toNat / 2 ^ 23 % 2 ^ 13) ∧ (Fcst.ofPkt p k).f2 = 50 * (p.fp0.toNat / 2 ^ 36 % 2 ^ 13) ∧
    (Fcst.ofPkt p k).f3 = 50 * (p.fp0.toNat / 2 ^ 49 % 2 ^ 13) ∧ (Fcst.ofPkt p k).plan = p.fp1.toNat / 2 ^ 10 % 2 ^ 3 ∧
    (Fcst.ofPkt p k).planAt = k / 256 * 256 + p.fp1.toNat / 2 ^ 13 % 2 ^ 15 ∧ ((Fcst.ofPkt p k).qvalid = true ↔ p.fp1.toNat / 2 ^ 28 % 2 = 1) ∧
    (Fcst.ofPkt p k).quietAt = k / 256 * 256 + p.fp1.toNat / 2 ^ 29 % 2 ^ 15 ∧ (Fcst.ofPkt p k).qlen = p.fp1.toNat / 2 ^ 44 % 2 ^ 10 ∧
    (Fcst.ofPkt p k).di = p.fp1.toNat / 2 ^ 54 % 2 ^ 10) ∧
  (∀ (a : Nat) (w : W64) (s : State), s.fce.fpv = some (a, w) → exec .fpvRx s = .next (absenceOver { s with fce := { s.fce with fpv := none }, msf :=
      (let m : Msf := { s.msf.refTo s.tb.count with
        fv := some (w.toNat / 2 ^ 10 % 2 ^ 11, w.toNat / 2 ^ 21 % 2 ^ 11, w.toNat / 2 ^ 32 % 2 ^ 11, w.toNat / 2 ^ 43 % 2 ^ 11, s.tb.count)
        fo := w.toNat / 2 ^ 54 % 2 ^ 6, absentAt := none };
       if s.msf.st = .run then m.cancelSheds s.tb.count else m) })) ∧
  (∀ (s : State), (anyAbsent s = true ∨ s.fce.absentDeg = false) → absenceOver s = s) ∧
  (∀ (s : State), anyAbsent s = false → s.fce.absentDeg = true → absenceOver s = deassertCond { s with fce := { s.fce with absentDeg := false } } 0x0B 0) ∧
  (∀ (z : Nat) (f : Fcst) (s : State), (zoneD s z).fc = some f → f.at_ + 1024 ≤ s.tb.count → ∃ t, exec (.forecastExpiry (some z)) s = .next t ∧ t.zones = s.zones.modify z (fun zn => { zn with fc := none, absentAt := some s.tb.count }) ∧
    t.fce.status = s.fce.status ||| 2 ∧ (anyAbsent s = false → ∃ r ∈ t.snag.inbox, r.code = 0x0B ∧ r.cls = .note ∧ r.stamp = s.tb.count) ∧
    { t with zones := s.zones, fce := s.fce, snag := s.snag } = s) ∧
  (∀ (a b c d k : Nat) (s : State), s.msf.fv = some (a, b, c, d, k) → k + 1024 ≤ s.tb.count → ∃ t, exec (.forecastExpiry none) s = .next t ∧ t.msf = { s.msf.refTo s.tb.count with fv := none, absentAt := some s.tb.count } ∧
    t.fce.status = s.fce.status ||| 2 ∧ { t with msf := s.msf, fce := s.fce, snag := s.snag } = s) ∧
  (∀ (k : Nat) (s : State), s.msf.absentAt = some k → k + 1000000 ≤ s.tb.count → s.fce.absentDeg = false → exec .forecastAbsentDegrade s = .next (assertCond { s with fce := { s.fce with absentDeg := true } } 0x0B 0 .degrade)) ∧
  (∀ (z k : Nat) (s : State), z < s.zones.length → (zoneD s z).absentAt = some k → k + 1000000 ≤ s.tb.count → s.fce.absentDeg = false → exec .forecastAbsentDegrade s = .next (assertCond { s with fce := { s.fce with absentDeg := true } } 0x0B 0 .degrade))

/-- TILE_SWITCHING_CYCLE: a cycle of active phase ph of a tile in START or REG that may turn on (an armed tile not later than 20 ns before its
window) changes that tile alone; the reference has moved up to the instant. Its demand is 2 ICMD plus GF times (vref plus boost, less the
fast probe) over 4, rounded down; the control current is the demand limited to 0 and ILIM, and with OVERLOAD also to 4,000 over nact plus
150 mA. The high-side switch turns off at the first 10 ps at which the sensed current plus the ramp reaches the control current or the sensed
current reaches ILIM, not before TON_MIN nor after 90% of the period. A demand above ILIM, or ILIM ending the on-time, is a trip: it counts
in the slot to 15, and at output below 200 toward a short to 16. The phase takes the selected row, moves its angle offset by at most 32 taps
the shorter way, and at phase 0 the estimate is the sum of the active averages. (R126, R127, R128, R129, R132, R133, R141, R145, R148, R277). -/
def Obligations.TileSwitchingCycleIsRightByTheFormula : Prop :=
  (∀ (z t ph : Nat) (c : CycleInput) (s : State), t < (zoneD s z).tiles.length → ((tileD s z t).st = .start ∨ (tileD s z t).st = .reg) → ph < (tileD s z t).nact → (∀ w ∈ (tileD s z t).win, s.tb.count + 20 ≤ w.w) → exec (.tileSwitchingCycle z t ph c) s = .next (modTile s z t fun x => (x.refTo s.tb.count).cycle ph c (zoneD s z).cfg.waves (maxOn (zoneD s z).syncPer (zoneD s z).cfg.mult))) ∧
  (∀ (z t ph : Nat) (c : CycleInput) (w : TileWin) (s : State), (tileD s z t).win = some w → w.w < s.tb.count + 20 → exec (.tileSwitchingCycle z t ph c) s = .next s) ∧
  (∀ (x : Tile) (ph : Nat) (c : CycleInput) (rows : List WaveRow) (mx : Nat), ph < 4 → x.ic.length = 4 → x.phOff.length = 4 → x.phRow.length = 4 → (x.cycle ph c rows mx).ic.getD ph 0 =
      (let icu : Int := 2 * x.cmd.icmd + (x.cfg.gf * ((x.vref.q : Int) + 10 * x.boost - c.vfast)) / 4;
       let lim : Int := max 0 (min icu (10 * x.cfg.ilim));
       if x.overload then min lim ((qdivN 1 4000 x.nact : Nat) + 150) else lim) ∧
    (x.cycle ph c rows mx).phRow.getD ph 0 = x.row ∧
    (x.cycle ph c rows mx).phOff.getD ph 0 = (if x.phRun.getD ph false then movePhase (x.phOff.getD ph 0) (phaseOff x.nact ph) else phaseOff x.nact ph) ∧
    (x.cycle ph c rows mx).st = x.st ∧ (x.cycle ph c rows mx).nact = x.nact ∧ (x.cycle ph c rows mx).vref = x.vref ∧ (x.cycle ph c rows mx).rep = x.rep) ∧
  (∀ (x : Tile) (c : CycleInput) (ic : Int) (lo mx n : Nat), (x.onTime c ic lo mx).1 = n → lo < n → n < mx → (ic : Rat) ≤ sensedAt c n + x.rampAt n ∨ 10 * (x.cfg.ilim : Int) ≤ sensedAt c n) ∧
  (∀ (x : Tile) (c : CycleInput) (ic : Int) (lo mx n : Nat), n < (x.onTime c ic lo mx).1 → lo ≤ n → (sensedAt c n : Rat) + x.rampAt n < ic ∧ sensedAt c n < 10 * (x.cfg.ilim : Int)) ∧
  (∀ (x : Tile) (c : CycleInput) (ic : Int) (lo mx : Nat), lo ≤ mx → lo ≤ (x.onTime c ic lo mx).1 ∧ (x.onTime c ic lo mx).1 ≤ mx) ∧
  (∀ (x : Tile) (ph : Nat) (c : CycleInput) (rows : List WaveRow) (mx : Nat), (x.icu c.vfast > 10 * x.cfg.ilim ∨ (x.onTime c (x.icOf c.vfast) (rows.getD x.row {}).tonMin mx).2 = true) → (x.cycle ph c rows mx).tripsSlot = min 15 (x.tripsSlot + 1) ∧ (x.cycle ph c rows mx).tripsShort = (if x.v < 200 then min 16 (x.tripsShort + 1) else x.tripsShort)) ∧
  (∀ (x : Tile) (ph : Nat) (c : CycleInput) (rows : List WaveRow) (mx : Nat), x.icu c.vfast ≤ 10 * x.cfg.ilim → (x.onTime c (x.icOf c.vfast) (rows.getD x.row {}).tonMin mx).2 = false → (x.cycle ph c rows mx).tripsSlot = x.tripsSlot ∧ (x.cycle ph c rows mx).tripsShort = x.tripsShort) ∧
  (∀ (x : Tile) (c : CycleInput) (rows : List WaveRow) (mx : Nat), (x.cycle 0 c rows mx).est = sumI ((x.avg.set 0 c.avg).take x.nact)) ∧
  (∀ (a b : Nat), a < 256 → b < 256 → movePhase a b < 256 ∧ (movePhase a b = b ∨ movePhase a b = (a + 32) % 256 ∨ movePhase a b = (a + 224) % 256))

/-- TILE_TRIP_SHORT: the 16th short trip isolates the tile with cause 1 and asserts 0x20 for its global number; TILE_SWITCH_FAIL isolates it
with cause 2 and asserts 0x21; both DEGRADE. TILE_OVERLOAD_SET: the overload count at 157 sets OVERLOAD and asserts 0x22;
TILE_OVERLOAD_CLEAR: the count back at 0 clears it and ends 0x22. TILE_LOAD_STEP: a current estimate above 850 mA times the count disarms the
armed shed, and inside a restart watch restarts the phases its COMMIT stopped, the watch staying open. TILE_WATCH_END closes the watches that
are over. TILE_REG_ENTRY: four settled samples move START to REG. TILE_STOP_DONE: a stopped tile with open switches is OFF, or in TEST where a
test was selected. An event that stops a tile ends an open excursion there, and STRETCH_REQ follows the zone OR. (R129, R130, R139, R141, R145, R146, R153, R425). -/
def Obligations.TileFaultsIsolateOrMarkTheTile : Prop :=
  (∀ (z t : Nat) (s : State), t < (zoneD s z).tiles.length → ((tileD s z t).st = .start ∨ (tileD s z t).st = .reg) → 16 ≤ (tileD s z t).tripsShort → exec (.tileTripShort z t) s = .next (assertCond (tileEvent s z t fun x => x.isolate 1) 0x20 (gTile s z t) .degrade)) ∧
  (∀ (z t : Nat) (s : State), t < (zoneD s z).tiles.length → (tileD s z t).st ≠ .isolated → exec (.tileSwitchFail z t) s = .next (assertCond (tileEvent s z t fun x => x.isolate 2) 0x21 (gTile s z t) .degrade)) ∧
  (∀ (s : State) (z t : Nat) (f : Tile → Tile), tileEvent s z t f = updStretch (modZone (modTile s z t f) z fun zn => zn.endTaints s.tb.count) z) ∧
  (∀ (zn : Zone) (k t d df : Nat), (zn.tiles.getD t {}).taintOpen = some (d, df) → (zn.tiles.getD t {}).switching = false → t < zn.tiles.length → ((zn.endTaints k).tiles.getD t {}).taintOpen = none ∧ ((zn.endTaints k).tiles.getD t {}).taintSlot = true ∧
    ∃ w ∈ (zn.endTaints k).sft.inflight, w = ({ start := d, startFine := df, stop := k, stopFine := if d = k then df else 0, tile := t } : TaintEv).word) ∧
  (∀ (x : Tile) (c : Nat), x.st ≠ .isolated → (x.isolate c).st = .isolated ∧ (x.isolate c).cause = c ∧ (x.isolate c).nact = 0 ∧ (x.isolate c).win = none ∧
    (x.isolate c).armed = none ∧ (x.isolate c).held = none ∧ (x.isolate c).droopOut = false ∧ (x.isolate c).test = none ∧ (x.isolate c).v = x.v) ∧
  (∀ (x : Tile) (c : Nat), x.st = .isolated → x.isolate c = x) ∧
  (∀ (z t : Nat) (s : State), t < (zoneD s z).tiles.length → (tileD s z t).overCount = 157 → (tileD s z t).overload = false → exec (.tileOverloadSet z t) s = .next (assertCond (modTile s z t fun x => { x with overload := true }) 0x22 (gTile s z t) .degrade)) ∧
  (∀ (z t : Nat) (s : State), t < (zoneD s z).tiles.length → (tileD s z t).overCount = 0 → (tileD s z t).overload = true → exec (.tileOverloadClear z t) s = .next (deassertCond (modTile s z t fun x => { x with overload := false }) 0x22 (gTile s z t))) ∧
  (∀ (z t n : Nat) (s : State), t < (zoneD s z).tiles.length → (tileD s z t).loadCount s.tb.count = some n → (850 * n : Nat) < (tileD s z t).est → exec (.tileLoadStep z t) s = .next (modTile s z t fun x => x.loadStep s.tb.count)) ∧
  (∀ (x : Tile) (k e n : Nat), x.watch = [(e, n)] → k < e → (x.loadStep k).armed = none ∧ (x.loadStep k).cancelled = true ∧ (x.loadStep k).nact = max x.nact n ∧ (x.loadStep k).watch = [(e, n)]) ∧
  (∀ (x : Tile) (k : Nat), (∀ p ∈ x.watch, p.1 ≤ k) → (x.loadStep k).armed = none ∧ (x.loadStep k).cancelled = true ∧ (x.loadStep k).nact = x.nact) ∧
  (∀ (z t : Nat) (s : State), exec (.tileWatchEnd z t) s = .next (modTile s z t fun x => { x with watch := x.watch.filter fun p => s.tb.count < p.1 })) ∧
  (∀ (z t : Nat) (s : State), t < (zoneD s z).tiles.length → (tileD s z t).st = .start → 4 ≤ (tileD s z t).startCnt → exec (.tileRegEntry z t) s = .next (modTile s z t fun x => { x with st := .reg, startCnt := 0 })) ∧
  (∀ (z t : Nat) (b : Bool) (s : State), t < (zoneD s z).tiles.length → (tileD s z t).stopping = some b → exec (.tileStopDone z t) s = .next (tileEvent s z t fun x => x.stopDone s.tb.count)) ∧
  (∀ (x : Tile) (k : Nat) (b : Bool), x.stopping = some b → (x.stopDone k).st = (if b then .test else .off) ∧ (x.stopDone k).nact = 0 ∧ (x.stopDone k).stopping = none ∧ (x.stopDone k).droopOut = false)

/-- DROOP_CROSSING of a switching tile raises its droop output and the flag of the slot, counts since READY to 255 and is a load step; a tile in
QUIET leaves it. DROOP_RELEASE lowers the output. STRETCH_REQ follows the zone OR both times, stamped and counted since READY where it rises.
TAINT_EXCURSION_START stamps the excursion; TAINT_EXCURSION_END sends the interval from that stamp to the recrossing; TAINT_INTERVAL_SPLIT
splits one 1,024 ns old there, and it goes on. Each interval sent sets TAINT for the slot, and leaves for the Float as one word of 24-bit
stamps with their 100 ps and the tile, from which the Float, within 2^23 ns, has the interval back. (R58, R145, R151, R153, R154, R156, R157, R279). -/
def Obligations.DroopTaintIntervalsAndTheirEvents : Prop :=
  (∀ (z t : Nat) (s : State), t < (zoneD s z).tiles.length → (tileD s z t).switching = true → (tileD s z t).droopOut = false → exec (.droopCrossing z t) s = .next (updStretch (modTile s z t fun x => x.droopRise s.tb.count (zoneVmax s z) s.su.readyEver) z)) ∧
  (∀ (x : Tile) (k v : Nat) (b : Bool), x.st ≠ .quiet → (x.droopRise k v b).droopOut = true ∧ (x.droopRise k v b).droopSlot = true ∧
    (x.droopRise k v b).droops = (if b then min 255 (x.droops + 1) else x.droops) ∧ (x.droopRise k v b).armed = none ∧
    (x.droopRise k v b).cancelled = true ∧ (x.droopRise k v b).st = x.st) ∧
  (∀ (x : Tile) (k v : Nat) (b : Bool), x.st = .quiet → x.held = none → (x.droopRise k v b).st = .reg ∧ (x.droopRise k v b).droopOut = true ∧ (x.droopRise k v b).win = none) ∧
  (∀ (z t : Nat) (s : State), t < (zoneD s z).tiles.length → (tileD s z t).droopOut = true → exec (.droopRelease z t) s = .next (updStretch (modTile s z t fun x => { x with droopOut := false }) z)) ∧
  (∀ (s : State) (z : Nat), (zoneD s z).stretchOr = (zoneD s z).sft.req → (updStretch s z).zones.length = s.zones.length ∧ (zoneD (updStretch s z) z).sft = (zoneD s z).sft) ∧
  (∀ (s : State) (z : Nat), z < s.zones.length → (zoneD s z).stretchOr = true → (zoneD s z).sft.req = false → (zoneD (updStretch s z) z).sft.req = true ∧ (zoneD (updStretch s z) z).sft.since = some s.tb.count ∧
    (zoneD (updStretch s z) z).sft.edges.head? = some (s.tb.count, true) ∧
    (zoneD (updStretch s z) z).sft.stretches = (if s.su.readyEver then min 0xFFFF ((zoneD s z).sft.stretches + 1) else (zoneD s z).sft.stretches) ∧
    (zoneD (updStretch s z) z).tiles = (zoneD s z).tiles ∧ { updStretch s z with zones := s.zones } = s) ∧
  (∀ (s : State) (z : Nat), z < s.zones.length → (zoneD s z).stretchOr = false → (zoneD s z).sft.req = true → (zoneD (updStretch s z) z).sft.req = false ∧ (zoneD (updStretch s z) z).sft.since = none ∧
    (zoneD (updStretch s z) z).sft.edges.head? = some (s.tb.count, false) ∧ { updStretch s z with zones := s.zones } = s) ∧
  (∀ (z t f : Nat) (s : State), t < (zoneD s z).tiles.length → (tileD s z t).switching = true → (tileD s z t).taintOpen = none → exec (.taintExcursionStart z t f) s = .next (modTile s z t fun x => { x with taintOpen := some (s.tb.count, f % 10) })) ∧
  (∀ (z t f d df : Nat) (s : State), (tileD s z t).taintOpen = some (d, df) → exec (.taintExcursionEnd z t f) s = .next (modZone s z fun zn => zn.sendTaint t { start := d, startFine := df, stop := s.tb.count, stopFine := f % 10, tile := t } none)) ∧
  (∀ (z t d df : Nat) (s : State), (tileD s z t).taintOpen = some (d, df) → d + 1024 ≤ s.tb.count → exec (.taintIntervalSplit z t) s = .next (modZone s z fun zn => zn.sendTaint t { start := d, startFine := df, stop := d + 1024, stopFine := df, tile := t } (some (d + 1024, df)))) ∧
  (∀ (zn : Zone) (t : Nat) (e : TaintEv) (r : Option (Nat × Nat)), (zn.sendTaint t e r).tiles = zn.tiles.modify t (fun x => { x with taintOpen := r, taintSlot := true }) ∧
    (zn.sendTaint t e r).sft = { zn.sft with inflight := zn.sft.inflight ++ [e.word] }) ∧
  (∀ (e : TaintEv) (k : Nat), e.startFine < 16 → e.stopFine < 16 → e.tile < 64 → e.start ≤ e.stop → e.stop ≤ k → k < e.start + 2 ^ 23 → TaintEv.ofWord k e.word = e)

/-- STRETCH_TIMEOUT: an assertion of STRETCH_REQ 10 µs old in MIST, RUN or HOLD reports 0x15 at ZONE-SAFE and changes nothing else.
STRETCH_ACK_CHECK: the Float stamps the level of STRETCH_ACK where it has changed and judges every edge of STRETCH_REQ that is 16 ns old; an
edge that STRETCH_ACK has not followed 16 ns after it, and that a new rise has not overtaken, counts since READY to 255, sets the late flag
and is a NOTE 0x16. (R59, R282, R284). -/
def Obligations.StretchLimitAndAcknowledgement : Prop :=
  (∀ (z a : Nat) (s : State), z < s.zones.length → (zoneD s z).sft.since = some a → (zoneD s z).sft.req = true → ((zoneD s z).st = .mist ∨ (zoneD s z).st = .run ∨ (zoneD s z).st = .hold) → a + 10000 ≤ s.tb.count → exec (.stretchTimeout z) s = .next (report s 0x15 z .zoneSafe)) ∧
  (∀ (z : Nat) (ack : Bool) (s : State), z < s.zones.length → ∃ t n, exec (.stretchAckCheck z ack) s = .next t ∧ (zoneD t z).sft.ack = ack ∧
    n = (((zoneD s z).sft.judge.filter fun e => e.1 + 16 ≤ s.tb.count && !((zoneD s z).sft.stampAck s.tb.count ack).ackOk e).length) ∧
    (zoneD t z).sft.judge = ((zoneD s z).sft.judge.filter fun e => s.tb.count < e.1 + 16) ∧
    (zoneD t z).sft.ackLate = (if s.su.readyEver then min 255 ((zoneD s z).sft.ackLate + n) else (zoneD s z).sft.ackLate) ∧
    (zoneD t z).sft.ackLateSeen = ((zoneD s z).sft.ackLateSeen || decide (0 < n)) ∧
    (0 < n → ∃ r ∈ t.snag.inbox, r.code = 0x16 ∧ r.unit = z ∧ r.cls = .note ∧ r.stamp = s.tb.count) ∧
    t.snag.inbox.length = s.snag.inbox.length + n ∧ { t with zones := s.zones, snag := s.snag } = s) ∧
  (∀ (x : Sft) (e : Nat × Bool × Bool), x.ackOk e = true ↔ (if e.2.1 then x.ackAt (e.1 + 16) = true else e.2.2 = true ∨ x.ackAt (e.1 + 16) = false)) ∧
  (∀ (x : Sft) (k : Nat) (ack : Bool), ack = x.ack → x.stampAck k ack = x) ∧
  (∀ (x : Sft) (k : Nat) (ack : Bool), ack ≠ x.ack → (x.stampAck k ack).ack = ack ∧ (x.stampAck k ack).ackEdges.head? = some (k, ack))

/-- TAINT_EVENT_RX: the next taint event at the Float, its stamps extended against the Float's own count, joins the gathering, which starts with
its first event; an event of a tile no array mask holds is counted as unmapped to 255. TAINT_STROBE_END: a strobe falls 32 ns after its rise
for every array. TNT_RECORD_SEND: while READY is high the head record leaves the port once its last beat is acknowledged; an overflow record
that leaves is counted. TNT_OVERFLOW_RECORD: with room in the 32-record queue after a loss, one overflow record follows that names the zones,
the span and the count of the lost ones. (R67, R68, R157, R294, R295, R297, R303). -/
def Obligations.TaintGatheringAndTaintPort : Prop :=
  (∀ (z : Nat) (w : W64) (r : List W64) (s : State), (zoneD s z).sft.inflight = w :: r → (zoneD s z).arraysOf (TaintEv.ofWord s.tb.count w).tile = [] → exec (.taintEventRx z) s = .next (modZone s z fun _ => { zoneD s z with sft := { (zoneD s z).sft with inflight := r, unmapped := min 255 ((zoneD s z).sft.unmapped + 1) } })) ∧
  (∀ (z : Nat) (w : W64) (r : List W64) (e : TaintEv) (s : State), (zoneD s z).sft.inflight = w :: r → e = TaintEv.ofWord s.tb.count w → (zoneD s z).arraysOf e.tile ≠ [] → (zoneD s z).sft.gather = none → exec (.taintEventRx z) s = .next (modZone s z fun _ => { zoneD s z with sft := { (zoneD s z).sft with
      inflight := r, gather := some (s.tb.count, [{ cause := 0, arrays := (zoneD s z).arraysOf e.tile, start := e.start, startFine := e.startFine, stop := e.stop, stopFine := e.stopFine }]) } })) ∧
  (∀ (z a : Nat) (w : W64) (r : List W64) (g : List Gathered) (e : TaintEv) (s : State), (zoneD s z).sft.inflight = w :: r → e = TaintEv.ofWord s.tb.count w → (zoneD s z).arraysOf e.tile ≠ [] → (zoneD s z).sft.gather = some (a, g) → exec (.taintEventRx z) s = .next (modZone s z fun _ => { zoneD s z with sft := { (zoneD s z).sft with
      inflight := r, gather := some (a, g ++ [{ cause := 0, arrays := (zoneD s z).arraysOf e.tile, start := e.start, startFine := e.startFine, stop := e.stop, stopFine := e.stopFine }]) } })) ∧
  (∀ (z e : Nat) (s : State), (zoneD s z).sft.strobeEnd = some e → e ≤ s.tb.count → exec (.taintStrobeEnd z) s = .next (modZone s z fun zn =>
      { zn with arrays := zn.arrays.map (fun a => { a with taint := false }), sft := { zn.sft with strobeEnd := none } })) ∧
  (∀ (r : TntRec) (q : List TntRec) (s : State), s.pins.ready = true → s.tnt.queue = r :: q → exec .tntRecordSend s = .next { s with tnt := { s.tnt with queue := q, last := some r, overflows := if r.overflow then min 0xFFFF (s.tnt.overflows + 1) else s.tnt.overflows } }) ∧
  (∀ (zz : BitVec 48) (a af e ef n : Nat) (s : State), s.pins.ready = true → s.tnt.queue.length < 32 → s.tnt.ovf = some (zz, a, af, e, ef, n) → exec .tntOverflowRecord s = .next { s with tnt := { s.tnt with
      queue := s.tnt.queue ++ [{ zone := 0, start := a, stop := e, b0 := 0xFF00B2, b1 := BitVec.ofNat 64 a, b2 := BitVec.ofNat 64 e, b3 := BitVec.ofNat 64 (fields [(zz.toNat, 0, 48), (n, 48, 16)]) }], ovf := none } })

/-- FREQ_REQ: a rise of the pin is stamped with its code; FREQ_REQ_FALL: a fall is stamped, and from there the floor of the frequency follows
the granted code. A sample sees a change of the pin 2 ns old or more. At the sample that first sees the pin high with FREQ_ACK low, a code
other than 0 is pending from that sample; code 0 is counted invalid since READY and never acknowledged. At the sample that first sees it low
a pending request is withdrawn and FREQ_ACK falls. A pending decrease is acknowledged at the first sample one slot or more after its own while
ZONE_READY is high. FREQ_INCREASE_GRANT: a pending increase is acknowledged at a sample instant one slot or more after its own, in MIST or RUN
with ZONE_READY high, when the code is within FCEIL, no window of the zone stands in the way and STRETCH_REQ has been low for 50 ns: granted
code, floor and FREQ_ACK follow. (R57, R288, R289, R290, R291). -/
def Obligations.FrequencyHandshake : Prop :=
  (∀ (z c : Nat) (s : State), (zoneD s z).sft.freqReq = false → c < 256 → exec (.freqReq z c) s = .next (modZone s z fun zn => { zn with sft := { zn.sft with freqReq := true, freqCode := c, freqAt := s.tb.count } })) ∧
  (∀ (z c : Nat) (s : State), (zoneD s z).sft.freqReq = true → exec (.freqReq z c) s = .next s) ∧
  (∀ (z : Nat) (s : State), z < s.zones.length → (zoneD s z).sft.freqReq = true → ∃ t, exec (.freqReqFall z) s = .next t ∧ (zoneD t z).sft = { (zoneD s z).sft with freqReq := false, freqAt := s.tb.count, floorG := (zoneD s z).sft.g } ∧
    (zoneD t z).tiles = (zoneD s z).tiles ∧ { t with zones := s.zones } = s) ∧
  (∀ (x : Sft) (k : Nat), (x.freqAt + 2 ≤ k → x.freqSeenAt k = x.freqReq) ∧ (k < x.freqAt + 2 → x.freqSeenAt k = !x.freqReq)) ∧
  (∀ (x : Sft) (k : Nat) (b : Bool), x.freqSeenAt k = true → x.freqSeen = false → x.freqAck = false → x.freqCode ≠ 0 → x.reqAt k b = { x with freqSeen := true, pending := some (x.freqCode, k) }) ∧
  (∀ (x : Sft) (k : Nat) (b : Bool), x.freqSeenAt k = true → x.freqSeen = false → x.freqAck = false → x.freqCode = 0 → x.reqAt k b = { x with freqSeen := true, pending := none, invalid := if b then min 255 (x.invalid + 1) else x.invalid }) ∧
  (∀ (x : Sft) (k : Nat) (b : Bool), x.freqSeenAt k = false → x.freqSeen = true → (x.reqAt k b).pending = none ∧ (x.reqAt k b).freqAck = false ∧ (x.reqAt k b).freqSeen = false ∧ (x.reqAt k b).g = x.g) ∧
  (∀ (x : Sft) (k : Nat) (b : Bool), x.freqSeenAt k = x.freqSeen → x.reqAt k b = { x with freqSeen := x.freqSeenAt k }) ∧
  (∀ (zn : Zone) (k v c kr : Nat) (b : Bool), zn.sft.freqSeenAt k = zn.sft.freqSeen → zn.sft.pending = some (c, kr) → c ≤ zn.sft.g → kr + 64 ≤ k → (zn.freqSample k v true b).sft.g = c ∧ (zn.freqSample k v true b).sft.freqAck = true ∧ (zn.freqSample k v true b).sft.pending = none) ∧
  (∀ (zn : Zone) (k v : Nat) (b : Bool), zn.sft.freqSeenAt k = zn.sft.freqSeen → zn.sft.freqAck = false → (zn.freqSample k v false b).sft.g = zn.sft.g ∧ (zn.freqSample k v false b).sft.freqAck = false ∧ (zn.freqSample k v false b).sft.pending = zn.sft.pending) ∧
  (∀ (z c kr : Nat) (s : State), s.tb.count % 64 = 0 → (zoneD s z).sft.pending = some (c, kr) → (zoneD s z).sft.g < c → kr + 64 ≤ s.tb.count → ((zoneD s z).st = .mist ∨ (zoneD s z).st = .run) → (zoneD s z).ready = true → c ≤ (zoneD s z).sft.fceil → noWindow (zoneD s z) s.tb.count = true → stretchQuiet (zoneD s z) s.tb.count = true → exec (.freqIncreaseGrant z) s = .next (modZone s z fun zn => { zn with sft := { zn.sft with g := c, floorG := c, freqAck := true, pending := none } })) ∧
  (∀ (zn : Zone) (g : Nat), stretchQuiet zn g = true ↔ zn.sft.req = false ∧ ∀ e ∈ zn.sft.edges.head?, e.1 + 50 ≤ g)

/-- SET_REQ: a rise of the pin is stamped with its duration code; SET_REQ_FALL: a fall is stamped. A sample sees a change 2 ns old or more. At
the sample that first sees the pin high with no grant out and the array idle the request is pending from that sample; at the sample that
first sees it low an ungranted request is withdrawn, and under a grant the fall is kept for its end. SET_WINDOW_SCHEDULE: at a sample instant
in RUN a pending valid request whose candidate start passes every test of placement and budget is scheduled with that start, duration and
set, where no lower-numbered request could still be. SET_WAIT_EXPIRY: one that cannot be scheduled SWAIT after its sample is denied: SET_GNT
answers with duration 0 while ZONE_READY is high, and the denial is counted since READY. WINDOW_START: at w the armed tiles in REG enter
QUIET and SET_GNT rises with the granted duration while ZONE_READY is high. WINDOW_END: at w + g the tiles leave QUIET and the array is idle.
(R57, R268, R269, R270, R271, R272, R273, R277). -/
def Obligations.SetWindowRequestGrantAndEnd : Prop :=
  (∀ (z a dur : Nat) (s : State), (arrD s z a).setReq = false → exec (.setReq z a dur) s = .next (modArr s z a fun x => { x with setReq := true, setReqAt := s.tb.count, setDur := dur % 32 })) ∧
  (∀ (z a dur : Nat) (s : State), (arrD s z a).setReq = true → exec (.setReq z a dur) s = .next s) ∧
  (∀ (z a : Nat) (s : State), (arrD s z a).setReq = true → exec (.setReqFall z a) s = .next (modArr s z a fun x => { x with setReq := false, setReqAt := s.tb.count })) ∧
  (∀ (x : Arr) (k : Nat), (x.setReqAt + 2 ≤ k → x.setAt k = x.setReq) ∧ (k < x.setReqAt + 2 → x.setAt k = !x.setReq)) ∧
  (∀ (x : Arr) (k : Nat), x.setAt k = true → x.setSeen = false → x.gnt = false → x.sw = .idle → x.reqAt k = { x with setSeen := true, kr := k, sw := .pending, sched := false, fallen := false }) ∧
  (∀ (x : Arr) (k : Nat), x.setAt k = false → x.setSeen = true → x.gnt = true → x.reqAt k = { x with setSeen := false, fallen := true }) ∧
  (∀ (x : Arr) (k : Nat), x.setAt k = false → x.setSeen = true → x.gnt = false → x.sw ≠ .open_ → (x.reqAt k).sw = .idle ∧ (x.reqAt k).sched = false ∧ (x.reqAt k).setSeen = false) ∧
  (∀ (z a w g : Nat) (set : List Nat) (s : State), s.tb.count % 64 = 0 → a < (zoneD s z).arrays.length → (zoneD s z).st = .run → (zoneD s z).exitCnt = none → s.snag.haltAt = none → (arrD s z a).sw = .pending → (arrD s z a).sched = false → (arrD s z a).kr ≤ s.tb.count → (arrD s z a).setDur ≠ 0 → (arrD s z a).setDur ≤ 20 → (∀ b < a, winNow s z b s.tb.count = none) → (zoneD s z).winTest (partOf s (zoneD s z)) s.tb.count a (zoneVmax s z) = some (w, g, set) → exec (.setWindowSchedule z a) s = .next (modArr s z a fun x => { x with sched := true, w, g, set })) ∧
  (∀ (zn : Zone) (p : Part) (k a v w g : Nat) (set : List Nat), zn.winTest p k a v = some (w, g, set) → w = k + 64 * (zn.pblead + 1) ∧ set = zn.winSet a ∧ set ≠ [] ∧ (zn.arrays.getD a {}).cfg.minLen ≤ g ∧ g ≤ 20 ∧ g ≤ (zn.arrays.getD a {}).setDur ∧
    (∀ t ∈ set, (zn.tiles.getD t {}).rep.st = .reg ∧ (zn.law.vz : Int) + zn.so t + (zn.arrays.getD a {}).cfg.pb ≤ v)) ∧
  (∀ (z a : Nat) (s : State), s.tb.count % 64 = 0 → a < (zoneD s z).arrays.length → (arrD s z a).sw = .pending → (arrD s z a).sched = false → (arrD s z a).kr + 10000 * (zoneD s z).cfg.swait ≤ s.tb.count → winNow s z a s.tb.count = none → exec (.setWaitExpiry z a) s = .next (modZone s z fun zn => zn.deny a s.su.readyEver)) ∧
  (∀ (zn : Zone) (a : Nat) (b : Bool), a < zn.arrays.length → ((zn.deny a b).arrays.getD a {}).gnt = zn.ready ∧ ((zn.deny a b).arrays.getD a {}).gntDur = 0 ∧ ((zn.deny a b).arrays.getD a {}).sw = .idle ∧
    ((zn.deny a b).arrays.getD a {}).sched = false ∧ (zn.deny a b).swDenied = (if b then min 0xFFFF (zn.swDenied + 1) else zn.swDenied) ∧ (zn.deny a b).swSeen.getLsbD 1 = true ∧ (zn.deny a b).tiles = zn.tiles) ∧
  (∀ (z a : Nat) (s : State), a < (zoneD s z).arrays.length → (arrD s z a).sched = true → (arrD s z a).sw = .armed → (arrD s z a).w = s.tb.count → (arrD s z a).setAt s.tb.count = true → ∃ t, exec (.windowStart z a) s = .next t ∧ (arrD t z a).sw = .open_ ∧ (arrD t z a).gnt = (zoneD s z).ready ∧ (arrD t z a).gntDur = (if (zoneD s z).ready then (arrD s z a).g else 0) ∧
    (arrD t z a).watch = true ∧ (zoneD t z).swGranted = (if s.su.readyEver then min 0xFFFF ((zoneD s z).swGranted + 1) else (zoneD s z).swGranted) ∧
    (zoneD t z).tiles = ((zoneD s z).tiles.map fun x => x.quietAt s.tb.count) ∧ { t with zones := s.zones } = s) ∧
  (∀ (x : Tile) (k e : Nat), x.st = .reg → x.win = some { w := k, e } → (x.quietAt k).st = .quiet ∧ (∀ b ∈ (x.quietAt k).phRun, b = false) ∧ (∀ b ∈ (x.quietAt k).low, b = false)) ∧
  (∀ (x : Tile) (k : Nat), x.st ≠ .reg ∨ (∀ y ∈ x.win, y.w ≠ k) → x.quietAt k = x) ∧
  (∀ (z a : Nat) (s : State), a < (zoneD s z).arrays.length → (arrD s z a).sw = .open_ → (arrD s z a).w + 20 * (arrD s z a).g ≤ s.tb.count → exec (.windowEnd z a) s = .next (modArr (modZone s z fun zn => { zn with tiles := zn.tiles.map fun x => x.windowOver s.tb.count (zoneVmax s z) }) z a fun x => { x with sw := .idle })) ∧
  (∀ (x : Tile) (k v w e : Nat), x.win = some { w, e } → e ≤ k → x.st = .quiet → (x.windowOver k v).st = .reg ∧ (x.windowOver k v).win = none ∧ (x.windowOver k v).boosted = false)

/-- FLT_REQ_WRITE since READY: TARGET 0 to 4 sets TARGET and COMMIT; TARGET 0 (OFF) in a zone with arrays sets RETAIN with a
NOTE 0x01, and TARGET 5 to 7 leaves the state with a NOTE 0x01. PUP_DEFER_EXPIRY: a ramp still deferred 2 ms after its target starts now at a
quarter of PUP_SLEW, at least 1, and the zone shows SLOWED with a NOTE 0x14. ZONE_RAMP_DONE: a started ramp with 64 samples in a row within
10 mV sets the state the zone enters at its next sample instant, RETAIN or MIST. ZONE_RAMP_TIMEOUT: a start-up or started ramp 5.0 ms old
that has not arrived reports 0x1A at ZONE-SAFE. ZONE_RUN_EXIT_DONE: after 16 samples at issue code 0 a zone leaving RUN is in MIST.
(R101, R175, R183). -/
def Obligations.ZoneTargetAndRampRows : Prop :=
  (∀ (z : Nat) (w : W32) (s : State), (s.su.cond = .run ∨ s.su.cond = .safe) → s.su.readyEver = true → z < s.zones.length → w.toNat % 8 < 5 → ¬((zoneD s z).arrays ≠ [] ∧ w.toNat % 8 = 0) → exec (.fltReqWrite z w) s = .next (modZone s z fun zn => { zn with target := w.toNat % 8, commit := w.getLsbD 8, gateFailed := false })) ∧
  (∀ (z : Nat) (w : W32) (s : State), (s.su.cond = .run ∨ s.su.cond = .safe) → s.su.readyEver = true → z < s.zones.length → (zoneD s z).arrays ≠ [] → w.toNat % 8 = 0 → exec (.fltReqWrite z w) s = .next (note (modZone s z fun zn => { zn with target := 1, commit := w.getLsbD 8, gateFailed := false }) 0x01 0)) ∧
  (∀ (z : Nat) (w : W32) (s : State), (s.su.cond = .run ∨ s.su.cond = .safe) → s.su.readyEver = true → z < s.zones.length → 5 ≤ w.toNat % 8 → exec (.fltReqWrite z w) s = .next (note s 0x01 0)) ∧
  (∀ (z : Nat) (r : ZRamp) (s : State), z < s.zones.length → s.su.readyEver = true → (zoneD s z).ramp = some r → r.started = none → r.startup = false → r.r + 2000000 ≤ s.tb.count → ∃ t, exec (.pupDeferExpiry z) s = .next t ∧ (zoneD t z).ramp = some { r with started := some s.tb.count, slew := max 1 ((zoneD s z).cfg.pupSlew / 4) } ∧
    (zoneD t z).slowed = true ∧ (zoneD t z).deferred = false ∧ (zoneD t z).st = (zoneD s z).st ∧ (zoneD t z).tiles = (zoneD s z).tiles ∧
    (∃ r ∈ t.snag.inbox, r.code = 0x14 ∧ r.unit = z ∧ r.cls = .note ∧ r.stamp = s.tb.count) ∧ { t with zones := s.zones, snag := s.snag } = s) ∧
  (∀ (z : Nat) (r : ZRamp) (s : State), z < s.zones.length → (zoneD s z).ramp = some r → r.started ≠ none → 64 ≤ r.within → exec (.zoneRampDone z) s = .next (modZone s z fun zn => { zn with nextSt := some (if r.toRetain then .retain else .mist) })) ∧
  (∀ (z k : Nat) (r : ZRamp) (s : State), z < s.zones.length → (zoneD s z).ramp = some r → (zoneD s z).nextSt = none → (r.startup = false ∧ r.started = some k ∨ r.startup = true ∧ s.su.stageAt = k) → k + 5000000 ≤ s.tb.count → exec (.zoneRampTimeout z) s = .next (report s 0x1A z .zoneSafe)) ∧
  (∀ (z n : Nat) (s : State), z < s.zones.length → (zoneD s z).st = .run → (zoneD s z).exitCnt = some n → 16 ≤ n → ∃ t, exec (.zoneRunExitDone z) s = .next t ∧ (zoneD t z).st = .mist ∧ (zoneD t z).exitCnt = none ∧ (zoneD t z).tiles = (zoneD s z).tiles ∧
    (zoneD t z).target = (zoneD s z).target ∧ { t with zones := s.zones } = s)

/-- ZONE_GATE_TIMEOUT: a gating walk 100 µs old without every acknowledgement leaves the zone's state, ends, and sets GATE_TIMEOUT with a
NOTE 0x14. HOLD_TIMEOUT: HOLD 2 ms old ends in MIST, copies no table, clears COMMIT, sets HOLD_ABORT and makes a NOTE 0x14. GATE_ACK: the
pin's level is recorded, with its stamp when it changes. GATE_ACK_LATE: a gate in RUN unacknowledged for 100 µs sets GATE_LATE_SEEN with a
NOTE 0x3A. FLT_TBL_DATA_ACCESS: a read answers the entry FLT_TBL_ADDR names and steps the index; a write changes the shadow bank in HOLD,
elsewhere it is refused with a NOTE 0x14, and no write changes the active bank. FLOAT_TABLE_ECC_ERROR: a corrected error sets
TBL_CORRECTED; an uncorrectable one asserts 0x13 at ZONE-SAFE for the active bank and is a NOTE 0x14 for the shadow bank, all of whose words
must be rewritten. (R169, R170, R175, R176, R317). -/
def Obligations.HoldGatesAndFloatTables : Prop :=
  (∀ (z g : Nat) (s : State), z < s.zones.length → (zoneD s z).gateAt = some g → g + 100000 ≤ s.tb.count → ∃ t, exec (.zoneGateTimeout z) s = .next t ∧ (zoneD t z).gateAt = none ∧ (zoneD t z).gateFailed = true ∧ (zoneD t z).st = (zoneD s z).st ∧
    (zoneD t z).status = (zoneD s z).status ||| 32 ∧ (zoneD t z).tiles = (zoneD s z).tiles ∧ (∃ r ∈ t.snag.inbox, r.code = 0x14 ∧ r.unit = z ∧ r.cls = .note ∧ r.stamp = s.tb.count) ∧ { t with zones := s.zones, snag := s.snag } = s) ∧
  (∀ (z h : Nat) (s : State), z < s.zones.length → (zoneD s z).st = .hold → (zoneD s z).holdAt = some h → h + 2000000 ≤ s.tb.count → ∃ t, exec (.holdTimeout z) s = .next t ∧ (zoneD t z).st = .mist ∧ (zoneD t z).holdAt = none ∧ (zoneD t z).commit = false ∧ (zoneD t z).status = (zoneD s z).status ||| 4 ∧
    (zoneD t z).active = (zoneD s z).active ∧ (zoneD t z).shadow = (zoneD s z).shadow ∧ (zoneD t z).tiles = (zoneD s z).tiles ∧ (∃ r ∈ t.snag.inbox, r.code = 0x14 ∧ r.unit = z ∧ r.cls = .note ∧ r.stamp = s.tb.count) ∧
    { t with zones := s.zones, snag := s.snag } = s) ∧
  (∀ (z a : Nat) (l : Bool) (s : State), a < (zoneD s z).arrays.length → exec (.gateAck z a l) s = .next (modArr s z a fun x => if x.gateAck = l then x else { x with gateAck := l, gateAckAt := s.tb.count })) ∧
  (∀ (z a : Nat) (s : State), a < (zoneD s z).arrays.length → (zoneD s z).st = .run → (zoneD s z).gateRun a = true → (arrD s z a).gateReq = true → (arrD s z a).gateAck = false → (arrD s z a).gateReqAt + 100000 ≤ s.tb.count → exec (.gateAckLate z a) s = .next (note { s with caps := { s.caps with status := s.caps.status ||| 32 } } 0x3A 0)) ∧
  (∀ (z : Nat) (s : State), (s.su.cond = .run ∨ s.su.cond = .safe) → s.su.readyEver = true → z < s.zones.length → exec (.fltTblDataAccess z none) s = .next { modZone s z Zone.tblNext with rp := { s.rp with rdata := (zoneD s z).tblRead } }) ∧
  (∀ (z : Nat) (w : W32) (s : State), (s.su.cond = .run ∨ s.su.cond = .safe) → s.su.readyEver = true → z < s.zones.length → (zoneD s z).tblBank = true → (zoneD s z).st = .hold → ∃ t, exec (.fltTblDataAccess z (some w)) s = .next t ∧ (zoneD t z).shadow = (zoneD s z).shadow.put (zoneD s z).tblTable (zoneD s z).tblIndex w ∧
    (zoneD t z).active = (zoneD s z).active ∧ (zoneD t z).tblAddr = (zoneD s z).tblNext.tblAddr ∧ { t with zones := s.zones } = s) ∧
  (∀ (z : Nat) (w : W32) (s : State), (s.su.cond = .run ∨ s.su.cond = .safe) → s.su.readyEver = true → z < s.zones.length → (zoneD s z).tblBank = true → (zoneD s z).tblTable < 3 → (zoneD s z).st ≠ .hold → ∃ t, exec (.fltTblDataAccess z (some w)) s = .next t ∧ (zoneD t z).shadow = (zoneD s z).shadow ∧ (zoneD t z).active = (zoneD s z).active ∧
    (∃ r ∈ t.snag.inbox, r.code = 0x14 ∧ r.unit = z ∧ r.cls = .note ∧ r.stamp = s.tb.count) ∧ { t with zones := s.zones, snag := s.snag } = s) ∧
  (∀ (z : Nat) (w : W32) (s : State), (s.su.cond = .run ∨ s.su.cond = .safe) → s.su.readyEver = true → z < s.zones.length → (zoneD s z).tblBank = false → exec (.fltTblDataAccess z (some w)) s = .next (modZone s z Zone.tblNext)) ∧
  (∀ (z : Nat) (b : Bool) (s : State), z < s.zones.length → exec (.floatTableEccError z b true) s = .next (modZone s z fun zn => { zn with status := zn.status ||| 64 })) ∧
  (∀ (z : Nat) (s : State), z < s.zones.length → exec (.floatTableEccError z false false) s = .next (assertCond s 0x13 z .zoneSafe)) ∧
  (∀ (z : Nat) (s : State), z < s.zones.length → ∃ t, exec (.floatTableEccError z true false) s = .next t ∧
    (∀ i < (zoneD s z).shadow.gain.length, (0, i) ∈ (zoneD t z).shadowBad) ∧ (∀ i < (zoneD s z).shadow.spatial.length, (1, i) ∈ (zoneD t z).shadowBad) ∧
    (∀ i < (zoneD s z).shadow.step.length, (2, i) ∈ (zoneD t z).shadowBad) ∧ (zoneD t z).st = (zoneD s z).st ∧
    (∃ r ∈ t.snag.inbox, r.code = 0x14 ∧ r.unit = z ∧ r.cls = .note ∧ r.stamp = s.tb.count) ∧ { t with zones := s.zones, snag := s.snag } = s)

/-- ZONE_STROBE_LOSS: a Float that misses two strobes takes its zone to SAFE on its own: the zone is held for SAFE, entered at its next
sample instant, and 0x19 is asserted at ZONE-SAFE; entering SAFE commands RUN = 0 at every tile, ends the ramp, drops the commands waiting, and the
outputs driven then hold STRETCH_REQ high with ZONE_READY low.
ZONE_SYNC_LOST: a zone generator with no SYNC_IN edge for 4 periods of the frequency at which it locked, or with MULT times the frequency
outside 60 MHz to 160 MHz, shows SYNC_LOST and asserts 0x18 with DEGRADE. ZONE_SYNC_RELOCK: SYNC_IN back within range shows LOCK at that
period, clears SYNC_LOST and ends 0x18. THR_ACK_TOGGLE: the pin's level is inverted and the toggle stamped. (R134, R340, R385, R175). -/
def Obligations.StrobeSyncAndThrottleAcknowledge : Prop :=
  (∀ (z : Nat) (s : State), s.su.cond = .run → z < s.zones.length → s.su.grid = true → (zoneD s z).st ≠ .safe → (zoneD s z).halted = false → exec (.zoneStrobeLoss z) s = .next (assertCond (modZone s z fun zn => { zn with snagSafe := true, safeDue := true }) 0x19 z .zoneSafe)) ∧
  (∀ (z : Nat) (s : State), z < s.zones.length → (zoneD s z).safeDue = true → (zoneD (enterZoneSafe s z) z).st = .safe ∧ (zoneD (enterZoneSafe s z) z).law.cmds = [] ∧ (zoneD (enterZoneSafe s z) z).ramp = none ∧ (∀ x ∈ (zoneD (enterZoneSafe s z) z).tiles, x.cmd.run = false)) ∧
  (∀ (zn : Zone) (k : Nat) (r b : Bool), zn.st = .safe → (zn.drive k r b).ready = false ∧ (zn.drive k r b).sft.hold = true) ∧
  (∀ (z : Nat) (i : SyncIn) (s : State), z < s.zones.length → (zoneD s z).syncLock = true → (zoneD s z).syncLost = false → (4 * (zoneD s z).syncPer ≤ i.since ∨ 160 * i.period < (zoneD s z).cfg.mult * 1000000 ∨ (zoneD s z).cfg.mult * 1000000 < 60 * i.period) → exec (.zoneSyncLost z i) s = .next (assertCond (modZone s z fun zn => { zn with syncLost := true, syncLostSeen := true }) 0x18 z .degrade)) ∧
  (∀ (z : Nat) (i : SyncIn) (s : State), z < s.zones.length → i.since < 4 * i.period → 60 * i.period ≤ (zoneD s z).cfg.mult * 1000000 → (zoneD s z).cfg.mult * 1000000 ≤ 160 * i.period → exec (.zoneSyncRelock z i) s = .next (deassertCond (modZone s z fun zn => { zn with syncLock := true, syncLost := false, syncPer := i.period }) 0x18 z)) ∧
  (∀ (s : State), (s.su.cond = .run ∨ s.su.cond = .safe) → exec .thrAckToggle s = .next { s with pins := { s.pins with thrAck := !s.pins.thrAck }, thm := { s.thm with ackAt := some s.tb.count } })

/-- TILE_TEMP_RESULT: a result of a tile outside TEST becomes its trimmed T, stamped now; while no zone is on the 1 ms grid, two
results in a row at or above TSHUT assert the CRITICAL source 0x44 with HALT and a latch for that zone, and a first one does not. The same
second result acts from the end of step 2, before an image has named the tiles' registers. In TEST the result is undefined: the tile shows a
free value (the model's choice, log 9), and no comparison is made. TILE_AGE_RESULT: a completed ageing measurement replaces AGE.
AGEING_UPDATE: it never lowers the logged value of an array nor raises its f_eff, and changes nothing else where none rose.
(R109, R150, R286, R330, R345, 95_what_each_step_holds.md). -/
def Obligations.TileTemperatureAndAgeing : Prop :=
  (∀ (z t : Nat) (raw : Int) (s : State), t < (zoneD s z).tiles.length → (s.su.cond = .run ∨ s.su.cond = .safe) → (tileD s z t).st ≠ .test → s.su.grid = false → (trimT (tileD s z t).fac (tileD s z t).usr raw < 8 * (s.fus.shadow.tshut : Int)) → ∃ u, exec (.tileTempResult z t raw) s = .next u ∧ (tileD u z t).t = trimT (tileD s z t).fac (tileD s z t).usr raw ∧ (tileD u z t).tAt = some s.tb.count ∧
    (tileD u z t).hotBefore = false ∧ (tileD u z t).v = (tileD s z t).v ∧ u.zones.length = s.zones.length ∧ { u with zones := s.zones } = s) ∧
  (∀ (z t : Nat) (raw : Int) (s : State), z < s.zones.length → t < (zoneD s z).tiles.length → (s.su.cond = .run ∨ s.su.cond = .safe) → (tileD s z t).st ≠ .test → s.su.grid = false → (8 * (s.fus.shadow.tshut : Int) ≤ trimT (tileD s z t).fac (tileD s z t).usr raw) → (tileD s z t).hotBefore = true → (0x44, z) ∉ s.snag.conds → ∃ u, exec (.tileTempResult z t raw) s = .next u ∧ (tileD u z t).t = trimT (tileD s z t).fac (tileD s z t).usr raw ∧ (0x44, z) ∈ u.snag.conds ∧
    (∃ r ∈ u.snag.inbox, r.code = 0x44 ∧ r.unit = z ∧ r.cls = .halt ∧ r.latch = true ∧ r.stamp = s.tb.count) ∧
    { u with zones := s.zones, snag := s.snag } = s) ∧
  (∀ (z t : Nat) (raw : Int) (s : State), z < s.zones.length → t < (zoneD s z).tiles.length → (s.su.cond = .run ∨ s.su.cond = .safe) → (tileD s z t).st ≠ .test → s.su.grid = false → (8 * (s.fus.shadow.tshut : Int) ≤ trimT (tileD s z t).fac (tileD s z t).usr raw) → (tileD s z t).hotBefore = false → ∃ u, exec (.tileTempResult z t raw) s = .next u ∧ (tileD u z t).t = trimT (tileD s z t).fac (tileD s z t).usr raw ∧ (tileD u z t).hotBefore = true ∧
    u.snag = s.snag) ∧
  (∀ (z t : Nat) (raw : Int) (s : State), s.zones = [] → (s.su.cond = .run ∨ s.su.cond = .safe) → s.su.fusesDone = true → s.su.lockDone = true → t < s.su.zoneTiles.getD z 0 → (z, t) ∈ s.su.hotTiles → 8 * (s.fus.shadow.tshut : Int) ≤ bareResult s z t raw → (0x44, z) ∉ s.snag.conds → ∃ u, exec (.tileTempResult z t raw) s = .next u ∧ (0x44, z) ∈ u.snag.conds ∧
    (∃ r ∈ u.snag.inbox, r.code = 0x44 ∧ r.unit = z ∧ r.cls = .halt ∧ r.latch = true ∧ r.stamp = s.tb.count) ∧ { u with snag := s.snag } = s) ∧
  (∀ (z t : Nat) (raw : Int) (s : State), s.zones = [] → (s.su.cond = .run ∨ s.su.cond = .safe) → s.su.fusesDone = true → s.su.lockDone = true → t < s.su.zoneTiles.getD z 0 → (z, t) ∉ s.su.hotTiles → 8 * (s.fus.shadow.tshut : Int) ≤ bareResult s z t raw → exec (.tileTempResult z t raw) s = .next { s with su := { s.su with hotTiles := (z, t) :: s.su.hotTiles } }) ∧
  (∀ (z t : Nat) (raw : Int) (s : State), t < (zoneD s z).tiles.length → (s.su.cond = .run ∨ s.su.cond = .safe) → (tileD s z t).st = .test → exec (.tileTempResult z t raw) s = .next (modTile s z t fun x => { x with
      t := Config.testTemp (gTile s z t) s.tb.count, tAt := some s.tb.count, hotBefore := false, critBefore := false })) ∧
  (∀ (z t age : Nat) (s : State), t < (zoneD s z).tiles.length → age < 65536 → exec (.tileAgeResult z t age) s = .next (modTile s z t fun x => { x with age })) ∧
  (∀ (s : State), (s.su.cond = .run ∨ s.su.cond = .safe) → s.cores.run1 = true → ∃ u, exec .ageingUpdate s = .next u ∧ u.zones = (s.zones.map fun zn => { zn with arrays := zn.arrays.mapIdx zn.ageArr }) ∧
    (u.zones = s.zones → u = s) ∧ { u with zones := s.zones, snag := s.snag, nvm := s.nvm } = s) ∧
  (∀ (zn : Zone) (a : Nat) (x : Arr), x.logged ≤ (zn.ageArr a x).logged ∧ (zn.ageArr a x).feff ≤ x.feff ∧ (zn.ageArr a x).cfg = x.cfg)

/-- TILE_TEST_DONE: at a sample instant a finished test leaves TEST: a pass in the field is recorded with the run time in READY, counts as
done and shows in BST_RESULT. A failure in the field isolates the tile with cause 4, counts, and reports 0x61 with DEGRADE; in step 7 the
tile keeps a mark and the report is a NOTE. TILE_TEST_OVERDUE: a zone with an overdue tile asserts 0x60 with DEGRADE. BST_RUN: in
DEPLOYED it makes a NOTE 0x01 and nothing else; a request while one waits is refused; with READY high in PROVISIONED a driver's request
for a tile waits for its admission, and one for a memory's pass runs. BST_REQUEST_DROP: a tile request not admitted within 1 s is dropped
with REFUSED. (R104, R419, R422, R425, R427, R429, R431, R432). -/
def Obligations.TileTestsAndTheirRequests : Prop :=
  (∀ (z t : Nat) (k : TileTest) (s : State), z < s.zones.length → t < (zoneD s z).tiles.length → (s.su.cond = .run ∨ s.su.cond = .safe) → s.tb.count % 64 = 0 → (tileD s z t).st = .test → (tileD s z t).test = some k → k.abandoned = false → k.startup = false → s.su.readyEver = true → ∃ u, exec (.tileTestDone z t 0) s = .next u ∧ (tileD u z t).st ≠ .test ∧ (tileD u z t).st ≠ .isolated ∧ (tileD u z t).test = none ∧
    (tileD u z t).testLast = 0 ∧ (tileD u z t).testRun = s.snag.runNs ∧ u.bist.done = min 0xFFFF (s.bist.done + 1) ∧ u.bist.failed = s.bist.failed ∧
    u.bist.result = bistWord true false k.req 5 0 (gTile s z t) ∧ (k.req = true → u.bist.req = none) ∧ u.pins = s.pins ∧ u.msf = s.msf) ∧
  (∀ (z t f : Nat) (k : TileTest) (s : State), z < s.zones.length → t < (zoneD s z).tiles.length → (s.su.cond = .run ∨ s.su.cond = .safe) → s.tb.count % 64 = 0 → (tileD s z t).st = .test → (tileD s z t).test = some k → k.abandoned = false → k.startup = false → s.su.readyEver = true → 0 < f → ∃ u, exec (.tileTestDone z t f) s = .next u ∧ (tileD u z t).st = .isolated ∧ (tileD u z t).cause = 4 ∧ (tileD u z t).testLast = 1 ∧ (tileD u z t).testStep = f ∧
    u.bist.failed = min 255 (s.bist.failed + 1) ∧ u.bist.failSeen = true ∧
    (∃ r ∈ u.snag.inbox, r.code = 0x61 ∧ r.unit = gTile s z t ∧ r.cls = .degrade ∧ r.stamp = s.tb.count)) ∧
  (∀ (z t f : Nat) (k : TileTest) (s : State), z < s.zones.length → t < (zoneD s z).tiles.length → (s.su.cond = .run ∨ s.su.cond = .safe) → s.tb.count % 64 = 0 → (tileD s z t).st = .test → (tileD s z t).test = some k → k.abandoned = false → k.startup = true → 0 < f → ∃ u, exec (.tileTestDone z t f) s = .next u ∧ (tileD u z t).st ≠ .isolated ∧ (tileD u z t).bistFail = some f ∧
    (∃ r ∈ u.snag.inbox, r.code = 0x61 ∧ r.unit = gTile s z t ∧ r.cls = .note ∧ r.stamp = s.tb.count)) ∧
  (∀ (z : Nat) (s : State), z < s.zones.length → s.su.readyEver = true → hasOverdue s z = true → exec (.tileTestOverdue z) s = .next (assertCond s 0x60 z .degrade)) ∧
  (∀ (c g : Nat) (s : State), (s.su.cond = .run ∨ s.su.cond = .safe) → s.fus.loaded = true → s.fus.lcRaw = 3 → exec (.bstRun c g) s = .next (note s 0x01 0)) ∧
  (∀ (c g : Nat) (s : State), (s.su.cond = .run ∨ s.su.cond = .safe) → life s ≠ some .deployed → s.bist.req ≠ none → exec (.bstRun c g) s = .next { s with bist := { s.bist with refused := true } }) ∧
  (∀ (g z t : Nat) (s : State), (s.su.cond = .run ∨ s.su.cond = .safe) → life s = some .provisioned → s.bist.req = none → s.pins.ready = true → s.su.stepNo = 9 → ofGTile s g = some (z, t) → exec (.bstRun 5 g) s = .next { s with bist := { s.bist with req := some (5, g, s.tb.count), reqRun := false, reqSlice := 0, refused := false } }) ∧
  (∀ (m : Nat) (s : State), (s.su.cond = .run ∨ s.su.cond = .safe) → life s = some .provisioned → s.bist.req = none → s.pins.ready = true → s.su.stepNo = 9 → m < 5 → exec (.bstRun 1 m) s = .next { s with bist := { s.bist with req := some (1, m, s.tb.count), reqRun := true, reqSlice := 0, refused := false } }) ∧
  (∀ (g a : Nat) (s : State), s.bist.req = some (5, g, a) → s.bist.reqRun = false → a + 1000000000 ≤ s.tb.count → exec .bstRequestDrop s = .next { s with bist := { s.bist with req := none, refused := true } })

/-- MEM_SLICE_TEST: with no slice under test a requested pass begins at once, and with READY high a scheduled test MGAP ms after the last
began. MEM_SLICE_DONE: a scheduled slice that passes counts as done and the pass moves to the next slice, the next memory, or the start. A
failing slice counts, sets FAIL_SEEN and reports 0x61: DEGRADE for one symbol, and for two INSTANCE-SAFE, or ZONE-SAFE for a Float table.
(R422, R426, R431, R432). -/
def Obligations.MemorySliceTests : Prop :=
  (∀ (s : State), s.su.cond = .run → s.bist.sliceRun = false → memReq s = none → s.pins.ready = true → s.bist.sliceAt + 1000000 * max 1 s.bist.cfg.mgap ≤ s.tb.count → exec .memSliceTest s = .next { s with bist := { s.bist with sliceRun := true, sliceAt := s.tb.count } }) ∧
  (∀ (m : Nat) (s : State), s.su.cond = .run → s.bist.sliceRun = false → memReq s = some m → exec .memSliceTest s = .next { s with bist := { s.bist with sliceRun := true } }) ∧
  (∀ (s : State), s.bist.sliceRun = true → memReq s = none → s.su.readyEver = true → ∃ t, exec (.memSliceDone false false) s = .next t ∧ t.bist.sliceRun = false ∧ t.bist.done = min 0xFFFF (s.bist.done + 1) ∧ t.bist.failed = s.bist.failed ∧
    t.bist.fails = s.bist.fails ∧
    ((t.bist.memNo, t.bist.slice) = if s.bist.slice + 1 < s.bist.cfg.memSlices.getD s.bist.memNo 0 then (s.bist.memNo, s.bist.slice + 1)
      else if s.bist.memNo + 1 < s.bist.cfg.memSlices.length then (s.bist.memNo + 1, 0) else (0, 0)) ∧ { t with bist := s.bist } = s) ∧
  (∀ (one two : Bool) (s : State), s.bist.sliceRun = true → memReq s = none → s.su.readyEver = true → (one || two) = true → ∃ t, exec (.memSliceDone one two) s = .next t ∧ t.bist.sliceRun = false ∧ t.bist.failSeen = true ∧ t.bist.fails = min 255 (s.bist.fails + 1) ∧
    t.bist.failed = min 255 (s.bist.failed + 1) ∧
    (∃ r ∈ t.snag.inbox, r.code = 0x61 ∧ r.stamp = s.tb.count ∧ r.unit = (if s.bist.memNo = 2 then s.bist.slice else 0) ∧
      r.cls = (if !two then .degrade else if s.bist.memNo = 2 then .zoneSafe else .instSafe)) ∧ { t with bist := s.bist, snag := s.snag } = s)

/-- MSF_SYNC_LOST: a locked generator with no SYNC_IN edge for 4 periods of the frequency at which it locked, or with SYNC_IN outside 300 kHz to
3 MHz, shows SYNC_LOST and asserts 0x28 with DEGRADE. MSF_SYNC_RELOCK: from the end of step 2, SYNC_IN within range shows LOCK at that period
and ends 0x28. VSET_IN_SAMPLE: an average of 64 samples of 100 mV or more sets the value 1,500 mV plus half of the average above 200 mV,
rounded to 1 mV, and the target follows within its range; four periods with duties of 5% to 95% that agree within 2 mV set the mean of
1,500 mV + (D - 10%) × 6.25 mV per percent, rounded to 1 mV; an average below 100 mV and a duty out of range leave the value and are
stamped. VSET_IN_LOST: 1 ms of averages below 100 mV, a duty out of range or 250 µs without an edge lose VSET_IN, and the target is held.
VSET_FALLBACK: 1 ms later the target is VIM_SET limited to its range, with VSET_LOST and a NOTE 0x29. VSET_IN_RETURN: after 1 ms of valid
input the target follows VSET_IN again. MSF_VSET_WRITE since READY: VIM_SET and SLEW are saturated, with a NOTE 0x01 where they change; they
act at once, and in HICCUP and LATCHED the values in force stand. (R185, R186, R191, R192, R193, R194, R196). -/
def Obligations.MsfSetPointSources : Prop :=
  (∀ (i : SyncIn) (s : State), s.su.cond = .run → s.msf.lock = true → s.msf.syncLost = false → (4 * s.msf.syncPer ≤ i.since ∨ 1000000000000 < 300000 * i.period ∨ 3000000 * i.period < 1000000000000) → exec (.msfSyncLost i) s = .next (assertCond { s with msf := { s.msf with syncLost := true, status := s.msf.status ||| 2 } } 0x28 0 .degrade)) ∧
  (∀ (i : SyncIn) (s : State), s.su.cond = .run → 3 ≤ s.su.stepNo → i.since < 4 * i.period → 300000 * i.period ≤ 1000000000000 → 1000000000000 ≤ 3000000 * i.period → exec (.msfSyncRelock i) s = .next (deassertCond { s with msf := { s.msf with
    lock := true, syncLost := false, syncPer := i.period, chans := s.msf.chans.mapIdx fun k c => { c with tap := (s.msf.chanTap k + i.shift) % 1024 } } } 0x28 0)) ∧
  (∀ (mvs : List Nat) (ps : List (Nat × Nat)) (s : State), s.su.cond = .run → s.msf.cfg.src = 1 → mvs.length = 64 → 6400 ≤ sumN mvs → s.msf.vsetFallen = false → s.msf.vsetLostAt = none → ∃ t, exec (.vsetInSample mvs ps) s = .next t ∧ t.msf.vsetVal = some ((179264 + sumN mvs) / 128) ∧
    t.msf.tgt = clampN s.msf.cfg.vimMin s.msf.cfg.vimMax ((179264 + sumN mvs) / 128) ∧ t.msf.vimSetIn = s.msf.vimSetIn ∧ { t with msf := s.msf } = s) ∧
  (∀ (mvs : List Nat) (ps : List (Nat × Nat)) (v : Nat) (s : State), s.su.cond = .run → s.msf.cfg.src = 2 → (∀ p ∈ ps, dutyOk p = true) → vsetPulse ps = some v → s.msf.vsetFallen = false → s.msf.vsetLostAt = none → ∃ t, exec (.vsetInSample mvs ps) s = .next t ∧ t.msf.vsetVal = some v ∧
    t.msf.tgt = clampN s.msf.cfg.vimMin s.msf.cfg.vimMax v ∧ t.msf.vsetEdgeAt = some s.tb.count ∧ { t with msf := s.msf } = s) ∧
  (∀ (p a b c d : Nat), 0 < p → (∀ x ∈ [a, b, c, d], ∀ y ∈ [a, b, c, d], 625 * x ≤ 625 * y + 2 * p) → vsetPulse [(p, a), (p, b), (p, c), (p, d)] = some (1438 + 625 * (a + b + c + d) / (4 * p))) ∧
  (∀ (mvs : List Nat) (ps : List (Nat × Nat)) (s : State), s.su.cond = .run → s.msf.cfg.src = 1 → mvs.length = 64 → sumN mvs < 6400 → ∃ t, exec (.vsetInSample mvs ps) s = .next t ∧ t.msf.vsetVal = s.msf.vsetVal ∧ t.msf.vsetLowAt = some (s.msf.vsetLowAt.getD s.tb.count) ∧ t.msf.vsetValidAt = none ∧ { t with msf := s.msf } = s) ∧
  (∀ (mvs : List Nat) (ps : List (Nat × Nat)) (p : Nat × Nat) (s : State), s.su.cond = .run → s.msf.cfg.src = 2 → p ∈ ps → dutyOk p = false → ∃ t, exec (.vsetInSample mvs ps) s = .next t ∧ t.msf.vsetVal = s.msf.vsetVal ∧ t.msf.vsetBadAt = some (s.msf.vsetBadAt.getD s.tb.count) ∧ t.msf.vsetValidAt = none ∧ { t with msf := s.msf } = s) ∧
  (∀ (s : State), s.su.cond = .run → (s.msf.cfg.src = 1 ∧ (∃ k, s.msf.vsetLowAt = some k ∧ k + 1000000 ≤ s.tb.count) ∨ s.msf.cfg.src = 2 ∧ (∃ k, s.msf.vsetBadAt = some k ∧ k ≤ s.tb.count) ∨ s.msf.cfg.src = 2 ∧ s.msf.vsetBadAt = none ∧ (∃ k, s.msf.vsetEdgeAt = some k ∧ k + 250000 ≤ s.tb.count)) → s.msf.vsetLostAt = none → ∃ t, exec .vsetInLost s = .next t ∧ t.msf.vsetLostAt = some s.tb.count ∧ t.msf.vsetValidAt = none ∧
    t.msf.tgt = s.msf.tgtOf ∧ t.msf.tgtOf = t.msf.tgt ∧ { t with msf := s.msf } = s) ∧
  (∀ (k : Nat) (s : State), s.msf.vsetLostAt = some k → k + 1000000 ≤ s.tb.count → s.msf.vsetFallen = false → ∃ t, exec .vsetFallback s = .next t ∧ t.msf.vsetFallen = true ∧ t.msf.tgt = clampN s.msf.cfg.vimMin s.msf.cfg.vimMax s.msf.vimSetIn ∧
    t.msf.status = s.msf.status ||| 128 ∧ (∃ r ∈ t.snag.inbox, r.code = 0x29 ∧ r.unit = 0 ∧ r.cls = .note ∧ r.stamp = s.tb.count) ∧ { t with msf := s.msf, snag := s.snag } = s) ∧
  (∀ (k j : Nat) (s : State), s.msf.vsetLostAt = some k → s.msf.vsetValidAt = some j → j + 1000000 ≤ s.tb.count → (s.msf.cfg.src = 1 ∨ s.msf.cfg.src = 2 ∧ (∀ e ∈ s.msf.vsetEdgeAt, s.tb.count < e + 250000)) → ∃ t, exec .vsetInReturn s = .next t ∧ t.msf.vsetLostAt = none ∧ t.msf.vsetFallen = false ∧
    t.msf.tgt = clampN s.msf.cfg.vimMin s.msf.cfg.vimMax (s.msf.vsetVal.getD s.msf.vimSetIn) ∧ { t with msf := s.msf } = s) ∧
  (∀ (w : W32) (s : State), (s.su.cond = .run ∨ s.su.cond = .safe) → s.su.readyEver = true → s.msf.st ≠ .hiccup → s.msf.st ≠ .latched → s.msf.cfg.vimMin ≤ w.toNat % 2 ^ 12 → w.toNat % 2 ^ 12 ≤ s.msf.cfg.vimMax → 5 ≤ w.toNat / 2 ^ 16 % 2 ^ 9 → w.toNat / 2 ^ 16 % 2 ^ 9 ≤ 50 → ∃ t, exec (.msfVsetWrite w) s = .next t ∧ t.msf.vimSet = w.toNat % 2 ^ 12 ∧ t.msf.slew = w.toNat / 2 ^ 16 % 2 ^ 9 ∧ t.msf.vimSetIn = w.toNat % 2 ^ 12 ∧
    t.msf.slewIn = w.toNat / 2 ^ 16 % 2 ^ 9 ∧ { t with msf := s.msf } = s) ∧
  (∀ (w : W32) (s : State), (s.su.cond = .run ∨ s.su.cond = .safe) → s.su.readyEver = true → (s.msf.st = .hiccup ∨ s.msf.st = .latched) → ∃ t, exec (.msfVsetWrite w) s = .next t ∧ t.msf.vimSet = clampN s.msf.cfg.vimMin s.msf.cfg.vimMax (w.toNat % 2 ^ 12) ∧
    t.msf.slew = clampN 5 50 (w.toNat / 2 ^ 16 % 2 ^ 9) ∧ t.msf.vimSetIn = s.msf.vimSetIn ∧ t.msf.slewIn = s.msf.slewIn ∧
    (clampN 5 50 (w.toNat / 2 ^ 16 % 2 ^ 9) ≠ w.toNat / 2 ^ 16 % 2 ^ 9 ∨ clampN s.msf.cfg.vimMin s.msf.cfg.vimMax (w.toNat % 2 ^ 12) ≠ w.toNat % 2 ^ 12 → (∃ r ∈ t.snag.inbox, r.code = 0x01 ∧ r.unit = 0 ∧ r.cls = .note ∧ r.stamp = s.tb.count)) ∧ { t with msf := s.msf, snag := s.snag } = s)

/-- MSF_SHED_ARM: in RUN, at a boundary of channel 0, a level dn above the present one for SHED_DWELL arms a shed. MSF_SHED_COMMIT: at a channel-0
boundary two periods or more later the level is the armed one, a channel outside it runs to the end of its cycle, and a watch of 32 periods
opens. MSF_WATCH_END: a watch closes at its end. MSF_SHORT: the 64th counting period is a short: the MSF is in HICCUP after the first two
and LATCHED after the third with 0x2C at INSTANCE-SAFE and a latch; every channel stops, PG_OUT falls, and since READY 0x2B is asserted.
MSF_HICCUP_END: 50 ms after a detection HICCUP ends in SOFT. MSF_TRIES_RESET: 1 s in RUN without one resets TRIES. MSF_OVERVOLTAGE: two
consecutive samples above VIM_MAX plus its margin take the MSF to OFF from any state and assert 0x2D. MSF_CHANNEL_EXCLUDE: a channel with
IMON out of range in 16 periods, or tripping in 1,024, is excluded with 0x2E at DEGRADE. (R197, R201, R202, R203, R204, R207). -/
def Obligations.MsfLadderShortsAndProtection : Prop :=
  (∀ (k : Nat) (s : State), s.msf.st = .run → s.msf.dwellAt = some k → s.msf.armed = none → s.msf.level < s.msf.dn → k + 1000 * s.msf.cfg.shedDwell ≤ s.tb.count → s.msf.perAt = some s.tb.count → exec .msfShedArm s = .next { s with msf := { s.msf with armed := some (s.msf.dn, s.msf.per) } }) ∧
  (∀ (l p : Nat) (s : State), s.msf.st = .run → s.msf.armed = some (l, p) → p + 2 ≤ s.msf.per → s.msf.perAt = some s.tb.count → ∃ t, exec .msfShedCommit s = .next t ∧ t.msf.level = l ∧ t.msf.armed = none ∧ t.msf.dwellAt = none ∧ (s.msf.level, l, s.msf.per + 32) ∈ t.msf.watch ∧
    (∀ k < s.msf.chans.length, (t.msf.chans.getD k {}).tail = ((s.msf.chans.getD k {}).on && s.msf.runs k && !s.msf.runsAt l k) ∧ (t.msf.chans.getD k {}).on = (s.msf.chans.getD k {}).on) ∧ { t with msf := s.msf } = s) ∧
  (∀ (s : State), exec .msfWatchEnd s = .next { s with msf := { s.msf with watch := s.msf.watch.filter fun x => s.msf.per < x.2.2 } }) ∧
  (∀ (s : State), s.msf.loop = true → 64 ≤ s.msf.shortCnt → s.msf.tries < 2 → s.su.readyEver = false → ∃ t, exec .msfShort s = .next t ∧ t.msf.st = .hiccup ∧ t.msf.tries = s.msf.tries + 1 ∧ t.msf.shortAt = s.tb.count ∧ t.pins.pgOut = false ∧
    (∀ c ∈ t.msf.chans, c.on = false ∧ c.low = false) ∧ t.msf.status = s.msf.status ||| 8 ∧ t.snag = s.snag ∧ { t with msf := s.msf, pins := { t.pins with pgOut := s.pins.pgOut } } = s) ∧
  (∀ (s : State), s.msf.loop = true → 64 ≤ s.msf.shortCnt → s.su.readyEver = true → ∃ t, exec .msfShort s = .next t ∧ t.msf.st = (if s.msf.tries < 2 then .hiccup else .latched) ∧ t.pins.pgOut = false ∧ (∀ c ∈ t.msf.chans, c.on = false ∧ c.low = false) ∧ (0x2B, 0) ∈ t.snag.conds) ∧
  (∀ (s : State), s.msf.loop = true → 64 ≤ s.msf.shortCnt → s.msf.tries = 2 → (0x2C, 0) ∉ s.snag.conds → ∃ t, exec .msfShort s = .next t ∧ t.msf.st = .latched ∧ t.msf.tries = 3 ∧ t.pins.pgOut = false ∧
    (∃ r ∈ t.snag.inbox, r.code = 0x2C ∧ r.unit = 0 ∧ r.cls = .instSafe ∧ r.latch = true ∧ r.stamp = s.tb.count)) ∧
  (∀ (s : State), s.msf.st = .hiccup → s.msf.shortAt + 50000000 ≤ s.tb.count → ∃ t, exec .msfHiccupEnd s = .next t ∧ t.msf.st = .soft ∧ t.msf.capture = true ∧ t.msf.level = s.msf.cfg.ssStep ∧ t.msf.tries = s.msf.tries ∧ { t with msf := s.msf } = s) ∧
  (∀ (s : State), s.msf.st = .run → max s.msf.stAt s.msf.shortAt + 1000000000 ≤ s.tb.count → exec .msfTriesReset s = .next { s with msf := { s.msf with tries := 0 } }) ∧
  (∀ (m : Msf) (v : Nat), (m.sense v).vsns = min 8191 v ∧ (m.sense v).ovCnt = (if 4 * (m.cfg.vimMax + m.cfg.ovMargin) < min 8191 v then min 2 (m.ovCnt + 1) else 0) ∧ (m.sense v).st = m.st) ∧
  (∀ (s : State), s.su.cond = .run → 2 ≤ s.msf.ovCnt → (0x2D, 0) ∉ s.snag.conds → ∃ t, exec .msfOvervoltage s = .next t ∧ t.msf.st = .off ∧ t.pins.pgOut = false ∧ (0x2D, 0) ∈ t.snag.conds ∧
    (∃ r ∈ t.snag.inbox, r.code = 0x2D ∧ r.unit = 0 ∧ r.cls = .instSafe ∧ r.stamp = s.tb.count) ∧ t.zones = s.zones ∧ t.su = s.su) ∧
  (∀ (k : Nat) (s : State), s.su.cond = .run → k < s.msf.cfg.nch → k < s.msf.chans.length → (16 ≤ (s.msf.chans.getD k {}).bad ∨ 1024 ≤ (s.msf.chans.getD k {}).trips) → (s.msf.chans.getD k {}).excluded = false → (0x2E, k) ∉ s.snag.conds → ∃ t, exec (.msfChannelExclude k) s = .next t ∧ (t.msf.chans.getD k {}).excluded = true ∧ (t.msf.runsAt t.msf.level k) = false ∧ (0x2E, k) ∈ t.snag.conds ∧
    (∃ r ∈ t.snag.inbox, r.code = 0x2E ∧ r.unit = k ∧ r.cls = .degrade ∧ r.stamp = s.tb.count) ∧ { t with msf := s.msf, snag := s.snag } = s)

/-- MSF_CHANNEL_CYCLE: at a channel's turn-on a channel of the level in force runs its cycle: the on-time is at most DMAX of the period and not
under TON_MIN unless ILIMC or DMAX ends it; the measured current comes from IMON at mid on-time; a turn-on at ILIMC is skipped and a
termination at ILIMC ends the on-time, and both are trips; IMON outside 0.3 V to 1.5 V counts toward 16. A channel outside the loop
switches nothing. Channel 0's turn-on also ends a period: it counts toward a short when VIM was low throughout and more than half of the
running channels tripped. The per-channel peak the loop forms lies within ILIMC. PG_FAULT: VSNS outside 5% of vref_q for 10 µs lowers
PG_OUT. PG_RESTORE: VSNS within 2% for 1 ms in RUN raises it. (R187, R188, R190, R202, R204, R206). -/
def Obligations.MsfChannelCycleAndPowerGood : Prop :=
  (∀ (k : Nat) (c : ChanInput) (s : State), s.su.cond = .run → s.su.msfGrid = true → s.msf.loop = true → s.msf.capture = false → 0 < k → 0 < s.msf.per → s.msf.runsAt s.msf.level k = true → exec (.msfChannelCycle k c) s = .next { s with msf := (s.msf.refTo s.tb.count).rerun ((s.msf.refTo s.tb.count).chanCycle k c) }) ∧
  (∀ (k : Nat) (c : ChanInput) (s : State), s.su.cond = .run → s.su.msfGrid = true → s.msf.loop = false → exec (.msfChannelCycle k c) s = .next { s with msf := ({ s.msf with refAt := s.tb.count } : Msf).idleCycle k c }) ∧
  (∀ (m : Msf) (k : Nat) (c : ChanInput), k < m.chans.length → ((m.idleCycle k c).chans.getD k {}).on = false ∧ ((m.idleCycle k c).chans.getD k {}).low = false ∧ (m.idleCycle k c).st = m.st) ∧
  (∀ (c : ChanInput) (s : State), s.su.cond = .run → s.su.msfGrid = true → s.msf.loop = true → s.msf.capture = false → ∃ t, exec (.msfChannelCycle 0 c) s = .next t ∧ t.msf.per = s.msf.per + 1 ∧ t.msf.perAt = some s.tb.count ∧ t.msf.st = s.msf.st ∧
    t.msf.shortCnt = (if 0 < s.msf.per ∧ s.msf.shortPeriod = true then min 64 (s.msf.shortCnt + 1) else 0) ∧ { t with msf := s.msf } = s) ∧
  (∀ (m : Msf), m.shortPeriod = true ↔ m.lowAll = true ∧ 5 * m.vsns < 4 * m.tgt ∧ ((List.range m.cfg.nch).filter m.runs).length < 2 * (((List.range m.cfg.nch).filter m.runs).filter fun k => (m.chans.getD k {}).trip).length) ∧
  (∀ (m : Msf) (k : Nat) (c : ChanInput), k < m.chans.length → imonAt c 0 * 100 < m.ilimcV → ((m.chanCycle k c).chans.getD k {}).onT = (m.onTime c m.ipk).1 ∧ ((m.chanCycle k c).chans.getD k {}).im = m.imonCur (imonAt c ((m.onTime c m.ipk).1 / 2)) ∧
    ((m.chanCycle k c).chans.getD k {}).trip = (m.onTime c m.ipk).2 ∧ ((m.chanCycle k c).chans.getD k {}).trips = (if (m.onTime c m.ipk).2 then min 1024 ((m.chans.getD k {}).trips + 1) else 0) ∧
    ((m.chanCycle k c).chans.getD k {}).bad = (if imonAt c ((m.onTime c m.ipk).1 / 2) < 3000 ∨ 15000 < imonAt c ((m.onTime c m.ipk).1 / 2) then min 16 ((m.chans.getD k {}).bad + 1) else 0) ∧
    (m.chanCycle k c).st = m.st ∧ (m.chanCycle k c).acc = m.acc) ∧
  (∀ (m : Msf) (k : Nat) (c : ChanInput), k < m.chans.length → m.ilimcV ≤ imonAt c 0 * 100 → ((m.chanCycle k c).chans.getD k {}).onT = 0 ∧ ((m.chanCycle k c).chans.getD k {}).trip = true ∧ ((m.chanCycle k c).chans.getD k {}).im = (m.chans.getD k {}).im ∧
    ((m.chanCycle k c).chans.getD k {}).trips = min 1024 ((m.chans.getD k {}).trips + 1)) ∧
  (∀ (m : Msf) (c : ChanInput) (p : Int), (m.onTime c p).1 ≤ m.cfg.dmax * m.syncPer / 100000 ∧ ((m.onTime c p).2 = false → min m.cfg.tonMin (m.cfg.dmax * m.syncPer / 100000) ≤ (m.onTime c p).1)) ∧
  (∀ (m : Msf) (k : Nat), (m.law k).ipkNext ≤ m.cfg.ilimc ∧ (0 ≤ m.lim → ((m.law k).dm : Int) ≤ m.lim) ∧ (m.law k).st = m.st ∧ (m.law k).vrefQ = m.vrefQ) ∧
  (∀ (k : Nat) (s : State), s.msf.outAt = some k → s.pins.pgOut = true → k + 10000 ≤ s.tb.count → exec .pgFault s = .next { s with pins := { s.pins with pgOut := false } }) ∧
  (∀ (k : Nat) (s : State), s.msf.inAt = some k → s.msf.st = .run → s.pins.pgOut = false → k + 1000000 ≤ s.tb.count → exec .pgRestore s = .next { s with pins := { s.pins with pgOut := true } })

/-- SUBMIT_PP, SUBMIT_CB and STEP: while READY is high and fewer than 64 records wait for their context, a naming record is accepted: the
partition of beat 0 keeps it first, stamped now, with the queue, PCX, GEN, SID and operation class of its bits, and with a context where the
directory holds that generation. A submission drops the earlier claims of its queue and SID, and claims the generation it names where there
is one and fewer than 1,024 claims stand. A submission without MARK marks no step. A STEP marks one at SLEAD from now, or is ignored as a
mark with a NOTE 0x0C where one as late was marked, four wait, or REPLAY is set. With 64 records waiting a submission is lost, counted, and
a NOTE 0x0C. While READY is low nothing happens. (R60, R61, R243, R244, R246, R248, R249). -/
def Obligations.ForecastPortNamingRecords : Prop :=
  (∀ (b0 b1 : W64) (b2 : Option W64) (p q x g n : Nat) (s : State), bitsOf b0.toNat 4 4 = p → bitsOf b0.toNat 8 8 = q → bitsOf b0.toNat 16 12 = x → bitsOf b0.toNat 32 16 = g → bitsOf b0.toNat 48 16 = n → s.pins.ready = true → fcpQueued s < 64 → p < s.tb.parts.length → ∃ t r rs, exec (.submitPp b0 b1 b2) s = .next t ∧ (partD t p).recs = r :: rs ∧ r.at_ = s.tb.count ∧ r.queue = q ∧ r.pcx = x ∧ r.gen = g ∧ r.sid = n ∧ r.opclass = bitsOf b0.toNat 28 4 ∧ r.hasCtx = (s.pcx.resolve x g).isSome ∧
    (∀ c ∈ t.pcx.claims, (c ∈ s.pcx.claims ∧ ¬(c.queue = q ∧ c.sid = n)) ∨ (c.queue = q ∧ c.sid = n ∧ c.pcx = x ∧ c.gen = g)) ∧
    ((s.pcx.resolve x g).isSome = true → s.pcx.claims.length < 1024 → ∃ c ∈ t.pcx.claims, c.queue = q ∧ c.sid = n ∧ c.pcx = x ∧ c.gen = g) ∧
    (b1.getLsbD 0 = false → (partD t p).marks = (partD s p).marks) ∧ t.zones = s.zones ∧ t.msf = s.msf ∧ t.pins = s.pins ∧ t.tb.count = s.tb.count ∧ t.caps = s.caps) ∧
  (∀ (b0 b1 : W64) (b2 : Option W64) (p q x g n : Nat) (s : State), bitsOf b0.toNat 4 4 = p → bitsOf b0.toNat 8 8 = q → bitsOf b0.toNat 16 12 = x → bitsOf b0.toNat 32 16 = g → bitsOf b0.toNat 48 16 = n → s.pins.ready = true → fcpQueued s < 64 → p < s.tb.parts.length → ∃ t r rs, exec (.submitCb b0 b1 b2) s = .next t ∧ (partD t p).recs = r :: rs ∧ r.at_ = s.tb.count ∧ r.queue = q ∧ r.pcx = x ∧ r.gen = g ∧ r.sid = n ∧ r.opclass = bitsOf b0.toNat 28 4 ∧ r.hasCtx = (s.pcx.resolve x g).isSome ∧
    (∀ c ∈ t.pcx.claims, (c ∈ s.pcx.claims ∧ ¬(c.queue = q ∧ c.sid = n)) ∨ (c.queue = q ∧ c.sid = n ∧ c.pcx = x ∧ c.gen = g)) ∧
    ((s.pcx.resolve x g).isSome = true → s.pcx.claims.length < 1024 → ∃ c ∈ t.pcx.claims, c.queue = q ∧ c.sid = n ∧ c.pcx = x ∧ c.gen = g) ∧
    (b1.getLsbD 0 = false → (partD t p).marks = (partD s p).marks) ∧ t.zones = s.zones ∧ t.msf = s.msf ∧ t.pins = s.pins ∧ t.tb.count = s.tb.count ∧ t.caps = s.caps) ∧
  (∀ (b0 b1 : W64) (p q x g n : Nat) (s : State), bitsOf b0.toNat 4 4 = p → bitsOf b0.toNat 8 8 = q → bitsOf b0.toNat 16 12 = x → bitsOf b0.toNat 32 16 = g → bitsOf b0.toNat 48 16 = n → s.pins.ready = true → fcpQueued s < 64 → p < s.tb.parts.length → ∃ t r rs, exec (.step b0 b1) s = .next t ∧ (partD t p).recs = r :: rs ∧ r.at_ = s.tb.count ∧ r.queue = q ∧ r.pcx = x ∧ r.gen = g ∧ r.sid = n ∧ r.opclass = bitsOf b0.toNat 28 4 ∧ r.hasCtx = (s.pcx.resolve x g).isSome ∧
    (b1.getLsbD 1 = false → (∀ l, (partD s p).latestMark = some l → l < s.tb.count + b1.toNat / 2 ^ 2 % 2 ^ 16) → (partD s p).marks.length < 4 →
      (partD t p).latestMark = some (s.tb.count + b1.toNat / 2 ^ 2 % 2 ^ 16) ∧ (partD t p).marks.length = (partD s p).marks.length + 1) ∧
    (b1.getLsbD 1 = true ∨ 4 ≤ (partD s p).marks.length ∨ (∃ l, (partD s p).latestMark = some l ∧ s.tb.count + b1.toNat / 2 ^ 2 % 2 ^ 16 ≤ l) →
      (partD t p).marks = (partD s p).marks ∧ (∃ y ∈ t.snag.inbox, y.code = 0x0C ∧ y.cls = .note ∧ y.stamp = s.tb.count)) ∧ t.zones = s.zones ∧ t.msf = s.msf ∧ t.pins = s.pins ∧ t.tb.count = s.tb.count ∧ t.caps = s.caps) ∧
  (∀ (b0 b1 : W64) (s : State), s.pins.ready = true → bitsOf b0.toNat 4 4 < s.tb.parts.length → 64 ≤ fcpQueued s → b1.getLsbD 0 = false → ∃ t, exec (.submitPp b0 b1 none) s = .next t ∧ t.tb = s.tb ∧ t.pcx.claims = s.pcx.claims ∧ t.pcx.fcpLost = min 0xFFFF (s.pcx.fcpLost + 1) ∧
    (∃ r ∈ t.snag.inbox, r.code = 0x0C ∧ r.cls = .note ∧ r.stamp = s.tb.count)) ∧
  (∀ (b0 b1 : W64) (s : State), s.pins.ready = true → bitsOf b0.toNat 4 4 < s.tb.parts.length → 64 ≤ fcpQueued s → b1.getLsbD 0 = false → ∃ t, exec (.submitCb b0 b1 none) s = .next t ∧ t.tb = s.tb ∧ t.pcx.claims = s.pcx.claims ∧ t.pcx.fcpLost = min 0xFFFF (s.pcx.fcpLost + 1) ∧
    (∃ r ∈ t.snag.inbox, r.code = 0x0C ∧ r.cls = .note ∧ r.stamp = s.tb.count)) ∧
  (∀ (b0 b1 : W64) (b2 : Option W64) (s : State), s.pins.ready = false → exec (.submitPp b0 b1 b2) s = .next s ∧ exec (.submitCb b0 b1 b2) s = .next s ∧ exec (.step b0 b1) s = .next s)

/-- DONE releases exactly the claims and ends exactly the leases of its queue and submission; DONE_LAST does the same and ends the hints of
its queue. PREEMPT suspends the active leases of its queue with the time they have left, and makes the hint of the queue pending in its
partition for SPILL_DUR. RESUME of a queue with a pending hint or a suspended lease leaves no suspended lease of it and no hint; with
neither it is a NOTE 0x0C. HINT_EXPIRY: a hint at its end stops pending. MALFORMED_RECORD: a record of an unknown type or beat count is
counted, flagged and a NOTE 0x0C, and does nothing else. (R242, R249, R261, R262, R264). -/
def Obligations.ForecastPortDonePreemptResume : Prop :=
  (∀ (b0 : W64) (s : State), s.pins.ready = true → fcpQueued s < 64 → ∃ t, exec (.done b0) s = .next t ∧ t.pcx.claims = (s.pcx.claims.filter fun c => !(c.queue = (b0.toNat / 2 ^ 8 % 2 ^ 8) && c.sid = (b0.toNat / 2 ^ 48 % 2 ^ 16))) ∧
    t.pcx.leases = (s.pcx.leases.filter fun l => !(l.queue = (b0.toNat / 2 ^ 8 % 2 ^ 8) && l.sid = (b0.toNat / 2 ^ 48 % 2 ^ 16))) ∧ { t with pcx := s.pcx } = s) ∧
  (∀ (b0 : W64) (s : State), s.pins.ready = true → fcpQueued s < 64 → ∃ t, exec (.doneLast b0) s = .next t ∧ t.pcx.claims = (s.pcx.claims.filter fun c => !(c.queue = (b0.toNat / 2 ^ 8 % 2 ^ 8) && c.sid = (b0.toNat / 2 ^ 48 % 2 ^ 16))) ∧
    t.pcx.leases = (s.pcx.leases.filter fun l => !(l.queue = (b0.toNat / 2 ^ 8 % 2 ^ 8) && l.sid = (b0.toNat / 2 ^ 48 % 2 ^ 16))) ∧ t.tb = { s.tb with parts := (s.tb.parts.map fun p => { p with hints := p.hints.filter fun h => h.1 ≠ (b0.toNat / 2 ^ 8 % 2 ^ 8) }) } ∧ { t with pcx := s.pcx, tb := s.tb } = s) ∧
  (∀ (b0 : W64) (s : State), s.pins.ready = true → fcpQueued s < 64 → b0.toNat / 2 ^ 4 % 2 ^ 4 < s.tb.parts.length → ∃ t, exec (.preempt b0) s = .next t ∧ (partD t (b0.toNat / 2 ^ 4 % 2 ^ 4)).hints = ((b0.toNat / 2 ^ 8 % 2 ^ 8), s.tb.count + 1000 * s.pcx.cfg.spillDur.getD (b0.toNat / 2 ^ 4 % 2 ^ 4) 0) ::
      ((partD s (b0.toNat / 2 ^ 4 % 2 ^ 4)).hints.filter fun h => h.1 ≠ (b0.toNat / 2 ^ 8 % 2 ^ 8)) ∧
    t.pcx.leases = (s.pcx.leases.map fun l => if l.queue = (b0.toNat / 2 ^ 8 % 2 ^ 8) ∧ l.active s.tb.count then { l with susp := some (s.tb.count, l.stop - s.tb.count) } else l) ∧
    t.zones = s.zones ∧ t.snag = s.snag ∧ t.msf = s.msf) ∧
  (∀ (b0 : W64) (s : State), s.pins.ready = true → fcpQueued s < 64 → (hasHint s (b0.toNat / 2 ^ 8 % 2 ^ 8) || hasSuspended s (b0.toNat / 2 ^ 8 % 2 ^ 8)) = true → ∃ t, exec (.resume b0) s = .next t ∧ (∀ l ∈ t.pcx.leases, l.queue = (b0.toNat / 2 ^ 8 % 2 ^ 8) → l.susp = none) ∧
    (∀ p ∈ t.tb.parts, ∀ h ∈ p.hints, h.1 ≠ (b0.toNat / 2 ^ 8 % 2 ^ 8)) ∧ t.pcx.dir = s.pcx.dir ∧ t.tb.count = s.tb.count ∧ { t with pcx := s.pcx, tb := s.tb } = s) ∧
  (∀ (b0 : W64) (s : State), s.pins.ready = true → fcpQueued s < 64 → (hasHint s (b0.toNat / 2 ^ 8 % 2 ^ 8) || hasSuspended s (b0.toNat / 2 ^ 8 % 2 ^ 8)) = false → exec (.resume b0) s = .next (note s 0x0C 0)) ∧
  (∀ (p : Nat) (s : State), p < s.tb.parts.length → exec (.hintExpiry p) s = .next (modPart s p fun x => { x with hints := x.hints.filter fun h => s.tb.count < h.2 })) ∧
  (∀ (bs : List W64) (s : State), s.pins.ready = true → beatsOk ((bs.headD 0).toNat % 16) bs.length = false → ∃ t, exec (.malformedRecord bs) s = .next t ∧ t.pcx.malformed = min 0xFFFF (s.pcx.malformed + 1) ∧ t.pcx.status = s.pcx.status ||| 1 ∧
    t.pcx.claims = s.pcx.claims ∧ (∃ r ∈ t.snag.inbox, r.code = 0x0C ∧ r.cls = .note ∧ r.stamp = s.tb.count) ∧ { t with pcx := s.pcx, snag := s.snag } = s)

/-- CONTEXT_FETCH_DONE: the fetch completes for the oldest record of the partition that waits, which is in use from now; an uncorrectable
error in the context removes its generation with a NOTE 0x0C, and one in the directory leaves the store dead, asserting 0x0D with DEGRADE.
STEP_MARK_TAKEN: the oldest pending mark of the partition reached now is a step start at its instant: the epoch rises by one and the mark
leaves; the period is the mean of the latest 8 intervals or fewer. CADENCE_LOST: no step start in four step periods loses the cadence and
the period reads 0. CLAIM_EXPIRY, LEASE_END and SUSPEND_EXPIRY: claims at their expiry, leases at their end, and leases suspended for
SUSPEND_MAX go; others stay. (R34, R43, R44, R246, R248, R249, R252, R264). -/
def Obligations.ContextFetchStepsAndExpiries : Prop :=
  (∀ (p : Nat) (r : NamingRec) (s : State), p < s.tb.parts.length → ((partD s p).recs.reverse.find? fun x => x.fetchedAt.isNone) = some r → ∃ t, exec (.contextFetchDone p false false) s = .next t ∧ (partD t p).recs = ((partD s p).recs.map fun x =>
      if x.at_ = r.at_ ∧ x.sid = r.sid ∧ x.queue = r.queue then { x with fetchedAt := some (x.fetchedAt.getD s.tb.count) } else x) ∧ (partD t p).epoch = (partD s p).epoch ∧
    (partD t p).marks.length = (partD s p).marks.length ∧ { t with tb := s.tb } = s) ∧
  (∀ (p : Nat) (r : NamingRec) (s : State), p < s.tb.parts.length → ((partD s p).recs.reverse.find? fun x => x.fetchedAt.isNone) = some r → ∃ t, exec (.contextFetchDone p true false) s = .next t ∧ (∀ g ∈ (t.pcx.entry r.pcx).gens, g.no ≠ r.gen) ∧
    (∃ x ∈ t.snag.inbox, x.code = 0x0C ∧ x.cls = .note ∧ x.stamp = s.tb.count) ∧ t.pcx.claims = s.pcx.claims ∧ { t with tb := s.tb, pcx := s.pcx, snag := s.snag } = s) ∧
  (∀ (p : Nat) (r : NamingRec) (s : State), p < s.tb.parts.length → ((partD s p).recs.reverse.find? fun x => x.fetchedAt.isNone) = some r → (0x0D, 0) ∉ s.snag.conds → ∃ t, exec (.contextFetchDone p false true) s = .next t ∧ t.pcx.dead = true ∧ (∀ n, (t.pcx.entry n).gens = []) ∧ (0x0D, 0) ∈ t.snag.conds ∧
    (∃ x ∈ t.snag.inbox, x.code = 0x0D ∧ x.cls = .degrade ∧ x.stamp = s.tb.count) ∧ t.zones = s.zones) ∧
  (∀ (p : Nat) (m : Mark) (ms : List Mark) (s : State), p < s.tb.parts.length → (partD s p).marks = m :: ms → m.at_ ≤ s.tb.count → ∃ t, exec (.stepMarkTaken p) s = .next t ∧ (partD t p).epoch = (partD s p).epoch + 1 ∧ (partD t p).lastStart = some m.at_ ∧
    (partD t p).marks.length = ms.length ∧ t.tb.count = s.tb.count ∧ t.zones.length = s.zones.length ∧ t.snag = s.snag ∧ t.pins = s.pins) ∧
  (∀ (p : Part) (t l : Nat) (r : NamingRec), p.lastStart = some l → ¬(p.cadence = true ∧ l + 4 * p.period ≤ t) → (p.start t r).period = (let iv := ((t - l) :: p.intervals).take 8; iv.foldr (· + ·) 0 / iv.length) ∧ (p.start t r).cadence = true ∧ (p.start t r).epoch = p.epoch + 1) ∧
  (∀ (p l : Nat) (s : State), p < s.tb.parts.length → (partD s p).lastStart = some l → (partD s p).cadence = true → l + 4 * (partD s p).period ≤ s.tb.count → exec (.cadenceLost p) s = .next (modPart s p fun x => { x with cadence := false, period := 0, intervals := [], lastStart := none })) ∧
  (∀ (q sid : Nat) (s : State), ∃ t, exec (.claimExpiry q sid) s = .next t ∧
    (∀ c, c ∈ t.pcx.claims ↔ c ∈ s.pcx.claims ∧ ¬(c.queue = q ∧ c.sid = sid ∧ ∃ e, c.expiry = some e ∧ e ≤ s.tb.count)) ∧ { t with pcx := s.pcx } = s) ∧
  (∀ (q sid : Nat) (s : State), ∃ t, exec (.leaseEnd q sid) s = .next t ∧
    (∀ l, l ∈ t.pcx.leases ↔ l ∈ s.pcx.leases ∧ ¬(l.queue = q ∧ l.sid = sid ∧ l.susp = none ∧ l.stop ≤ s.tb.count)) ∧ { t with pcx := s.pcx } = s) ∧
  (∀ (q : Nat) (s : State), ∃ t, exec (.suspendExpiry q) s = .next t ∧
    (∀ l, l ∈ t.pcx.leases ↔ l ∈ s.pcx.leases ∧ ¬(l.queue = q ∧ ∃ a b, l.susp = some (a, b) ∧ a + 100000000 * s.pcx.cfg.suspendMax ≤ s.tb.count)) ∧
    { t with pcx := s.pcx } = s)

/-- PCX_STAGING_RESET and PCX_STAGE_WRITE, since READY: the pointer goes back, or a word is added up to 144. PCX_COMMIT with no copy
under way checks the staged record: a failure shows its code with DONE and changes no generation, and a record that is not 144 words fails
with code 4; a pass starts the copy to the home slot, or for a PCX that has a generation to the lowest free pool entry. PCX_DIR_SWITCH: at
a round-start tick after the copy the directory holds the new generation last, with DONE. PCX_HOME_MOVE frees the pool entry of the first
generation. GEN_RETIRE: a retired older generation leaves the newer one. PCX_DROP with a generation in flight fails with code 8; otherwise
the PCX is empty. (R250, R253, R254, R255, R256). -/
def Obligations.ContextStoreCommands : Prop :=
  (∀ (s : State), (s.su.cond = .run ∨ s.su.cond = .safe) → s.su.readyEver = true → s.pcx.copy = none → exec .pcxStagingReset s = .next { s with pcx := { s.pcx with staged := [], done := true } }) ∧
  (∀ (w : W32) (s : State), (s.su.cond = .run ∨ s.su.cond = .safe) → s.su.readyEver = true → s.pcx.staged.length < 144 → exec (.pcxStageWrite w) s = .next { s with pcx := { s.pcx with staged := w :: s.pcx.staged } }) ∧
  (∀ (w : W32) (s : State), 144 ≤ s.pcx.staged.length → exec (.pcxStageWrite w) s = .next s) ∧
  (∀ (p : Nat) (s : State), (s.su.cond = .run ∨ s.su.cond = .safe) → s.su.readyEver = true → s.pcx.copy = none → p < 4096 → ctxCheck s s.pcx.staged.reverse p ≠ 0 → exec (.pcxCommit p) s = .next { s with pcx := { s.pcx with fail := ctxCheck s s.pcx.staged.reverse p, done := true } }) ∧
  (∀ (p : Nat) (s : State), (s.su.cond = .run ∨ s.su.cond = .safe) → s.su.readyEver = true → s.pcx.copy = none → p < 4096 → ctxCheck s s.pcx.staged.reverse p = 0 → ∃ t, exec (.pcxCommit p) s = .next t ∧ t.pcx.fail = 0 ∧ t.pcx.done = false ∧ t.pcx.dir = s.pcx.dir ∧ t.pcx.claims = s.pcx.claims ∧
    t.pcx.copy = some (p, s.pcx.staged.reverse, (if (s.pcx.entry p).gens = [] then none else some (freePool s.pcx.pool)), s.tb.count) ∧
    { t with pcx := s.pcx } = s) ∧
  (∀ (s : State) (c : List W32) (p : Nat), c.length ≠ 144 → ctxCheck s c p = 4) ∧
  (∀ (n k : Nat) (c : List W32) (pl : Option Nat) (s : State), s.pcx.copy = some (n, c, pl, k) → s.tb.count % 256 = 0 → s.pcx.dead = false → (s.pcx.entry n).gens = [] → ∃ t, exec .pcxDirSwitch s = .next t ∧ t.pcx.copy = none ∧ t.pcx.done = true ∧ (t.pcx.entry n).gens = [{ words := c, pool := pl }] ∧ t.pcx.pool = s.pcx.pool ∧
    { t with pcx := s.pcx } = s) ∧
  (∀ (n k : Nat) (a : Gen) (c : List W32) (pl : Option Nat) (s : State), s.pcx.copy = some (n, c, pl, k) → s.tb.count % 256 = 0 → s.pcx.dead = false → (s.pcx.entry n).gens = [a] → s.pcx.inFlight n a s.tb.count = true → ∃ t, exec .pcxDirSwitch s = .next t ∧ t.pcx.copy = none ∧ t.pcx.done = true ∧ (t.pcx.entry n).gens = [a, { words := c, pool := pl }] ∧ t.pcx.pool = s.pcx.pool ∧
    { t with pcx := s.pcx } = s) ∧
  (∀ (n : Nat) (g : Gen) (h : Nat) (s : State), s.pcx.dead = false → (s.pcx.entry n).homing = some h → (s.pcx.entry n).gens = [g] → (s.pcx.entry n).no = n → s.tb.count % 256 = 0 → ∃ t, exec (.pcxHomeMove n) s = .next t ∧ (t.pcx.entry n).gens = [{ g with pool := none }] ∧ (t.pcx.entry n).homing = none ∧
    t.pcx.pool = (match g.pool with | some i => s.pcx.pool.erase i | none => s.pcx.pool) ∧ { t with pcx := s.pcx } = s) ∧
  (∀ (n : Nat) (a b : Gen) (s : State), s.pcx.dead = false → (s.pcx.entry n).gens = [a, b] → (s.pcx.entry n).no = n → s.pcx.inFlight n a s.tb.count = false → ∃ t, exec (.genRetire n) s = .next t ∧ (t.pcx.entry n).gens = [b] ∧ (t.pcx.entry n).homing = (if b.pool.isSome then some (s.tb.count + 20000) else none) ∧
    t.pcx.claims = s.pcx.claims ∧ { t with pcx := s.pcx } = s) ∧
  (∀ (p : Nat) (s : State), (s.su.cond = .run ∨ s.su.cond = .safe) → s.su.readyEver = true → s.pcx.copy = none → p < 4096 → ((s.pcx.entry p).gens.any fun g => s.pcx.inFlight p g s.tb.count) = true → exec (.pcxDrop p) s = .next { s with pcx := { s.pcx with fail := 8, done := true } }) ∧
  (∀ (p : Nat) (s : State), (s.su.cond = .run ∨ s.su.cond = .safe) → s.su.readyEver = true → s.pcx.copy = none → p < 4096 → ((s.pcx.entry p).gens.any fun g => s.pcx.inFlight p g s.tb.count) = false → ∃ t, exec (.pcxDrop p) s = .next t ∧ (t.pcx.entry p).gens = [] ∧ t.pcx.fail = 0 ∧ t.pcx.done = true ∧ t.pcx.claims = s.pcx.claims ∧ { t with pcx := s.pcx } = s)

/-- FCE_STAGING_RESET and FCE_LOAD_DATA, since READY: staging takes a reset with its slot, and words up to 1,024. FCE_COMMIT: a staged set
that fails a check shows its code with DONE and changes no slot, and one that is not 1,024 words fails with code 4; one that passes starts
the copy. FCE_CLEAR of the DEFSET of a zone fails with code 5, else the slot is to be emptied. FCE_COPY_DONE gives the slot its words and
DONE, and its adaptation starts afresh. FCE_SLOT_LOST: an uncorrectable error empties a slot with a NOTE 0x0E. ADAPTATION_RUN with no zone
eligible changes nothing; one for an eligible zone with no kept values is skipped and counted; one for a zone in RUN throughout with kept
values of the slot's set is counted and changes no other slot. (R217, R219, R220, R221, R222, R230). -/
def Obligations.ModelSetSlotsAndAdaptation : Prop :=
  (∀ (n : Nat) (s : State), (s.su.cond = .run ∨ s.su.cond = .safe) → s.su.readyEver = true → s.fce.copy = none → n < 64 → exec (.fceStagingReset n) s = .next { s with fce := { s.fce with staged := [], slotSel := n, done := true } }) ∧
  (∀ (w : W32) (s : State), (s.su.cond = .run ∨ s.su.cond = .safe) → s.su.readyEver = true → s.fce.staged.length < 1024 → exec (.fceLoadData w) s = .next { s with fce := { s.fce with staged := w :: s.fce.staged } }) ∧
  (∀ (n : Nat) (s : State), (s.su.cond = .run ∨ s.su.cond = .safe) → s.su.readyEver = true → s.fce.copy = none → n < 64 → setCheck s.fce.staged.reverse = 0 → exec (.fceCommit n) s = .next { s with fce := { s.fce with slotSel := n, fail := 0, done := false, copy := some (n, s.fce.staged.reverse) } }) ∧
  (∀ (n : Nat) (s : State), (s.su.cond = .run ∨ s.su.cond = .safe) → s.su.readyEver = true → s.fce.copy = none → n < 64 → setCheck s.fce.staged.reverse ≠ 0 → exec (.fceCommit n) s = .next { s with fce := { s.fce with slotSel := n, fail := setCheck s.fce.staged.reverse, done := true } }) ∧
  (∀ (m : List W32), m.length ≠ 1024 → setCheck m = 4) ∧
  (∀ (n : Nat) (s : State), (s.su.cond = .run ∨ s.su.cond = .safe) → s.su.readyEver = true → s.fce.copy = none → n < 64 → (s.zones.any fun zn => zn.cfg.defset = n) = true → exec (.fceClear n) s = .next { s with fce := { s.fce with slotSel := n, fail := 5, done := true } }) ∧
  (∀ (n : Nat) (s : State), (s.su.cond = .run ∨ s.su.cond = .safe) → s.su.readyEver = true → s.fce.copy = none → n < 64 → (s.zones.any fun zn => zn.cfg.defset = n) = false → exec (.fceClear n) s = .next { s with fce := { s.fce with slotSel := n, fail := 0, done := false, copy := some (n, []) } }) ∧
  (∀ (n : Nat) (m : List W32) (s : State), s.fce.copy = some (n, m) → n < s.fce.slots.length → ∃ t, exec .fceCopyDone s = .next t ∧ t.fce.slot n = m ∧ t.fce.slots = s.fce.slots.set n m ∧ t.fce.copy = none ∧ t.fce.done = true ∧
    t.fce.adapt = (s.fce.adapt.filter fun a => a.slot ≠ n) ∧ { t with fce := s.fce } = s) ∧
  (∀ (n : Nat) (s : State), n < s.fce.slots.length → s.fce.slot n ≠ [] → ∃ t, exec (.fceSlotLost n) s = .next t ∧ t.fce.slot n = [] ∧ t.fce.status = s.fce.status ||| 8 ∧
    (∃ r ∈ t.snag.inbox, r.code = 0x0E ∧ r.cls = .note ∧ r.stamp = s.tb.count) ∧ { t with fce := s.fce, snag := s.snag } = s) ∧
  (∀ (s : State), nextAdapt s = none → exec .adaptationRun s = .next s) ∧
  (∀ (z : Nat) (s : State), s.fce.running = true → s.tb.count % 20000 = 0 → 20736 ≤ s.tb.count → s.fce.freeze = false → s.cores.run1 = true → nextAdapt s = some z → ((s.fce.zones.getD z {}).kept.find? fun k => k.1 = (s.tb.count - 20736) / 256 * 256) = none → exec .adaptationRun s = .next { s with fce := { s.fce with nextZone := z + 1, skipped := min 0xFFFF (s.fce.skipped + 1) } }) ∧
  (∀ (z : Nat) (k : Nat × Nat × List Int) (s : State), s.fce.running = true → s.tb.count % 20000 = 0 → 20736 ≤ s.tb.count → s.fce.freeze = false → s.cores.run1 = true → nextAdapt s = some z → ((s.fce.zones.getD z {}).kept.find? fun x => x.1 = (s.tb.count - 20736) / 256 * 256) = some k → k.2.1 = (s.fce.zones.getD z {}).set → runThrough (zoneD s z) ((s.tb.count - 20736) / 256 * 256) = true → s.fce.slotAt.getD k.2.1 0 < (s.tb.count - 20736) / 256 * 256 → ∃ t, exec .adaptationRun s = .next t ∧ t.fce.nextZone = z + 1 ∧ t.fce.runs = min 0xFFFF (s.fce.runs + 1) ∧ t.fce.skipped = s.fce.skipped ∧
    t.fce.slots = s.fce.slots.set k.2.1 (t.fce.slot k.2.1) ∧ { t with fce := s.fce, cores := s.cores } = s)

/-- ENFORCEMENT_BOUNDARY, at a 10 µs boundary since READY with pair 0 running: every Float's segments are taken, the windows begin anew,
NRG_STAMP is the boundary and every zone gets a limit update. With pair 0 stopped the Floats carry their energy and no counter moves.
Accrual adds the window's energy to NRG_INST and the overhead to NRG_OVH. ENERGY_SEGMENT_RX: a zone's segments reach pair 0, or are carried
forward. POWER_WINDOW_BOUNDARY, at a 1 ms boundary: every zone gets a limit update, the throttle level is the larger of the thermal request
and CTHR, and every running pair takes its checkpoint. GRACE_END: a zone whose grace is over is watched no longer, and is enforced where it
is HOT. CALIBRATION_WINDOW, at the end of a 100 ms window: one without a measure leaves KCAL, an accepted k, from 0x3800 to 0x4800, waits
for the next boundary, and one outside is counted and a NOTE 0x38; with pair 1 stopped the window's sums begin anew (the model's choice,
log 102). (R38, R40, R308, R309, R310, R312, R316, R325, R341). -/
def Obligations.BoundariesOfTheControlCores : Prop :=
  (∀ (s : State), s.su.cond = .run → s.su.grid = true → s.tb.count % 10000 = 0 → s.cores.run0 = true → s.su.readyEver = true → ∃ t, exec .enforcementBoundary s = .next t ∧ t.nrg.stamp = s.tb.count ∧ t.caps.rxSegs = [] ∧ (t.zones.all fun zn => zn.segs.isEmpty && zn.izCnt = 0) = true ∧
    t.caps.out.map (·.1) = List.range s.zones.length ∧ t.zones.length = s.zones.length ∧ t.msf.imCnt = 0 ∧ t.caps.taskDone.head? = some true ∧
    t.su = s.su ∧ t.pins = s.pins ∧ t.nvm = s.nvm ∧ t.fus = s.fus) ∧
  (∀ (s : State), s.su.cond = .run → s.su.grid = true → s.tb.count % 10000 = 0 → s.cores.run0 = false → ∃ t, exec .enforcementBoundary s = .next t ∧ t.nrg = s.nrg ∧ t.zones = (s.zones.map fun zn => { zn.carry with izSum := 0, izCnt := 0 }) ∧ t.caps.codes = s.caps.codes ∧ t.caps.out = s.caps.out ∧
    t.caps.taskDone.head? = some false ∧ { t with zones := s.zones, caps := s.caps, msf := s.msf } = s) ∧
  (∀ (s : State) (b : Nat), (accrue s b).nrg.inst.e = (s.nrg.inst.e + eWin s s.caps.kcal) % 2 ^ 80 ∧
    (accrue s b).nrg.ovh.e = (s.nrg.ovh.e + s.caps.cfg.pFix * 10000 * 65536 * s.caps.kcal / 2 ^ 14) % 2 ^ 80 ∧ (accrue s b).nrg.stamp = b ∧
    (accrue s b).zones = s.zones) ∧
  (∀ (z : Nat) (s : State), s.su.readyEver = true → s.tb.count % 10000 = 0 → s.cores.run0 = true → (zoneD s z).segs ≠ [] → exec (.energySegmentRx z true) s = .next { modZone s z (fun zn => { zn with segs := [], sent := [] }) with
      caps := { s.caps with rxSegs := s.caps.rxSegs ++ (sendSegs (zoneD s z).segs (zoneD s z).sent).map fun g => (z, g) } }) ∧
  (∀ (z : Nat) (s : State), s.su.readyEver = true → s.tb.count % 10000 = 0 → exec (.energySegmentRx z false) s = .next (modZone s z Zone.carry)) ∧
  (∀ (s : State), s.su.cond = .run → s.su.grid = true → s.tb.count % 1000000 = 0 → s.cores.run0 = true → s.cores.run1 = true → s.su.readyEver = true → ∃ t, exec .powerWindowBoundary s = .next t ∧ (∃ c ∈ t.cores.ck0, c.codes = t.caps.codes ∧ c.zones = t.caps.zones) ∧
    t.cores.ck1 = some (s.tb.count, t.fce.adapt) ∧ t.caps.out.map (·.1) = List.range s.zones.length ∧ t.thm.level = max t.thm.treq t.caps.cthr ∧
    t.zones.length = s.zones.length ∧ t.pins = s.pins ∧ t.tb = s.tb ∧ t.nrg = s.nrg) ∧
  (∀ (s : State), s.su.cond = .run → s.su.grid = true → s.tb.count % 10000 = 0 → s.cores.run0 = true → graceDue s ≠ [] → ∃ t, exec .graceEnd s = .next t ∧ (∀ z ∈ graceDue s, (thmD t z).watch = none) ∧ (∀ z ∈ graceDue s, (thmD s z).band = 3 → (thmD t z).enf = true) ∧
    t.zones.length = s.zones.length ∧ t.pins = s.pins ∧ t.nrg = s.nrg) ∧
  (∀ (s : State), s.su.cond = .run → s.su.readyEver = true → s.cores.run1 = true → s.tb.count % 100000000 = 0 → (winOutcome s).1 = 0 → ∃ t, exec .calibrationWindow s = .next t ∧ t.caps.kcal = s.caps.kcal ∧ t.caps.kcalNext = s.caps.kcalNext ∧ t.caps.rejects = s.caps.rejects ∧ t.caps.prCnt = 0 ∧
    t.tcv.pmOut = 0 ∧ t.tcv.pm = 0 ∧ t.tcv.pmCnt = 0 ∧ t.nrg = s.nrg ∧ t.zones = s.zones) ∧
  (∀ (s : State), s.su.cond = .run → s.su.readyEver = true → s.cores.run1 = false → s.tb.count % 100000000 = 0 → ∃ t, exec .calibrationWindow s = .next t ∧ t.caps.prCnt = 0 ∧ t.caps.prSum = 0 ∧ t.tcv.pmCnt = 0 ∧ t.tcv.pmSum = 0 ∧ t.caps.kcal = s.caps.kcal ∧ t.caps.kcalNext = s.caps.kcalNext ∧
    { t with tcv := s.tcv, caps := s.caps } = s) ∧
  (∀ (s : State) (k : Int), s.su.cond = .run → s.su.readyEver = true → s.cores.run1 = true → s.tb.count % 100000000 = 0 → kOf s (winOutcome s).1 = some k → 0x3800 ≤ k → k ≤ 0x4800 → ∃ t, exec .calibrationWindow s = .next t ∧ t.caps.kcalNext = some k.toNat ∧ t.caps.kcal = s.caps.kcal ∧ t.caps.rejects = 0 ∧ t.caps.prCnt = 0 ∧ t.nrg = s.nrg) ∧
  (∀ (s : State) (k : Int), s.su.cond = .run → s.su.readyEver = true → s.cores.run1 = true → s.tb.count % 100000000 = 0 → kOf s (winOutcome s).1 = some k → (k < 0x3800 ∨ 0x4800 < k) → ∃ t, exec .calibrationWindow s = .next t ∧ t.caps.kcalNext = s.caps.kcalNext ∧ t.caps.kcal = s.caps.kcal ∧ t.caps.rejects = s.caps.rejects + 1 ∧
    t.caps.calReject = min 255 (s.caps.calReject + 1) ∧ (∃ r ∈ t.snag.inbox, r.code = 0x38 ∧ r.unit = 0 ∧ r.cls = .note ∧ r.stamp = s.tb.count) ∧ t.nrg = s.nrg)

/-- CAP_SW_WRITE since READY saturates both caps into [CAP_FLOOR, CAP_CEIL] and leaves the effective caps to the next 10 µs boundary.
CAP_GROUP_WRITE holds the new members, GB_LEN and enable until a boundary after it; where a partition is or would be in a second enabled
group it is refused with a NOTE 0x3A and changes no group. GROUP_PROPOSAL_RX: a proposal of another instance for an enabled group with the
same GB_LEN becomes that instance's latest one, and an emergency lowers the group code at once; another GB_LEN disables the group at its next
boundary, with a NOTE 0x3A. GROUP_BOUNDARY: the members, GB_LEN and enable written before it hold, or the disable is carried out, and the code
is at most 15. NRG_LO_READ answers the low half and takes copies of the high half and of NRG_STAMP; USER_WINDOW_ENERGY_READ does the same for
its queue; USER_WINDOW_WRITE has no effect but a NOTE 0x01 since READY. (R70, R305, R322, R323, R324, R326, R327). -/
def Obligations.CapWritesGroupsAndEnergyReads : Prop :=
  (∀ (w : W32) (s : State), (s.su.cond = .run ∨ s.su.cond = .safe) → s.su.readyEver = true → ∃ t, exec (.capSwWrite w) s = .next t ∧ t.caps.swPower = capSet s.caps.cfg (w.toNat % 2 ^ 16) ∧ t.caps.swEnergy = capSet s.caps.cfg (w.toNat / 2 ^ 16) ∧
    t.caps.swAt = some s.tb.count ∧ t.caps.pEff = s.caps.pEff ∧ { t with caps := s.caps, snag := s.snag } = s) ∧
  (∀ (c : CapCfg) (x : Nat), c.floor ≤ c.ceil → c.floor ≤ capSet c x ∧ capSet c x ≤ c.ceil ∧ (c.floor ≤ x → x ≤ c.ceil → capSet c x = x)) ∧
  (∀ (g : Nat) (w : W32) (s : State), (s.su.cond = .run ∨ s.su.cond = .safe) → s.su.readyEver = true → g < 16 → g < s.caps.groups.length → (w.getLsbD 31 = false ∨ ∀ h < 16, h ≠ g → (s.caps.groups.getD h {}).claims (w.setWidth 16) = false) → ∃ t, exec (.capGroupWrite g w) s = .next t ∧ (t.caps.groups.getD g {}).newEn = w.getLsbD 31 ∧ (t.caps.groups.getD g {}).newLen = w.toNat / 2 ^ 16 % 2 ^ 8 ∧
    (t.caps.groups.getD g {}).newMembers = w.setWidth 16 ∧ (t.caps.groups.getD g {}).newAt = s.tb.count ∧ (s.tb.count % (10000 * gbLen (s.caps.groups.getD g {}).gbLen) ≠ 0 → (t.caps.groups.getD g {}).en = (s.caps.groups.getD g {}).en ∧ (t.caps.groups.getD g {}).members = (s.caps.groups.getD g {}).members ∧ (t.caps.groups.getD g {}).code = (s.caps.groups.getD g {}).code) ∧
    (∀ h, h ≠ g → t.caps.groups.getD h {} = s.caps.groups.getD h {}) ∧ { t with caps := s.caps } = s) ∧
  (∀ (g h : Nat) (w : W32) (s : State), (s.su.cond = .run ∨ s.su.cond = .safe) → s.su.readyEver = true → g < 16 → h < 16 → h ≠ g → w.getLsbD 31 = true → (s.caps.groups.getD h {}).claims (w.setWidth 16) = true → ∃ t, exec (.capGroupWrite g w) s = .next t ∧ t.caps.groups = s.caps.groups ∧ (∃ r ∈ t.snag.inbox, r.code = 0x3A ∧ r.unit = 0 ∧ r.cls = .note ∧ r.stamp = s.tb.count) ∧ { t with caps := s.caps, snag := s.snag } = s) ∧
  (∀ (i g c gb d : Nat) (e : Bool) (s : State), s.su.cond = .run → g < 16 → g < s.caps.groups.length → (s.caps.groups.getD g {}).en = true → gbLen gb = gbLen (s.caps.groups.getD g {}).gbLen → c < 16 → ∃ t, exec (.groupProposalRx i g c gb d e) s = .next t ∧ (t.caps.groups.getD g {}).code = (if e then min (s.caps.groups.getD g {}).code c else (s.caps.groups.getD g {}).code) ∧
    (∃ p, ((t.caps.groups.getD g {}).props.find? fun p => p.1 = i) = some p ∧ p.2.1 = c) ∧ (t.caps.groups.getD g {}).en = true ∧ (e = false → { t with caps := s.caps } = s) ∧ { t with caps := s.caps, zones := s.zones, snag := s.snag } = s) ∧
  (∀ (i g c gb d : Nat) (e : Bool) (s : State), s.su.cond = .run → g < 16 → g < s.caps.groups.length → (s.caps.groups.getD g {}).en = true → gbLen gb ≠ gbLen (s.caps.groups.getD g {}).gbLen → ∃ t, exec (.groupProposalRx i g c gb d e) s = .next t ∧ (t.caps.groups.getD g {}).disable = true ∧ (t.caps.groups.getD g {}).code = (s.caps.groups.getD g {}).code ∧ (∃ r ∈ t.snag.inbox, r.code = 0x3A ∧ r.unit = 0 ∧ r.cls = .note ∧ r.stamp = s.tb.count)) ∧
  (∀ (g : Nat) (s : State), s.su.cond = .run → g < 16 → g < s.caps.groups.length → s.cores.run0 = true → s.tb.count % (10000 * gbLen (s.caps.groups.getD g {}).gbLen) = 0 → (s.caps.groups.getD g {}).disable = false → (s.caps.groups.getD g {}).newAt < s.tb.count → ∃ t, exec (.groupBoundary g) s = .next t ∧ (t.caps.groups.getD g {}).en = (s.caps.groups.getD g {}).newEn ∧ (t.caps.groups.getD g {}).members = (s.caps.groups.getD g {}).newMembers ∧
    (t.caps.groups.getD g {}).gbLen = (s.caps.groups.getD g {}).newLen ∧ ((s.caps.groups.getD g {}).newEn = false → (t.caps.groups.getD g {}).code = 15) ∧ (t.caps.groups.getD g {}).code ≤ 15 ∧ { t with caps := s.caps, zones := s.zones, snag := s.snag } = s) ∧
  (∀ (g : Nat) (s : State), s.su.cond = .run → g < 16 → g < s.caps.groups.length → s.cores.run0 = true → s.tb.count % (10000 * gbLen (s.caps.groups.getD g {}).gbLen) = 0 → (s.caps.groups.getD g {}).disable = true → ∃ t, exec (.groupBoundary g) s = .next t ∧ (t.caps.groups.getD g {}).en = false ∧ (t.caps.groups.getD g {}).disable = false ∧ (t.caps.groups.getD g {}).code = 15 ∧ { t with caps := s.caps, zones := s.zones, snag := s.snag } = s) ∧
  (∀ (s : State), (s.su.cond = .run ∨ s.su.cond = .safe) → s.su.readyEver = true → exec (.nrgLoRead 0x8100) s = .next { s with nrg := { s.nrg with inst := { s.nrg.inst with hi := w32 (s.nrg.inst.e / 65536 / 2 ^ 32), stampCopy := s.nrg.stamp } }, rp := { s.rp with rdata := w32 (s.nrg.inst.e / 65536) } }) ∧
  (∀ (p : Nat) (s : State), (s.su.cond = .run ∨ s.su.cond = .safe) → s.su.readyEver = true → p < 16 → ∃ t, exec (.nrgLoRead (0x8200 + 8 * p)) s = .next t ∧ t.rp.rdata = w32 ((s.nrg.parts.getD p {}).e / 65536) ∧
    t.nrg = { s.nrg with parts := s.nrg.parts.modify p fun c => { c with hi := w32 (c.e / 65536 / 2 ^ 32), stampCopy := s.nrg.stamp } } ∧
    { t with nrg := s.nrg, rp := s.rp } = s) ∧
  (∀ (q : Nat) (s : State), (s.su.cond = .run ∨ s.su.cond = .safe) → s.su.readyEver = true → q < 256 → ∃ t, exec (.userWindowEnergyRead q) s = .next t ∧ t.rp.rdata = w32 ((s.nrg.q q).energy.e / 65536) ∧ (t.nrg.q q).pageHi = w32 ((s.nrg.q q).energy.e / 65536 / 2 ^ 32) ∧
    (t.nrg.q q).pageStamp = s.nrg.stamp ∧ (t.nrg.q q).pageSpill = (s.nrg.q q).spill.e / 65536 ∧ (t.nrg.q q).energy = (s.nrg.q q).energy ∧
    t.nrg.inst = s.nrg.inst ∧ { t with nrg := s.nrg, rp := s.rp } = s) ∧
  (∀ (q o : Nat) (s : State), (s.su.cond = .run ∨ s.su.cond = .safe) → s.su.readyEver = true → exec (.userWindowWrite q o) s = .next (note s 0x01 0)) ∧
  (∀ (q o : Nat) (s : State), s.su.readyEver = false → exec (.userWindowWrite q o) s = .next s)

/-- In every state that is powered and not in reset: TBS_NOW_LO_READ answers bits [31:0] of the count, copies bits [63:32] into TBS_NOW_HI in
the same access and changes nothing else. TBS_NOW_HI reads the copy of the last such read, so the pair read in this order gives one
consistent 64-bit value. TBS_STATUS has LOCK in bit 0, HOLDOVER in bit 1, HOLDOVER_SEEN in bit 2 and reads 0 above; HOLDOVER_SEEN is
cleared by writing 1. TBS_EPOCH[p] reads the partition's step epoch and TBS_STEP_PERIOD[p] its period in 24 bits, 0 once the cadence is
lost. At reset these registers hold 0. (A period above 24 bits is outside the field; the model reads all ones there and the statement says
only that the upper byte is 0.) (R46). -/
def Obligations.TimeBaseReadTakesOneConsistentCopy : Prop :=
  (∀ (s : State), s.su.cond = .run → exec .tbsNowLoRead s =
    .next { s with tb := { s.tb with hiCopy := w32 (s.tb.count / 2 ^ 32) }, rp := { s.rp with rdata := w32 s.tb.count } }) ∧
  (∀ (s : State), s.su.cond = .run → ∃ t, exec .tbsNowLoRead s = .next t ∧ (regRead t 0x1004).rp.rdata.toNat * 2 ^ 32 + t.rp.rdata.toNat = s.tb.count % 2 ^ 64) ∧
  (∀ (s : State), s.su.cond = .run → regRead s 0x1004 = rpData s s.tb.hiCopy ∧ regRead s 0x1000 = rpData { s with tb := { s.tb with hiCopy := w32 (s.tb.count / 2 ^ 32) } } (w32 s.tb.count)) ∧
  (∀ (s : State), s.su.cond = .run → ∃ w : W32, regRead s 0x1008 = rpData s w ∧ w.getLsbD 0 = s.tb.lock ∧ w.getLsbD 1 = s.tb.holdover ∧ w.getLsbD 2 = s.tb.holdoverSeen ∧ w.toNat < 8) ∧
  (∀ (w : W32) (s : State), s.su.cond = .run → exec (.registerWrite 0x1008 w) s = .next { s with tb := { s.tb with holdoverSeen := s.tb.holdoverSeen && !w.getLsbD 2 } }) ∧
  (∀ (p : Nat) (s : State), s.su.cond = .run → p < 16 → regRead s (0x1040 + 4 * p) = rpData s (partD s p).epoch ∧ ∃ w : W32, regRead s (0x1080 + 4 * p) = rpData s w ∧
    w.toNat < 2 ^ 24 ∧ ((partD s p).period < 2 ^ 24 → w.toNat = (partD s p).period)) ∧
  (∀ (p l : Nat) (s : State), s.su.cond = .run → p < 16 → (partD s p).lastStart = some l → (partD s p).cadence = true → l + 4 * (partD s p).period ≤ s.tb.count → ∃ t, exec (.cadenceLost p) s = .next t ∧ regRead t (0x1080 + 4 * p) = rpData t 0) ∧
  (regPeek State.reset 0x1000 = some 0 ∧ regPeek State.reset 0x1004 = some 0 ∧ regPeek State.reset 0x1008 = some 0) ∧
  (∀ (p : Nat), p < 16 → regPeek State.reset (0x1040 + 4 * p) = some 0 ∧ regPeek State.reset (0x1080 + 4 * p) = some 0)

/-- REFCLK_LOST, while the time base runs outside holdover, sets HOLDOVER and HOLDOVER_SEEN, clears LOCK and raises DEGRADE 0x08; the count
goes on. HOLDOVER_TIMEOUT: after 10 ms of holdover it raises INSTANCE-SAFE 0x08. REFCLK_RETURN sets LOCK, ends HOLDOVER and the assertion.
TASK_DEADLINE_MISS: a missed deadline is a NOTE 0x09 and abandons the run: pair 0's undelivered limit updates are dropped, and the settings of
the current-cap, power-cap or calibration run are those it began with; the second miss of the current-cap task in a row also raises DEGRADE.
LOCKSTEP_DISAGREE: a disagreement of a pair stops that pair alone, discards what it had not delivered, and is a report 0x0A: a NOTE, or
INSTANCE-SAFE within 1 s of the last one of the same pair. CORE_PAIR_RESTART_DONE: a restarted pair runs from its last checkpoint.
(R39, R40, R45). -/
def Obligations.HoldoverAndTheCorePairs : Prop :=
  (∀ (s : State), s.su.cond = .run → s.tb.running = true → s.tb.holdover = false → s.snag.conds.contains (0x08, 0) = false → ∃ t, exec .refclkLost s = .next t ∧ t.tb = { s.tb with lock := false, holdover := true, holdoverSeen := true, holdoverAt := s.tb.count } ∧ (∃ r ∈ t.snag.inbox, r.code = 0x08 ∧ r.unit = 0 ∧ r.cls = .degrade ∧ r.stamp = s.tb.count) ∧
    t.snag.conds = (0x08, 0) :: s.snag.conds ∧ { t with tb := s.tb, snag := s.snag } = s) ∧
  (∀ (s : State), s.su.cond = .run → s.tb.holdover = true → s.tb.holdoverAt + 10000000 ≤ s.tb.count → ∃ t, exec .holdoverTimeout s = .next t ∧ (∃ r ∈ t.snag.inbox, r.code = 0x08 ∧ r.unit = 0 ∧ r.cls = .instSafe ∧ r.stamp = s.tb.count) ∧ { t with snag := s.snag } = s) ∧
  (∀ (s : State), s.su.cond = .run → s.tb.holdover = true → s.tb.count < s.tb.holdoverAt + 10000000 → exec .holdoverTimeout s = .next s) ∧
  (∀ (s : State), s.su.cond = .run → s.tb.holdover = true → ∃ t, exec .refclkReturn s = .next t ∧ t.tb = { s.tb with lock := true, holdover := false } ∧ ((0x08, 0) ∈ s.snag.conds → t.snag.conds = s.snag.conds.erase (0x08, 0)) ∧
    ((0x08, 0) ∉ s.snag.conds → t.snag = s.snag) ∧ { t with tb := s.tb, snag := s.snag } = s) ∧
  (∀ (task : Task) (s : State), s.su.cond = .run → ∃ t, exec (.taskDeadlineMiss (Task.pair task) task) s = .next t ∧ (∃ r ∈ t.snag.inbox, r.code = 0x09 ∧ r.unit = 0 ∧ r.cls = .note ∧ r.stamp = s.tb.count) ∧ (Task.pair task = 0 → t.caps.out = []) ∧ t.zones = s.zones ∧ t.nrg = s.nrg ∧ t.tb = s.tb ∧ t.pins = s.pins ∧ t.cores.run0 = s.cores.run0 ∧ t.cores.run1 = s.cores.run1) ∧
  (∀ (pair : Nat) (task : Task) (s : State), pair ≠ Task.pair task → exec (.taskDeadlineMiss pair task) s = .next s) ∧
  (∀ (c : Ckpt) (s : State), s.su.cond = .run → s.cores.undo.cap = some c → ∃ t, exec (.taskDeadlineMiss 0 .currentCap) s = .next t ∧ t.caps.codes = c.codes ∧ t.caps.gateOrder = c.gateOrder ∧ t.caps.stage2 = s.caps.stage2) ∧
  (∀ (c : Ckpt) (s : State), s.su.cond = .run → s.cores.undo.ms = some c → ∃ t, exec (.taskDeadlineMiss 0 .powerCap) s = .next t ∧ t.caps.stage2 = c.stage2 ∧ t.caps.cthr = c.cthr ∧ t.caps.codes = s.caps.codes) ∧
  (∀ (k r : Nat) (u : Bool) (a b : Option Nat) (s : State), s.su.cond = .run → s.cores.undo.cal = some (k, u, r, a, b) → ∃ t, exec (.taskDeadlineMiss 1 .calibration) s = .next t ∧ t.caps.kcal = k ∧ t.caps.uncal = u ∧ t.caps.rejects = r ∧ t.caps.kcalNext = none ∧ t.caps.out = s.caps.out) ∧
  (∀ (s : State), s.su.cond = .run → ∃ t, exec (.taskDeadlineMiss 0 .currentCap) s = .next t ∧ (∃ r ∈ t.snag.inbox, r.code = 0x09 ∧ r.unit = 0 ∧ r.cls = .note ∧ r.stamp = s.tb.count) ∧ t.cores.misses = min 2 (s.cores.misses + 1) ∧ t.caps.out = [] ∧
    (1 ≤ s.cores.misses → (∃ r ∈ t.snag.inbox, r.code = 0x09 ∧ r.unit = 0 ∧ r.cls = .degrade ∧ r.stamp = s.tb.count)) ∧ { t with caps := s.caps, cores := s.cores, snag := s.snag } = s) ∧
  (∀ (s : State), s.su.cond = .run → ∃ t, exec (.lockstepDisagree 0) s = .next t ∧ t.cores.run0 = false ∧ t.cores.run1 = s.cores.run1 ∧ t.cores.ck0 = s.cores.ck0 ∧ t.cores.dis0 = some s.tb.count ∧ t.caps.out = [] ∧
    ((∃ a ∈ s.cores.dis0, s.tb.count < a + 1000000000) → (∃ r ∈ t.snag.inbox, r.code = 0x0A ∧ r.unit = 0 ∧ r.cls = .instSafe ∧ r.stamp = s.tb.count)) ∧
    ((∀ a ∈ s.cores.dis0, a + 1000000000 ≤ s.tb.count) → (∃ r ∈ t.snag.inbox, r.code = 0x0A ∧ r.unit = 0 ∧ r.cls = .note ∧ r.stamp = s.tb.count)) ∧ t.fce = s.fce ∧ { t with cores := s.cores, caps := s.caps, snag := s.snag } = s) ∧
  (∀ (s : State), s.su.cond = .run → ∃ t, exec (.lockstepDisagree 1) s = .next t ∧ t.cores.run1 = false ∧ t.cores.run0 = s.cores.run0 ∧ t.cores.ck1 = s.cores.ck1 ∧ t.cores.dis1 = some s.tb.count ∧ t.caps.kcalNext = none ∧ t.caps.out = s.caps.out ∧ t.nvm.batch = 0 ∧
    ((∃ a ∈ s.cores.dis1, s.tb.count < a + 1000000000) → (∃ r ∈ t.snag.inbox, r.code = 0x0A ∧ r.unit = 0 ∧ r.cls = .instSafe ∧ r.stamp = s.tb.count)) ∧
    ((∀ a ∈ s.cores.dis1, a + 1000000000 ≤ s.tb.count) → (∃ r ∈ t.snag.inbox, r.code = 0x0A ∧ r.unit = 0 ∧ r.cls = .note ∧ r.stamp = s.tb.count)) ∧ { t with cores := s.cores, caps := s.caps, nvm := s.nvm, snag := s.snag } = s) ∧
  (∀ (c : Ckpt) (s : State), s.cores.run0 = false → s.cores.ck0 = some c → ∃ t, exec (.corePairRestartDone 0) s = .next t ∧ t.cores = { s.cores with run0 := true } ∧ t.caps.codes = c.codes ∧ t.caps.zones = c.zones ∧
    t.caps.stage2 = c.stage2 ∧ t.caps.gateOrder = c.gateOrder ∧ t.nrg = s.nrg ∧ t.fce = s.fce ∧ t.zones = s.zones ∧ t.pins = s.pins) ∧
  (∀ (k : Nat) (ad : List Adapt) (s : State), s.cores.run1 = false → s.cores.ck1 = some (k, ad) → ∃ t, exec (.corePairRestartDone 1) s = .next t ∧ t.cores = { s.cores with run1 := true } ∧ t.fce.adapt = (ad.filter fun x => s.fce.slotAt.getD x.slot 0 ≤ k) ∧ { t with cores := s.cores, fce := s.fce } = s)

/-- TCV_RESULT: at a grid instant (a multiple of 400,000 TBT) at which modulator A's conversion ends, the filter's result of its bits,
corrected to sat(rnd((x - ofs) * gain, 22)), becomes the AIN1 result, stamped, and A converts AIN1 again; off the grid there is no result of
A. A result of B in an ordinary slot reaches its channel's register, as modulator B's; of a diode its temperature reaches THM_DIODE, and of
an open-wire conversion OPEN shows whether it lies at OW_LIM or above. The result of a cross-check slot since READY gives the outcome of R369
from A's, B's and the estimate's currents, with a NOTE 0x49 unless all agree. TCV_Q_LO_READ removes the head entry and copies its upper half;
an empty queue reads 0. A result that finds the queue full is discarded, counted and sets QOVF_SEEN. A channel that leaves its window is a
NOTE 0x4A, once. (R352, R355, R361, R363, R364, R365, R366, R367, R369). -/
def Obligations.ConverterResultsAreCorrectedAndDelivered : Prop :=
  (∀ (x ofs : Int) (gain : Nat), -8388608 ≤ correct ofs gain x ∧ correct ofs gain x ≤ 8388607 ∧ (-8388608 ≤ x → x ≤ 8388607 → correct 0 0x400000 x = x)) ∧
  (∀ (bits : BitVec 10240) (s : State), s.su.cond = .run → s.tcv.run = true → calRuns s = false → s.tcv.a.due ≤ s.tb.count → s.tb.count % 400000 = 0 → 1 < s.tcv.res.length → ∃ t, exec (.tcvResult false bits) s = .next t ∧ t.tcv.aR = correct s.tcv.ofsA s.tcv.gainA (rawOf s.tcv.a.method s.tcv.a.chop bits) ∧ t.tcv.aAt = some s.tb.count ∧
    (t.tcv.res.getD 1 {}).r = t.tcv.aR ∧ (t.tcv.res.getD 1 {}).at_ = s.tb.count ∧ t.tcv.a.ch = 1 ∧ s.tb.count + 400000 ≤ t.tcv.a.due ∧ t.tcv.b = s.tcv.b ∧ { t with tcv := s.tcv, snag := s.snag } = s) ∧
  (∀ (bits : BitVec 10240) (s : State), s.tb.count % 400000 ≠ 0 → exec (.tcvResult false bits) s = .next s) ∧
  (∀ (bits : BitVec 10240) (r : Int) (s : State), s.su.cond = .run → s.tcv.run = true → calRuns s = false → s.tcv.b.due ≤ s.tb.count → s.tb.count % 400000 = 0 → s.tcv.b.kind = 0 → s.tcv.b.method = 0 → s.tcv.b.ch < s.tcv.res.length → r = correct s.tcv.ofsB s.tcv.gainB (rawOf 0 s.tcv.b.chop bits) → ∃ t, exec (.tcvResult true bits) s = .next t ∧ t.tcv.bAt = some s.tb.count ∧ (t.tcv.res.getD s.tcv.b.ch {}).r = r ∧
    (t.tcv.res.getD s.tcv.b.ch {}).modB = true ∧ t.tcv.a = s.tcv.a ∧ t.tcv.aR = s.tcv.aR ∧ (s.tcv.b.ch < 2 ∨ 8 ≤ s.tcv.b.ch → t.msf = s.msf) ∧ { t with tcv := s.tcv, msf := s.msf, snag := s.snag } = s) ∧
  (∀ (bits : BitVec 10240) (r : Int) (s : State), s.su.cond = .run → s.tcv.run = true → calRuns s = false → s.tcv.b.due ≤ s.tb.count → s.tb.count % 400000 = 0 → s.tcv.b.kind = 0 → s.tcv.b.method = 1 → 8 ≤ s.tcv.b.ch → s.tcv.b.ch < 16 → s.tcv.b.ch - 8 < s.thm.diodes.length → r = blanked (correct 0 s.tcv.gainB (rawOf 1 s.tcv.b.chop bits)) → ∃ t, exec (.tcvResult true bits) s = .next t ∧ t.tcv.bAt = some s.tb.count ∧
    (t.thm.diodes.getD (s.tcv.b.ch - 8) {}).t = diodeTemp r (s.thm.cfg.diodes.getD (s.tcv.b.ch - 8) {}).nf ∧ (t.thm.diodes.getD (s.tcv.b.ch - 8) {}).at_ = some s.tb.count ∧ (t.thm.diodes.getD (s.tcv.b.ch - 8) {}).open_ = diodeOpen r ∧ t.zones = s.zones) ∧
  (∀ (bits : BitVec 10240) (r : Int) (s : State), s.su.cond = .run → s.tcv.run = true → calRuns s = false → s.tcv.b.due ≤ s.tb.count → s.tb.count % 400000 = 0 → s.tcv.b.kind = 0 → s.tcv.b.method = 2 → s.tcv.b.ch < 16 → r = blanked (correct 0 s.tcv.gainB (rawOf 2 s.tcv.b.chop bits)) → ∃ t, exec (.tcvResult true bits) s = .next t ∧ t.tcv.bAt = some s.tb.count ∧ t.tcv.owstat.getLsbD s.tcv.b.ch = decide (1000 * 8388608 * (s.tcv.cfg.owLim : Int) ≤ r * 1250000) ∧
    t.tcv.res = s.tcv.res ∧ { t with tcv := s.tcv, snag := s.snag } = s) ∧
  (∀ (bits : BitVec 10240) (r : Int) (s : State), s.su.readyEver = true → s.su.cond = .run → s.tcv.run = true → calRuns s = false → s.tcv.b.due ≤ s.tb.count → s.tb.count % 400000 = 0 → s.tcv.b.kind = 1 → s.tcv.b.method = 0 → r = correct s.tcv.ofsB s.tcv.gainB (rawOf 0 s.tcv.b.chop bits) → ∃ t, exec (.tcvResult true bits) s = .next t ∧ t.tcv.xIa = iinOf s.tcv.cfg s.tcv.aR ∧ t.tcv.xIb = iinOf s.tcv.cfg r ∧
    t.tcv.xOut = slotOut s.tcv.cfg.xtol t.tcv.xIa t.tcv.xIb (ieOf s) (refOk s) ∧ t.tcv.xchks = satInc 0xFFFF s.tcv.xchks ∧ (t.tcv.xOut ≠ .all → (∃ r ∈ t.snag.inbox, r.code = 0x49 ∧ r.unit = 1 ∧ r.cls = .note ∧ r.stamp = s.tb.count)) ∧
    { t with tcv := s.tcv, snag := s.snag } = s) ∧
  (∀ (xtol ia ib ie : Nat) (ref : Bool), (slotOut xtol ia ib ie ref = .all ↔ agree xtol ia ib = true ∧ (agree xtol ia ie = true ∨ agree xtol ib ie = true)) ∧
    (slotOut xtol ia ib ie ref = .aOut ↔ agree xtol ia ib = false ∧ agree xtol ia ie = false ∧ agree xtol ib ie = true) ∧
    (slotOut xtol ia ib ie ref = .noneE ↔ agree xtol ia ib = false ∧ agree xtol ia ie = false ∧ agree xtol ib ie = false ∧ ref = false) ∧
    agree xtol ia ib = agree xtol ib ia) ∧
  (∀ (e : TcvQ) (rest : List TcvQ) (s : State), (s.su.cond = .run ∨ s.su.cond = .safe) → s.su.readyEver = true → s.tcv.queue = e :: rest → ∃ t, exec .tcvQLoRead s = .next t ∧ t.tcv = { s.tcv with queue := rest, qHi := word [(e.stamp / 1024, 0, 31), (b2n e.xchk, 31, 1)] } ∧
    t.rp = { s.rp with rdata := word [(twos 24 e.r, 0, 24), (e.ch, 24, 5), (b2n e.modB, 29, 1), (b2n e.spec, 30, 1), (1, 31, 1)] } ∧ { t with tcv := s.tcv, rp := s.rp } = s) ∧
  (∀ (s : State), (s.su.cond = .run ∨ s.su.cond = .safe) → s.su.readyEver = true → s.tcv.queue = [] → exec .tcvQLoRead s = .next { s with rp := { s.rp with rdata := 0 } }) ∧
  (∀ (e : TcvQ) (s : State), (s.tcv.queue.length < 64 → tcvPush s e = { s with tcv := { s.tcv with queue := s.tcv.queue ++ [e] } }) ∧
    (64 ≤ s.tcv.queue.length → (tcvPush s e).tcv = { s.tcv with ovf := satInc 0xFFFF s.tcv.ovf, status := s.tcv.status ||| BitVec.ofNat 9 (2 ^ 8) })) ∧
  (∀ (ch : Nat) (r : Int) (s : State), s.su.readyEver = true → (s.tcv.winLo.getD ch 0).toInt ≤ (s.tcv.winHi.getD ch 0).toInt → ch < s.tcv.res.length → ch < 32 → (r / 256 < (s.tcv.winLo.getD ch 0).toInt ∨ (s.tcv.winHi.getD ch 0).toInt < r / 256) → ((compareWin s ch r).tcv.res.getD ch {}).outside = true ∧ ((s.tcv.res.getD ch {}).outside = true → (compareWin s ch r).snag = s.snag) ∧
    ((s.tcv.res.getD ch {}).outside = false → (compareWin s ch r).tcv.wstat.getLsbD ch = true ∧ ∃ x ∈ (compareWin s ch r).snag.inbox, x.code = 0x4A ∧ x.unit = ch ∧ x.cls = .note))

/-- TCV_SELF_CAL since READY is accepted only with no zone in MIST, RUN or HOLD and no other request, and begins at the next grid instant.
TCV_URGENT: a request of AIN1 rides on A's next result, one of B's running channel and method rides on B's, and any other waits for admission;
TCV_CAPTURE: a capture waits for admission. A request while another waits or runs, and an urgent CH of 23 to 31, is refused with REFUSED_SEEN
and a NOTE 0x49. TCV_ADMISSION comes no earlier than 20 ms after the last one: an urgent conversion then starts at the next grid instant g,
delivers at g + 1.6 ms, and the running conversion is set aside; a capture admitted at a result of B at r converts AIN1 from r + 0.2 ms to
r + 1.8 ms. TCV_STOPPED: no result of A for 2 ms or of B for 6 ms outside self-calibration sets LOST and raises DEGRADE 0x48.
(R358, R359, R360, R362, R371). -/
def Obligations.ConverterRequestsAndItsLoss : Prop :=
  (∀ (s : State), (s.su.cond = .run ∨ s.su.cond = .safe) → s.su.readyEver = true → s.tcv.calAt = none → tcvBusy s = false → (s.zones.all fun zn => !zCounts zn.st) → ∃ t, exec .tcvSelfCal s = .next t ∧ t.tcv = { s.tcv with calAt := some (ceilTo 400000 s.tb.count), calChop := chopNow s, pmGap := true } ∧ { t with tcv := s.tcv } = s ∧
    ceilTo 400000 s.tb.count % 400000 = 0 ∧ s.tb.count ≤ ceilTo 400000 s.tb.count ∧ ceilTo 400000 s.tb.count < s.tb.count + 400000) ∧
  (∀ (s : State), (s.su.cond = .run ∨ s.su.cond = .safe) → s.su.readyEver = true → (s.tcv.calAt ≠ none ∨ tcvBusy s = true ∨ ¬ (s.zones.all fun zn => !zCounts zn.st)) → ∃ t, exec .tcvSelfCal s = .next t ∧ t.tcv = { s.tcv with status := s.tcv.status ||| BitVec.ofNat 9 (2 ^ 7) } ∧ (∃ r ∈ t.snag.inbox, r.code = 0x49 ∧ r.unit = 0 ∧ r.cls = .note ∧ r.stamp = s.tb.count) ∧ { t with tcv := s.tcv, snag := s.snag } = s) ∧
  (∀ (s : State), (s.su.cond = .run ∨ s.su.cond = .safe) → s.su.readyEver = true → tcvBusy s = false → ∃ t, exec (.tcvUrgent 1) s = .next t ∧ t.tcv = { s.tcv with uValid := false, uRefused := false, uCh := 1, rideA := true } ∧ { t with tcv := s.tcv } = s) ∧
  (∀ (c : Nat) (s : State), (s.su.cond = .run ∨ s.su.cond = .safe) → s.su.readyEver = true → tcvBusy s = false → c < 23 → c ≠ 1 → s.tcv.calAt = none → s.tcv.b.ch = c → s.tcv.b.method = methodOf s c → ∃ t, exec (.tcvUrgent c) s = .next t ∧ t.tcv = { s.tcv with uValid := false, uRefused := false, uCh := c, rideB := true } ∧ { t with tcv := s.tcv } = s) ∧
  (∀ (c : Nat) (s : State), (s.su.cond = .run ∨ s.su.cond = .safe) → s.su.readyEver = true → tcvBusy s = false → c < 23 → c ≠ 1 → s.tcv.b.ch ≠ c → ∃ t, exec (.tcvUrgent c) s = .next t ∧ t.tcv = { s.tcv with uValid := false, uRefused := false, uCh := c, waiting := some (some c) } ∧ { t with tcv := s.tcv } = s) ∧
  (∀ (c : Nat) (s : State), (s.su.cond = .run ∨ s.su.cond = .safe) → s.su.readyEver = true → c < 32 → (tcvBusy s = true ∨ 23 ≤ c) → ∃ t, exec (.tcvUrgent c) s = .next t ∧ t.tcv = { s.tcv with uValid := false, uRefused := true, status := s.tcv.status ||| BitVec.ofNat 9 (2 ^ 7) } ∧ (∃ r ∈ t.snag.inbox, r.code = 0x49 ∧ r.unit = c ∧ r.cls = .note ∧ r.stamp = s.tb.count) ∧ { t with tcv := s.tcv, snag := s.snag } = s) ∧
  (∀ (s : State), (s.su.cond = .run ∨ s.su.cond = .safe) → s.su.readyEver = true → tcvBusy s = true → ∃ t, exec .tcvCapture s = .next t ∧ t.tcv = { s.tcv with status := s.tcv.status ||| BitVec.ofNat 9 (2 ^ 7) } ∧ (∃ r ∈ t.snag.inbox, r.code = 0x49 ∧ r.unit = 1 ∧ r.cls = .note ∧ r.stamp = s.tb.count) ∧ { t with tcv := s.tcv, snag := s.snag } = s) ∧
  (∀ (s : State), (s.su.cond = .run ∨ s.su.cond = .safe) → s.su.readyEver = true → tcvBusy s = false → exec .tcvCapture s = .next { s with tcv := { s.tcv with waiting := some none } }) ∧
  (∀ (c : Nat) (s : State), s.tcv.run = true → s.tcv.running = false → s.tcv.calAt = none → (∀ a ∈ s.tcv.admitAt, a + 20000000 ≤ s.tb.count) → s.tcv.waiting = some (some c) → s.tcv.b.due ≠ ceilTo 400000 s.tb.count → ∃ t, exec .tcvAdmission s = .next t ∧ t.tcv.waiting = none ∧ t.tcv.running = true ∧ t.tcv.admitAt = some s.tb.count ∧ t.tcv.aborted = some s.tcv.b ∧ t.tcv.b.ch = c ∧
    t.tcv.b.start = ceilTo 400000 s.tb.count ∧ t.tcv.b.due = ceilTo 400000 s.tb.count + 1600000 ∧ t.tcv.a = s.tcv.a ∧ { t with tcv := s.tcv } = s) ∧
  (∀ (s : State), s.tcv.run = true → s.tcv.running = false → s.tcv.calAt = none → (∀ a ∈ s.tcv.admitAt, a + 20000000 ≤ s.tb.count) → s.tcv.waiting = some none → s.tcv.bAt = some s.tb.count → s.tcv.b.due ≠ s.tb.count → ∃ t, exec .tcvAdmission s = .next t ∧ t.tcv.waiting = none ∧ t.tcv.capture = some (s.tb.count, 0) ∧ t.tcv.aborted = some s.tcv.b ∧ t.tcv.b.ch = 1 ∧ t.tcv.b.start = s.tb.count + 200000 ∧
    t.tcv.b.due = s.tb.count + 1800000 ∧ { t with tcv := s.tcv } = s) ∧
  (∀ (a : Nat) (s : State), s.tcv.admitAt = some a → s.tb.count < a + 20000000 → exec .tcvAdmission s = .next s) ∧
  (∀ (s : State), s.su.cond = .run → s.tcv.run = true → calRuns s = false → ((∃ a ∈ s.tcv.aAt, a + 2000000 ≤ s.tb.count) ∨ (∃ b ∈ s.tcv.bAt, b + 6000000 ≤ s.tb.count)) → ∃ t, exec .tcvStopped s = .next t ∧ t.tcv.lost = true ∧ (0x48, 0) ∈ t.snag.conds ∧ ((0x48, 0) ∉ s.snag.conds → (∃ r ∈ t.snag.inbox, r.code = 0x48 ∧ r.unit = 0 ∧ r.cls = .degrade ∧ r.stamp = s.tb.count)) ∧ t.caps = s.caps ∧
    { t with tcv := s.tcv, snag := s.snag } = s)

/-- For each of the three codes of the Lath and the memories (packet word, memory word, route header): the decoder of R378 gives back the
encoder's data bits uncorrected; and when any one symbol of the word, data or check, has any non-zero value added to it, the decoder gives
back the same data bits, marked as corrected. The data bits stand in the low bits of the word as encoded. (R375, R376, R377, R378, R379). -/
def Obligations.Sc4CodesCorrectEverySingleSymbolError : Prop :=
  (∀ (d : W64), sc80Decode (sc80Encode d) = some (d, false) ∧ (sc80Encode d).setWidth 64 = d) ∧
  (∀ (d : W64) (k e : Nat), k < 20 → 0 < e → e < 16 → sc80Decode (sc80Encode d ^^^ BitVec.ofNat 80 (e * 16 ^ k)) = some (d, true)) ∧
  (∀ (d : BitVec 128), sc144Decode (sc144Encode d) = some (d, false) ∧ (sc144Encode d).setWidth 128 = d) ∧
  (∀ (d : BitVec 128) (k e : Nat), k < 36 → 0 < e → e < 16 → sc144Decode (sc144Encode d ^^^ BitVec.ofNat 144 (e * 16 ^ k)) = some (d, true)) ∧
  (∀ (h : W32), hdrDecode (hdrEncode h) = some (h, false) ∧ (hdrEncode h).setWidth 32 = h) ∧
  (∀ (h : W32) (k e : Nat), k < 11 → 0 < e → e < 16 → hdrDecode (hdrEncode h ^^^ BitVec.ofNat 44 (e * 16 ^ k)) = some (h, true))

/-- LATH_TRANSFER_RX: a link serves a packet unless one of its class came before it or one of a more urgent class waits; once 15 slots have gone
by without BULK, a BULK packet that waits goes first (model: the slots are counted from the link's last BULK packet, assumption 110). A packet
that is not served yet changes nothing. Served, with no injection armed or held: the first transfer of a stream is accepted, delivered, and its SEQ becomes L, and
traffic of an acknowledged kind is answered; a transfer that follows L is accepted and counts the gap lost with a NOTE 0x52; one that equals
or precedes L is discarded as stale. A zone segment takes nothing in TELEMETRY or BULK. An undecodable header is counted uncorrectable,
reported under 0x50 and delivers nothing. A transfer that an armed injection drops reaches no decoder. LATH_ACK_RX: an acknowledgement stops
the repetition of the transfer with swapped ports and its SEQ. LATH_RETRY: a transfer whose interval passed is repeated until its tries are
used; then a fault report of a Float holds its zone for SAFE, another fault report or a Snag action is INSTANCE-SAFE 0x53, and a register
access completes with all ones. SEAM_LANE_FAIL: one failed lane is a NOTE 0x54, both are INSTANCE-SAFE 0x55. LTH_INJ_CTL_WRITE since READY
acts only where injection is permitted, else it is a NOTE 0x01. (R36, R37, R72, R380, R381, R382, R383, R384, R385, R386, R387). -/
def Obligations.LathTransfersSequenceRepetitionAndSeams : Prop :=
  (∀ (rx : Nat) (net : Option Nat) (kind : Nat) (h : W32) (d : W64) (hd : BitVec 44) (wd : BitVec 80) (ot : List (Nat × Bool)) (l : Lth) (s : State), linkTake s.lth net rx hd ot = some l → (s.su.cond = .run ∨ s.su.cond = .safe) → s.lth.injHeld = none → s.lth.injCtl.getLsbD 31 = false → hdrDecode hd = some (h, false) → sc80Decode wd = some (d, false) → hAck h = false → (net = none ∨ hClass h < 2) → (∀ y ∈ s.lth.streams, ¬ (y.net = net ∧ y.cx = none ∧ y.src = hSrc h ∧ y.dest = hDest h ∧ y.cls = hClass h)) → ∃ t, exec (.lathTransferRx rx net kind hd wd ot) s = .next t ∧ t.lth.delivered = some (rx, hClass h, d) ∧ t.lth.lost = s.lth.lost ∧ t.lth.corr = s.lth.corr ∧ t.lth.uncorr = s.lth.uncorr ∧
    t.lth.streams = { net := net, cx := none, src := hSrc h, dest := hDest h, cls := hClass h, last := hSeq h } :: s.lth.streams ∧ t.lth.slots = l.slots ∧
    (hClass h = 3 ∨ kind < 5 ∧ hClass h = kindClass kind → t.lth.ackOut = some (hdrEncode (mkHeader (hSrc h) (hDest h) true (hClass h) (hSeq h)), sc80Encode 0)) ∧ { t with lth := s.lth } = s) ∧
  (∀ (x : LathRx) (y : Stream) (h : W32) (d : W64) (s : State), hAck h = false → (x.net = none ∨ hClass h < 2) → s.lth.streams.find? (·.same { net := x.net, cx := x.cx, src := hSrc h, dest := hDest h, cls := hClass h, last := hSeq h }) = some y → serialAfter 12 (hSeq h) y.last = true → (lathDeliver s x h d).lth.delivered = some (x.rx, hClass h, d) ∧
    (gapOf y.last (hSeq h) = 0 → (lathDeliver s x h d).lth.lost = s.lth.lost ∧ (lathDeliver s x h d).snag = s.snag) ∧
    (0 < gapOf y.last (hSeq h) → (lathDeliver s x h d).lth.lost = satAdd 0xFFFF s.lth.lost (gapOf y.last (hSeq h)) ∧ ∃ r ∈ (lathDeliver s x h d).snag.inbox, r.code = 0x52 ∧ r.cls = .note)) ∧
  (∀ (x : LathRx) (y : Stream) (h : W32) (d : W64) (s : State), hAck h = false → (x.net = none ∨ hClass h < 2) → s.lth.streams.find? (·.same { net := x.net, cx := x.cx, src := hSrc h, dest := hDest h, cls := hClass h, last := hSeq h }) = some y → serialAfter 12 (hSeq h) y.last = false → (lathDeliver s x h d).lth.delivered = s.lth.delivered ∧ (lathDeliver s x h d).lth.streams = s.lth.streams ∧ (lathDeliver s x h d).lth.lost = s.lth.lost ∧ (lathDeliver s x h d).snag = s.snag) ∧
  (∀ (rx z : Nat) (kind : Nat) (h : W32) (d : W64) (hd : BitVec 44) (wd : BitVec 80) (ot : List (Nat × Bool)) (l : Lth) (s : State), linkTake s.lth (some z) rx hd ot = some l → (s.su.cond = .run ∨ s.su.cond = .safe) → s.lth.injHeld = none → s.lth.injCtl.getLsbD 31 = false → hdrDecode hd = some (h, false) → sc80Decode wd = some (d, false) → 2 ≤ hClass h → exec (.lathTransferRx rx (some z) kind hd wd ot) s = .next { s with lth := l }) ∧
  (∀ (rx : Nat) (net : Option Nat) (kind : Nat) (hd : BitVec 44) (wd : BitVec 80) (ot : List (Nat × Bool)) (l : Lth) (s : State), linkTake s.lth net rx hd ot = some l → (s.su.cond = .run ∨ s.su.cond = .safe) → s.lth.injHeld = none → s.lth.injCtl.getLsbD 31 = true → injMatch s.lth.injCtl 0 { rx, net, cx := none, kind, header := hd, word := wd } = true → s.lth.injCtl.toNat / 2 ^ 8 % 2 ^ 9 ≤ s.lth.injSkip → injMode s.lth.injCtl s.lth.injPat = 0 → exec (.lathTransferRx rx net kind hd wd ot) s = .next { s with lth := injCount l }) ∧
  (∀ (rx : Nat) (net : Option Nat) (kind : Nat) (hd : BitVec 44) (wd : BitVec 80) (ot : List (Nat × Bool)) (s : State), (s.su.cond = .run ∨ s.su.cond = .safe) → s.lth.injHeld = none → s.lth.injCtl.getLsbD 31 = false → hdrDecode hd = none → ∃ t, exec (.lathTransferRx rx net kind hd wd ot) s = .next t ∧ t.lth.delivered = s.lth.delivered ∧ t.lth.uncorr = satInc 0xFFFF s.lth.uncorr ∧ t.lth.streams = s.lth.streams ∧
    (∃ r ∈ t.snag.inbox, r.code = 0x50 ∧ r.stamp = s.tb.count ∧ (r.cls = .note ∨ r.cls = .degrade)) ∧ { t with lth := s.lth, snag := s.snag } = s) ∧
  (∀ (net : Option Nat) (h : W32) (hd : BitVec 44) (s : State), (s.su.cond = .run ∨ s.su.cond = .safe) → hdrDecode hd = some (h, false) → exec (.lathAckRx net hd) s = .next { s with lth := { s.lth with waits := s.lth.waits.filter fun w => !(w.net = net && w.src = hDest h && w.dest = hSrc h && w.cls = hClass h && w.seq = hSeq h) } }) ∧
  (∀ (w : TxWait) (z : Option Nat) (s : State), (s.su.cond = .run ∨ s.su.cond = .safe) → w.kind < 5 → w.cls = kindClass w.kind → s.lth.waits = [w] → w.at_ + (retryOf w.kind).1 ≤ s.tb.count → w.tries < (retryOf w.kind).2 → exec (.lathRetry w.net w.src w.dest w.cls w.seq w.kind z) s = .next { s with lth := { s.lth with repeats := satInc 0xFFFF s.lth.repeats, waits := [{ w with tries := w.tries + 1, at_ := s.tb.count }] } }) ∧
  (∀ (w : TxWait) (z : Option Nat) (s : State), (s.su.cond = .run ∨ s.su.cond = .safe) → w.kind < 5 → w.cls = kindClass w.kind → s.lth.waits = [w] → w.at_ + (retryOf w.kind).1 ≤ s.tb.count → (retryOf w.kind).2 ≤ w.tries → ∃ t, exec (.lathRetry w.net w.src w.dest w.cls w.seq w.kind z) s = .next t ∧ t.lth.waits = [] ∧ t.lth.repeats = s.lth.repeats ∧ t.lth.status = s.lth.status ||| BitVec.ofNat 4 (2 ^ 3) ∧
    (w.kind = 1 ∨ (w.kind = 0 ∧ z = none) → (∃ r ∈ t.snag.inbox, r.code = 0x53 ∧ r.unit = 0 ∧ r.cls = .instSafe ∧ r.stamp = s.tb.count) ∧ t.zones = s.zones ∧ t.rp = s.rp) ∧
    (w.kind = 3 → t.rp.rdata = 0xFFFFFFFF ∧ (∃ r ∈ t.snag.inbox, r.code = 0x52 ∧ r.unit = 0 ∧ r.cls = .note ∧ r.stamp = s.tb.count) ∧ t.zones = s.zones) ∧
    (∀ n ∈ z, w.kind = 0 → n < s.zones.length → (zoneD s n).halted = false → (zoneD t n).snagSafe = true ∧ ((zoneD s n).st ≠ .safe → (zoneD t n).safeDue = true))) ∧
  (∀ (j : Nat) (b : Bool) (s : State), (s.su.cond = .run ∨ s.su.cond = .safe) → j < 16 → s.lth.seam.getLsbD (2 * j + b2n b) = false → s.lth.seam.getLsbD (2 * j + b2n (!b)) = false → ∃ t, exec (.seamLaneFail j b) s = .next t ∧ t.lth.seam = s.lth.seam ||| w32 (2 ^ (2 * j + b2n b)) ∧ t.lth.seam.getLsbD (2 * j + b2n b) = true ∧ (∃ r ∈ t.snag.inbox, r.code = 0x54 ∧ r.unit = j ∧ r.cls = .note ∧ r.stamp = s.tb.count) ∧ { t with lth := s.lth, snag := s.snag } = s) ∧
  (∀ (j : Nat) (b : Bool) (s : State), (s.su.cond = .run ∨ s.su.cond = .safe) → j < 16 → s.lth.seam.getLsbD (2 * j + b2n b) = false → s.lth.seam.getLsbD (2 * j + b2n (!b)) = true → (0x55, j) ∉ s.snag.conds → ∃ t, exec (.seamLaneFail j b) s = .next t ∧ seamLost t.lth = true ∧ (∃ r ∈ t.snag.inbox, r.code = 0x55 ∧ r.unit = j ∧ r.cls = .instSafe ∧ r.stamp = s.tb.count) ∧ { t with lth := s.lth, snag := s.snag } = s) ∧
  (∀ (w : W32) (s : State), (s.su.cond = .run ∨ s.su.cond = .safe) → s.su.readyEver = true → injectPermitted s = true → exec (.lthInjCtlWrite w) s = .next { s with lth := { s.lth with injCtl := w, injSkip := 0, injDone := 0 } }) ∧
  (∀ (w : W32) (s : State), (s.su.cond = .run ∨ s.su.cond = .safe) → s.su.readyEver = true → injectPermitted s = false → exec (.lthInjCtlWrite w) s = .next (note s 0x01 0)) ∧
  (∀ (rx : Nat) (net : Option Nat) (kind : Nat) (hd : BitVec 44) (wd : BitVec 80) (ot : List (Nat × Bool)) (s : State), linkTake s.lth net rx hd ot = none → exec (.lathTransferRx rx net kind hd wd ot) s = .next s) ∧
  (∀ (net : Option Nat) (rx : Nat) (hd : BitVec 44) (h : W32) (ot : List (Nat × Bool)) (l : Lth), hdrDecode hd = some (h, false) → (linkTake l net rx hd ot = none ↔ (∃ o ∈ ot, o.1 = hClass h ∧ o.2 = true) ∨ (slotsOf l net rx < 15 ∧ ∃ o ∈ ot, o.1 < hClass h) ∨
    (15 ≤ slotsOf l net rx ∧ hClass h < 3 ∧ ((∃ o ∈ ot, o.1 = 3) ∨ ∃ o ∈ ot, o.1 < hClass h)))) ∧
  (∀ (net : Option Nat) (rx : Nat) (hd : BitVec 44) (h : W32) (ot : List (Nat × Bool)) (l t : Lth), hdrDecode hd = some (h, false) → linkTake l net rx hd ot = some t → slotsOf t net rx = (if hClass h = 3 then 0 else min 15 (slotsOf l net rx + 1)) ∧ (∀ (n : Option Nat) (r : Nat), (n, r) ≠ (net, rx) → slotsOf t n r = slotsOf l n r) ∧ { t with slots := l.slots } = l)

/-- CX_LINK_UP and CX_LINK_DOWN in a declared constellation of more than one instance: a link that goes down is DEGRADE 0x58 until no link that was
up is down. CX_LATH_FRAME_RX: a received frame with a wrong XCHK has no effect; a frame for this instance goes to its Lath, and a frame is
passed on with HOPS + 1 unless it is addressed here, its own, or out of hops. HEARTBEAT_SEND leaves at the ticks that leave 1,000 × CASC_ID
modulo 10,000. HEARTBEAT_RX: one of another instance with the same key updates that peer; one with the own number and another NONCE is
INSTANCE-SAFE 0x5A. TIME_EXCHANGE_START of a follower sends a time request; TIME_REQUEST_RX: the master answers it; TIME_ANSWER_RX in READY
sets θ = ((t2 − t1) − (t4 − t3)) ÷ 2 to be slewed. PEER_LOST: 30 µs without a heartbeat, or STATE 2 or 3, loses a peer: DEGRADE 0x59.
MASTER_SUCCESSION: the survivor in READY with the lowest CASC_ID takes TERM + 1. SHARE_REPORT_RX and SHARE_RX: the master keeps a report, an
instance its share; the shares computed never exceed CSC_CAP. (R388, R389, R390, R391, R392, R393, R394, R395, R396). -/
def Obligations.CascadeLinksHeartbeatsTimeAndShares : Prop :=
  (∀ (b : Bool) (s : State), s.su.cond = .run → 3 ≤ s.su.stepNo → 1 < s.csc.cfg.ninst → ∃ t, exec (.cxLinkUp b) s = .next t ∧ (if b then t.csc.cxbUp else t.csc.cxaUp) = true ∧ (if b then t.csc.cxaUp = s.csc.cxaUp else t.csc.cxbUp = s.csc.cxbUp) ∧
    (linkWasDown t.csc = false → (0x58, 0) ∉ s.snag.conds → t.snag = s.snag) ∧ (linkWasDown t.csc = true → t.snag = s.snag) ∧ { t with csc := s.csc, snag := s.snag } = s) ∧
  (∀ (b : Bool) (s : State), s.su.cond = .run → 3 ≤ s.su.stepNo → 1 < s.csc.cfg.ninst → (if b then s.csc.cxbUp else s.csc.cxaUp) = true → (0x58, 0) ∉ s.snag.conds → ∃ t, exec (.cxLinkDown b) s = .next t ∧ (if b then t.csc.cxbUp else t.csc.cxaUp) = false ∧ linkWasDown t.csc = true ∧ (∃ r ∈ t.snag.inbox, r.code = 0x58 ∧ r.unit = 0 ∧ r.cls = .degrade ∧ r.stamp = s.tb.count) ∧
    (0x58, 0) ∈ t.snag.conds ∧ { t with csc := s.csc, snag := s.snag } = s) ∧
  (∀ (b : Bool) (kind : Nat) (f : BitVec 144) (s : State), bitsOf f.toNat 12 4 ≠ frameXchk f → exec (.cxLathFrameRx b kind f) s = .next s) ∧
  (∀ (b : Bool) (kind : Nat) (f : BitVec 144) (h : W32) (s : State), s.su.cond = .run → 3 ≤ s.su.stepNo → 1 < s.csc.cfg.ninst → bitsOf f.toNat 12 4 = frameXchk f → bitsOf f.toNat 10 2 = 0 → s.lth.injHeld = none → s.lth.injCtl.getLsbD 31 = false → hdrDecode (BitVec.ofNat 44 (bitsOf f.toNat 16 44)) = some (h, false) → frameHere s f = false → ∃ t, exec (.cxLathFrameRx b kind f) s = .next t ∧ t.csc.fwd = (if frameForward s f then some (!b, frameHop f) else s.csc.fwd) ∧ t.lth = s.lth ∧ { t with csc := s.csc } = s) ∧
  (∀ (b : Bool) (kind : Nat) (f : BitVec 144) (h : W32) (r : State) (s : State), s.su.cond = .run → 3 ≤ s.su.stepNo → 1 < s.csc.cfg.ninst → bitsOf f.toNat 12 4 = frameXchk f → bitsOf f.toNat 10 2 = 0 → s.lth.injHeld = none → s.lth.injCtl.getLsbD 31 = false → hdrDecode (BitVec.ofNat 44 (bitsOf f.toNat 16 44)) = some (h, false) → frameHere s f = true →
    r = lathReceive s { rx := 128 + b2n b, net := none, cx := some (bitsOf f.toNat 4 3), kind, header := BitVec.ofNat 44 (bitsOf f.toNat 16 44), word := BitVec.ofNat 80 (bitsOf f.toNat 60 80), frame := f } →
    exec (.cxLathFrameRx b kind f) s = .next (if frameForward s f then { r with csc := { r.csc with fwd := some (!b, frameHop f) } } else r)) ∧
  (∀ (s : State), s.su.cond = .run → 3 ≤ s.su.stepNo → 1 < s.csc.cfg.ninst → (s.csc.cxaUp = true ∨ s.csc.cxbUp = true) → s.tb.count % 10000 = 1000 * s.su.cascId → ∃ t, exec .heartbeatSend s = .next t ∧ t.csc.out = [.heartbeat (hbWord s)] ∧ { t with csc := s.csc } = s) ∧
  (∀ (hb : W64) (s : State), s.su.cond = .run → 1 < s.csc.cfg.ninst → s.su.readyEver = true → s.csc.forming = false → hbFld hb 32 32 = s.csc.cfg.key.toNat → hbFld hb 8 4 = s.csc.cfg.ninst → hb.getLsbD 7 = s.fus.shadow.succession → hbFld hb 0 3 ≠ s.su.cascId → hbFld hb 0 3 < s.csc.peers.length → (hbFld hb 4 3 = 0 ∨ hbFld hb 4 3 = 1) → hb.getLsbD 3 = false → ∃ t, exec (.heartbeatRx hb) s = .next t ∧ (peerD t (hbFld hb 0 3)).seen = true ∧ (peerD t (hbFld hb 0 3)).at_ = s.tb.count ∧ (peerD t (hbFld hb 0 3)).state = hbFld hb 4 3 ∧
    (peerD t (hbFld hb 0 3)).nonce.toNat = hbFld hb 16 16 ∧ t.csc.masterId = s.csc.masterId ∧ t.csc.isMaster = s.csc.isMaster ∧ { t with csc := s.csc, snag := s.snag } = s) ∧
  (∀ (hb : W64) (s : State), s.su.cond = .run → 1 < s.csc.cfg.ninst → s.su.readyEver = true → s.csc.forming = false → hbFld hb 32 32 = s.csc.cfg.key.toNat → hbFld hb 8 4 = s.csc.cfg.ninst → hb.getLsbD 7 = s.fus.shadow.succession → hbFld hb 0 3 = s.su.cascId → hbFld hb 16 16 ≠ s.csc.nonce.toNat → ∃ t, exec (.heartbeatRx hb) s = .next t ∧ (∃ r ∈ t.snag.inbox, r.code = 0x5A ∧ r.unit = s.su.cascId ∧ r.cls = .instSafe ∧ r.stamp = s.tb.count) ∧ { t with snag := s.snag } = s) ∧
  (∀ (s : State), s.su.cond = .run → 1 < s.csc.cfg.ninst → s.su.readyEver = true → s.csc.isMaster = false → s.csc.hasMaster = true → s.csc.forming = false → (∀ a ∈ s.csc.reqAt, a + 1000000 ≤ s.tb.count) → ∃ t, exec .timeExchangeStart s = .next t ∧ t.csc.reqAt = some s.tb.count ∧ t.csc.out = [.timeRequest s.tb.count] ∧ { t with csc := s.csc } = s) ∧
  (∀ (src : Nat) (s : State), s.su.cond = .run → 1 < s.csc.cfg.ninst → s.csc.isMaster = true → src < 8 → ∃ t, exec (.timeRequestRx src) s = .next t ∧ t.csc.out = [.timeAnswer src s.tb.count s.tb.count] ∧ { t with csc := s.csc } = s) ∧
  (∀ (t1 t2 t3 t4 : Int) (s : State), s.su.cond = .run → 1 < s.csc.cfg.ninst → s.su.readyEver = true → s.csc.isMaster = false → s.csc.reqAt ≠ none → s.csc.forming = false → ∃ t, exec (.timeAnswerRx t1 t2 t3 t4) s = .next t ∧ t.csc.slew = ((t2 - t1) - (t4 - t3)) / 2 ∧ t.csc.exchanges = satInc 0xFFFF s.csc.exchanges ∧
    t.tb = s.tb ∧ { t with csc := s.csc } = s) ∧
  (∀ (i : Nat) (s : State), s.su.cond = .run → 1 < s.csc.cfg.ninst → i < s.csc.cfg.ninst → i ≠ s.su.cascId → i < s.csc.peers.length → (peerD s i).seen = true → ((peerD s i).at_ + 30000 ≤ s.tb.count ∨ (peerD s i).state = 2 ∨ (peerD s i).state = 3) → (peerD s i).lost = false → (0x59, i) ∉ s.snag.conds → ∃ t, exec (.peerLost i) s = .next t ∧ (peerD t i).lost = true ∧ (∃ r ∈ t.snag.inbox, r.code = 0x59 ∧ r.unit = i ∧ r.cls = .degrade ∧ r.stamp = s.tb.count) ∧ t.csc.masterId = s.csc.masterId ∧ { t with csc := s.csc, snag := s.snag } = s) ∧
  (∀ (s : State), s.su.cond = .run → 1 < s.csc.cfg.ninst → s.csc.hasMaster = true → s.csc.isMaster = false → (peerD s s.csc.masterId).lost = true → s.fus.shadow.succession = true → s.tb.count % 10000 = 0 → heir s = true → ∃ t, exec .masterSuccession s = .next t ∧ t.csc.isMaster = true ∧ t.csc.masterId = s.su.cascId ∧ t.csc.term = (s.csc.term + 1) % 16 ∧ t.csc.slew = 0 ∧ { t with csc := s.csc } = s) ∧
  (∀ (src p f m : Nat) (s : State), s.su.cond = .run → 1 < s.csc.cfg.ninst → s.csc.isMaster = true → src < s.csc.cfg.ninst → src ≠ s.su.cascId → src < s.csc.peers.length → ∃ t, exec (.shareReportRx src p f m) s = .next t ∧ (peerD t src).report = some (p, f, m) ∧ (s.csc.cfg.cap = 0 → t.csc.share = s.csc.share) ∧ { t with csc := s.csc } = s) ∧
  (∀ (w : Nat) (s : State), s.su.cond = .run → 1 < s.csc.cfg.ninst → s.csc.isMaster = false → w < 65536 → exec (.shareRx w) s = .next { s with csc := { s.csc with share := some w, shareAt := some s.tb.count } }) ∧
  (∀ (cap : Nat) (xs : List (Nat × Nat × Nat)), 0 < cap → cap < sumN (xs.map fun x => x.2.1) → (∀ x ∈ xs, x.2.2 ≤ x.2.1) → sumN ((sharesOf cap xs).map (·.2)) ≤ cap)

/-- FAULT_REPORT: the report at the head of the Snag unit's inbox is taken. A NOTE stamped at or after the latest CLEAR_FAULTS sets bit 0 of
SNG_ALERT, is counted since READY, enters a RAM log that has room, and neither holds a pair nor changes a zone, a pin or the MSF. A report of
a higher class of a pair not held holds the pair with its last assertion. DEGRADE of a source other than a tile short or switch failure
changes no zone and no pin. ZONE-SAFE holds its zone for SAFE, which it enters at its next sample instant, and leaves every pin and every
other zone. INSTANCE-SAFE does so for every zone that the power-down has not taken, and READY falls with every ZONE_READY. The first HALT is
stamped, READY falls; a later HALT leaves the stamp. A repeated assertion of a held pair of no higher class moves its last assertion and
holds nothing new. (R56, R399, R402, R403, R404, R409, R412). -/
def Obligations.ReportsTakeTheActionOfTheirClass : Prop :=
  (∀ (r : FaultRep) (rest : List FaultRep) (s : State), s.su.cond = .run → s.snag.inbox = r :: rest → r.cls = .note → (r.code ≠ 0x61 ∨ s.su.readyEver = true) → s.pmb.clearAt ≤ r.stamp → ∃ t, exec .faultReport s = .next t ∧ t.snag.inbox = rest ∧ t.snag.held = s.snag.held ∧ t.snag.alert.getLsbD 0 = true ∧
    (s.su.readyEver = true → t.snag.notes = satInc 0xFFFF s.snag.notes) ∧
    (s.snag.log.length < 256 → t.snag.log = s.snag.log ++ [{ forced := r.forced, latched := false, recov := false, cls := 0, code := r.code, unit := r.unit, stamp := r.stamp }]) ∧
    (256 ≤ s.snag.log.length → t.snag.log = s.snag.log ∧ t.snag.ovfSeen = true) ∧ { t with snag := s.snag, pmb := s.pmb } = s) ∧
  (∀ (r : FaultRep) (rest : List FaultRep) (s : State), s.su.cond = .run → s.snag.inbox = r :: rest → r.cls = .degrade → heldOf s r.code r.unit = none → r.code ≠ 0x20 → r.code ≠ 0x21 → ∃ t, exec .faultReport s = .next t ∧ (∃ h ∈ t.snag.held, h.code = r.code ∧ h.unit = r.unit ∧ h.cls = r.cls ∧ h.l = max r.stamp r.l) ∧ (∀ x ∈ rest, x ∈ t.snag.inbox) ∧ degraded t = true ∧ { t with snag := s.snag, pmb := s.pmb, nvm := s.nvm } = s) ∧
  (∀ (r : FaultRep) (rest : List FaultRep) (s : State), s.su.cond = .run → s.snag.inbox = r :: rest → r.cls = .zoneSafe → heldOf s r.code r.unit = none → r.unit < s.zones.length → (zoneD s r.unit).halted = false → r.code ≠ 0x20 → r.code ≠ 0x21 → ∃ t, exec .faultReport s = .next t ∧ (∃ h ∈ t.snag.held, h.code = r.code ∧ h.unit = r.unit ∧ h.cls = r.cls ∧ h.l = max r.stamp r.l) ∧ (zoneD t r.unit).snagSafe = true ∧ ((zoneD s r.unit).st ≠ .safe → (zoneD t r.unit).safeDue = true) ∧
    (∀ i, i ≠ r.unit → zoneD t i = zoneD s i) ∧ t.zones.length = s.zones.length ∧ t.pins = s.pins ∧ t.msf = s.msf ∧ t.tb = s.tb ∧ t.fus = s.fus) ∧
  (∀ (r : FaultRep) (rest : List FaultRep) (s : State), s.su.cond = .run → s.snag.inbox = r :: rest → r.cls = .instSafe → heldOf s r.code r.unit = none → ∃ t, exec .faultReport s = .next t ∧ (∃ h ∈ t.snag.held, h.code = r.code ∧ h.unit = r.unit ∧ h.cls = r.cls ∧ h.l = max r.stamp r.l) ∧ (t.zones.all fun zn => zn.halted || (zn.snagSafe && (zn.safeDue || zn.st = .safe))) = true ∧ (t.zones.all fun zn => !zn.ready) = true ∧ t.pins = { s.pins with ready := false } ∧
    t.msf = s.msf ∧ (s.su.readyEver = true → t.su = s.su) ∧ t.tb = s.tb ∧ t.fus = s.fus) ∧
  (∀ (r : FaultRep) (rest : List FaultRep) (s : State), s.su.cond = .run → s.snag.inbox = r :: rest → r.cls = .halt → r.code ≠ 0x44 → heldOf s r.code r.unit = none → s.snag.haltAt = none → ∃ t, exec .faultReport s = .next t ∧ (∃ h ∈ t.snag.held, h.code = r.code ∧ h.unit = r.unit ∧ h.cls = r.cls ∧ h.l = max r.stamp r.l) ∧ t.snag.haltAt = some s.tb.count ∧ t.snag.haltStep = 0 ∧ t.pins = { s.pins with ready := false } ∧ t.msf = s.msf ∧
    t.zones.length = s.zones.length ∧ t.tb = s.tb ∧ t.fus = s.fus) ∧
  (∀ (r : FaultRep) (rest : List FaultRep) (s : State), s.su.cond = .run → s.snag.inbox = r :: rest → r.cls = .halt → r.code ≠ 0x44 → heldOf s r.code r.unit = none → s.snag.haltAt ≠ none → r.code ≠ 0x20 → r.code ≠ 0x21 → ∃ t, exec .faultReport s = .next t ∧ t.snag.haltAt = s.snag.haltAt ∧ t.snag.haltStep = s.snag.haltStep ∧ t.pins = s.pins ∧ t.zones = s.zones ∧ t.msf = s.msf) ∧
  (∀ (r : FaultRep) (rest : List FaultRep) (h : Held) (s : State), s.su.cond = .run → s.snag.inbox = r :: rest → heldOf s r.code r.unit = some h → r.cls ≠ .note → clsCode r.cls ≤ clsCode h.cls → ∃ t, exec .faultReport s = .next t ∧ t.snag.inbox = rest ∧ t.snag.held = s.snag.held.map (fun x => if x.code = r.code && x.unit = r.unit then { x with l := max x.l (max r.stamp r.l) } else x) ∧
    { t with snag := s.snag } = s) ∧
  (∀ (s : State), s.su.cond = .run → s.snag.inbox = [] → exec .faultReport s = .next s)

/-- FAULT_RECOVERY: a held pair recovers once nothing asserts it and its quiet time since the last assertion is over: it is no longer held, its
recovery counter goes up, and zones that no pair keeps in SAFE are released; a latched pair, a HALT and one still inside its quiet time do
not recover. HALT_STAGE_OFF and HALT_MSF_OFF: after a HALT at h, stage by stage from the highest, the zones enter OFF at
h + 100 µs + j × 500 µs; then the MSF turns off. ALIVE_TOGGLE at multiples of its half period in READY. SNG_CMD_HALT needs CONFIRM 0x5A, else
it is a NOTE 0x01. SNG_CMD_SNAPSHOT and SNAPSHOT_TIMER: a snapshot joins the log queue on command and 600 s after the last one.
SNG_FORCE_WRITE: a permitted force bit asserts its source; one not permitted is a NOTE 0x01; clearing needs no permission. SNG_LOG_LO_READ
answers the oldest entry and removes it. CLEAN_PERIOD: a tile's CLEAN count goes up at the end of its 24 h in READY, and at 30 its ISO_N goes
down by 1. (R404, R405, R407, R408, R409, R410, R411, R412, R414, R415). -/
def Obligations.RecoveryPowerDownAliveSnapshotsAndForces : Prop :=
  (∀ (c u : Nat) (h : Held) (s : State), (s.su.cond = .run ∨ s.su.cond = .safe) → heldOf s c u = some h → recovers s h = true → c < s.snag.recov.length → ∃ t, exec (.faultRecovery c u) s = .next t ∧ isHeld t c u = false ∧ t.snag.recov.getD c 0 = satInc 0xFFFF (s.snag.recov.getD c 0) ∧ (∀ c2 u2, (c2 ≠ c ∨ u2 ≠ u) → isHeld t c2 u2 = isHeld s c2 u2) ∧
    (h.cls = .degrade → t.zones = s.zones) ∧ (h.cls ≠ .degrade → h.cls ≠ .note → instSafeHeld t = false → halted s = false → ∀ z, z < s.zones.length → zoneSafeHeld t z = false → (zoneD t z).snagSafe = false) ∧
    t.pins = s.pins ∧ t.su = s.su ∧ t.msf = s.msf) ∧
  (∀ (c u : Nat) (h : Held) (s : State), heldOf s c u = some h → (h.latched = true ∨ h.cls = .halt ∨ h.preReady = true ∨ (c, u) ∈ s.snag.conds ∨ s.tb.count < h.l + quietOf s.snag.cfg h.cls) → exec (.faultRecovery c u) s = .next s) ∧
  (∀ (h : Nat) (s : State), s.snag.haltAt = some h → s.snag.haltStep < (stagesOf s).length → h + 100000 + 500000 * s.snag.haltStep ≤ s.tb.count → ∃ t, exec .haltStageOff s = .next t ∧ t.snag.haltStep = s.snag.haltStep + 1 ∧
    (∀ z, z < s.zones.length → (zoneD s z).cfg.stage = (stagesOf s).reverse.getD s.snag.haltStep 0 → (zoneD t z).st = .off ∧ (zoneD t z).halted = true) ∧
    (∀ z, (zoneD s z).cfg.stage ≠ (stagesOf s).reverse.getD s.snag.haltStep 0 → zoneD t z = zoneD s z) ∧ t.msf = s.msf ∧ t.pins = s.pins) ∧
  (∀ (h : Nat) (s : State), s.snag.haltAt = some h → s.snag.haltMsf = false → (stagesOf s).length ≤ s.snag.haltStep → h + 100000 + 500000 * (stagesOf s).length ≤ s.tb.count → ∃ t, exec .haltMsfOff s = .next t ∧ t.msf.st = .off ∧ t.pins = { s.pins with pgOut := false } ∧ t.snag.haltMsf = true ∧ { t with msf := s.msf, pins := s.pins, snag := s.snag } = s) ∧
  (∀ (s : State), s.pins.ready = true → instSafeOrWorse s = false → ((s.caps.taskDone.take 4).any id) = true → s.tb.count % (1000 * max 1 s.snag.cfg.aliveHalf) = 0 → exec .aliveToggle s = .next { s with pins := { s.pins with alive := !s.pins.alive } }) ∧
  (∀ (s : State), (s.pins.ready = false ∨ instSafeOrWorse s = true) → exec .aliveToggle s = .next s) ∧
  (∀ (s : State), (s.su.cond = .run ∨ s.su.cond = .safe) → s.su.readyEver = true → ∃ t, exec (.sngCmdHalt 0x5A) s = .next t ∧ (∃ r ∈ t.snag.inbox, r.code = 0x02 ∧ r.unit = 0 ∧ r.cls = .halt ∧ r.stamp = s.tb.count) ∧ { t with snag := s.snag } = s) ∧
  (∀ (c : Nat) (s : State), (s.su.cond = .run ∨ s.su.cond = .safe) → s.su.readyEver = true → c ≠ 0x5A → exec (.sngCmdHalt c) s = .next (note s 0x01 0)) ∧
  (∀ (s : State), (s.su.cond = .run ∨ s.su.cond = .safe) → s.su.readyEver = true → logWrites s = true → s.nvm.queue.length < 32 → exec .sngCmdSnapshot s = .next { s with nvm := { s.nvm with queue := s.nvm.queue ++ [.snap (snapshotOf s)] }, snag := { s.snag with snapAt := s.tb.count } }) ∧
  (∀ (s : State), (s.su.cond = .run ∨ s.su.cond = .safe) → s.su.readyEver = true → logWrites s = true → s.nvm.queue.length < 32 → s.snag.snapAt + 600000000000 ≤ s.tb.count → exec .snapshotTimer s = .next { s with nvm := { s.nvm with queue := s.nvm.queue ++ [.snap (snapshotOf s)] }, snag := { s.snag with snapAt := s.tb.count } }) ∧
  (∀ (s : State), s.tb.count < s.snag.snapAt + 600000000000 → exec .snapshotTimer s = .next s) ∧
  (∀ (k i : Nat) (c : Cls) (w : W32) (s : State), (s.su.cond = .run ∨ s.su.cond = .safe) → s.su.readyEver = true → k < 8 → i < 32 → w.getLsbD i = true → injectPermitted s = true → baseCls (32 * k + i) = some c → (∀ f ∈ s.snag.forced, f.1 ≠ 32 * k + i) → ∃ t, exec (.sngForceWrite k w) s = .next t ∧ (32 * k + i, s.snag.forceUnit) ∈ t.snag.forced ∧ (∃ r ∈ t.snag.inbox, r.code = 32 * k + i ∧ r.unit = s.snag.forceUnit ∧ r.cls = c ∧ r.forced = true ∧ r.stamp = s.tb.count) ∧ { t with snag := s.snag } = s) ∧
  (∀ (k : Nat) (w : W32) (s : State), (s.su.cond = .run ∨ s.su.cond = .safe) → s.su.readyEver = true → k < 8 → w ≠ 0 → injectPermitted s = false → ∃ t, exec (.sngForceWrite k w) s = .next t ∧ (∀ f ∈ t.snag.forced, f ∈ s.snag.forced) ∧ (∃ r ∈ t.snag.inbox, r.code = 0x01 ∧ r.unit = 0 ∧ r.cls = .note ∧ r.stamp = s.tb.count) ∧ { t with snag := s.snag } = s) ∧
  (∀ (k : Nat) (s : State), (s.su.cond = .run ∨ s.su.cond = .safe) → s.su.readyEver = true → k < 8 → ∃ t, exec (.sngForceWrite k 0) s = .next t ∧ (∀ f ∈ t.snag.forced, f ∈ s.snag.forced ∧ f.1 / 32 ≠ k) ∧ { t with snag := s.snag } = s) ∧
  (∀ (e : LogEnt) (rest : List LogEnt) (s : State), (s.su.cond = .run ∨ s.su.cond = .safe) → s.snag.log = e :: rest → ∃ t, exec .sngLogLoRead s = .next t ∧ t.snag = { s.snag with log := rest, logHi := w32 (e.stamp / 1024) } ∧ { t with snag := s.snag, rp := s.rp } = s ∧
    t.rp.rdata = word [(e.unit, 0, 11), (e.code, 16, 8), (e.cls, 24, 3), (b2n e.recov, 28, 1), (b2n e.latched, 29, 1), (b2n e.forced, 30, 1), (1, 31, 1)]) ∧
  (∀ (s : State), (s.su.cond = .run ∨ s.su.cond = .safe) → s.snag.log = [] → exec .sngLogLoRead s = .next { s with rp := { s.rp with rdata := 0 } }) ∧
  (∀ (z i : Nat) (s : State), i < (zoneD s z).tiles.length → ∃ t, exec .cleanPeriod s = .next t ∧ { t with zones := s.zones } = s ∧ ((tileD s z i).cleanRun + 86400000000000 ≤ s.snag.runNs →
      (tileD t z i).summary = sumClean (tileD s z i).summary ∧ (tileD t z i).cleanRun = (tileD s z i).cleanRun + 86400000000000) ∧
    (s.snag.runNs < (tileD s z i).cleanRun + 86400000000000 → tileD t z i = tileD s z i)) ∧
  (∀ (x : BitVec 16), (bitsOf x.toNat 8 8 < 29 → bitsOf (sumClean x).toNat 8 8 = bitsOf x.toNat 8 8 + 1 ∧ bitsOf (sumClean x).toNat 0 8 = bitsOf x.toNat 0 8) ∧
    (bitsOf x.toNat 8 8 = 29 → bitsOf (sumClean x).toNat 8 8 = 0 ∧ bitsOf (sumClean x).toNat 0 4 = bitsOf x.toNat 0 4 - 1))

/-- NVM_ERASE, NVM_PROGRAM and NVM_VERIFY, with no command running: an erase or program below LOG_BASE (0x60_0000 where it is unknown) starts;
at or above it, or before the flash is discovered, it is refused with REFUSED set and nothing runs; VERIFY starts once the flash is
discovered. NVM_COMMAND_DONE: after an erase of a sector every byte of that 4 KiB sector reads 0xFF and every other byte reads as before;
after a program each of the 256 bytes reads its old value and the page buffer's byte (a program only clears bits: the model's choice,
assumption 61), and every other byte reads as before; a failed erase leaves the bytes (assumption 62); VERIFY answers the check of the
flash's bytes and changes none. NVM_PROG_DATA_WRITE: a data word takes its place and the pointer moves on. LOG_WRITE_DONE: the record at the
head of the log queue is appended to its region, a snapshot part by part; a failed one is a NOTE 0x68 and leaves the flash. LOG_CLEAR_FH,
LOG_CLEAR_SHUT and LOG_CLEAR_CNT renew the sectors of their region in PROVISIONED alone; elsewhere they are a NOTE 0x01.
(R104, R121, R122, R123, R124, 03_startup_fuses_and_image.md). -/
def Obligations.FlashCommandsBytesAndLogs : Prop :=
  (∀ (s : State), (s.su.cond = .run ∨ s.su.cond = .safe) → s.nvm.busy = none → s.nvm.discovered = true → s.nvm.progAddr.toNat < s.nvm.logBase.getD 0x600000 → exec .nvmErase s = .next { s with nvm := { s.nvm with ptr := 0, verifyDone := false, refused := false, busy := some (.erase (s.nvm.progAddr.toNat / 4096 * 4096)) } } ∧
    exec .nvmProgram s = .next { s with nvm := { s.nvm with ptr := 0, verifyDone := false, refused := false, busy := some (.program (s.nvm.progAddr.toNat / 256 * 256) s.nvm.page) } }) ∧
  (∀ (s : State), (s.su.cond = .run ∨ s.su.cond = .safe) → s.nvm.busy = none → (s.nvm.discovered = false ∨ s.nvm.logBase.getD 0x600000 ≤ s.nvm.progAddr.toNat) → exec .nvmErase s = .next { s with nvm := { s.nvm with ptr := 0, verifyDone := false, refused := true } } ∧
    exec .nvmProgram s = .next { s with nvm := { s.nvm with ptr := 0, verifyDone := false, refused := true } }) ∧
  (∀ (s : State), (s.su.cond = .run ∨ s.su.cond = .safe) → s.nvm.busy = none → s.nvm.discovered = true → exec .nvmVerify s = .next { s with nvm := { s.nvm with ptr := 0, verifyDone := false, refused := false, busy := some .verify } }) ∧
  (∀ (a : Nat) (s : State), s.nvm.busy = some (.erase a) → ∃ t, exec (.nvmCommandDone false) s = .next t ∧ t.nvm.busy = none ∧ t.nvm.error = false ∧ { t with nvm := s.nvm } = s ∧
    (∀ x, flashGet t.nvm.flash x = if x / 4096 = a / 4096 then 0xFF else flashGet s.nvm.flash x)) ∧
  (∀ (a : Nat) (p : List W32) (s : State), s.nvm.busy = some (.program a p) → p.length = 64 → Memory.wf s.nvm.flash = true → ∃ t, exec (.nvmCommandDone false) s = .next t ∧ t.nvm.busy = none ∧ t.nvm.error = false ∧ { t with nvm := s.nvm } = s ∧ Memory.wf t.nvm.flash = true ∧
    (∀ x, x < a ∨ a + 256 ≤ x → flashGet t.nvm.flash x = flashGet s.nvm.flash x) ∧
    (∀ i, i < 256 → flashGet t.nvm.flash (a + i) = flashGet s.nvm.flash (a + i) &&& BitVec.ofNat 8 ((p.getD (i / 4) 0).toNat / 256 ^ (i % 4)))) ∧
  (∀ (e : Bool) (s : State), s.nvm.busy = some .verify → ∃ t, exec (.nvmCommandDone e) s = .next t ∧ t.nvm.busy = none ∧ t.nvm.verifyDone = true ∧ t.nvm.verifyCode = verifyCode s.fus.shadow s.nvm.flash s.nvm.densityLog2 ∧ t.nvm.flash = s.nvm.flash ∧ { t with nvm := s.nvm } = s) ∧
  (∀ (a : Nat) (s : State), s.nvm.busy = some (.erase a) → exec (.nvmCommandDone true) s = .next { s with nvm := { s.nvm with busy := none, error := true } }) ∧
  (∀ (w : W32) (s : State), (s.su.cond = .run ∨ s.su.cond = .safe) → s.nvm.ptr < s.nvm.page.length → ∃ t, exec (.nvmProgDataWrite w) s = .next t ∧ t.nvm.page.getD s.nvm.ptr 0 = w ∧ t.nvm.ptr = (s.nvm.ptr + 1) % 64 ∧
    (∀ i, i ≠ s.nvm.ptr → t.nvm.page.getD i 0 = s.nvm.page.getD i 0) ∧ { t with nvm := s.nvm } = s) ∧
  (∀ (h : Header) (s : State), (s.su.cond = .run ∨ s.su.cond = .safe) → logClears s = true → s.nvm.hdr = some h → (∃ t, exec .logClearFh s = .next t ∧ t.nvm.flash = clearRegion s.nvm.flash h 1 ∧ t.nvm.queue = s.nvm.queue ∧ { t with nvm := s.nvm, thm := s.thm } = s) ∧
    (∃ t, exec .logClearShut s = .next t ∧ t.nvm.flash = clearRegion s.nvm.flash h 2 ∧ t.nvm.queue = s.nvm.queue ∧ { t with nvm := s.nvm, thm := s.thm } = s) ∧
    (∃ t, exec .logClearCnt s = .next t ∧ t.nvm.flash = clearRegion s.nvm.flash h 3 ∧ t.nvm.queue = s.nvm.queue ∧ { t with nvm := s.nvm, thm := s.thm } = s)) ∧
  (∀ (m : List Host.Cell) (h : Header) (r i q e : Nat), Memory.wf m = true → h.logBase % 4096 = 0 → r < 4 → q < 2 ^ 32 → e < 2 ^ 32 → secInfo (renew m h r i q e) h r i = some (q, e)) ∧
  (∀ (s : State), (s.su.cond = .run ∨ s.su.cond = .safe) → logClears s = false → exec .logClearFh s = .next (note s 0x01 0) ∧ exec .logClearShut s = .next (note s 0x01 0) ∧ exec .logClearCnt s = .next (note s 0x01 0)) ∧
  (∀ (h : Header) (r : FhRec) (rest : List LogRec) (s : State), (s.su.cond = .run ∨ s.su.cond = .safe) → s.nvm.busy = none → s.nvm.logOk = true → logWrites s = true → s.cores.run1 = true → s.nvm.batch ≠ 0 → s.nvm.hdr = some h → s.nvm.queue = .fh r :: rest → ∃ t, exec (.logWriteDone true) s = .next t ∧ t.nvm.queue = rest ∧ t.nvm.batch = s.nvm.batch - 1 ∧ t.nvm.flash = append s.nvm.flash h 1 (fhBytes r) ∧ { t with nvm := s.nvm, thm := s.thm } = s) ∧
  (∀ (h : Header) (r : ShutRecord) (rest : List LogRec) (s : State), (s.su.cond = .run ∨ s.su.cond = .safe) → s.nvm.busy = none → s.nvm.logOk = true → logWrites s = true → s.cores.run1 = true → s.nvm.batch ≠ 0 → s.nvm.hdr = some h → s.nvm.queue = .shut r :: rest → ∃ t, exec (.logWriteDone true) s = .next t ∧ t.nvm.queue = rest ∧ t.nvm.batch = s.nvm.batch - 1 ∧ t.nvm.flash = append s.nvm.flash h 2 (shutBytes r) ∧ { t with nvm := s.nvm, thm := s.thm } = s) ∧
  (∀ (h : Header) (x : Snapshot) (rest : List LogRec) (s : State), (s.su.cond = .run ∨ s.su.cond = .safe) → s.nvm.busy = none → s.nvm.logOk = true → logWrites s = true → s.cores.run1 = true → s.nvm.batch ≠ 0 → s.nvm.hdr = some h → s.nvm.queue = .snap x :: rest → ∃ t, exec (.logWriteDone true) s = .next t ∧ t.nvm.flash = append s.nvm.flash h 3 (snapPart x s.nvm.snapNo s.nvm.part) ∧ (s.nvm.part < 98 → t.nvm.queue = s.nvm.queue ∧ t.nvm.part = s.nvm.part + 1) ∧
    (98 ≤ s.nvm.part → t.nvm.queue = rest ∧ t.nvm.part = 0 ∧ t.nvm.snapNo = (s.nvm.snapNo + 1) % 2 ^ 32) ∧ { t with nvm := s.nvm, thm := s.thm } = s) ∧
  (∀ (h : Header) (r : LogRec) (rest : List LogRec) (s : State), (s.su.cond = .run ∨ s.su.cond = .safe) → s.nvm.busy = none → s.nvm.logOk = true → logWrites s = true → s.cores.run1 = true → s.nvm.batch ≠ 0 → s.nvm.hdr = some h → s.nvm.queue = r :: rest → ∃ t, exec (.logWriteDone false) s = .next t ∧ t.nvm.queue = rest ∧ t.nvm.flash = s.nvm.flash ∧ (∃ r ∈ t.snag.inbox, r.code = 0x68 ∧ r.unit = 0 ∧ r.cls = .note ∧ r.stamp = s.tb.count) ∧ { t with nvm := s.nvm, snag := s.snag } = s) ∧
  (∀ (s : State), s.nvm.busy ≠ none → exec .nvmErase s = .next s ∧ exec .nvmProgram s = .next s ∧ exec (.logWriteDone true) s = .next s)

/-- USER_WINDOW_WRITE, a write of any offset of any page of the user window, changes nothing before READY, and from READY, where the block
answers accesses, only adds a NOTE of source 0x01 to what goes to the Snag unit. A read of an offset of a page that holds no counter (none
of 0x00, 0x04, 0x08, 0x0C, 0x10, 0x14, 0x18) answers 0 and changes nothing else. (R70). -/
def Obligations.UserWindowIsReadOnly : Prop :=
  (∀ (q o : Nat) (s : State), (s.su.cond = .run ∨ s.su.cond = .safe) → s.su.readyEver = true → ∃ t, exec (.userWindowWrite q o) s = .next t ∧ (∃ r ∈ t.snag.inbox, r.code = 0x01 ∧ r.unit = 0 ∧ r.cls = .note ∧ r.stamp = s.tb.count) ∧ { t with snag := { t.snag with inbox := s.snag.inbox } } = s) ∧
  (∀ (q o : Nat) (s : State), s.su.readyEver = false → exec (.userWindowWrite q o) s = .next s) ∧
  (∀ (q o : Nat) (s : State), (s.su.cond = .run ∨ s.su.cond = .safe) → o ∉ [0x00, 0x04, 0x08, 0x0C, 0x10, 0x14, 0x18] → userRead s q o = { s with rp := { s.rp with rdata := 0 } })

/-- Where the block answers accesses: a REGISTER_WRITE of a register's RW fields sets them and its W1C bits written 1 clear, and nothing else
(SNG_ALERT, SNG_ALERT_MASK, TCV_QMASK, NVM_PROG_ADDR stand for their kind); one of a read-only register of the identity page has no
effect. UNOCCUPIED_ACCESS: a read of an unoccupied offset answers 0, a write of one has no effect, and from READY either is a NOTE 0x01;
before READY it is not logged. Before READY a write outside the registers of R98 has no effect. RP_TIMEOUT: an access without RP_ACK,
which only a block that does not answer leaves, completes with 0xFFFF_FFFF and one pulse of RPW_ERR. (R17, R18, R19, R72, R98). -/
def Obligations.RegisterPortAccesses : Prop :=
  (∀ (w : W32) (s : State), (s.su.cond = .run ∨ s.su.cond = .safe) → exec (.registerWrite 0x2014 w) s = .next { s with snag := { s.snag with alert := s.snag.alert &&& ~~~(w.setWidth 5) } }) ∧
  (∀ (w : W32) (s : State), (s.su.cond = .run ∨ s.su.cond = .safe) → exec (.registerWrite 0x2018 w) s = .next { s with snag := { s.snag with mask := w.setWidth 5 } } ∧ exec (.registerWrite 0x70020 w) s = .next { s with nvm := { s.nvm with progAddr := w } }) ∧
  (∀ (w : W32) (s : State), (s.su.cond = .run ∨ s.su.cond = .safe) → s.su.readyEver = true → exec (.registerWrite 0x4024 w) s = .next { s with tcv := { s.tcv with qmask := w } }) ∧
  (∀ (w : W32) (s : State), (s.su.cond = .run ∨ s.su.cond = .safe) → exec (.registerWrite 0 w) s = .next s ∧ exec (.registerWrite 4 w) s = .next s ∧ exec (.registerWrite 8 w) s = .next s) ∧
  (∀ (o : Nat) (w : W32) (s : State), s.su.readyEver = false → openEarly o = false → exec (.registerWrite o w) s = .next s) ∧
  (∀ (o : Nat) (s : State), (s.su.cond = .run ∨ s.su.cond = .safe) → regPeek s o = none → ∃ t, exec (.unoccupiedAccess false o) s = .next t ∧ t.rp.rdata = 0 ∧ (s.su.readyEver = true → (∃ r ∈ t.snag.inbox, r.code = 0x01 ∧ r.unit = 0 ∧ r.cls = .note ∧ r.stamp = s.tb.count)) ∧ (s.su.readyEver = false → t.snag = s.snag) ∧
    { t with rp := s.rp, snag := s.snag } = s) ∧
  (∀ (o : Nat) (s : State), (s.su.cond = .run ∨ s.su.cond = .safe) → regPeek s o = none → ∃ t, exec (.unoccupiedAccess true o) s = .next t ∧ (s.su.readyEver = true → (∃ r ∈ t.snag.inbox, r.code = 0x01 ∧ r.unit = 0 ∧ r.cls = .note ∧ r.stamp = s.tb.count)) ∧ (s.su.readyEver = false → t = s) ∧ { t with snag := s.snag } = s) ∧
  (∀ (s : State), s.su.cond ≠ .run → s.su.cond ≠ .safe → exec .rpTimeout s = .next { s with rp := { rdata := 0xFFFFFFFF, pulses := s.rp.pulses + 1 } })

/-- While the target answers its address (from the end of fuse loading, and in SAFE), each read command is acknowledged and answers the bytes
of the command table, least significant byte first, and changes nothing outside the target: CAPABILITY 0xD0, VOUT_MODE 0x14,
PMBUS_REVISION 0x44; MFR_ID, MFR_MODEL and MFR_REVISION their ASCII blocks; PAGE and WRITE_PROTECT their bytes, OPERATION 0x80 while READY
is high and else 0x00; STATUS_BYTE, STATUS_WORD, STATUS_TEMPERATURE, STATUS_CML and STATUS_MFR_SPECIFIC; READ_VIN, READ_IIN, READ_PIN,
READ_IOUT, READ_TEMPERATURE_1 and READ_TEMPERATURE_2 in LINEAR11 with exponents -4, -3, 2, 1 or -1, -2, -2 and READ_VOUT in LINEAR16, for
PAGE 0xFF and for a zone; MFR_POWER_CAP, MFR_ENERGY_CAP, MFR_CAP_EFF, MFR_CAP_LIMITS, MFR_BLK, MFR_SNAG and MFR_READ_ENERGY their blocks.
The mantissa is the value rounded to the nearest with ties upward and saturated. STATUS_WORD shows the live conditions and latches in the
bits of its table. In reset no read is acknowledged. (R354, R436, R439, R440, R441, R442, R444). -/
def Obligations.PmbusReadsAnswerTheirBytes : Prop :=
  (∀ (s : State), pmbUp s = true → exec .capability s = .next { s with pmb := { s.pmb with resp := [0xD0], acked := true } } ∧
    exec .voutMode s = .next { s with pmb := { s.pmb with resp := [0x14], acked := true } } ∧
    exec .pmbusRevision s = .next { s with pmb := { s.pmb with resp := [0x44], acked := true } } ∧
    exec .mfrId s = .next { s with pmb := { s.pmb with resp := [0x57, 0x45, 0x4E, 0x57, 0x49, 0x41], acked := true } } ∧
    exec .mfrModel s = .next { s with pmb := { s.pmb with resp := [0x47, 0x4C, 0x44, 0x2D, 0x33], acked := true } } ∧
    exec .mfrRevision s = .next { s with pmb := { s.pmb with resp := [0x33, 0x2E, 0x31, 0x2E, 0x30], acked := true } }) ∧
  (∀ (s : State), pmbUp s = true → exec (.page none) s = .next { s with pmb := { s.pmb with resp := leBytes 1 s.pmb.page, acked := true } } ∧
    exec (.operation none none) s = .next { s with pmb := { s.pmb with resp := leBytes 1 (if s.pins.ready then 0x80 else 0), acked := true } } ∧
    exec (.writeProtect none) s = .next { s with pmb := { s.pmb with resp := leBytes 1 s.pmb.wp, acked := true } } ∧
    exec .statusByte s = .next { s with pmb := { s.pmb with resp := leBytes 1 (statusLow s), acked := true } } ∧
    exec .statusWord s = .next { s with pmb := { s.pmb with resp := leBytes 2 (statusAll s), acked := true } } ∧
    exec .statusTemperature s = .next { s with pmb := { s.pmb with resp := leBytes 1 (statusTemp s), acked := true } } ∧
    exec .statusCml s = .next { s with pmb := { s.pmb with resp := leBytes 1 s.pmb.cml.toNat, acked := true } } ∧
    exec .statusMfrSpecific s = .next { s with pmb := { s.pmb with resp := leBytes 1 s.snag.alert.toNat, acked := true } }) ∧
  (∀ (s : State), pmbUp s = true → exec .readVin s = .next { s with pmb := { s.pmb with resp := leBytes 2 (linear11 (-4) (rdiv 439 (5 * resR s 0) s.tcv.cfg.vinDiv)), acked := true } } ∧
    exec .readIin s = .next { s with pmb := { s.pmb with resp := leBytes 2 (linear11 (-3) (rdiv 4391 (100000 * resR s 1) (8388608 * s.tcv.cfg.iinGain))), acked := true } } ∧
    exec .readPin s = .next { s with pmb := { s.pmb with resp := leBytes 2 (linear11 2 (nearest (fld (regValue s 0x8018) 16 16 : Nat) 4)), acked := true } }) ∧
  (∀ (s : State), pmbUp s = true → s.pmb.page = 0xFF → exec .readVout s = .next { s with pmb := { s.pmb with resp := leBytes 2 (linear16 (nearest (4096 * (fld (regValue s 0x6030) 0 13 : Nat)) 4000)), acked := true } } ∧
    exec .readIout s = .next { s with pmb := { s.pmb with resp := leBytes 2 (linear11 1 (nearest (fld (regValue s 0x8024) 0 12 : Nat) 2)), acked := true } } ∧
    exec .readTemperature1 s = .next { s with pmb := { s.pmb with resp := leBytes 2 (linear11 (-2) (nearest (4 * highest ((List.range s.su.zones).map (tzReg s))) 8)), acked := true } } ∧
    exec .readTemperature2 s = .next { s with pmb := { s.pmb with resp := leBytes 2 (linear11 (-2) (nearest (4 * highest ((List.range s.msf.cfg.ngroup).map fun g => signed 12 (fld (regValue s (0x6080 + 4 * g)) 16 12))) 8)), acked := true } }) ∧
  (∀ (z : Nat) (s : State), pmbUp s = true → s.pmb.page = z → z ≠ 0xFF → exec .readVout s = .next { s with pmb := { s.pmb with resp := leBytes 2 (linear16 (nearest (4096 * ((fld (zoneReg s z 0x010) 16 13 : Nat) - signed 13 (fld (zoneReg s z 0x01C) 0 13))) 4000)), acked := true } } ∧
    exec .readIout s = .next { s with pmb := { s.pmb with resp := leBytes 2 (linear11 (-1) (nearest (2 * signed 16 (fld (zoneReg s z 0x01C) 16 16)) 10)), acked := true } } ∧
    exec .readTemperature1 s = .next { s with pmb := { s.pmb with resp := leBytes 2 (linear11 (-2) (nearest (4 * tzReg s z) 8)), acked := true } }) ∧
  (∀ (s : State), pmbUp s = true → exec (.mfrPowerCap none) s = .next { s with pmb := { s.pmb with resp := leBytes 2 (fld (regValue s 0x8004) 0 16), acked := true } } ∧
    exec (.mfrEnergyCap none) s = .next { s with pmb := { s.pmb with resp := leBytes 2 (fld (regValue s 0x8004) 16 16), acked := true } } ∧
    exec .mfrCapEff s = .next { s with pmb := { s.pmb with resp := leBytes 4 (regValue s 0x8014).toNat, acked := true } } ∧
    exec .mfrCapLimits s = .next { s with pmb := { s.pmb with resp := leBytes 2 (fld (regValue s 0x8008) 0 16) ++ leBytes 2 (fld (regValue s 0x8008) 16 16) ++ leBytes 2 (fld (regValue s 0x7010C) 16 16), acked := true } } ∧
    exec .mfrBlk s = .next { s with pmb := { s.pmb with resp := leBytes 4 (regValue s 0).toNat ++ leBytes 4 (regValue s 4).toNat ++ leBytes 4 (regValue s 8).toNat, acked := true } } ∧
    exec .mfrSnag s = .next { s with pmb := { s.pmb with resp := leBytes 4 (regValue s 0x2000).toNat ++ leBytes 4 (regValue s 0x2028).toNat, acked := true } }) ∧
  (∀ (s : State), pmbUp s = true → s.su.readyEver = true → exec .mfrReadEnergy s = .next { s with pmb := { s.pmb with resp := leBytes 8 (s.nrg.inst.e / 65536) ++ leBytes 8 s.nrg.stamp, acked := true } }) ∧
  (∀ (n : Int) (d : Nat), 0 < d → 2 * d * nearest n d - d ≤ 2 * n ∧ 2 * n < 2 * d * nearest n d + d) ∧
  (∀ (e m : Int), -16 ≤ e → e ≤ 15 → (linear11 e m : Int) % 2048 = twos 11 (max (-1024) (min 1023 m)) ∧ signed 5 (linear11 e m / 2048) = e ∧ linear11 e m < 65536) ∧
  (∀ (s : State), (statusAll s).testBit 6 = !s.pins.ready ∧ (statusAll s).testBit 5 = s.pmb.ov ∧ (statusAll s).testBit 4 = s.pmb.oc ∧ (statusAll s).testBit 2 = decide (statusTemp s ≠ 0) ∧
    (statusAll s).testBit 1 = decide (s.pmb.cml ≠ 0) ∧ (statusAll s).testBit 0 = (s.pmb.inp || decide (s.snag.alert ≠ 0)) ∧ (statusAll s).testBit 15 = s.pmb.ov ∧
    (statusAll s).testBit 14 = s.pmb.oc ∧ (statusAll s).testBit 13 = s.pmb.inp ∧ (statusAll s).testBit 12 = decide (s.snag.alert ≠ 0) ∧ (statusAll s).testBit 11 = !s.pins.pgOut ∧
    statusAll s % 256 = statusLow s ∧ (∀ i ∈ [3, 7, 8, 9, 10], (statusAll s).testBit i = false)) ∧
  (∀ (s : State), pmbUp s = false → ∀ c ∈ [Instr.statusByte, .readVin, .readPin, .mfrId, .page none, .capability], exec c s = .next { s with pmb := { s.pmb with acked := false } })

/-- From READY and outside HALT: PAGE takes 0xFF or a zone of the instance, any other value is invalid data; WRITE_PROTECT takes its four
values; OPERATION 0x00 and 0x40 with a correct PEC raise source 0x02 and start HALT, without a PEC they have no effect, with a wrong one
they are invalid, 0x80 in READY changes nothing, another value is invalid data; CLEAR_FAULTS clears the latches and alert bits of raises
stamped before it, and STATUS_CML. An invalid transaction (PMBUS_INVALID) sets its bit of STATUS_CML, is a NOTE 0x01 and changes no
register. WRITE_PROTECT 0x80 holds PAGE and OPERATION as they are. Where writes are not served, a write is not acknowledged and changes
nothing else. SMBUS_TIMEOUT discards the transaction. ALERT_RESPONSE is answered while SMB_ALERT_N is low, which it stays. (R97, R412,
R439, R440, R442, R444, R445). -/
def Obligations.PmbusWritesAndTheirRefusals : Prop :=
  (∀ (p : Nat) (s : State), pmbWrites s = true → (p = 0xFF ∨ p < s.su.zones) → s.pmb.wp ≠ 0x80 → exec (.page (some p)) s = .next { s with pmb := { s.pmb with page := p, acked := true } }) ∧
  (∀ (p : Nat) (s : State), pmbWrites s = true → p ≠ 0xFF → s.su.zones ≤ p → ∃ t, exec (.page (some p)) s = .next t ∧ t.pmb = { s.pmb with cml := s.pmb.cml ||| BitVec.ofNat 8 (2 ^ 6), acked := true } ∧ (∃ r ∈ t.snag.inbox, r.code = 0x01 ∧ r.unit = 0 ∧ r.cls = .note ∧ r.stamp = s.tb.count) ∧ { t with pmb := s.pmb, snag := s.snag } = s) ∧
  (∀ (v : Nat) (s : State), pmbWrites s = true → v ∈ [0, 0x20, 0x40, 0x80] → exec (.writeProtect (some v)) s = .next { s with pmb := { s.pmb with wp := v, acked := true } }) ∧
  (∀ (v : Nat) (s : State), pmbWrites s = true → v ∉ [0, 0x20, 0x40, 0x80] → ∃ t, exec (.writeProtect (some v)) s = .next t ∧ t.pmb.wp = s.pmb.wp ∧ t.pmb.cml.getLsbD 6 = true ∧ (∃ r ∈ t.snag.inbox, r.code = 0x01 ∧ r.unit = 0 ∧ r.cls = .note ∧ r.stamp = s.tb.count) ∧ { t with pmb := s.pmb, snag := s.snag } = s) ∧
  (∀ (v : Nat) (s : State), pmbWrites s = true → (v = 0 ∨ v = 0x40) → s.pmb.wp ≠ 0x80 → ∃ t, exec (.operation (some v) (some true)) s = .next t ∧ (∃ r ∈ t.snag.inbox, r.code = 0x02 ∧ r.unit = 0 ∧ r.cls = .halt ∧ r.stamp = s.tb.count) ∧ t.pmb = { s.pmb with acked := true } ∧ { t with pmb := s.pmb, snag := s.snag } = s) ∧
  (∀ (v : Nat) (s : State), pmbWrites s = true → (v = 0 ∨ v = 0x40) → exec (.operation (some v) none) s = .next { s with pmb := { s.pmb with acked := true } }) ∧
  (∀ (v : Nat) (p : Option Bool) (s : State), pmbWrites s = true → (p = some false ∨ v ∉ [0, 0x40, 0x80]) → ∃ t, exec (.operation (some v) p) s = .next t ∧
    t.pmb = { s.pmb with cml := s.pmb.cml ||| BitVec.ofNat 8 (2 ^ (if p = some false then 5 else 6)), acked := true } ∧ (∃ r ∈ t.snag.inbox, r.code = 0x01 ∧ r.unit = 0 ∧ r.cls = .note ∧ r.stamp = s.tb.count) ∧ { t with pmb := s.pmb, snag := s.snag } = s) ∧
  (∀ (s : State), pmbWrites s = true → s.pins.ready = true → exec (.operation (some 0x80) (some true)) s = .next { s with pmb := { s.pmb with acked := true } }) ∧
  (∀ (v : Nat) (s : State), pmbWrites s = true → (s.pmb.wp = 0x80 ∧ (v = 0 ∨ v = 0x40)) → exec (.operation (some v) (some true)) s = .next { s with pmb := { s.pmb with acked := true } } ∧ ∀ p < s.su.zones, exec (.page (some p)) s = .next { s with pmb := { s.pmb with acked := true } }) ∧
  (∀ (s : State), pmbWrites s = true → (s.pmb.ovAt < s.tb.count ∧ s.pmb.ocAt < s.tb.count ∧ s.pmb.inAt < s.tb.count) → (∀ k < 5, s.snag.alertAt.getD k 0 < s.tb.count) → ∃ t, exec .clearFaults s = .next t ∧ t.pmb = { s.pmb with ov := false, oc := false, inp := false, cml := 0, clearAt := s.tb.count, acked := true } ∧ t.snag = { s.snag with alert := 0 } ∧ { t with pmb := s.pmb, snag := s.snag } = s) ∧
  (∀ (k : Nat) (s : State), pmbWrites s = true → k < 5 → s.tb.count ≤ s.snag.alertAt.getD k 0 → ∃ t, exec .clearFaults s = .next t ∧ t.snag.alert.getLsbD k = s.snag.alert.getLsbD k ∧ { t with pmb := s.pmb, snag := { t.snag with alert := s.snag.alert } } = s) ∧
  (∀ (b : Nat) (s : State), pmbWrites s = true → b ∈ [7, 6, 5, 1] → ∃ t, exec (.pmbusInvalid true b) s = .next t ∧ t.pmb.cml.getLsbD b = true ∧ (∃ r ∈ t.snag.inbox, r.code = 0x01 ∧ r.unit = 0 ∧ r.cls = .note ∧ r.stamp = s.tb.count) ∧ { t with pmb := { t.pmb with cml := s.pmb.cml, acked := s.pmb.acked } , snag := s.snag } = s) ∧
  (∀ (b : Nat) (s : State), pmbUp s = true → b ∈ [7, 6, 5, 1] → ∃ t, exec (.pmbusInvalid false b) s = .next t ∧ t.pmb.cml.getLsbD b = true ∧ (∃ r ∈ t.snag.inbox, r.code = 0x01 ∧ r.unit = 0 ∧ r.cls = .note ∧ r.stamp = s.tb.count) ∧ { t with pmb := { t.pmb with cml := s.pmb.cml, acked := s.pmb.acked } , snag := s.snag } = s) ∧
  (∀ (v : Nat) (s : State), pmbWrites s = false → ∀ c ∈ [Instr.page (some v), .operation (some v) (some true), .clearFaults, .writeProtect (some v), .mfrPowerCap (some v), .mfrEnergyCap (some v), .pmbusInvalid true 6],
      exec c s = .next { s with pmb := { s.pmb with acked := false } }) ∧
  (∀ (s : State), exec .smbusTimeout s = .next { s with pmb := { s.pmb with resp := [] } }) ∧
  (∀ (s : State), s.su.cond = .run → s.su.readyEver = true → s.fus.loaded = true → s.snag.alert &&& s.snag.mask ≠ 0 → exec .alertResponse s = .next { s with pmb := { s.pmb with resp := leBytes 1 (2 * (0x58 + s.su.cascId)), acked := true } }) ∧
  (∀ (s : State), s.snag.alert &&& s.snag.mask = 0 → exec .alertResponse s = .next { s with pmb := { s.pmb with acked := false } })

/-- From READY, outside HALT and with WRITE_PROTECT 0: a write of MFR_POWER_CAP sets the power field of CAP_SW to the value saturated into
[FLOOR_CFG, CEIL_CFG], stamps the write now and leaves the energy field; a write of MFR_ENERGY_CAP likewise for its field. A driver write
of CAP_SW (CAP_SW_WRITE) sets both. The field waits for the 10 µs boundary strictly after the stamp, as R305 has it for CAP_SW. A read returns the field
as saturated. (R443). -/
def Obligations.PowerAndEnergyCapsKeepTheOtherField : Prop :=
  (∀ (w : Nat) (s : State), pmbWrites s = true → s.pmb.wp = 0 → w < 65536 → ∃ t, exec (.mfrPowerCap (some w)) s = .next t ∧ t.caps.swPower = capSet s.caps.cfg w ∧ t.caps.swEnergy = s.caps.swEnergy ∧ t.caps.swAt = some s.tb.count ∧
    t.caps.pEff = s.caps.pEff ∧ t.caps.eEff = s.caps.eEff ∧ { t with caps := s.caps, snag := s.snag, pmb := s.pmb } = s) ∧
  (∀ (w : Nat) (s : State), pmbWrites s = true → s.pmb.wp = 0 → w < 65536 → ∃ t, exec (.mfrEnergyCap (some w)) s = .next t ∧ t.caps.swEnergy = capSet s.caps.cfg w ∧ t.caps.swPower = s.caps.swPower ∧ t.caps.swAt = some s.tb.count ∧
    t.caps.pEff = s.caps.pEff ∧ t.caps.eEff = s.caps.eEff ∧ { t with caps := s.caps, snag := s.snag, pmb := s.pmb } = s) ∧
  (∀ (p e : Nat) (s : State), (s.su.cond = .run ∨ s.su.cond = .safe) → s.su.readyEver = true → p < 65536 → e < 65536 → ∃ t, exec (.capSwWrite (BitVec.ofNat 32 (p + 65536 * e))) s = .next t ∧ t.caps.swPower = capSet s.caps.cfg p ∧ t.caps.swEnergy = capSet s.caps.cfg e ∧ t.caps.swAt = some s.tb.count) ∧
  (∀ (c : Caps) (a b : Nat), c.swAt = some a → (a < b → (c.swDue b).swPowerIn = c.swPower ∧ (c.swDue b).swEnergyIn = c.swEnergy ∧ (c.swDue b).swAt = none) ∧ (b ≤ a → c.swDue b = c)) ∧
  (∀ (s : State), pmbUp s = true → s.su.readyEver = true → s.caps.swPower < 65536 → ∃ t, exec (.mfrPowerCap none) s = .next t ∧ t.pmb.resp = leBytes 2 s.caps.swPower ∧ { t with pmb := s.pmb } = s) ∧
  (∀ (s : State), pmbUp s = true → s.su.readyEver = true → s.caps.swEnergy < 65536 → ∃ t, exec (.mfrEnergyCap none) s = .next t ∧ t.pmb.resp = leBytes 2 s.caps.swEnergy ∧ { t with pmb := s.pmb } = s)

/-- In every powered state: IDCODE loads 0x306D_3B4F, BYPASS and TAP_RESET select their registers, and SAMPLE_PRELOAD takes the boundary
register, captures the pins' free values and drives no pin. EXTEST, HIGHZ and RP_ACCESS act only where test access is permitted: EXTEST
drives the pins from the boundary register, HIGHZ makes every output high impedance, and RP_ACCESS makes one register-port access whose
read data the next capture returns. Elsewhere they select bypass and change no pin beyond ending an earlier EXTEST or HIGHZ. FUSE_PROG and
FUSE_PROVISION act in MANUFACTURE only: FUSE_PROG blows the 1 bits of a word; FUSE_PROVISION blows the three cells of life-cycle bit 0 when
the array holds a key root, both FUS_VMAX words and CAP_CEIL that are not zero, else nothing. TAP_RESET selects IDCODE (IEEE 1149.1,
presumed). (R81, R104, R105, R420). -/
def Obligations.TestAccessPortInstructions : Prop :=
  (∀ (s : State), s.su.cond ≠ .unpowered → exec .idcode s = .next { s with tap := { s.tap with ir := 0x02, acts := true, dr := 0x306D3B4F }, pins := { s.pins with highz := false, extest := none } }) ∧
  (∀ (s : State), s.su.cond ≠ .unpowered → exec .bypass s = .next { s with tap := { s.tap with ir := 0xFF, acts := true }, pins := { s.pins with highz := false, extest := none } } ∧ exec .tapReset s = .next { s with tap := { s.tap with ir := 0x02, acts := true }, pins := { s.pins with highz := false, extest := none } }) ∧
  (∀ (p : List Bool) (s : State), s.su.cond ≠ .unpowered → ∃ t, exec (.samplePreload p) s = .next t ∧ t.tap.bsr = p ∧ t.tap.captured.length = p.length ∧ t.tap.ir = 0x01 ∧ t.pins = { s.pins with highz := false, extest := none } ∧ { t with tap := s.tap, pins := s.pins } = s) ∧
  (∀ (p : List Bool) (s : State), s.su.cond ≠ .unpowered → testPermitted s = true → ∃ t, exec (.extest p) s = .next t ∧ t.tap.bsr = p ∧ t.tap.ir = 0 ∧ t.pins = { s.pins with highz := false, extest := some p } ∧ { t with tap := s.tap, pins := s.pins } = s) ∧
  (∀ (s : State), s.su.cond ≠ .unpowered → testPermitted s = true → exec .highz s = .next { s with tap := { s.tap with ir := 0x03, acts := true }, pins := { s.pins with highz := true, extest := none } }) ∧
  (∀ (p : List Bool) (w sp : Bool) (a d : W32) (s : State), s.su.cond ≠ .unpowered → testPermitted s = false → exec (.extest p) s = .next { s with tap := { s.tap with ir := 0x00, acts := false }, pins := { s.pins with highz := false, extest := none } } ∧ exec .highz s = .next { s with tap := { s.tap with ir := 0x03, acts := false }, pins := { s.pins with highz := false, extest := none } } ∧ exec (.rpAccess w sp a d) s = .next { s with tap := { s.tap with ir := 0x10, acts := false }, pins := { s.pins with highz := false, extest := none } }) ∧
  (∀ (a d : W32) (s : State), s.su.cond ≠ .unpowered → testPermitted s = true → ∃ t, exec (.rpAccess true false a d) s = .next t ∧ t = regWrite { s with tap := { s.tap with ir := 0x10, acts := true }, pins := { s.pins with highz := false, extest := none } } (a.toNat / 4 % 2 ^ 18 * 4) d) ∧
  (∀ (a d : W32) (s : State), s.su.cond ≠ .unpowered → testPermitted s = true → ∃ t, exec (.rpAccess false false a d) s = .next t ∧ t.tap.dr = (regRead { s with tap := { s.tap with ir := 0x10, acts := true }, pins := { s.pins with highz := false, extest := none } } (a.toNat / 4 % 2 ^ 18 * 4)).rp.rdata ∧ t.rp.rdata = t.tap.dr ∧
    { t with tap := s.tap } = { regRead { s with tap := { s.tap with ir := 0x10, acts := true }, pins := { s.pins with highz := false, extest := none } } (a.toNat / 4 % 2 ^ 18 * 4) with tap := s.tap }) ∧
  (∀ (a : W32) (d : BitVec 128) (s : State), s.su.cond ≠ .unpowered → life s = some .manufacture → (∀ x ∈ s.fus.words, x.1 ≠ a.toNat) → ∃ t, exec (.fuseProg a d) s = .next t ∧ t.fus.words = (a.toNat, d) :: s.fus.words ∧ t.fus.lcCells = s.fus.lcCells ∧ { t with fus := s.fus, tap := s.tap, pins := s.pins } = s) ∧
  (∀ (a : W32) (d o : BitVec 128) (s : State), s.su.cond ≠ .unpowered → life s = some .manufacture → s.fus.words = [(a.toNat, o)] → ∃ t, exec (.fuseProg a d) s = .next t ∧ t.fus.words = [(a.toNat, o ||| d)] ∧ t.fus.lcCells = s.fus.lcCells) ∧
  (∀ (s : State), s.su.cond ≠ .unpowered → life s = some .manufacture → exec .fuseProvision s = .next { s with
    tap := { s.tap with ir := 0x21, acts := true }, pins := { s.pins with highz := false, extest := none },
    fus := { s.fus with lcCells := if provisionable (Config.fuseFields (fuseWord s.fus.words)) then lcBlow s.fus.lcCells 0 else s.fus.lcCells } }) ∧
  (∀ (f : FuseFields), provisionable f = true ↔ (∃ x ∈ f.keyroot, x ≠ 0) ∧ (f.vmaxLogic ≠ 0 ∨ f.vmaxArray ≠ 0) ∧ (f.vmaxMif ≠ 0 ∨ f.vmaxLink ≠ 0) ∧ f.capCeil ≠ 0) ∧
  (∀ (c : BitVec 12) (i : Nat), i < 12 → (lcBlow c 0).getLsbD i = (decide (i < 3) || c.getLsbD i)) ∧
  (∀ (s : State), s.su.cond ≠ .unpowered → life s ≠ some .manufacture → exec .fuseProvision s = .next { s with tap := { s.tap with ir := 0x21, acts := false }, pins := { s.pins with highz := false, extest := none } }) ∧
  (∀ (a : W32) (d : BitVec 128) (s : State), s.su.cond ≠ .unpowered → life s ≠ some .manufacture → exec (.fuseProg a d) s = .next { s with tap := { s.tap with ir := 0x20, acts := false }, pins := { s.pins with highz := false, extest := none } })
end

