-- ==== Sys2Proof/Laws/Flash.lean ====
section
/-!
SUPPORT. The flash bytes: every operation keeps the canonical form, and what a read finds after it.
-/
namespace Sys2Proof.Machine

/-- The form, said with the tail's addresses. -/
theorem Memory.wf_cons (c : Host.Cell) (m : List Host.Cell) :
    Memory.wf (c :: m) = true ↔ c.2 ≠ erasedByte ∧ (∀ d ∈ m, c.1 < d.1) ∧ Memory.wf m = true := by
  simp [Memory.wf, and_assoc]
/-- A cell of a put list is the cell put, or an old one. -/
theorem mem_flashPut {m : List Host.Cell} {a : Nat} {b : Byte} {d : Host.Cell} (h : d ∈ flashPut m a b) : d = (a, b) ∨ d ∈ m := by
  induction m with
  | nil => unfold flashPut at h; split at h <;> simp_all
  | cons c cs ih =>
    unfold flashPut at h
    dsimp only at h
    split at h
    · rcases List.mem_cons.1 h with h | h
      · exact .inr (h ▸ List.mem_cons_self)
      · exact (ih h).imp id (List.mem_cons_of_mem _)
    · split at h <;> split at h <;> simp only [List.mem_cons] at h ⊢ <;> tauto
/-- A write keeps the canonical form. -/
theorem flashPut_wf {m : List Host.Cell} (h : Memory.wf m = true) (a : Nat) (b : Byte) : Memory.wf (flashPut m a b) = true := by
  induction m with
  | nil => unfold flashPut; split <;> simp_all [Memory.wf]
  | cons c cs ih =>
    obtain ⟨h1, h2, h3⟩ := (Memory.wf_cons c cs).1 h
    unfold flashPut
    dsimp only
    split
    · rename_i hlt
      refine (Memory.wf_cons _ _).2 ⟨h1, fun d hd => ?_, ih h3⟩
      rcases mem_flashPut hd with rfl | hd
      · exact hlt
      · exact h2 d hd
    · rename_i hge
      split <;> split
      · exact h3
      · exact h
      · rename_i hb heq
        exact (Memory.wf_cons _ _).2 ⟨hb, fun d hd => heq ▸ h2 d hd, h3⟩
      · rename_i hb hne
        refine (Memory.wf_cons _ _).2 ⟨by assumption, fun d hd => ?_, h⟩
        have hc : a < c.1 := by omega
        rcases List.mem_cons.1 hd with rfl | hd
        · exact hc
        · exact Nat.lt_trans hc (h2 d hd)
/-- Part of a canonical list is canonical. -/
theorem filter_wf {m : List Host.Cell} (h : Memory.wf m = true) (p : Host.Cell → Bool) : Memory.wf (m.filter p) = true := by
  induction m with
  | nil => rfl
  | cons c cs ih =>
    obtain ⟨h1, h2, h3⟩ := (Memory.wf_cons c cs).1 h
    rw [List.filter_cons]
    split
    · exact (Memory.wf_cons _ _).2 ⟨h1, fun d hd => h2 d (List.mem_filter.1 hd).1, ih h3⟩
    · exact ih h3
/-- An erase keeps the canonical form. -/
theorem flashErase_wf {m : List Host.Cell} (h : Memory.wf m = true) (a : Nat) : Memory.wf (flashErase m a) = true := filter_wf h _
/-- A program keeps the canonical form. -/
theorem flashProgram_wf {m : List Host.Cell} (h : Memory.wf m = true) (a : Nat) (bs : List Nat) :
    Memory.wf (flashProgram m a bs) = true := by
  unfold flashProgram
  generalize bs.mapIdx _ = xs
  induction xs generalizing m with
  | nil => exact h
  | cons x xs ih => exact ih (flashPut_wf h _ _)

/-- A read of one byte of a canonical list, head first. -/
theorem flashGet_cons (c : Host.Cell) (m : List Host.Cell) (a : Nat) :
    flashGet (c :: m) a = if c.1 = a then c.2 else flashGet m a := by
  unfold flashGet
  by_cases h : c.1 = a <;> simp [h]
/-- An address below every listed one reads as erased. -/
theorem flashGet_low {m : List Host.Cell} {a : Nat} (h : ∀ d ∈ m, a < d.1) : flashGet m a = erasedByte := by
  induction m with
  | nil => rfl
  | cons c cs ih =>
    have := h c List.mem_cons_self
    rw [flashGet_cons, if_neg (by omega)]
    exact ih fun d hd => h d (List.mem_cons_of_mem _ hd)
/-- A read after a write: the byte written at its address, the old byte elsewhere. -/
theorem flashGet_put {m : List Host.Cell} (h : Memory.wf m = true) (a : Nat) (b : Byte) (x : Nat) :
    flashGet (flashPut m a b) x = if x = a then b else flashGet m x := by
  induction m with
  | nil =>
    unfold flashPut
    by_cases hx : x = a
    · subst hx; split <;> simp_all [flashGet]
    · split <;> simp [flashGet, Ne.symm hx]
  | cons c cs ih =>
    obtain ⟨h1, h2, h3⟩ := (Memory.wf_cons c cs).1 h
    unfold flashPut
    dsimp only
    split
    · rename_i hlt
      rw [flashGet_cons, flashGet_cons, ih h3]
      by_cases hx : x = a
      · subst hx; simp; omega
      · simp [hx]
    · rename_i hge
      by_cases heq : c.1 = a
      · have hlow : flashGet cs a = erasedByte := flashGet_low fun d hd => heq ▸ h2 d hd
        by_cases hx : x = a
        · subst hx; split <;> simp_all [flashGet_cons]
        · have : c.1 ≠ x := by omega
          split <;> simp_all [flashGet_cons, Ne.symm hx]
      · have hlow : flashGet (c :: cs) a = erasedByte := flashGet_low fun d hd => by
          rcases List.mem_cons.1 hd with rfl | hd
          · omega
          · have := h2 d hd; omega
        by_cases hx : x = a
        · subst hx; split <;> simp_all [flashGet_cons]
        · split <;> simp_all [flashGet_cons, Ne.symm hx]
/-- An erased sector reads as erased; the others as before (R121). -/
theorem flashGet_erase (m : List Host.Cell) (a x : Nat) :
    flashGet (flashErase m a) x = if x / 4096 = a / 4096 then erasedByte else flashGet m x := by
  unfold flashErase
  induction m with
  | nil => simp [flashGet]
  | cons c cs ih =>
    rw [List.filter_cons]
    by_cases hc : c.1 / 4096 = a / 4096
    · simp only [hc]
      rw [if_neg (by simp), ih, flashGet_cons]
      split
      · rfl
      · rw [if_neg]; rintro rfl; contradiction
    · rw [if_pos (by simpa using hc), flashGet_cons, flashGet_cons, ih]
      by_cases hx : c.1 = x
      · subst hx; simp [hc]
      · simp [hx]

end Sys2Proof.Machine
end

