-- ==== Sys2Proof/Laws/Kept.lean ====
section
/-!
SUPPORT. What the shared operations leave alone: one lemma per operation, said once. Which commands change these parts follows from them.
-/
set_option linter.all false
namespace Sys2Proof.Machine

/-- The parts of the state that the shared operations leave alone: queue, flash bytes, condition, READY, fuse cells and words, the count,
the classes of the held pairs, and the instant a HALT was decided. -/
structure Kept where
  /-- commands that wait -/
  pending : List Instr
  /-- flash bytes -/
  flash : List Host.Cell
  /-- condition of the block (R50) -/
  cond : BlockCond
  /-- READY has risen in this start -/
  readyEver : Bool
  /-- READY -/
  ready : Bool
  /-- life-cycle cells -/
  lcCells : BitVec 12
  /-- fuse words -/
  words : List (Nat × BitVec 128)
  /-- time-base count -/
  count : Nat
  /-- classes of the held pairs -/
  heldCls : List Cls
  /-- instant of a HALT -/
  haltAt : Option Nat
/-- What a state holds of them. -/
def kept (s : State) : Kept :=
  ⟨s.pending, s.nvm.flash, s.su.cond, s.su.readyEver, s.pins.ready, s.fus.lcCells, s.fus.words, s.tb.count, s.snag.held.map (·.cls), s.snag.haltAt⟩
/-- A fold of an operation that keeps them keeps them. -/
theorem foldl_kept {α : Type} (f : State → α → State) (h : ∀ s x, kept (f s x) = kept s) (l : List α) (s : State) :
    kept (l.foldl f s) = kept s := by
  induction l generalizing s with
  | nil => rfl
  | cons x xs ih => rw [List.foldl_cons, ih, h]
@[simp] theorem report_kept (s : State) (code unit : Nat) (cls : Cls) (d : Option W32) (l : Bool) (c : Option CritRep) :
    kept (report s code unit cls d l c) = kept s := rfl
@[simp] theorem note_kept (s : State) (code unit : Nat) (d : Option W32) : kept (note s code unit d) = kept s := rfl
@[simp] theorem assertCond_kept (s : State) (code unit : Nat) (cls : Cls) (l : Bool) (c : Option CritRep) :
    kept (assertCond s code unit cls l c) = kept s := by
  unfold assertCond; split <;> rfl

/-- Each part of a state is that part of what is kept: said once, for `simp`. -/
theorem kept_rules :
    (∀ s : State, s.pending = (kept s).pending ∧ s.nvm.flash = (kept s).flash ∧ s.su.cond = (kept s).cond) ∧
    (∀ s : State, s.su.readyEver = (kept s).readyEver ∧ s.pins.ready = (kept s).ready ∧ s.tb.count = (kept s).count) ∧
    (∀ s : State, s.fus.lcCells = (kept s).lcCells ∧ s.fus.words = (kept s).words) ∧
    ∀ s : State, s.snag.held.map (·.cls) = (kept s).heldCls ∧ s.snag.haltAt = (kept s).haltAt :=
  ⟨fun _ => ⟨rfl, rfl, rfl⟩, fun _ => ⟨rfl, rfl, rfl⟩, fun _ => ⟨rfl, rfl⟩, fun _ => ⟨rfl, rfl⟩⟩
@[simp] theorem refuseLease_kept (s : State) : kept (refuseLease s) = kept s := rfl
theorem kept_mk : ∀ tb su pins fus nvm zones msf fce pcx tnt caps nrg thm tcv lth csc snag bist cores rp pmb tap pending,
    kept (State.mk tb su pins fus nvm zones msf fce pcx tnt caps nrg thm tcv lth csc snag bist cores rp pmb tap pending) =
      { pending, flash := nvm.flash, cond := su.cond, readyEver := su.readyEver, ready := pins.ready, lcCells := fus.lcCells
        words := fus.words, count := tb.count, heldCls := snag.held.map (·.cls), haltAt := snag.haltAt } := by
  intros; rfl
theorem kept_eta (k : Kept) : (⟨k.pending, k.flash, k.cond, k.readyEver, k.ready, k.lcCells, k.words, k.count, k.heldCls, k.haltAt⟩ : Kept) = k := rfl

@[simp] theorem modZone_kept (s : State) (z : Nat) (f : Zone → Zone) : kept (modZone s z f) = kept s := by
  unfold modZone; repeat' split
  all_goals first | rfl | (simp [apply_ite kept, foldl_kept, kept_mk, kept_eta, kept_rules]; done)
@[simp] theorem mapZones_kept (s : State) (f : Nat → Zone → Zone) : kept (mapZones s f) = kept s := by
  unfold mapZones; repeat' split
  all_goals first | rfl | (simp [apply_ite kept, foldl_kept, kept_mk, kept_eta, kept_rules]; done)
@[simp] theorem modTile_kept (s : State) (z t : Nat) (f : Tile → Tile) : kept (modTile s z t f) = kept s := by
  unfold modTile; repeat' split
  all_goals first | rfl | (simp [apply_ite kept, foldl_kept, kept_mk, kept_eta, kept_rules]; done)
@[simp] theorem modArr_kept (s : State) (z a : Nat) (f : Arr → Arr) : kept (modArr s z a f) = kept s := by
  unfold modArr; repeat' split
  all_goals first | rfl | (simp [apply_ite kept, foldl_kept, kept_mk, kept_eta, kept_rules]; done)
@[simp] theorem deassertCond_kept (s : State) (code unit : Nat) : kept (deassertCond s code unit) = kept s := by
  unfold deassertCond
  split
  · simp only [kept, List.map_map]
    congr 2
    funext h
    dsimp only [Function.comp]
    split <;> rfl
  · rfl
@[simp] theorem setCond_kept (s : State) (b : Bool) (code unit : Nat) (cls : Cls) : kept (setCond s b code unit cls) = kept s := by
  unfold setCond; repeat' split
  all_goals first | rfl | (simp [apply_ite kept, foldl_kept, kept_mk, kept_eta, kept_rules]; done)
@[simp] theorem foldOne_kept (s : State) : kept (foldOne s) = kept s := by
  unfold foldOne; repeat' split
  all_goals first | rfl | (simp [apply_ite kept, foldl_kept, kept_mk, kept_eta, kept_rules]; done)
@[simp] theorem logFh_kept (s : State) (r : FhRec) : kept (logFh s r) = kept s := by
  unfold logFh; repeat' split
  all_goals first | rfl | (simp [apply_ite kept, foldl_kept, kept_mk, kept_eta, kept_rules]; done)
@[simp] theorem logOther_kept (s : State) (r : LogRec) : kept (logOther s r) = kept s := by
  unfold logOther; repeat' split
  all_goals first | rfl | (simp [apply_ite kept, foldl_kept, kept_mk, kept_eta, kept_rules]; done)
@[simp] theorem takeSnapshot_kept (s : State) : kept (takeSnapshot s) = kept s := by
  unfold takeSnapshot; repeat' split
  all_goals first | rfl | (simp [apply_ite kept, foldl_kept, kept_mk, kept_eta, kept_rules]; done)
@[simp] theorem updStretch_kept (s : State) (z : Nat) : kept (updStretch s z) = kept s := by
  unfold updStretch; repeat' split
  all_goals first | rfl | (simp [apply_ite kept, foldl_kept, kept_mk, kept_eta, kept_rules]; done)
@[simp] theorem tileEvent_kept (s : State) (z t : Nat) (f : Tile → Tile) : kept (tileEvent s z t f) = kept s := by
  unfold tileEvent; repeat' split
  all_goals first | rfl | (simp [apply_ite kept, foldl_kept, kept_mk, kept_eta, kept_rules]; done)
@[simp] theorem tntPush_kept (s : State) (r : TntRec) (sf ef : Nat) : kept (tntPush s r sf ef) = kept s := by
  unfold tntPush; repeat' split
  all_goals first | rfl | (simp [apply_ite kept, foldl_kept, kept_mk, kept_eta, kept_rules]; done)
@[simp] theorem taintRecord_kept (s : State) (z cause : Nat) (arrays : List Nat) (start sf stop ef : Nat) :
    kept (taintRecord s z cause arrays start sf stop ef) = kept s := by
  unfold taintRecord; repeat' split
  all_goals first | rfl | (simp [apply_ite kept, foldl_kept, kept_mk, kept_eta, kept_rules]; done)
@[simp] theorem abandonTile_kept (s : State) (z t : Nat) : kept (abandonTile s z t) = kept s := by
  unfold abandonTile; repeat' split
  all_goals first | rfl | (simp [apply_ite kept, foldl_kept, kept_mk, kept_eta, kept_rules]; done)
@[simp] theorem abandonTests_kept (s : State) (z : Nat) : kept (abandonTests s z) = kept s := by
  unfold abandonTests; repeat' split
  all_goals first | rfl | (simp [apply_ite kept, foldl_kept, kept_mk, kept_eta, kept_rules]; done)
@[simp] theorem zoneStop_kept (s : State) (z : Nat) (f : Zone → Zone) : kept (zoneStop s z f) = kept s := by
  unfold zoneStop; repeat' split
  all_goals first | rfl | (simp [apply_ite kept, foldl_kept, kept_mk, kept_eta, kept_rules]; done)
@[simp] theorem zoneToSafe_kept (s : State) (z : Nat) : kept (zoneToSafe s z) = kept s := by
  unfold zoneToSafe; repeat' split
  all_goals first | rfl | (simp [apply_ite kept, foldl_kept, kept_mk, kept_eta, kept_rules]; done)
@[simp] theorem enterZoneSafe_kept (s : State) (z : Nat) : kept (enterZoneSafe s z) = kept s := by
  unfold enterZoneSafe; repeat' split
  all_goals first | rfl | (simp [apply_ite kept, foldl_kept, kept_mk, kept_eta, kept_rules]; done)
@[simp] theorem zoneToOff_kept (s : State) (z : Nat) : kept (zoneToOff s z) = kept s := by
  unfold zoneToOff; repeat' split
  all_goals first | rfl | (simp [apply_ite kept, foldl_kept, kept_mk, kept_eta, kept_rules]; done)
@[simp] theorem gatherRecord_kept (s : State) (z cause : Nat) (evs : List Gathered) : kept (gatherRecord s z cause evs) = kept s := by
  unfold gatherRecord; repeat' split
  all_goals first | rfl | (simp [apply_ite kept, foldl_kept, kept_mk, kept_eta, kept_rules]; done)
@[simp] theorem closeGather_kept (s : State) (z : Nat) : kept (closeGather s z) = kept s := by
  unfold closeGather; repeat' split
  all_goals first | rfl | (simp [apply_ite kept, foldl_kept, kept_mk, kept_eta, kept_rules]; done)
@[simp] theorem pgLow_kept (s : State) : kept (pgLow s) = kept s := by
  unfold pgLow; repeat' split
  all_goals first | rfl | (simp [apply_ite kept, foldl_kept, kept_mk, kept_eta, kept_rules]; done)
@[simp] theorem excludeChan_kept (s : State) (k : Nat) : kept (excludeChan s k) = kept s := by
  unfold excludeChan; repeat' split
  all_goals first | rfl | (simp [apply_ite kept, foldl_kept, kept_mk, kept_eta, kept_rules]; done)
@[simp] theorem settleEnd_kept (s : State) : kept (settleEnd s) = kept s := by
  unfold settleEnd; repeat' split
  all_goals first | rfl | (simp [apply_ite kept, foldl_kept, kept_mk, kept_eta, kept_rules]; done)
@[simp] theorem absenceOver_kept (s : State) : kept (absenceOver s) = kept s := by
  unfold absenceOver; repeat' split
  all_goals first | rfl | (simp [apply_ite kept, foldl_kept, kept_mk, kept_eta, kept_rules]; done)
@[simp] theorem absenceStart_kept (before : Bool) (s : State) : kept (absenceStart before s) = kept s := by
  unfold absenceStart; repeat' split
  all_goals first | rfl | (simp [apply_ite kept, foldl_kept, kept_mk, kept_eta, kept_rules]; done)
@[simp] theorem claimRecord_kept (s : State) (submit : Bool) (r : NamingRec) (rsv len : Nat) : kept (claimRecord s submit r rsv len) = kept s := by
  unfold claimRecord; repeat' split
  all_goals first | rfl | (simp [apply_ite kept, foldl_kept, kept_mk, kept_eta, kept_rules]; done)
@[simp] theorem contextLearn_kept (s : State) (p gap : Nat) : kept (contextLearn s p gap) = kept s := by
  unfold contextLearn; dsimp only; repeat' split
  all_goals first | rfl | (simp [apply_ite kept, foldl_kept, kept_mk, kept_eta, kept_rules]; done)
@[simp] theorem modPart_kept (s : State) (p : Nat) (f : Part → Part) : kept (modPart s p f) = kept s := by
  unfold modPart; repeat' split
  all_goals first | rfl | (simp [apply_ite kept, foldl_kept, kept_mk, kept_eta, kept_rules]; done)
@[simp] theorem fcpLost_kept (s : State) : kept (fcpLost s) = kept s := by
  unfold fcpLost; repeat' split
  all_goals first | rfl | (simp [apply_ite kept, foldl_kept, kept_mk, kept_eta, kept_rules]; done)
@[simp] theorem markRecord_kept (s : State) (p : Nat) (r : NamingRec) (lead : Nat) : kept (markRecord s p r lead) = kept s := by
  unfold markRecord; repeat' split
  all_goals first | rfl | (simp [apply_ite kept, foldl_kept, kept_mk, kept_eta, kept_rules]; done)
@[simp] theorem acceptNaming_kept (s : State) (submit : Bool) (b0 b1 : W64) (b2 : Option W64) : kept (acceptNaming s submit b0 b1 b2) = kept s := by
  unfold acceptNaming; repeat' split
  all_goals first | rfl | (simp [apply_ite kept, foldl_kept, kept_mk, kept_eta, kept_rules]; done)
@[simp] theorem endHints_kept (s : State) (q : Nat) : kept (endHints s q) = kept s := by
  unfold endHints; repeat' split
  all_goals first | rfl | (simp [apply_ite kept, foldl_kept, kept_mk, kept_eta, kept_rules]; done)
@[simp] theorem doneRecord_kept (s : State) (b : W64) : kept (doneRecord s b) = kept s := by
  unfold doneRecord; repeat' split
  all_goals first | rfl | (simp [apply_ite kept, foldl_kept, kept_mk, kept_eta, kept_rules]; done)
@[simp] theorem setFloor_kept (s : State) (z ma e : Nat) : kept (setFloor s z ma e) = kept s := by
  unfold setFloor; repeat' split
  all_goals first | rfl | (simp [apply_ite kept, foldl_kept, kept_mk, kept_eta, kept_rules]; done)
@[simp] theorem preemptRecord_kept (s : State) (p q : Nat) : kept (preemptRecord s p q) = kept s := by
  unfold preemptRecord; repeat' split
  all_goals first | rfl | (simp [apply_ite kept, foldl_kept, kept_mk, kept_eta, kept_rules]; done)
@[simp] theorem modThm_kept (s : State) (z : Nat) (f : ThmZone → ThmZone) : kept (modThm s z f) = kept s := by
  unfold modThm; repeat' split
  all_goals first | rfl | (simp [apply_ite kept, foldl_kept, kept_mk, kept_eta, kept_rules]; done)
@[simp] theorem thmSeen_kept (s : State) (b : Nat) : kept (thmSeen s b) = kept s := by
  unfold thmSeen; repeat' split
  all_goals first | rfl | (simp [apply_ite kept, foldl_kept, kept_mk, kept_eta, kept_rules]; done)
@[simp] theorem thmLookZone_kept (s : State) (z : Nat) : kept (thmLookZone s z) = kept s := by
  unfold thmLookZone; repeat' split
  all_goals first | rfl | (simp [apply_ite kept, foldl_kept, kept_mk, kept_eta, kept_rules]; done)
@[simp] theorem thmLook_kept (s : State) : kept (thmLook s) = kept s := by
  unfold thmLook; repeat' split
  all_goals first | rfl | (simp [apply_ite kept, foldl_kept, kept_mk, kept_eta, kept_rules]; done)
@[simp] theorem raiseCritical_kept (s : State) (z source : Nat) (temp : Int) (cause : Nat) : kept (raiseCritical s z source temp cause) = kept s := by
  unfold raiseCritical; repeat' split
  all_goals first | rfl | (simp [apply_ite kept, foldl_kept, kept_mk, kept_eta, kept_rules]; done)
@[simp] theorem raiseBands_kept (s : State) (before : List Nat) : kept (raiseBands s before) = kept s := by
  unfold raiseBands; repeat' split
  all_goals first | rfl | (simp [apply_ite kept, foldl_kept, kept_mk, kept_eta, kept_rules]; done)
@[simp] theorem evalBand_kept (s : State) (z : Nat) : kept (evalBand s z) = kept s := by
  unfold evalBand; repeat' split
  all_goals first | rfl | (simp [apply_ite kept, foldl_kept, kept_mk, kept_eta, kept_rules]; done)
@[simp] theorem evalBands_kept (s : State) : kept (evalBands s) = kept s := by
  unfold evalBands; repeat' split
  all_goals first | rfl | (simp [apply_ite kept, foldl_kept, kept_mk, kept_eta, kept_rules]; done)
@[simp] theorem firstBands_kept (s : State) : kept (firstBands s) = kept s := by
  unfold firstBands; repeat' split
  all_goals first | rfl | (simp [apply_ite kept, foldl_kept, kept_mk, kept_eta, kept_rules]; done)
@[simp] theorem sendLevel_kept (s : State) : kept (sendLevel s) = kept s := by
  unfold sendLevel; repeat' split
  all_goals first | rfl | (simp [apply_ite kept, foldl_kept, kept_mk, kept_eta, kept_rules]; done)
@[simp] theorem setTreq_kept (s : State) (l : Nat) : kept (setTreq s l) = kept s := by
  unfold setTreq; repeat' split
  all_goals first | rfl | (simp [apply_ite kept, foldl_kept, kept_mk, kept_eta, kept_rules]; done)
@[simp] theorem throttle_kept (s : State) : kept (throttle s) = kept s := by
  unfold throttle; repeat' split
  all_goals first | rfl | (simp [apply_ite kept, foldl_kept, kept_mk, kept_eta, kept_rules]; done)
@[simp] theorem enforceZone_kept (s : State) (z : Nat) : kept (enforceZone s z) = kept s := by
  unfold enforceZone; repeat' split
  all_goals first | rfl | (simp [apply_ite kept, foldl_kept, kept_mk, kept_eta, kept_rules]; done)
@[simp] theorem enforceAll_kept (s : State) : kept (enforceAll s) = kept s := by
  unfold enforceAll; repeat' split
  all_goals first | rfl | (simp [apply_ite kept, foldl_kept, kept_mk, kept_eta, kept_rules]; done)
@[simp] theorem ackLateNote_kept (s : State) : kept (ackLateNote s) = kept s := by
  unfold ackLateNote; repeat' split
  all_goals first | rfl | (simp [apply_ite kept, foldl_kept, kept_mk, kept_eta, kept_rules]; done)
@[simp] theorem graceZone_kept (s : State) (z : Nat) : kept (graceZone s z) = kept s := by
  unfold graceZone; repeat' split
  all_goals first | rfl | (simp [apply_ite kept, foldl_kept, kept_mk, kept_eta, kept_rules]; done)
@[simp] theorem bareTemp_kept (s : State) (z t : Nat) (v : Int) : kept (bareTemp s z t v) = kept s := by
  unfold bareTemp; repeat' split
  all_goals first | rfl | (simp [apply_ite kept, foldl_kept, kept_mk, kept_eta, kept_rules]; done)
@[simp] theorem takeZone_kept (s : State) (z : Nat) : kept (takeZone s z) = kept s := by
  unfold takeZone; repeat' split
  all_goals first | rfl | (simp [apply_ite kept, foldl_kept, kept_mk, kept_eta, kept_rules]; done)
@[simp] theorem accrueSeg_kept (k : Nat) (s : State) (x : Nat × Seg) : kept (accrueSeg k s x) = kept s := by
  unfold accrueSeg; repeat' split
  all_goals first | rfl | (simp [apply_ite kept, foldl_kept, kept_mk, kept_eta, kept_rules]; done)
@[simp] theorem accrue_kept (s : State) (b : Nat) : kept (accrue s b) = kept s := by
  unfold accrue; repeat' split
  all_goals first | rfl | (simp [apply_ite kept, foldl_kept, kept_mk, kept_eta, kept_rules]; done)
@[simp] theorem rpData_kept (s : State) (w : W32) : kept (rpData s w) = kept s := by
  unfold rpData; repeat' split
  all_goals first | rfl | (simp [apply_ite kept, foldl_kept, kept_mk, kept_eta, kept_rules]; done)
@[simp] theorem formCaps_kept (s : State) : kept (formCaps s) = kept s := by
  unfold formCaps; repeat' split
  all_goals first | rfl | (simp [apply_ite kept, foldl_kept, kept_mk, kept_eta, kept_rules]; done)
@[simp] theorem setCapSw_kept (s : State) (power energy : Option Nat) : kept (setCapSw s power energy) = kept s := by
  unfold setCapSw; repeat' split
  all_goals first | rfl | (simp [apply_ite kept, foldl_kept, kept_mk, kept_eta, kept_rules]; done)
@[simp] theorem kcalDue_kept (s : State) : kept (kcalDue s) = kept s := by
  unfold kcalDue; repeat' split
  all_goals first | rfl | (simp [apply_ite kept, foldl_kept, kept_mk, kept_eta, kept_rules]; done)
@[simp] theorem calLoss_kept (s : State) : kept (calLoss s) = kept s := by
  unfold calLoss; repeat' split
  all_goals first | rfl | (simp [apply_ite kept, foldl_kept, kept_mk, kept_eta, kept_rules]; done)
@[simp] theorem kcalStale_kept (s : State) : kept (kcalStale s) = kept s := by
  unfold kcalStale; repeat' split
  all_goals first | rfl | (simp [apply_ite kept, foldl_kept, kept_mk, kept_eta, kept_rules]; done)
@[simp] theorem stage1_kept (s : State) : kept (stage1 s) = kept s := by
  unfold stage1; repeat' split
  all_goals first | rfl | (simp [apply_ite kept, foldl_kept, kept_mk, kept_eta, kept_rules]; done)
@[simp] theorem modCapZ_kept (s : State) (z : Nat) (f : CapZone → CapZone) : kept (modCapZ s z f) = kept s := by
  unfold modCapZ; repeat' split
  all_goals first | rfl | (simp [apply_ite kept, foldl_kept, kept_mk, kept_eta, kept_rules]; done)
@[simp] theorem lowerVz_kept (s : State) (z : Nat) : kept (lowerVz s z) = kept s := by
  unfold lowerVz; repeat' split
  all_goals first | rfl | (simp [apply_ite kept, foldl_kept, kept_mk, kept_eta, kept_rules]; done)
@[simp] theorem stage2Act_kept (s : State) : kept (stage2Act s) = kept s := by
  unfold stage2Act; repeat' split
  all_goals first | rfl | (simp [apply_ite kept, foldl_kept, kept_mk, kept_eta, kept_rules]; done)
@[simp] theorem stage2Release_kept (s : State) : kept (stage2Release s) = kept s := by
  unfold stage2Release; repeat' split
  all_goals first | rfl | (simp [apply_ite kept, foldl_kept, kept_mk, kept_eta, kept_rules]; done)
@[simp] theorem raiseVz_kept (s : State) : kept (raiseVz s) = kept s := by
  unfold raiseVz; repeat' split
  all_goals first | rfl | (simp [apply_ite kept, foldl_kept, kept_mk, kept_eta, kept_rules]; done)
@[simp] theorem gateOne_kept (s : State) : kept (gateOne s) = kept s := by
  unfold gateOne; repeat' split
  all_goals first | rfl | (simp [apply_ite kept, foldl_kept, kept_mk, kept_eta, kept_rules]; done)
@[simp] theorem releaseStep_kept (s : State) : kept (releaseStep s) = kept s := by
  unfold releaseStep; repeat' split
  all_goals first | rfl | (simp [apply_ite kept, foldl_kept, kept_mk, kept_eta, kept_rules]; done)
@[simp] theorem capStages_kept (s : State) (b : Nat) : kept (capStages s b) = kept s := by
  unfold capStages; repeat' split
  all_goals first | rfl | (simp [apply_ite kept, foldl_kept, kept_mk, kept_eta, kept_rules]; done)
@[simp] theorem zoneCodes_kept (s : State) : kept (zoneCodes s) = kept s := by
  unfold zoneCodes; repeat' split
  all_goals first | rfl | (simp [apply_ite kept, foldl_kept, kept_mk, kept_eta, kept_rules]; done)
@[simp] theorem propose_kept (s : State) : kept (propose s) = kept s := by
  unfold propose; repeat' split
  all_goals first | rfl | (simp [apply_ite kept, foldl_kept, kept_mk, kept_eta, kept_rules]; done)
@[simp] theorem formLimits_kept (s : State) : kept (formLimits s) = kept s := by
  unfold formLimits; repeat' split
  all_goals first | rfl | (simp [apply_ite kept, foldl_kept, kept_mk, kept_eta, kept_rules]; done)
@[simp] theorem tcvStart_kept (s : State) : kept (tcvStart s) = kept s := by
  unfold tcvStart; repeat' split
  all_goals first | rfl | (simp [apply_ite kept, foldl_kept, kept_mk, kept_eta, kept_rules]; done)
@[simp] theorem tcvRefuse_kept (s : State) (unit : Nat) : kept (tcvRefuse s unit) = kept s := by
  unfold tcvRefuse; repeat' split
  all_goals first | rfl | (simp [apply_ite kept, foldl_kept, kept_mk, kept_eta, kept_rules]; done)
@[simp] theorem beginCal_kept (s : State) : kept (beginCal s) = kept s := by
  unfold beginCal; repeat' split
  all_goals first | rfl | (simp [apply_ite kept, foldl_kept, kept_mk, kept_eta, kept_rules]; done)
@[simp] theorem calDoneRun_kept (s : State) (a b : Int × Int) : kept (calDoneRun s a b) = kept s := by
  unfold calDoneRun; repeat' split
  all_goals first | rfl | (simp [apply_ite kept, foldl_kept, kept_mk, kept_eta, kept_rules]; done)
@[simp] theorem tcvPush_kept (s : State) (e : TcvQ) : kept (tcvPush s e) = kept s := by
  unfold tcvPush; repeat' split
  all_goals first | rfl | (simp [apply_ite kept, foldl_kept, kept_mk, kept_eta, kept_rules]; done)
@[simp] theorem tcvQueue_kept (s : State) (e : TcvQ) : kept (tcvQueue s e) = kept s := by
  unfold tcvQueue; repeat' split
  all_goals first | rfl | (simp [apply_ite kept, foldl_kept, kept_mk, kept_eta, kept_rules]; done)
@[simp] theorem setRes_kept (s : State) (ch : Nat) (modB : Bool) (v : Int) : kept (setRes s ch modB v) = kept s := by
  unfold setRes; repeat' split
  all_goals first | rfl | (simp [apply_ite kept, foldl_kept, kept_mk, kept_eta, kept_rules]; done)
@[simp] theorem compareWin_kept (s : State) (ch : Nat) (r : Int) : kept (compareWin s ch r) = kept s := by
  unfold compareWin; repeat' split
  all_goals first | rfl | (simp [apply_ite kept, foldl_kept, kept_mk, kept_eta, kept_rules]; done)
@[simp] theorem setOpen_kept (s : State) (ch : Nat) (o : Bool) : kept (setOpen s ch o) = kept s := by
  unfold setOpen; repeat' split
  all_goals first | rfl | (simp [apply_ite kept, foldl_kept, kept_mk, kept_eta, kept_rules]; done)
@[simp] theorem diodeResult_kept (s : State) (k : Nat) (rd : Int) : kept (diodeResult s k rd) = kept s := by
  unfold diodeResult; repeat' split
  all_goals first | rfl | (simp [apply_ite kept, foldl_kept, kept_mk, kept_eta, kept_rules]; done)
@[simp] theorem stageTake_kept (s : State) (g : Nat) (t : Int) : kept (stageTake s g t) = kept s := by
  unfold stageTake
  dsimp only
  split
  · rw [foldl_kept _ (fun s j => excludeChan_kept s _), assertCond_kept]
    simp only [kept_mk, kept_eta, kept_rules, setCond_kept]
  · simp only [kept_mk, kept_eta, kept_rules, setCond_kept]
@[simp] theorem stageResult_kept (s : State) (g : Nat) (r : Int) : kept (stageResult s g r) = kept s := by
  unfold stageResult; repeat' split
  all_goals first | rfl | (simp [apply_ite kept, foldl_kept, kept_mk, kept_eta, kept_rules]; done)
@[simp] theorem useResult_kept (s : State) (ch method : Nat) (modB : Bool) (r : Int) : kept (useResult s ch method modB r) = kept s := by
  unfold useResult; repeat' split
  all_goals first | rfl | (simp [apply_ite kept, foldl_kept, kept_mk, kept_eta, kept_rules]; done)
@[simp] theorem urgentDone_kept (s : State) (ch : Nat) (r : Int) : kept (urgentDone s ch r) = kept s := by
  unfold urgentDone; repeat' split
  all_goals first | rfl | (simp [apply_ite kept, foldl_kept, kept_mk, kept_eta, kept_rules]; done)
@[simp] theorem crossCheck_kept (s : State) (r : Int) : kept (crossCheck s r) = kept s := by
  unfold crossCheck; repeat' split
  all_goals first | rfl | (simp [apply_ite kept, foldl_kept, kept_mk, kept_eta, kept_rules]; done)
@[simp] theorem resultA_kept (s : State) (bits : BitVec 10240) : kept (resultA s bits) = kept s := by
  unfold resultA; repeat' split
  all_goals first | rfl | (simp [apply_ite kept, foldl_kept, kept_mk, kept_eta, kept_rules]; done)
@[simp] theorem afterB_kept (s : State) : kept (afterB s) = kept s := by
  unfold afterB; dsimp only; repeat' split
  all_goals first | rfl | (simp [apply_ite kept, foldl_kept, kept_mk, kept_eta, kept_rules]; done)
@[simp] theorem resultB_kept (s : State) (bits : BitVec 10240) : kept (resultB s bits) = kept s := by
  unfold resultB; repeat' split
  all_goals first | rfl | (simp [apply_ite kept, foldl_kept, kept_mk, kept_eta, kept_rules]; done)
@[simp] theorem tcvLost_kept (s : State) : kept (tcvLost s) = kept s := by
  unfold tcvLost; repeat' split
  all_goals first | rfl | (simp [apply_ite kept, foldl_kept, kept_mk, kept_eta, kept_rules]; done)
@[simp] theorem restartWindow_kept (s : State) : kept (restartWindow s) = kept s := by
  unfold restartWindow; repeat' split
  all_goals first | rfl | (simp [apply_ite kept, foldl_kept, kept_mk, kept_eta, kept_rules]; done)
@[simp] theorem windowRegs_kept (s : State) (out : Nat) : kept (windowRegs s out) = kept s := by
  unfold windowRegs; repeat' split
  all_goals first | rfl | (simp [apply_ite kept, foldl_kept, kept_mk, kept_eta, kept_rules]; done)
@[simp] theorem acceptCal_kept (s : State) (out k : Nat) : kept (acceptCal s out k) = kept s := by
  unfold acceptCal; repeat' split
  all_goals first | rfl | (simp [apply_ite kept, foldl_kept, kept_mk, kept_eta, kept_rules]; done)
@[simp] theorem rejectCal_kept (s : State) : kept (rejectCal s) = kept s := by
  unfold rejectCal; repeat' split
  all_goals first | rfl | (simp [apply_ite kept, foldl_kept, kept_mk, kept_eta, kept_rules]; done)
@[simp] theorem lthCorr_kept (s : State) : kept (lthCorr s) = kept s := by
  unfold lthCorr; repeat' split
  all_goals first | rfl | (simp [apply_ite kept, foldl_kept, kept_mk, kept_eta, kept_rules]; done)
@[simp] theorem lthUncorr_kept (s : State) (rx : Nat) (isWord : Bool) : kept (lthUncorr s rx isWord) = kept s := by
  unfold lthUncorr; repeat' split
  all_goals first | rfl | (simp [apply_ite kept, foldl_kept, kept_mk, kept_eta, kept_rules]; done)
@[simp] theorem lathAcked_kept (s : State) (net : Option Nat) (h : W32) : kept (lathAcked s net h) = kept s := by
  unfold lathAcked; repeat' split
  all_goals first | rfl | (simp [apply_ite kept, foldl_kept, kept_mk, kept_eta, kept_rules]; done)
@[simp] theorem lathDeliver_kept (s : State) (x : LathRx) (h : W32) (d : W64) : kept (lathDeliver s x h d) = kept s := by
  unfold lathDeliver; dsimp only; repeat' split
  all_goals first | rfl | (simp [apply_ite kept, foldl_kept, kept_mk, kept_eta, kept_rules]; done)
@[simp] theorem lathReceive_kept (s : State) (x : LathRx) : kept (lathReceive s x) = kept s := by
  unfold lathReceive; repeat' split
  all_goals first | rfl | (simp [apply_ite kept, foldl_kept, kept_mk, kept_eta, kept_rules]; done)
@[simp] theorem rpUnanswered_kept (s : State) : kept (rpUnanswered s) = kept s := by
  unfold rpUnanswered; repeat' split
  all_goals first | rfl | (simp [apply_ite kept, foldl_kept, kept_mk, kept_eta, kept_rules]; done)
@[simp] theorem triesFailed_kept (s : State) (kind : Nat) (zone : Option Nat) : kept (triesFailed s kind zone) = kept s := by
  unfold triesFailed; repeat' split
  all_goals first | rfl | (simp [apply_ite kept, foldl_kept, kept_mk, kept_eta, kept_rules]; done)
@[simp] theorem injPatWrite_kept (s : State) (w : W32) : kept (injPatWrite s w) = kept s := by
  unfold injPatWrite; repeat' split
  all_goals first | rfl | (simp [apply_ite kept, foldl_kept, kept_mk, kept_eta, kept_rules]; done)
@[simp] theorem startStage_kept (s : State) (g : Nat) : kept (startStage s g) = kept s := by
  unfold startStage; repeat' split
  all_goals first | rfl | (simp [apply_ite kept, foldl_kept, kept_mk, kept_eta, kept_rules]; done)
@[simp] theorem beginStages_kept (s : State) : kept (beginStages s) = kept s := by
  unfold beginStages; repeat' split
  all_goals first | rfl | (simp [apply_ite kept, foldl_kept, kept_mk, kept_eta, kept_rules]; done)
@[simp] theorem cxSend_kept (s : State) (ms : List CxMsg) : kept (cxSend s ms) = kept s := by
  unfold cxSend; repeat' split
  all_goals first | rfl | (simp [apply_ite kept, foldl_kept, kept_mk, kept_eta, kept_rules]; done)
@[simp] theorem modPeer_kept (s : State) (i : Nat) (f : Peer → Peer) : kept (modPeer s i f) = kept s := by
  unfold modPeer; repeat' split
  all_goals first | rfl | (simp [apply_ite kept, foldl_kept, kept_mk, kept_eta, kept_rules]; done)
@[simp] theorem formFail_kept (s : State) (why unit : Nat) : kept (formFail s why unit) = kept s := by
  unfold formFail; repeat' split
  all_goals first | rfl | (simp [apply_ite kept, foldl_kept, kept_mk, kept_eta, kept_rules]; done)
@[simp] theorem formDone_kept (s : State) : kept (formDone s) = kept s := by
  unfold formDone; repeat' split
  all_goals first | rfl | (simp [apply_ite kept, foldl_kept, kept_mk, kept_eta, kept_rules]; done)
@[simp] theorem beginForming_kept (s : State) : kept (beginForming s) = kept s := by
  unfold beginForming; repeat' split
  all_goals first | rfl | (simp [apply_ite kept, foldl_kept, kept_mk, kept_eta, kept_rules]; done)
@[simp] theorem cscInit_kept (s : State) : kept (cscInit s) = kept s := by
  unfold cscInit; repeat' split
  all_goals first | rfl | (simp [apply_ite kept, foldl_kept, kept_mk, kept_eta, kept_rules]; done)
@[simp] theorem masterLost_kept (s : State) (i : Nat) : kept (masterLost s i) = kept s := by
  unfold masterLost; repeat' split
  all_goals first | rfl | (simp [apply_ite kept, foldl_kept, kept_mk, kept_eta, kept_rules]; done)
@[simp] theorem losePeer_kept (s : State) (i : Nat) : kept (losePeer s i) = kept s := by
  unfold losePeer; repeat' split
  all_goals first | rfl | (simp [apply_ite kept, foldl_kept, kept_mk, kept_eta, kept_rules]; done)
@[simp] theorem followHb_kept (s : State) (id term : Nat) : kept (followHb s id term) = kept s := by
  unfold followHb; repeat' split
  all_goals first | rfl | (simp [apply_ite kept, foldl_kept, kept_mk, kept_eta, kept_rules]; done)
@[simp] theorem hbPeer_kept (s : State) (hb : W64) : kept (hbPeer s hb) = kept s := by
  unfold hbPeer; repeat' split
  all_goals first | rfl | (simp [apply_ite kept, foldl_kept, kept_mk, kept_eta, kept_rules]; done)
@[simp] theorem takeShare_kept (s : State) (w : Nat) : kept (takeShare s w) = kept s := by
  unfold takeShare; repeat' split
  all_goals first | rfl | (simp [apply_ite kept, foldl_kept, kept_mk, kept_eta, kept_rules]; done)
@[simp] theorem answerShares_kept (s : State) : kept (answerShares s) = kept s := by
  unfold answerShares; dsimp only; repeat' split
  all_goals first | rfl | (simp [apply_ite kept, foldl_kept, kept_mk, kept_eta, kept_rules]; done)
@[simp] theorem msReport_kept (s : State) : kept (msReport s) = kept s := by
  unfold msReport; repeat' split
  all_goals first | rfl | (simp [apply_ite kept, foldl_kept, kept_mk, kept_eta, kept_rules]; done)
@[simp] theorem sendProposals_kept (s : State) : kept (sendProposals s) = kept s := by
  unfold sendProposals; repeat' split
  all_goals first | rfl | (simp [apply_ite kept, foldl_kept, kept_mk, kept_eta, kept_rules]; done)
@[simp] theorem proposals_kept (s : State) : kept (proposals s) = kept s := by
  unfold proposals; repeat' split
  all_goals first | rfl | (simp [apply_ite kept, foldl_kept, kept_mk, kept_eta, kept_rules]; done)
@[simp] theorem shareDue_kept (s : State) (b : Nat) : kept (shareDue s b) = kept s := by
  unfold shareDue; repeat' split
  all_goals first | rfl | (simp [apply_ite kept, foldl_kept, kept_mk, kept_eta, kept_rules]; done)
@[simp] theorem ramLog_kept (s : State) (e : LogEnt) : kept (ramLog s e) = kept s := by
  unfold ramLog; repeat' split
  all_goals first | rfl | (simp [apply_ite kept, foldl_kept, kept_mk, kept_eta, kept_rules]; done)
@[simp] theorem logBoth_kept (s : State) (code unit : Nat) (cls : Cls) (forced latched recov : Bool) (stamp : Nat) (detail : W32) :
    kept (logBoth s code unit cls forced latched recov stamp detail) = kept s := by
  unfold logBoth; repeat' split
  all_goals first | rfl | (simp [apply_ite kept, foldl_kept, kept_mk, kept_eta, kept_rules]; done)
@[simp] theorem alertBit_kept (s : State) (cls : Cls) (stamp : Nat) : kept (alertBit s cls stamp) = kept s := by
  unfold alertBit; repeat' split
  all_goals first | rfl | (simp [apply_ite kept, foldl_kept, kept_mk, kept_eta, kept_rules]; done)
@[simp] theorem pmbLatch_kept (s : State) (code unit stamp : Nat) : kept (pmbLatch s code unit stamp) = kept s := by
  unfold pmbLatch; repeat' split
  all_goals first | rfl | (simp [apply_ite kept, foldl_kept, kept_mk, kept_eta, kept_rules]; done)
@[simp] theorem actZoneSafe_kept (s : State) (z : Nat) (count : Bool) : kept (actZoneSafe s z count) = kept s := by
  unfold actZoneSafe; repeat' split
  all_goals first | rfl | (simp [apply_ite kept, foldl_kept, kept_mk, kept_eta, kept_rules]; done)
@[simp] theorem abandonSlice_kept (s : State) : kept (abandonSlice s) = kept s := by
  unfold abandonSlice; dsimp only; simp [kept_mk, kept_eta, kept_rules]
@[simp] theorem abandonAll_kept (s : State) : kept (abandonAll s) = kept s := by
  unfold abandonAll; repeat' split
  all_goals first | rfl | (simp [apply_ite kept, foldl_kept, kept_mk, kept_eta, kept_rules]; done)
@[simp] theorem critical_kept (s : State) (z : Nat) : kept (critical s z) = kept s := by
  unfold critical; repeat' split
  all_goals first | rfl | (simp [apply_ite kept, foldl_kept, kept_mk, kept_eta, kept_rules]; done)
@[simp] theorem takeCritical_kept (s : State) (r : FaultRep) : kept (takeCritical s r) = kept s := by
  unfold takeCritical; repeat' split
  all_goals first | rfl | (simp [apply_ite kept, foldl_kept, kept_mk, kept_eta, kept_rules]; done)
@[simp] theorem tileIso_kept (s : State) (g cause : Nat) : kept (tileIso s g cause) = kept s := by
  unfold tileIso; repeat' split
  all_goals first | rfl | (simp [apply_ite kept, foldl_kept, kept_mk, kept_eta, kept_rules]; done)
@[simp] theorem takeNote_kept (s : State) (r : FaultRep) : kept (takeNote s r) = kept s := by
  unfold takeNote; repeat' split
  all_goals first | rfl | (simp [apply_ite kept, foldl_kept, kept_mk, kept_eta, kept_rules]; done)
@[simp] theorem releaseZones_kept (s : State) : kept (releaseZones s) = kept s := by
  unfold releaseZones; repeat' split
  all_goals first | rfl | (simp [apply_ite kept, foldl_kept, kept_mk, kept_eta, kept_rules]; done)
@[simp] theorem forceSet_kept (s : State) (code : Nat) : kept (forceSet s code) = kept s := by
  unfold forceSet; repeat' split
  all_goals first | rfl | (simp [apply_ite kept, foldl_kept, kept_mk, kept_eta, kept_rules]; done)
@[simp] theorem forceClear_kept (s : State) (code : Nat) : kept (forceClear s code) = kept s := by
  unfold forceClear
  split
  · rfl
  · simp only [kept, List.map_map]
    congr 2
    funext h
    dsimp only [Function.comp]
    split <;> rfl
@[simp] theorem setResult_kept (s : State) (pass req : Bool) (cls step unit : Nat) : kept (setResult s pass req cls step unit) = kept s := by
  unfold setResult; repeat' split
  all_goals first | rfl | (simp [apply_ite kept, foldl_kept, kept_mk, kept_eta, kept_rules]; done)
@[simp] theorem failSource_kept (s : State) (unit kind cls step : Nat) (c : Cls) : kept (failSource s unit kind cls step c) = kept s := by
  unfold failSource; repeat' split
  all_goals first | rfl | (simp [apply_ite kept, foldl_kept, kept_mk, kept_eta, kept_rules]; done)
@[simp] theorem countDone_kept (s : State) (pass : Bool) : kept (countDone s pass) = kept s := by
  unfold countDone; repeat' split
  all_goals first | rfl | (simp [apply_ite kept, foldl_kept, kept_mk, kept_eta, kept_rules]; done)
@[simp] theorem startRound_kept (s : State) : kept (startRound s) = kept s := by
  unfold startRound
  refine foldl_kept _ (fun s x => ?_) _ _
  split
  all_goals first | rfl | simp
@[simp] theorem tileClassEnd_kept (s : State) : kept (tileClassEnd s) = kept s := by
  unfold tileClassEnd; repeat' split
  all_goals first | rfl | (simp [apply_ite kept, foldl_kept, kept_mk, kept_eta, kept_rules]; done)
@[simp] theorem laneFail_kept (s : State) (p : Nat × Bool) : kept (laneFail s p) = kept s := by
  unfold laneFail; repeat' split
  all_goals first | rfl | (simp [apply_ite kept, foldl_kept, kept_mk, kept_eta, kept_rules]; done)
@[simp] theorem endReq_kept (s : State) (req : Bool) : kept (endReq s req) = kept s := by
  unfold endReq; repeat' split
  all_goals first | rfl | (simp [apply_ite kept, foldl_kept, kept_mk, kept_eta, kept_rules]; done)
@[simp] theorem overdueEnd_kept (s : State) (z : Nat) : kept (overdueEnd s z) = kept s := by
  unfold overdueEnd; repeat' split
  all_goals first | rfl | (simp [apply_ite kept, foldl_kept, kept_mk, kept_eta, kept_rules]; done)
@[simp] theorem offerOne_kept (s : State) (x : Nat × Nat) : kept (offerOne s x) = kept s := by
  unfold offerOne; repeat' split
  all_goals first | rfl | (simp [apply_ite kept, foldl_kept, kept_mk, kept_eta, kept_rules]; done)
@[simp] theorem offerTests_kept (s : State) : kept (offerTests s) = kept s := by
  unfold offerTests; repeat' split
  all_goals first | rfl | (simp [apply_ite kept, foldl_kept, kept_mk, kept_eta, kept_rules]; done)
@[simp] theorem nextSlice_kept (s : State) : kept (nextSlice s) = kept s := by
  unfold nextSlice; repeat' split
  all_goals first | rfl | (simp [apply_ite kept, foldl_kept, kept_mk, kept_eta, kept_rules]; done)
@[simp] theorem sliceFail_kept (s : State) (m i : Nat) (two : Bool) : kept (sliceFail s m i two) = kept s := by
  unfold sliceFail; repeat' split
  all_goals first | rfl | (simp [apply_ite kept, foldl_kept, kept_mk, kept_eta, kept_rules]; done)
@[simp] theorem bistRefuse_kept (s : State) : kept (bistRefuse s) = kept s := by
  unfold bistRefuse; repeat' split
  all_goals first | rfl | (simp [apply_ite kept, foldl_kept, kept_mk, kept_eta, kept_rules]; done)
@[simp] theorem tileAtOnce_kept (s : State) (g : Nat) : kept (tileAtOnce s g) = kept s := by
  unfold tileAtOnce; repeat' split
  all_goals first | rfl | (simp [apply_ite kept, foldl_kept, kept_mk, kept_eta, kept_rules]; done)
@[simp] theorem clearIm_kept (s : State) : kept (clearIm s) = kept s := by
  unfold clearIm; repeat' split
  all_goals first | rfl | (simp [apply_ite kept, foldl_kept, kept_mk, kept_eta, kept_rules]; done)
@[simp] theorem boundaryInputs_kept (s : State) (b : Nat) : kept (boundaryInputs s b) = kept s := by
  unfold boundaryInputs; repeat' split
  all_goals first | rfl | (simp [apply_ite kept, foldl_kept, kept_mk, kept_eta, kept_rules]; done)
@[simp] theorem capRun_kept (s : State) (b : Nat) : kept (capRun s b) = kept s := by
  unfold capRun; repeat' split
  all_goals first | rfl | (simp [apply_ite kept, foldl_kept, kept_mk, kept_eta, kept_rules]; done)
@[simp] theorem capIdle_kept (s : State) (b : Nat) : kept (capIdle s b) = kept s := by
  unfold capIdle; repeat' split
  all_goals first | rfl | (simp [apply_ite kept, foldl_kept, kept_mk, kept_eta, kept_rules]; done)
@[simp] theorem modUndo_kept (s : State) (f : Undo → Undo) : kept (modUndo s f) = kept s := by
  unfold modUndo; repeat' split
  all_goals first | rfl | (simp [apply_ite kept, foldl_kept, kept_mk, kept_eta, kept_rules]; done)
@[simp] theorem stage2Step_kept (s : State) : kept (stage2Step s) = kept s := by
  unfold stage2Step; repeat' split
  all_goals first | rfl | (simp [apply_ite kept, foldl_kept, kept_mk, kept_eta, kept_rules]; done)
@[simp] theorem takeCkpt_kept (s : State) : kept (takeCkpt s) = kept s := by
  unfold takeCkpt; repeat' split
  all_goals first | rfl | (simp [apply_ite kept, foldl_kept, kept_mk, kept_eta, kept_rules]; done)
@[simp] theorem powerRun_kept (s : State) : kept (powerRun s) = kept s := by
  unfold powerRun; repeat' split
  all_goals first | rfl | (simp [apply_ite kept, foldl_kept, kept_mk, kept_eta, kept_rules]; done)
@[simp] theorem takeBatch_kept (s : State) : kept (takeBatch s) = kept s := by
  unfold takeBatch; repeat' split
  all_goals first | rfl | (simp [apply_ite kept, foldl_kept, kept_mk, kept_eta, kept_rules]; done)
@[simp] theorem dropCap_kept (s : State) : kept (dropCap s) = kept s := by
  unfold dropCap; repeat' split
  all_goals first | rfl | (simp [apply_ite kept, foldl_kept, kept_mk, kept_eta, kept_rules]; done)
@[simp] theorem dropPower_kept (s : State) : kept (dropPower s) = kept s := by
  unfold dropPower; repeat' split
  all_goals first | rfl | (simp [apply_ite kept, foldl_kept, kept_mk, kept_eta, kept_rules]; done)
@[simp] theorem dropTherm_kept (s : State) : kept (dropTherm s) = kept s := by
  unfold dropTherm; repeat' split
  all_goals first | rfl | (simp [apply_ite kept, foldl_kept, kept_mk, kept_eta, kept_rules]; done)
@[simp] theorem dropGroups_kept (s : State) : kept (dropGroups s) = kept s := by
  unfold dropGroups; repeat' split
  all_goals first | rfl | (simp [apply_ite kept, foldl_kept, kept_mk, kept_eta, kept_rules]; done)
@[simp] theorem dropAdapt_kept (s : State) : kept (dropAdapt s) = kept s := by
  unfold dropAdapt; repeat' split
  all_goals first | rfl | (simp [apply_ite kept, foldl_kept, kept_mk, kept_eta, kept_rules]; done)
@[simp] theorem dropLearn_kept (s : State) : kept (dropLearn s) = kept s := by
  unfold dropLearn; repeat' split
  all_goals first | rfl | (simp [apply_ite kept, foldl_kept, kept_mk, kept_eta, kept_rules]; done)
@[simp] theorem dropCal_kept (s : State) : kept (dropCal s) = kept s := by
  unfold dropCal; repeat' split
  all_goals first | rfl | (simp [apply_ite kept, foldl_kept, kept_mk, kept_eta, kept_rules]; done)
@[simp] theorem restore0_kept (s : State) : kept (restore0 s) = kept s := by
  unfold restore0; repeat' split
  all_goals first | rfl | (simp [apply_ite kept, foldl_kept, kept_mk, kept_eta, kept_rules]; done)
@[simp] theorem restore1_kept (s : State) : kept (restore1 s) = kept s := by
  unfold restore1; repeat' split
  all_goals first | rfl | (simp [apply_ite kept, foldl_kept, kept_mk, kept_eta, kept_rules]; done)
@[simp] theorem loadImage_kept (s : State) (h : Header) (i : Image) : kept (loadImage s h i) = kept s := by
  unfold loadImage; repeat' split
  all_goals first | rfl | (simp [apply_ite kept, foldl_kept, kept_mk, kept_eta, kept_rules]; done)
@[simp] theorem toStep_kept (s : State) (n sub : Nat) : kept (toStep s n sub) = kept s := by
  unfold toStep; repeat' split
  all_goals first | rfl | (simp [apply_ite kept, foldl_kept, kept_mk, kept_eta, kept_rules]; done)
@[simp] theorem step2Done_kept (s : State) : kept (step2Done s) = kept s := by
  unfold step2Done; repeat' split
  all_goals first | rfl | (simp [apply_ite kept, foldl_kept, kept_mk, kept_eta, kept_rules]; done)
@[simp] theorem takeHistory_kept (s : State) (c : Option Snapshot) (shut : Option ShutRecord) : kept (takeHistory s c shut) = kept s := by
  unfold takeHistory; repeat' split
  all_goals first | rfl | (simp [apply_ite kept, foldl_kept, kept_mk, kept_eta, kept_rules]; done)
@[simp] theorem beginStep6_kept (s : State) : kept (beginStep6 s) = kept s := by
  unfold beginStep6; repeat' split
  all_goals first | rfl | (simp [apply_ite kept, foldl_kept, kept_mk, kept_eta, kept_rules]; done)
@[simp] theorem thermalGate_kept (s : State) : kept (thermalGate s) = kept s := by
  unfold thermalGate; repeat' split
  all_goals first | rfl | (simp [apply_ite kept, foldl_kept, kept_mk, kept_eta, kept_rules]; done)
@[simp] theorem atReady_kept (s : State) : kept (atReady s) = kept s := by
  unfold atReady; repeat' split
  all_goals first | rfl | (simp [apply_ite kept, foldl_kept, kept_mk, kept_eta, kept_rules]; done)
@[simp] theorem note14_kept (s : State) (z b : Nat) : kept (note14 s z b) = kept s := by
  unfold note14; repeat' split
  all_goals first | rfl | (simp [apply_ite kept, foldl_kept, kept_mk, kept_eta, kept_rules]; done)
@[simp] theorem redrive_kept (s : State) (z : Nat) : kept (redrive s z) = kept s := by
  unfold redrive; repeat' split
  all_goals first | rfl | (simp [apply_ite kept, foldl_kept, kept_mk, kept_eta, kept_rules]; done)
@[simp] theorem zoneBefore_kept (s : State) (z : Nat) : kept (zoneBefore s z) = kept s := by
  unfold zoneBefore; repeat' split
  all_goals first | rfl | (simp [apply_ite kept, foldl_kept, kept_mk, kept_eta, kept_rules]; done)
@[simp] theorem zoneSample_kept (k : Nat) (raw : List (List RawTile)) (busy : List Bool) (s0 : State) (z : Nat) :
    kept (zoneSample k raw busy s0 z) = kept s0 := by
  unfold zoneSample
  dsimp only
  rw [foldl_kept _ (fun s t => abandonTile_kept s z t)]
  simp only [apply_ite kept, assertCond_kept, modZone_kept, ite_self]
  split <;> simp only [note14_kept, foldl_kept _ (fun s t => note_kept s 0x23 (gTile s z t) none), modZone_kept, zoneBefore_kept]
@[simp] theorem floatsSample_kept (k : Nat) (raw : List (List RawTile)) (s : State) : kept (floatsSample k raw s) = kept s := by
  unfold floatsSample; repeat' split
  all_goals first | rfl | (simp [apply_ite kept, foldl_kept, kept_mk, kept_eta, kept_rules]; done)
@[simp] theorem thrSample_kept (s : State) : kept (thrSample s) = kept s := by
  unfold thrSample; repeat' split
  all_goals first | rfl | (simp [apply_ite kept, foldl_kept, kept_mk, kept_eta, kept_rules]; done)
@[simp] theorem pmbAck_kept (s : State) (a : Bool) : kept (pmbAck s a) = kept s := by
  unfold pmbAck; repeat' split
  all_goals first | rfl | (simp [apply_ite kept, foldl_kept, kept_mk, kept_eta, kept_rules]; done)
@[simp] theorem pmbBad_kept (s : State) (bit : Nat) : kept (pmbBad s bit) = kept s := by
  unfold pmbBad; repeat' split
  all_goals first | rfl | (simp [apply_ite kept, foldl_kept, kept_mk, kept_eta, kept_rules]; done)
@[simp] theorem writeWin_kept (s : State) (c : Nat) (w : W32) : kept (writeWin s c w) = kept s := by
  unfold writeWin; repeat' split
  all_goals first | rfl | (simp [apply_ite kept, foldl_kept, kept_mk, kept_eta, kept_rules]; done)
@[simp] theorem tapSelect_kept (s : State) (ir : Nat) (acts : Bool) : kept (tapSelect s ir acts) = kept s := by
  unfold tapSelect; repeat' split
  all_goals first | rfl | (simp [apply_ite kept, foldl_kept, kept_mk, kept_eta, kept_rules]; done)
@[simp] theorem tapScan_kept (s : State) (pins : List Bool) : kept (tapScan s pins) = kept s := by
  unfold tapScan; repeat' split
  all_goals first | rfl | (simp [apply_ite kept, foldl_kept, kept_mk, kept_eta, kept_rules]; done)

end Sys2Proof.Machine
end

