-- ==== Sys2Proof/Laws/State.lean ====
section
/-!
SUPPORT. The fields each shared update of the state leaves alone, field by field, and what the updated field becomes.
-/
namespace Sys2Proof.Machine

@[simp] theorem modZone_tb (s : State) (z : Nat) (f : Zone → Zone) : (modZone s z f).tb = s.tb := rfl
@[simp] theorem modZone_su (s : State) (z : Nat) (f : Zone → Zone) : (modZone s z f).su = s.su := rfl
@[simp] theorem modZone_pins (s : State) (z : Nat) (f : Zone → Zone) : (modZone s z f).pins = s.pins := rfl
@[simp] theorem modZone_fus (s : State) (z : Nat) (f : Zone → Zone) : (modZone s z f).fus = s.fus := rfl
@[simp] theorem modZone_nvm (s : State) (z : Nat) (f : Zone → Zone) : (modZone s z f).nvm = s.nvm := rfl
@[simp] theorem modZone_msf (s : State) (z : Nat) (f : Zone → Zone) : (modZone s z f).msf = s.msf := rfl
@[simp] theorem modZone_fce (s : State) (z : Nat) (f : Zone → Zone) : (modZone s z f).fce = s.fce := rfl
@[simp] theorem modZone_pcx (s : State) (z : Nat) (f : Zone → Zone) : (modZone s z f).pcx = s.pcx := rfl
@[simp] theorem modZone_tnt (s : State) (z : Nat) (f : Zone → Zone) : (modZone s z f).tnt = s.tnt := rfl
@[simp] theorem modZone_caps (s : State) (z : Nat) (f : Zone → Zone) : (modZone s z f).caps = s.caps := rfl
@[simp] theorem modZone_nrg (s : State) (z : Nat) (f : Zone → Zone) : (modZone s z f).nrg = s.nrg := rfl
@[simp] theorem modZone_thm (s : State) (z : Nat) (f : Zone → Zone) : (modZone s z f).thm = s.thm := rfl
@[simp] theorem modZone_tcv (s : State) (z : Nat) (f : Zone → Zone) : (modZone s z f).tcv = s.tcv := rfl
@[simp] theorem modZone_lth (s : State) (z : Nat) (f : Zone → Zone) : (modZone s z f).lth = s.lth := rfl
@[simp] theorem modZone_csc (s : State) (z : Nat) (f : Zone → Zone) : (modZone s z f).csc = s.csc := rfl
@[simp] theorem modZone_snag (s : State) (z : Nat) (f : Zone → Zone) : (modZone s z f).snag = s.snag := rfl
@[simp] theorem modZone_bist (s : State) (z : Nat) (f : Zone → Zone) : (modZone s z f).bist = s.bist := rfl
@[simp] theorem modZone_cores (s : State) (z : Nat) (f : Zone → Zone) : (modZone s z f).cores = s.cores := rfl
@[simp] theorem modZone_rp (s : State) (z : Nat) (f : Zone → Zone) : (modZone s z f).rp = s.rp := rfl
@[simp] theorem modZone_pmb (s : State) (z : Nat) (f : Zone → Zone) : (modZone s z f).pmb = s.pmb := rfl
@[simp] theorem modZone_tap (s : State) (z : Nat) (f : Zone → Zone) : (modZone s z f).tap = s.tap := rfl
@[simp] theorem modZone_pending (s : State) (z : Nat) (f : Zone → Zone) : (modZone s z f).pending = s.pending := rfl
@[simp] theorem mapZones_tb (s : State) (f : Nat → Zone → Zone) : (mapZones s f).tb = s.tb := rfl
@[simp] theorem mapZones_su (s : State) (f : Nat → Zone → Zone) : (mapZones s f).su = s.su := rfl
@[simp] theorem mapZones_pins (s : State) (f : Nat → Zone → Zone) : (mapZones s f).pins = s.pins := rfl
@[simp] theorem mapZones_fus (s : State) (f : Nat → Zone → Zone) : (mapZones s f).fus = s.fus := rfl
@[simp] theorem mapZones_nvm (s : State) (f : Nat → Zone → Zone) : (mapZones s f).nvm = s.nvm := rfl
@[simp] theorem mapZones_msf (s : State) (f : Nat → Zone → Zone) : (mapZones s f).msf = s.msf := rfl
@[simp] theorem mapZones_fce (s : State) (f : Nat → Zone → Zone) : (mapZones s f).fce = s.fce := rfl
@[simp] theorem mapZones_pcx (s : State) (f : Nat → Zone → Zone) : (mapZones s f).pcx = s.pcx := rfl
@[simp] theorem mapZones_tnt (s : State) (f : Nat → Zone → Zone) : (mapZones s f).tnt = s.tnt := rfl
@[simp] theorem mapZones_caps (s : State) (f : Nat → Zone → Zone) : (mapZones s f).caps = s.caps := rfl
@[simp] theorem mapZones_nrg (s : State) (f : Nat → Zone → Zone) : (mapZones s f).nrg = s.nrg := rfl
@[simp] theorem mapZones_thm (s : State) (f : Nat → Zone → Zone) : (mapZones s f).thm = s.thm := rfl
@[simp] theorem mapZones_tcv (s : State) (f : Nat → Zone → Zone) : (mapZones s f).tcv = s.tcv := rfl
@[simp] theorem mapZones_lth (s : State) (f : Nat → Zone → Zone) : (mapZones s f).lth = s.lth := rfl
@[simp] theorem mapZones_csc (s : State) (f : Nat → Zone → Zone) : (mapZones s f).csc = s.csc := rfl
@[simp] theorem mapZones_snag (s : State) (f : Nat → Zone → Zone) : (mapZones s f).snag = s.snag := rfl
@[simp] theorem mapZones_bist (s : State) (f : Nat → Zone → Zone) : (mapZones s f).bist = s.bist := rfl
@[simp] theorem mapZones_cores (s : State) (f : Nat → Zone → Zone) : (mapZones s f).cores = s.cores := rfl
@[simp] theorem mapZones_rp (s : State) (f : Nat → Zone → Zone) : (mapZones s f).rp = s.rp := rfl
@[simp] theorem mapZones_pmb (s : State) (f : Nat → Zone → Zone) : (mapZones s f).pmb = s.pmb := rfl
@[simp] theorem mapZones_tap (s : State) (f : Nat → Zone → Zone) : (mapZones s f).tap = s.tap := rfl
@[simp] theorem mapZones_pending (s : State) (f : Nat → Zone → Zone) : (mapZones s f).pending = s.pending := rfl
@[simp] theorem modTile_tb (s : State) (z t : Nat) (f : Tile → Tile) : (modTile s z t f).tb = s.tb := rfl
@[simp] theorem modTile_su (s : State) (z t : Nat) (f : Tile → Tile) : (modTile s z t f).su = s.su := rfl
@[simp] theorem modTile_pins (s : State) (z t : Nat) (f : Tile → Tile) : (modTile s z t f).pins = s.pins := rfl
@[simp] theorem modTile_fus (s : State) (z t : Nat) (f : Tile → Tile) : (modTile s z t f).fus = s.fus := rfl
@[simp] theorem modTile_nvm (s : State) (z t : Nat) (f : Tile → Tile) : (modTile s z t f).nvm = s.nvm := rfl
@[simp] theorem modTile_msf (s : State) (z t : Nat) (f : Tile → Tile) : (modTile s z t f).msf = s.msf := rfl
@[simp] theorem modTile_fce (s : State) (z t : Nat) (f : Tile → Tile) : (modTile s z t f).fce = s.fce := rfl
@[simp] theorem modTile_pcx (s : State) (z t : Nat) (f : Tile → Tile) : (modTile s z t f).pcx = s.pcx := rfl
@[simp] theorem modTile_tnt (s : State) (z t : Nat) (f : Tile → Tile) : (modTile s z t f).tnt = s.tnt := rfl
@[simp] theorem modTile_caps (s : State) (z t : Nat) (f : Tile → Tile) : (modTile s z t f).caps = s.caps := rfl
@[simp] theorem modTile_nrg (s : State) (z t : Nat) (f : Tile → Tile) : (modTile s z t f).nrg = s.nrg := rfl
@[simp] theorem modTile_thm (s : State) (z t : Nat) (f : Tile → Tile) : (modTile s z t f).thm = s.thm := rfl
@[simp] theorem modTile_tcv (s : State) (z t : Nat) (f : Tile → Tile) : (modTile s z t f).tcv = s.tcv := rfl
@[simp] theorem modTile_lth (s : State) (z t : Nat) (f : Tile → Tile) : (modTile s z t f).lth = s.lth := rfl
@[simp] theorem modTile_csc (s : State) (z t : Nat) (f : Tile → Tile) : (modTile s z t f).csc = s.csc := rfl
@[simp] theorem modTile_snag (s : State) (z t : Nat) (f : Tile → Tile) : (modTile s z t f).snag = s.snag := rfl
@[simp] theorem modTile_bist (s : State) (z t : Nat) (f : Tile → Tile) : (modTile s z t f).bist = s.bist := rfl
@[simp] theorem modTile_cores (s : State) (z t : Nat) (f : Tile → Tile) : (modTile s z t f).cores = s.cores := rfl
@[simp] theorem modTile_rp (s : State) (z t : Nat) (f : Tile → Tile) : (modTile s z t f).rp = s.rp := rfl
@[simp] theorem modTile_pmb (s : State) (z t : Nat) (f : Tile → Tile) : (modTile s z t f).pmb = s.pmb := rfl
@[simp] theorem modTile_tap (s : State) (z t : Nat) (f : Tile → Tile) : (modTile s z t f).tap = s.tap := rfl
@[simp] theorem modTile_pending (s : State) (z t : Nat) (f : Tile → Tile) : (modTile s z t f).pending = s.pending := rfl
@[simp] theorem modArr_tb (s : State) (z a : Nat) (f : Arr → Arr) : (modArr s z a f).tb = s.tb := rfl
@[simp] theorem modArr_su (s : State) (z a : Nat) (f : Arr → Arr) : (modArr s z a f).su = s.su := rfl
@[simp] theorem modArr_pins (s : State) (z a : Nat) (f : Arr → Arr) : (modArr s z a f).pins = s.pins := rfl
@[simp] theorem modArr_fus (s : State) (z a : Nat) (f : Arr → Arr) : (modArr s z a f).fus = s.fus := rfl
@[simp] theorem modArr_nvm (s : State) (z a : Nat) (f : Arr → Arr) : (modArr s z a f).nvm = s.nvm := rfl
@[simp] theorem modArr_msf (s : State) (z a : Nat) (f : Arr → Arr) : (modArr s z a f).msf = s.msf := rfl
@[simp] theorem modArr_fce (s : State) (z a : Nat) (f : Arr → Arr) : (modArr s z a f).fce = s.fce := rfl
@[simp] theorem modArr_pcx (s : State) (z a : Nat) (f : Arr → Arr) : (modArr s z a f).pcx = s.pcx := rfl
@[simp] theorem modArr_tnt (s : State) (z a : Nat) (f : Arr → Arr) : (modArr s z a f).tnt = s.tnt := rfl
@[simp] theorem modArr_caps (s : State) (z a : Nat) (f : Arr → Arr) : (modArr s z a f).caps = s.caps := rfl
@[simp] theorem modArr_nrg (s : State) (z a : Nat) (f : Arr → Arr) : (modArr s z a f).nrg = s.nrg := rfl
@[simp] theorem modArr_thm (s : State) (z a : Nat) (f : Arr → Arr) : (modArr s z a f).thm = s.thm := rfl
@[simp] theorem modArr_tcv (s : State) (z a : Nat) (f : Arr → Arr) : (modArr s z a f).tcv = s.tcv := rfl
@[simp] theorem modArr_lth (s : State) (z a : Nat) (f : Arr → Arr) : (modArr s z a f).lth = s.lth := rfl
@[simp] theorem modArr_csc (s : State) (z a : Nat) (f : Arr → Arr) : (modArr s z a f).csc = s.csc := rfl
@[simp] theorem modArr_snag (s : State) (z a : Nat) (f : Arr → Arr) : (modArr s z a f).snag = s.snag := rfl
@[simp] theorem modArr_bist (s : State) (z a : Nat) (f : Arr → Arr) : (modArr s z a f).bist = s.bist := rfl
@[simp] theorem modArr_cores (s : State) (z a : Nat) (f : Arr → Arr) : (modArr s z a f).cores = s.cores := rfl
@[simp] theorem modArr_rp (s : State) (z a : Nat) (f : Arr → Arr) : (modArr s z a f).rp = s.rp := rfl
@[simp] theorem modArr_pmb (s : State) (z a : Nat) (f : Arr → Arr) : (modArr s z a f).pmb = s.pmb := rfl
@[simp] theorem modArr_tap (s : State) (z a : Nat) (f : Arr → Arr) : (modArr s z a f).tap = s.tap := rfl
@[simp] theorem modArr_pending (s : State) (z a : Nat) (f : Arr → Arr) : (modArr s z a f).pending = s.pending := rfl
@[simp] theorem modPart_su (s : State) (p : Nat) (f : Part → Part) : (modPart s p f).su = s.su := rfl
@[simp] theorem modPart_pins (s : State) (p : Nat) (f : Part → Part) : (modPart s p f).pins = s.pins := rfl
@[simp] theorem modPart_fus (s : State) (p : Nat) (f : Part → Part) : (modPart s p f).fus = s.fus := rfl
@[simp] theorem modPart_nvm (s : State) (p : Nat) (f : Part → Part) : (modPart s p f).nvm = s.nvm := rfl
@[simp] theorem modPart_zones (s : State) (p : Nat) (f : Part → Part) : (modPart s p f).zones = s.zones := rfl
@[simp] theorem modPart_msf (s : State) (p : Nat) (f : Part → Part) : (modPart s p f).msf = s.msf := rfl
@[simp] theorem modPart_fce (s : State) (p : Nat) (f : Part → Part) : (modPart s p f).fce = s.fce := rfl
@[simp] theorem modPart_pcx (s : State) (p : Nat) (f : Part → Part) : (modPart s p f).pcx = s.pcx := rfl
@[simp] theorem modPart_tnt (s : State) (p : Nat) (f : Part → Part) : (modPart s p f).tnt = s.tnt := rfl
@[simp] theorem modPart_caps (s : State) (p : Nat) (f : Part → Part) : (modPart s p f).caps = s.caps := rfl
@[simp] theorem modPart_nrg (s : State) (p : Nat) (f : Part → Part) : (modPart s p f).nrg = s.nrg := rfl
@[simp] theorem modPart_thm (s : State) (p : Nat) (f : Part → Part) : (modPart s p f).thm = s.thm := rfl
@[simp] theorem modPart_tcv (s : State) (p : Nat) (f : Part → Part) : (modPart s p f).tcv = s.tcv := rfl
@[simp] theorem modPart_lth (s : State) (p : Nat) (f : Part → Part) : (modPart s p f).lth = s.lth := rfl
@[simp] theorem modPart_csc (s : State) (p : Nat) (f : Part → Part) : (modPart s p f).csc = s.csc := rfl
@[simp] theorem modPart_snag (s : State) (p : Nat) (f : Part → Part) : (modPart s p f).snag = s.snag := rfl
@[simp] theorem modPart_bist (s : State) (p : Nat) (f : Part → Part) : (modPart s p f).bist = s.bist := rfl
@[simp] theorem modPart_cores (s : State) (p : Nat) (f : Part → Part) : (modPart s p f).cores = s.cores := rfl
@[simp] theorem modPart_rp (s : State) (p : Nat) (f : Part → Part) : (modPart s p f).rp = s.rp := rfl
@[simp] theorem modPart_pmb (s : State) (p : Nat) (f : Part → Part) : (modPart s p f).pmb = s.pmb := rfl
@[simp] theorem modPart_tap (s : State) (p : Nat) (f : Part → Part) : (modPart s p f).tap = s.tap := rfl
@[simp] theorem modPart_pending (s : State) (p : Nat) (f : Part → Part) : (modPart s p f).pending = s.pending := rfl
@[simp] theorem modThm_tb (s : State) (z : Nat) (f : ThmZone → ThmZone) : (modThm s z f).tb = s.tb := rfl
@[simp] theorem modThm_su (s : State) (z : Nat) (f : ThmZone → ThmZone) : (modThm s z f).su = s.su := rfl
@[simp] theorem modThm_pins (s : State) (z : Nat) (f : ThmZone → ThmZone) : (modThm s z f).pins = s.pins := rfl
@[simp] theorem modThm_fus (s : State) (z : Nat) (f : ThmZone → ThmZone) : (modThm s z f).fus = s.fus := rfl
@[simp] theorem modThm_nvm (s : State) (z : Nat) (f : ThmZone → ThmZone) : (modThm s z f).nvm = s.nvm := rfl
@[simp] theorem modThm_zones (s : State) (z : Nat) (f : ThmZone → ThmZone) : (modThm s z f).zones = s.zones := rfl
@[simp] theorem modThm_msf (s : State) (z : Nat) (f : ThmZone → ThmZone) : (modThm s z f).msf = s.msf := rfl
@[simp] theorem modThm_fce (s : State) (z : Nat) (f : ThmZone → ThmZone) : (modThm s z f).fce = s.fce := rfl
@[simp] theorem modThm_pcx (s : State) (z : Nat) (f : ThmZone → ThmZone) : (modThm s z f).pcx = s.pcx := rfl
@[simp] theorem modThm_tnt (s : State) (z : Nat) (f : ThmZone → ThmZone) : (modThm s z f).tnt = s.tnt := rfl
@[simp] theorem modThm_caps (s : State) (z : Nat) (f : ThmZone → ThmZone) : (modThm s z f).caps = s.caps := rfl
@[simp] theorem modThm_nrg (s : State) (z : Nat) (f : ThmZone → ThmZone) : (modThm s z f).nrg = s.nrg := rfl
@[simp] theorem modThm_tcv (s : State) (z : Nat) (f : ThmZone → ThmZone) : (modThm s z f).tcv = s.tcv := rfl
@[simp] theorem modThm_lth (s : State) (z : Nat) (f : ThmZone → ThmZone) : (modThm s z f).lth = s.lth := rfl
@[simp] theorem modThm_csc (s : State) (z : Nat) (f : ThmZone → ThmZone) : (modThm s z f).csc = s.csc := rfl
@[simp] theorem modThm_snag (s : State) (z : Nat) (f : ThmZone → ThmZone) : (modThm s z f).snag = s.snag := rfl
@[simp] theorem modThm_bist (s : State) (z : Nat) (f : ThmZone → ThmZone) : (modThm s z f).bist = s.bist := rfl
@[simp] theorem modThm_cores (s : State) (z : Nat) (f : ThmZone → ThmZone) : (modThm s z f).cores = s.cores := rfl
@[simp] theorem modThm_rp (s : State) (z : Nat) (f : ThmZone → ThmZone) : (modThm s z f).rp = s.rp := rfl
@[simp] theorem modThm_pmb (s : State) (z : Nat) (f : ThmZone → ThmZone) : (modThm s z f).pmb = s.pmb := rfl
@[simp] theorem modThm_tap (s : State) (z : Nat) (f : ThmZone → ThmZone) : (modThm s z f).tap = s.tap := rfl
@[simp] theorem modThm_pending (s : State) (z : Nat) (f : ThmZone → ThmZone) : (modThm s z f).pending = s.pending := rfl
@[simp] theorem modCapZ_tb (s : State) (z : Nat) (f : CapZone → CapZone) : (modCapZ s z f).tb = s.tb := rfl
@[simp] theorem modCapZ_su (s : State) (z : Nat) (f : CapZone → CapZone) : (modCapZ s z f).su = s.su := rfl
@[simp] theorem modCapZ_pins (s : State) (z : Nat) (f : CapZone → CapZone) : (modCapZ s z f).pins = s.pins := rfl
@[simp] theorem modCapZ_fus (s : State) (z : Nat) (f : CapZone → CapZone) : (modCapZ s z f).fus = s.fus := rfl
@[simp] theorem modCapZ_nvm (s : State) (z : Nat) (f : CapZone → CapZone) : (modCapZ s z f).nvm = s.nvm := rfl
@[simp] theorem modCapZ_zones (s : State) (z : Nat) (f : CapZone → CapZone) : (modCapZ s z f).zones = s.zones := rfl
@[simp] theorem modCapZ_msf (s : State) (z : Nat) (f : CapZone → CapZone) : (modCapZ s z f).msf = s.msf := rfl
@[simp] theorem modCapZ_fce (s : State) (z : Nat) (f : CapZone → CapZone) : (modCapZ s z f).fce = s.fce := rfl
@[simp] theorem modCapZ_pcx (s : State) (z : Nat) (f : CapZone → CapZone) : (modCapZ s z f).pcx = s.pcx := rfl
@[simp] theorem modCapZ_tnt (s : State) (z : Nat) (f : CapZone → CapZone) : (modCapZ s z f).tnt = s.tnt := rfl
@[simp] theorem modCapZ_nrg (s : State) (z : Nat) (f : CapZone → CapZone) : (modCapZ s z f).nrg = s.nrg := rfl
@[simp] theorem modCapZ_thm (s : State) (z : Nat) (f : CapZone → CapZone) : (modCapZ s z f).thm = s.thm := rfl
@[simp] theorem modCapZ_tcv (s : State) (z : Nat) (f : CapZone → CapZone) : (modCapZ s z f).tcv = s.tcv := rfl
@[simp] theorem modCapZ_lth (s : State) (z : Nat) (f : CapZone → CapZone) : (modCapZ s z f).lth = s.lth := rfl
@[simp] theorem modCapZ_csc (s : State) (z : Nat) (f : CapZone → CapZone) : (modCapZ s z f).csc = s.csc := rfl
@[simp] theorem modCapZ_snag (s : State) (z : Nat) (f : CapZone → CapZone) : (modCapZ s z f).snag = s.snag := rfl
@[simp] theorem modCapZ_bist (s : State) (z : Nat) (f : CapZone → CapZone) : (modCapZ s z f).bist = s.bist := rfl
@[simp] theorem modCapZ_cores (s : State) (z : Nat) (f : CapZone → CapZone) : (modCapZ s z f).cores = s.cores := rfl
@[simp] theorem modCapZ_rp (s : State) (z : Nat) (f : CapZone → CapZone) : (modCapZ s z f).rp = s.rp := rfl
@[simp] theorem modCapZ_pmb (s : State) (z : Nat) (f : CapZone → CapZone) : (modCapZ s z f).pmb = s.pmb := rfl
@[simp] theorem modCapZ_tap (s : State) (z : Nat) (f : CapZone → CapZone) : (modCapZ s z f).tap = s.tap := rfl
@[simp] theorem modCapZ_pending (s : State) (z : Nat) (f : CapZone → CapZone) : (modCapZ s z f).pending = s.pending := rfl
@[simp] theorem modPeer_tb (s : State) (i : Nat) (f : Peer → Peer) : (modPeer s i f).tb = s.tb := rfl
@[simp] theorem modPeer_su (s : State) (i : Nat) (f : Peer → Peer) : (modPeer s i f).su = s.su := rfl
@[simp] theorem modPeer_pins (s : State) (i : Nat) (f : Peer → Peer) : (modPeer s i f).pins = s.pins := rfl
@[simp] theorem modPeer_fus (s : State) (i : Nat) (f : Peer → Peer) : (modPeer s i f).fus = s.fus := rfl
@[simp] theorem modPeer_nvm (s : State) (i : Nat) (f : Peer → Peer) : (modPeer s i f).nvm = s.nvm := rfl
@[simp] theorem modPeer_zones (s : State) (i : Nat) (f : Peer → Peer) : (modPeer s i f).zones = s.zones := rfl
@[simp] theorem modPeer_msf (s : State) (i : Nat) (f : Peer → Peer) : (modPeer s i f).msf = s.msf := rfl
@[simp] theorem modPeer_fce (s : State) (i : Nat) (f : Peer → Peer) : (modPeer s i f).fce = s.fce := rfl
@[simp] theorem modPeer_pcx (s : State) (i : Nat) (f : Peer → Peer) : (modPeer s i f).pcx = s.pcx := rfl
@[simp] theorem modPeer_tnt (s : State) (i : Nat) (f : Peer → Peer) : (modPeer s i f).tnt = s.tnt := rfl
@[simp] theorem modPeer_caps (s : State) (i : Nat) (f : Peer → Peer) : (modPeer s i f).caps = s.caps := rfl
@[simp] theorem modPeer_nrg (s : State) (i : Nat) (f : Peer → Peer) : (modPeer s i f).nrg = s.nrg := rfl
@[simp] theorem modPeer_thm (s : State) (i : Nat) (f : Peer → Peer) : (modPeer s i f).thm = s.thm := rfl
@[simp] theorem modPeer_tcv (s : State) (i : Nat) (f : Peer → Peer) : (modPeer s i f).tcv = s.tcv := rfl
@[simp] theorem modPeer_lth (s : State) (i : Nat) (f : Peer → Peer) : (modPeer s i f).lth = s.lth := rfl
@[simp] theorem modPeer_snag (s : State) (i : Nat) (f : Peer → Peer) : (modPeer s i f).snag = s.snag := rfl
@[simp] theorem modPeer_bist (s : State) (i : Nat) (f : Peer → Peer) : (modPeer s i f).bist = s.bist := rfl
@[simp] theorem modPeer_cores (s : State) (i : Nat) (f : Peer → Peer) : (modPeer s i f).cores = s.cores := rfl
@[simp] theorem modPeer_rp (s : State) (i : Nat) (f : Peer → Peer) : (modPeer s i f).rp = s.rp := rfl
@[simp] theorem modPeer_pmb (s : State) (i : Nat) (f : Peer → Peer) : (modPeer s i f).pmb = s.pmb := rfl
@[simp] theorem modPeer_tap (s : State) (i : Nat) (f : Peer → Peer) : (modPeer s i f).tap = s.tap := rfl
@[simp] theorem modPeer_pending (s : State) (i : Nat) (f : Peer → Peer) : (modPeer s i f).pending = s.pending := rfl
@[simp] theorem report_tb (s : State) (code unit : Nat) (cls : Cls) (d : Option W32) (l : Bool) (c : Option CritRep) : (report s code unit cls d l c).tb = s.tb := rfl
@[simp] theorem report_su (s : State) (code unit : Nat) (cls : Cls) (d : Option W32) (l : Bool) (c : Option CritRep) : (report s code unit cls d l c).su = s.su := rfl
@[simp] theorem report_pins (s : State) (code unit : Nat) (cls : Cls) (d : Option W32) (l : Bool) (c : Option CritRep) : (report s code unit cls d l c).pins = s.pins := rfl
@[simp] theorem report_fus (s : State) (code unit : Nat) (cls : Cls) (d : Option W32) (l : Bool) (c : Option CritRep) : (report s code unit cls d l c).fus = s.fus := rfl
@[simp] theorem report_nvm (s : State) (code unit : Nat) (cls : Cls) (d : Option W32) (l : Bool) (c : Option CritRep) : (report s code unit cls d l c).nvm = s.nvm := rfl
@[simp] theorem report_zones (s : State) (code unit : Nat) (cls : Cls) (d : Option W32) (l : Bool) (c : Option CritRep) : (report s code unit cls d l c).zones = s.zones := rfl
@[simp] theorem report_msf (s : State) (code unit : Nat) (cls : Cls) (d : Option W32) (l : Bool) (c : Option CritRep) : (report s code unit cls d l c).msf = s.msf := rfl
@[simp] theorem report_fce (s : State) (code unit : Nat) (cls : Cls) (d : Option W32) (l : Bool) (c : Option CritRep) : (report s code unit cls d l c).fce = s.fce := rfl
@[simp] theorem report_pcx (s : State) (code unit : Nat) (cls : Cls) (d : Option W32) (l : Bool) (c : Option CritRep) : (report s code unit cls d l c).pcx = s.pcx := rfl
@[simp] theorem report_tnt (s : State) (code unit : Nat) (cls : Cls) (d : Option W32) (l : Bool) (c : Option CritRep) : (report s code unit cls d l c).tnt = s.tnt := rfl
@[simp] theorem report_caps (s : State) (code unit : Nat) (cls : Cls) (d : Option W32) (l : Bool) (c : Option CritRep) : (report s code unit cls d l c).caps = s.caps := rfl
@[simp] theorem report_nrg (s : State) (code unit : Nat) (cls : Cls) (d : Option W32) (l : Bool) (c : Option CritRep) : (report s code unit cls d l c).nrg = s.nrg := rfl
@[simp] theorem report_thm (s : State) (code unit : Nat) (cls : Cls) (d : Option W32) (l : Bool) (c : Option CritRep) : (report s code unit cls d l c).thm = s.thm := rfl
@[simp] theorem report_tcv (s : State) (code unit : Nat) (cls : Cls) (d : Option W32) (l : Bool) (c : Option CritRep) : (report s code unit cls d l c).tcv = s.tcv := rfl
@[simp] theorem report_lth (s : State) (code unit : Nat) (cls : Cls) (d : Option W32) (l : Bool) (c : Option CritRep) : (report s code unit cls d l c).lth = s.lth := rfl
@[simp] theorem report_csc (s : State) (code unit : Nat) (cls : Cls) (d : Option W32) (l : Bool) (c : Option CritRep) : (report s code unit cls d l c).csc = s.csc := rfl
@[simp] theorem report_bist (s : State) (code unit : Nat) (cls : Cls) (d : Option W32) (l : Bool) (c : Option CritRep) : (report s code unit cls d l c).bist = s.bist := rfl
@[simp] theorem report_cores (s : State) (code unit : Nat) (cls : Cls) (d : Option W32) (l : Bool) (c : Option CritRep) : (report s code unit cls d l c).cores = s.cores := rfl
@[simp] theorem report_rp (s : State) (code unit : Nat) (cls : Cls) (d : Option W32) (l : Bool) (c : Option CritRep) : (report s code unit cls d l c).rp = s.rp := rfl
@[simp] theorem report_pmb (s : State) (code unit : Nat) (cls : Cls) (d : Option W32) (l : Bool) (c : Option CritRep) : (report s code unit cls d l c).pmb = s.pmb := rfl
@[simp] theorem report_tap (s : State) (code unit : Nat) (cls : Cls) (d : Option W32) (l : Bool) (c : Option CritRep) : (report s code unit cls d l c).tap = s.tap := rfl
@[simp] theorem report_pending (s : State) (code unit : Nat) (cls : Cls) (d : Option W32) (l : Bool) (c : Option CritRep) : (report s code unit cls d l c).pending = s.pending := rfl
@[simp] theorem note_tb (s : State) (code unit : Nat) (d : Option W32) : (note s code unit d).tb = s.tb := rfl
@[simp] theorem note_su (s : State) (code unit : Nat) (d : Option W32) : (note s code unit d).su = s.su := rfl
@[simp] theorem note_pins (s : State) (code unit : Nat) (d : Option W32) : (note s code unit d).pins = s.pins := rfl
@[simp] theorem note_fus (s : State) (code unit : Nat) (d : Option W32) : (note s code unit d).fus = s.fus := rfl
@[simp] theorem note_nvm (s : State) (code unit : Nat) (d : Option W32) : (note s code unit d).nvm = s.nvm := rfl
@[simp] theorem note_zones (s : State) (code unit : Nat) (d : Option W32) : (note s code unit d).zones = s.zones := rfl
@[simp] theorem note_msf (s : State) (code unit : Nat) (d : Option W32) : (note s code unit d).msf = s.msf := rfl
@[simp] theorem note_fce (s : State) (code unit : Nat) (d : Option W32) : (note s code unit d).fce = s.fce := rfl
@[simp] theorem note_pcx (s : State) (code unit : Nat) (d : Option W32) : (note s code unit d).pcx = s.pcx := rfl
@[simp] theorem note_tnt (s : State) (code unit : Nat) (d : Option W32) : (note s code unit d).tnt = s.tnt := rfl
@[simp] theorem note_caps (s : State) (code unit : Nat) (d : Option W32) : (note s code unit d).caps = s.caps := rfl
@[simp] theorem note_nrg (s : State) (code unit : Nat) (d : Option W32) : (note s code unit d).nrg = s.nrg := rfl
@[simp] theorem note_thm (s : State) (code unit : Nat) (d : Option W32) : (note s code unit d).thm = s.thm := rfl
@[simp] theorem note_tcv (s : State) (code unit : Nat) (d : Option W32) : (note s code unit d).tcv = s.tcv := rfl
@[simp] theorem note_lth (s : State) (code unit : Nat) (d : Option W32) : (note s code unit d).lth = s.lth := rfl
@[simp] theorem note_csc (s : State) (code unit : Nat) (d : Option W32) : (note s code unit d).csc = s.csc := rfl
@[simp] theorem note_bist (s : State) (code unit : Nat) (d : Option W32) : (note s code unit d).bist = s.bist := rfl
@[simp] theorem note_cores (s : State) (code unit : Nat) (d : Option W32) : (note s code unit d).cores = s.cores := rfl
@[simp] theorem note_rp (s : State) (code unit : Nat) (d : Option W32) : (note s code unit d).rp = s.rp := rfl
@[simp] theorem note_pmb (s : State) (code unit : Nat) (d : Option W32) : (note s code unit d).pmb = s.pmb := rfl
@[simp] theorem note_tap (s : State) (code unit : Nat) (d : Option W32) : (note s code unit d).tap = s.tap := rfl
@[simp] theorem note_pending (s : State) (code unit : Nat) (d : Option W32) : (note s code unit d).pending = s.pending := rfl
@[simp] theorem rpData_tb (s : State) (w : W32) : (rpData s w).tb = s.tb := rfl
@[simp] theorem rpData_su (s : State) (w : W32) : (rpData s w).su = s.su := rfl
@[simp] theorem rpData_pins (s : State) (w : W32) : (rpData s w).pins = s.pins := rfl
@[simp] theorem rpData_fus (s : State) (w : W32) : (rpData s w).fus = s.fus := rfl
@[simp] theorem rpData_nvm (s : State) (w : W32) : (rpData s w).nvm = s.nvm := rfl
@[simp] theorem rpData_zones (s : State) (w : W32) : (rpData s w).zones = s.zones := rfl
@[simp] theorem rpData_msf (s : State) (w : W32) : (rpData s w).msf = s.msf := rfl
@[simp] theorem rpData_fce (s : State) (w : W32) : (rpData s w).fce = s.fce := rfl
@[simp] theorem rpData_pcx (s : State) (w : W32) : (rpData s w).pcx = s.pcx := rfl
@[simp] theorem rpData_tnt (s : State) (w : W32) : (rpData s w).tnt = s.tnt := rfl
@[simp] theorem rpData_caps (s : State) (w : W32) : (rpData s w).caps = s.caps := rfl
@[simp] theorem rpData_nrg (s : State) (w : W32) : (rpData s w).nrg = s.nrg := rfl
@[simp] theorem rpData_thm (s : State) (w : W32) : (rpData s w).thm = s.thm := rfl
@[simp] theorem rpData_tcv (s : State) (w : W32) : (rpData s w).tcv = s.tcv := rfl
@[simp] theorem rpData_lth (s : State) (w : W32) : (rpData s w).lth = s.lth := rfl
@[simp] theorem rpData_csc (s : State) (w : W32) : (rpData s w).csc = s.csc := rfl
@[simp] theorem rpData_snag (s : State) (w : W32) : (rpData s w).snag = s.snag := rfl
@[simp] theorem rpData_bist (s : State) (w : W32) : (rpData s w).bist = s.bist := rfl
@[simp] theorem rpData_cores (s : State) (w : W32) : (rpData s w).cores = s.cores := rfl
@[simp] theorem rpData_pmb (s : State) (w : W32) : (rpData s w).pmb = s.pmb := rfl
@[simp] theorem rpData_tap (s : State) (w : W32) : (rpData s w).tap = s.tap := rfl
@[simp] theorem rpData_pending (s : State) (w : W32) : (rpData s w).pending = s.pending := rfl
@[simp] theorem pmbAck_tb (s : State) (a : Bool) : (pmbAck s a).tb = s.tb := rfl
@[simp] theorem pmbAck_su (s : State) (a : Bool) : (pmbAck s a).su = s.su := rfl
@[simp] theorem pmbAck_pins (s : State) (a : Bool) : (pmbAck s a).pins = s.pins := rfl
@[simp] theorem pmbAck_fus (s : State) (a : Bool) : (pmbAck s a).fus = s.fus := rfl
@[simp] theorem pmbAck_nvm (s : State) (a : Bool) : (pmbAck s a).nvm = s.nvm := rfl
@[simp] theorem pmbAck_zones (s : State) (a : Bool) : (pmbAck s a).zones = s.zones := rfl
@[simp] theorem pmbAck_msf (s : State) (a : Bool) : (pmbAck s a).msf = s.msf := rfl
@[simp] theorem pmbAck_fce (s : State) (a : Bool) : (pmbAck s a).fce = s.fce := rfl
@[simp] theorem pmbAck_pcx (s : State) (a : Bool) : (pmbAck s a).pcx = s.pcx := rfl
@[simp] theorem pmbAck_tnt (s : State) (a : Bool) : (pmbAck s a).tnt = s.tnt := rfl
@[simp] theorem pmbAck_caps (s : State) (a : Bool) : (pmbAck s a).caps = s.caps := rfl
@[simp] theorem pmbAck_nrg (s : State) (a : Bool) : (pmbAck s a).nrg = s.nrg := rfl
@[simp] theorem pmbAck_thm (s : State) (a : Bool) : (pmbAck s a).thm = s.thm := rfl
@[simp] theorem pmbAck_tcv (s : State) (a : Bool) : (pmbAck s a).tcv = s.tcv := rfl
@[simp] theorem pmbAck_lth (s : State) (a : Bool) : (pmbAck s a).lth = s.lth := rfl
@[simp] theorem pmbAck_csc (s : State) (a : Bool) : (pmbAck s a).csc = s.csc := rfl
@[simp] theorem pmbAck_snag (s : State) (a : Bool) : (pmbAck s a).snag = s.snag := rfl
@[simp] theorem pmbAck_bist (s : State) (a : Bool) : (pmbAck s a).bist = s.bist := rfl
@[simp] theorem pmbAck_cores (s : State) (a : Bool) : (pmbAck s a).cores = s.cores := rfl
@[simp] theorem pmbAck_rp (s : State) (a : Bool) : (pmbAck s a).rp = s.rp := rfl
@[simp] theorem pmbAck_tap (s : State) (a : Bool) : (pmbAck s a).tap = s.tap := rfl
@[simp] theorem pmbAck_pending (s : State) (a : Bool) : (pmbAck s a).pending = s.pending := rfl
@[simp] theorem tapSelect_tb (s : State) (ir : Nat) (acts : Bool) : (tapSelect s ir acts).tb = s.tb := rfl
@[simp] theorem tapSelect_su (s : State) (ir : Nat) (acts : Bool) : (tapSelect s ir acts).su = s.su := rfl
@[simp] theorem tapSelect_fus (s : State) (ir : Nat) (acts : Bool) : (tapSelect s ir acts).fus = s.fus := rfl
@[simp] theorem tapSelect_nvm (s : State) (ir : Nat) (acts : Bool) : (tapSelect s ir acts).nvm = s.nvm := rfl
@[simp] theorem tapSelect_zones (s : State) (ir : Nat) (acts : Bool) : (tapSelect s ir acts).zones = s.zones := rfl
@[simp] theorem tapSelect_msf (s : State) (ir : Nat) (acts : Bool) : (tapSelect s ir acts).msf = s.msf := rfl
@[simp] theorem tapSelect_fce (s : State) (ir : Nat) (acts : Bool) : (tapSelect s ir acts).fce = s.fce := rfl
@[simp] theorem tapSelect_pcx (s : State) (ir : Nat) (acts : Bool) : (tapSelect s ir acts).pcx = s.pcx := rfl
@[simp] theorem tapSelect_tnt (s : State) (ir : Nat) (acts : Bool) : (tapSelect s ir acts).tnt = s.tnt := rfl
@[simp] theorem tapSelect_caps (s : State) (ir : Nat) (acts : Bool) : (tapSelect s ir acts).caps = s.caps := rfl
@[simp] theorem tapSelect_nrg (s : State) (ir : Nat) (acts : Bool) : (tapSelect s ir acts).nrg = s.nrg := rfl
@[simp] theorem tapSelect_thm (s : State) (ir : Nat) (acts : Bool) : (tapSelect s ir acts).thm = s.thm := rfl
@[simp] theorem tapSelect_tcv (s : State) (ir : Nat) (acts : Bool) : (tapSelect s ir acts).tcv = s.tcv := rfl
@[simp] theorem tapSelect_lth (s : State) (ir : Nat) (acts : Bool) : (tapSelect s ir acts).lth = s.lth := rfl
@[simp] theorem tapSelect_csc (s : State) (ir : Nat) (acts : Bool) : (tapSelect s ir acts).csc = s.csc := rfl
@[simp] theorem tapSelect_snag (s : State) (ir : Nat) (acts : Bool) : (tapSelect s ir acts).snag = s.snag := rfl
@[simp] theorem tapSelect_bist (s : State) (ir : Nat) (acts : Bool) : (tapSelect s ir acts).bist = s.bist := rfl
@[simp] theorem tapSelect_cores (s : State) (ir : Nat) (acts : Bool) : (tapSelect s ir acts).cores = s.cores := rfl
@[simp] theorem tapSelect_rp (s : State) (ir : Nat) (acts : Bool) : (tapSelect s ir acts).rp = s.rp := rfl
@[simp] theorem tapSelect_pmb (s : State) (ir : Nat) (acts : Bool) : (tapSelect s ir acts).pmb = s.pmb := rfl
@[simp] theorem tapSelect_pending (s : State) (ir : Nat) (acts : Bool) : (tapSelect s ir acts).pending = s.pending := rfl
@[simp] theorem toStep_tb (s : State) (n sub : Nat) : (toStep s n sub).tb = s.tb := rfl
@[simp] theorem toStep_pins (s : State) (n sub : Nat) : (toStep s n sub).pins = s.pins := rfl
@[simp] theorem toStep_fus (s : State) (n sub : Nat) : (toStep s n sub).fus = s.fus := rfl
@[simp] theorem toStep_nvm (s : State) (n sub : Nat) : (toStep s n sub).nvm = s.nvm := rfl
@[simp] theorem toStep_zones (s : State) (n sub : Nat) : (toStep s n sub).zones = s.zones := rfl
@[simp] theorem toStep_msf (s : State) (n sub : Nat) : (toStep s n sub).msf = s.msf := rfl
@[simp] theorem toStep_fce (s : State) (n sub : Nat) : (toStep s n sub).fce = s.fce := rfl
@[simp] theorem toStep_pcx (s : State) (n sub : Nat) : (toStep s n sub).pcx = s.pcx := rfl
@[simp] theorem toStep_tnt (s : State) (n sub : Nat) : (toStep s n sub).tnt = s.tnt := rfl
@[simp] theorem toStep_caps (s : State) (n sub : Nat) : (toStep s n sub).caps = s.caps := rfl
@[simp] theorem toStep_nrg (s : State) (n sub : Nat) : (toStep s n sub).nrg = s.nrg := rfl
@[simp] theorem toStep_thm (s : State) (n sub : Nat) : (toStep s n sub).thm = s.thm := rfl
@[simp] theorem toStep_tcv (s : State) (n sub : Nat) : (toStep s n sub).tcv = s.tcv := rfl
@[simp] theorem toStep_lth (s : State) (n sub : Nat) : (toStep s n sub).lth = s.lth := rfl
@[simp] theorem toStep_csc (s : State) (n sub : Nat) : (toStep s n sub).csc = s.csc := rfl
@[simp] theorem toStep_snag (s : State) (n sub : Nat) : (toStep s n sub).snag = s.snag := rfl
@[simp] theorem toStep_bist (s : State) (n sub : Nat) : (toStep s n sub).bist = s.bist := rfl
@[simp] theorem toStep_cores (s : State) (n sub : Nat) : (toStep s n sub).cores = s.cores := rfl
@[simp] theorem toStep_rp (s : State) (n sub : Nat) : (toStep s n sub).rp = s.rp := rfl
@[simp] theorem toStep_pmb (s : State) (n sub : Nat) : (toStep s n sub).pmb = s.pmb := rfl
@[simp] theorem toStep_tap (s : State) (n sub : Nat) : (toStep s n sub).tap = s.tap := rfl
@[simp] theorem toStep_pending (s : State) (n sub : Nat) : (toStep s n sub).pending = s.pending := rfl

@[simp] theorem modZone_zones (s : State) (z : Nat) (f : Zone → Zone) : (modZone s z f).zones = s.zones.modify z f := rfl
@[simp] theorem mapZones_zones (s : State) (f : Nat → Zone → Zone) : (mapZones s f).zones = s.zones.mapIdx f := rfl
@[simp] theorem rpData_rdata (s : State) (w : W32) : (rpData s w).rp.rdata = w := rfl
@[simp] theorem report_conds (s : State) (code unit : Nat) (cls : Cls) (d : Option W32) (l : Bool) (c : Option CritRep) :
    (report s code unit cls d l c).snag.conds = s.snag.conds := rfl
@[simp] theorem report_held (s : State) (code unit : Nat) (cls : Cls) (d : Option W32) (l : Bool) (c : Option CritRep) :
    (report s code unit cls d l c).snag.held = s.snag.held := rfl

/-- A report leaves the rest of the state alone, but for the Snag unit (R399). -/
theorem assertCond_frame (s : State) (code unit : Nat) (cls : Cls) (l : Bool) (c : Option CritRep) :
    { assertCond s code unit cls l c with snag := s.snag } = s := by
  unfold assertCond; split <;> rfl
/-- After an assertion the condition holds. -/
theorem assertCond_conds (s : State) (code unit : Nat) (cls : Cls) (l : Bool) (c : Option CritRep) :
    (code, unit) ∈ (assertCond s code unit cls l c).snag.conds := by
  unfold assertCond
  split
  · rename_i h; simpa using h
  · exact List.mem_cons_self
/-- A deassertion changes the Snag unit only. -/
theorem deassertCond_frame (s : State) (code unit : Nat) : { deassertCond s code unit with snag := s.snag } = s := by
  unfold deassertCond; split <;> rfl
/-- The report at its place is in the list, whatever the order (R403). -/
theorem mem_insRep (r : FaultRep) (l : List FaultRep) : r ∈ insRep r l := by
  induction l with
  | nil => exact List.mem_cons_self
  | cons x xs ih =>
    unfold insRep
    split
    · exact List.mem_cons_self
    · exact List.mem_cons_of_mem _ ih
/-- No report is lost by another's insertion (R403). -/
theorem mem_insRep_of_mem (r x : FaultRep) (l : List FaultRep) (h : x ∈ l) : x ∈ insRep r l := by
  induction l with
  | nil => cases h
  | cons y ys ih =>
    unfold insRep
    split
    · exact List.mem_cons_of_mem _ h
    · cases h with
      | head => exact List.mem_cons_self
      | tail _ h => exact List.mem_cons_of_mem _ (ih h)

end Sys2Proof.Machine
end

