-- ==== Sys2Proof/WellFormed.lean ====
section
/-!
DEFINITION. Well-formed commands: every operand lies in the range its port, register field or index allows (00 R24, 02, 17). The meanings are
total; an operand beyond its range finds no zone, tile, array or register.
-/
namespace Sys2Proof

/-- A word offset of the register port (R69). -/
def rpWord (o : Nat) : Bool := o < 0x100000 && o % 4 = 0
/-- An absent operand, or one below a bound. -/
def optBelow (n : Nat) : Option Nat → Bool
  | none => true
  | some x => x < n
/-- A number that two's complement of n bits holds. -/
def signedFits (n : Nat) (x : Int) : Bool := -(2 ^ (n - 1) : Nat) ≤ x && x < (2 ^ (n - 1) : Nat)
/-- A zone's number (R5). -/
def zoneNo (z : Nat) : Bool := z < 48
/-- A tile of a zone. -/
def tileNo (z t : Nat) : Bool := zoneNo z && t < 64
/-- An array of a zone. -/
def arrayNo (z a : Nat) : Bool := zoneNo z && a < 8
/-- The command is well formed. A command that is not listed has no operand, or operands that every value of their type fits. -/
def Instr.wf : Instr → Bool
  | .stepMarkTaken p => p < 16
  | .droopCrossing z t => tileNo z t
  | .cadenceLost p => p < 16
  | .updateOverrun z => zoneNo z
  | .genRetire pcx => pcx < 4096
  | .droopRelease z t => tileNo z t
  | .pcxHomeMove pcx => pcx < 4096
  | .forecastPacketRx z => zoneNo z
  | .suspendExpiry q => q < 256
  | .taintIntervalSplit z t => tileNo z t
  | .hintExpiry p => p < 16
  | .limitUpdate z => zoneNo z
  | .pcxCommit pcx => pcx < 4096
  | .setWindowSchedule z a => arrayNo z a
  | .leaseExpiry z => zoneNo z
  | .pcxDrop pcx => pcx < 4096
  | .setWaitExpiry z a => arrayNo z a
  | .stretchTimeout z => zoneNo z
  | .fceStagingReset slot => slot < 64
  | .setReqFall z a => arrayNo z a
  | .taintEventRx z => zoneNo z
  | .fceCommit slot => slot < 64
  | .windowStart z a => arrayNo z a
  | .taintStrobeEnd z => zoneNo z
  | .fceClear slot => slot < 64
  | .windowEnd z a => arrayNo z a
  | .freqIncreaseGrant z => zoneNo z
  | .fceSlotLost slot => slot < 64
  | .gateAckLate z a => arrayNo z a
  | .freqReqFall z => zoneNo z
  | .msfChannelExclude k => k < 48
  | .tileTripShort z t => tileNo z t
  | .zoneGateTimeout z => zoneNo z
  | .groupBoundary g => g < 16
  | .tileSwitchFail z t => tileNo z t
  | .pupDeferExpiry z => zoneNo z
  | .userWindowEnergyRead q => q < 256
  | .tileOverloadSet z t => tileNo z t
  | .stretchAckCheck z _ => zoneNo z
  | .zoneRampDone z => zoneNo z
  | .lockstepDisagree pair => pair < 2
  | .tileOverloadClear z t => tileNo z t
  | .fltReqWrite z _ => zoneNo z
  | .powerOnResetRelease cascId _ => cascId < 8
  | .zoneRampTimeout z => zoneNo z
  | .corePairRestartDone pair => pair < 2
  | .tileLoadStep z t => tileNo z t
  | .fltTblDataAccess z _ => zoneNo z
  | .capGroupWrite g _ => g < 16
  | .zoneRunExitDone z => zoneNo z
  | .forecastExpiry z => optBelow 48 z
  | .tcvUrgent ch => ch < 32
  | .claimExpiry q sid => q < 256 && sid < 65536
  | .tileWatchEnd z t => tileNo z t
  | .zoneSyncLost z _ => zoneNo z
  | .taintExcursionEnd z t fine => tileNo z t && fine < 10
  | .taskDeadlineMiss pair _ => pair < 2
  | .holdTimeout z => zoneNo z
  | .page write => optBelow 256 write
  | .timeRequestRx src => src < 8
  | .leaseEnd q sid => q < 256 && sid < 65536
  | .tileRegEntry z t => tileNo z t
  | .zoneSyncRelock z _ => zoneNo z
  | .setReq z a dur => arrayNo z a && dur < 32
  | .seamLaneFail j _ => j < 16
  | .zoneStrobeLoss z => zoneNo z
  | .writeProtect write => optBelow 256 write
  | .peerLost i => i < 8
  | .userWindowWrite q offset => q < 256 && offset < 4096
  | .tileStopDone z t => tileNo z t
  | .energySegmentRx z _ => zoneNo z
  | .tileAgeResult z t age => tileNo z t && age < 65536
  | .sngForceWrite k _ => k < 8
  | .nrgLoRead offset => rpWord offset
  | .mfrPowerCap write => optBelow 65536 write
  | .contextFetchDone p _ _ => p < 16
  | .shareRx w => w < 65536
  | .faultRecovery code unit => code < 256 && unit < 2048
  | .lathAckRx zoneNet _ => optBelow 48 zoneNet
  | .unoccupiedAccess _ offset => rpWord offset
  | .tileTestDone z t failStep => tileNo z t && failStep < 256
  | .msfChannelCycle k _ => k < 48
  | .tileTestOverdue z => zoneNo z
  | .mfrEnergyCap write => optBelow 65536 write
  | .malformedRecord beats => !beats.isEmpty
  | .cxLathFrameRx _ kind _ => kind < 16
  | .sngCmdHalt confirm => confirm < 256
  | .bstRun cls target => cls < 16 && target < 2048
  | .operation write _ => optBelow 256 write
  | .registerWrite offset _ => rpWord offset
  | .taintExcursionStart z t fine => tileNo z t && fine < 10
  | .freqReq z code => zoneNo z && code < 256
  | .gateAck z a _ => arrayNo z a
  | .floatTableEccError z _ _ => zoneNo z
  | .tileTempResult z t raw => tileNo z t && signedFits 24 raw
  | .groupProposalRx src g code _ _ _ => src < 8 && g < 16 && code < 16
  | .lathTransferRx _ zoneNet kind _ _ waiting => optBelow 48 zoneNet && kind < 16 && waiting.all fun o => o.1 < 4
  | .lathRetry zoneNet src dest cls seq kind zone => optBelow 48 zoneNet && src < 128 && dest < 128 && cls < 4 && seq < 4096 && kind < 5 && optBelow 48 zone
  | .shareReportRx src pset floor p1ms => src < 8 && pset < 65536 && floor < 65536 && p1ms < 65536
  | .pmbusInvalid _ bit => bit ∈ [7, 6, 5, 1]
  | .vsetInSample mvs _ => mvs.all fun mv => mv < 65536
  | .tileSwitchingCycle z t ph _ => tileNo z t && ph < 4
  | .tcvSelfCalDone a b => [a.zero, a.ref, b.zero, b.ref].all fun l => l.length = 16
  | _ => true

end Sys2Proof
end

