-- ==== Sys2Proof/Tests/Slice0.lean ====
section
/-!
SUPPORT. The model's own tests: an ill-formed command for each check of WellFormed, worked cases of the spec on single operations, and for
every statement with hypotheses a state and operands that meet them.
-/
open Sys2Proof Sys2Proof.Machine
namespace Sys2Proof.Tests
set_option Elab.async false

/-! ## Small states -/

/-- A zone in RUN with two tiles in REG and one array. -/
def wZone : Zone :=
  { cfg := { waves := List.replicate 5 {}, sense := 1, psh := 80 }, st := .run, target := 3, ready := true
    tiles := [{ st := .reg, nact := 2, cmd := { run := true, nph := 2, vcode := 200 } }, { st := .reg, nact := 1, cmd := { run := true, nph := 1, vcode := 200 } }]
    arrays := [{ cfg := { mask := 1 } }] }
/-- A block in READY at a sample instant and a 10 µs boundary, with one zone. -/
def w0 : State :=
  { su := { cond := .run, por := false, stepNo := 9, readyEver := true, readyAt := some 0, grid := true, msfGrid := true }
    pins := { ready := true, thrReq := 0 }
    tb := { count := 1600000000, running := true, lock := true }
    fus := { loaded := true, lcRaw := 1, lcCells := 7 }
    nvm := { discovered := true, logOk := true }
    msf := { st := .run, lock := true }
    fce := { slots := List.replicate 64 [] }
    zones := [wZone] }
/-- A start at step n, part `sub`. -/
def wStart (n sub : Nat) : State :=
  { State.reset with su := { State.reset.su with cond := .run, por := false, stepNo := n, sub }, tb := { running := true, lock := true }
                     fus := { State.reset.fus with lcCells := 0 } }
/-- The one zone of w0 changed. -/
def wz (f : Zone → Zone) : State := { w0 with zones := [f wZone] }
/-- The first tile of w0's zone changed. -/
def wt (f : Tile → Tile) : State := wz fun zn => zn.modTile 0 f
/-- The array of w0's zone changed. -/
def wa (f : Arr → Arr) : State := wz fun zn => zn.modArr 0 f
/-- A pending set-window request of the array that passes every test. -/
def wWin : State := wz fun zn =>
  { zn with arrays := [{ cfg := { mask := 1, cw := 100, sag := 100, minLen := 1 }, sw := .pending, setDur := 5, setReq := true, kr := 1599999936 }]
            tiles := [{ zn.tiles.getD 0 {} with rep := { st := .reg } }, { zn.tiles.getD 1 {} with rep := { st := .reg } }] }
/-- A context record with its CRC. -/
def wCtx : List W32 :=
  let c : List W32 := [0x00015843, 0, 0, 0, 0, 0, 0xFFFFFFF0, 0xFFFFFFFF, 0xFFFFFFFF, 0xFFFFFFFF, 0xFFFFFFFF, 0xFFFFFFFF] ++ List.replicate 132 0
  c.set 15 (ctxCrc c)
/-- A model set that passes its checks. -/
def wSet : List W32 :=
  let m : List W32 := [0x00014653, 0, 0, 0x0001FFFF, 0x00001000, 0] ++ List.replicate 1018 0
  m.set 1023 (crc32c (bytesOf (m.take 1023)))
/-- A block whose zone is due for an adaptation run, and its kept values. -/
def wAdapt : State × (Nat × Nat × List Int) :=
  let k : Nat × Nat × List Int := (1599979264, 3, List.replicate 32 0)
  ({ wz (fun zn => { zn with summaries := (List.range 400).map fun i => { k := 1600000000 - 64 * i, run := true } }) with
      fce := { w0.fce with running := true, zones := [{ set := 3, kept := [k] }], slots := w0.fce.slots.set 3 [0x01000000] } }, k)
/-- A 100 ms window whose outcome is the estimate. -/
def wCal : State := { w0 with tcv := { w0.tcv with winEst := true, pmCnt := 1, res := List.replicate 23 { at_ := 1600000000 } }, caps := { w0.caps with kcal := 0x4000, uncal := false } }
/-- The first bytes of a header that passes the checks of step 3a. -/
def wFlash : List Host.Cell :=
  (List.range 22).zip [0x47, 0x4C, 0x44, 0x33, 1, 0, 0xD3, 6, 3, 1, 0, 0, 0, 0, 0, 0, 0, 0x80, 0, 0, 0, 10]
/-- A start at step 3a with a key root, and those bytes in its flash. -/
def wFlashStart : State :=
  let s := wStart 3 0
  { s with fus := { s.fus with shadow := { keyroot := [1] } }, nvm := { s.nvm with flash := wFlash } }
/-- w0 with its log area found and a record waiting to be written. -/
def wLog (r : LogRec) : State := { w0 with nvm := { w0.nvm with hdr := some {}, batch := 1, queue := [r] } }
/-- The Set-Forget state of w0's zone changed. -/
def wSft (f : Sft → Sft) : State := wz fun zn => { zn with sft := f zn.sft }
/-- The converter of w0 running, its modulator B due on the grid with conversion b. -/
def wTcv (b : Conv) : State :=
  { w0 with tcv := { w0.tcv with run := true, res := List.replicate 23 {}, a := { ch := 1, due := 1600000000 }, b }, thm := { w0.thm with diodes := List.replicate 8 {} } }
/-- The module stage of w0 taking its set-point from VSET_IN. -/
def wVset (src : Nat) : State := { w0 with msf := { cfg := { src } } }
/-- A start in step 5 whose self-calibration has run its 19.2 ms. -/
def wCal5 : State :=
  { wStart 5 0 with tb := { count := 19200000, running := true, lock := true }, tcv := { run := false, calAt := some 0 }, msf := { lock := true } }
/-- Self-calibration spans: as many ones as zeros at the zero input, and k spans of ones at the reference. -/
def wSpans (k : Nat) : CalSpans :=
  { zero := List.replicate 8 (BitVec.allOnes 10240) ++ List.replicate 8 0, ref := List.replicate k (BitVec.allOnes 10240) ++ List.replicate (16 - k) 0 }
/-- A span of ones at the fixed chop is at the top of the format. -/
theorem raw_ones : rawOf 3 0 (BitVec.allOnes 10240) = 8388607 := by decide +kernel
/-- A span of zeros is at its bottom. -/
theorem raw_zeros : rawOf 3 0 0 = -8388608 := by decide +kernel
/-- The factors of 15 spans of ones and one of zeros pass. -/
theorem spans_ok : calOk (calOf 0 (wSpans 15)) = true := by
  simp only [calOf, wSpans, List.map_append, List.map_replicate, raw_ones, raw_zeros]; decide +kernel
/-- Those of 16 spans of ones give a gain below its range. -/
theorem spans_bad : calOk (calOf 0 (wSpans 16)) = false := by
  simp only [calOf, wSpans, List.map_append, List.map_replicate, raw_ones, raw_zeros]; decide +kernel
/-- A checkpoint of pair 0. -/
def wCkpt : Ckpt := { codes := [], zones := [], cthr := 0, stage2 := false, gateOrder := [], dwell := (0, 0, 0), groups := [], therm := [], treq := 0 }
/-- w0 after an IDCODE. -/
def w0idcode : State :=
  { w0 with tap := { w0.tap with ir := 0x02, acts := true, dr := 0x306D3B4F }, pins := { w0.pins with highz := false, extest := none } }

/-! ## WellFormed refuses an operand beyond its range, one command for each check -/

/-- A zone number of 48: limits, taint and frequency. -/
theorem test_wf_zone_1 : ([Instr.updateOverrun, .forecastPacketRx, .limitUpdate, .leaseExpiry, .stretchTimeout, .taintEventRx, .taintStrobeEnd,
    .freqIncreaseGrant, .freqReqFall, .tileTestOverdue].all fun f => !(f 48).wf) = true := by decide
/-- A zone number of 48: zone states. -/
theorem test_wf_zone_2 : ([Instr.zoneGateTimeout, .pupDeferExpiry, .zoneRampDone, .zoneRampTimeout, .zoneRunExitDone, .holdTimeout,
    .zoneStrobeLoss, fun z => .forecastExpiry (some z), fun z => .stretchAckCheck z false, fun z => .freqReq z 0].all fun f => !(f 48).wf) = true := by decide
/-- A zone number of 48: commands with further operands. -/
theorem test_wf_zone_3 : ([fun z => Instr.fltReqWrite z 0, fun z => .fltTblDataAccess z none, fun z => .floatTableEccError z false false, fun z => .zoneSyncLost z {},
    fun z => .zoneSyncRelock z {}, fun z => .energySegmentRx z false].all fun f => !(f 48).wf) = true := by decide
/-- A zone number of 48 and a tile number of 64: faults and states of a tile. -/
theorem test_wf_tile_1 : ([Instr.tileTripShort, .tileSwitchFail, .tileOverloadSet, .tileOverloadClear, .tileLoadStep, .tileWatchEnd, .tileRegEntry,
    .tileStopDone].all fun f => !(f 48 0).wf && !(f 0 64).wf) = true := by decide
/-- The same: sensing and results of a tile. -/
theorem test_wf_tile_2 : ([Instr.droopCrossing, .droopRelease, (.taintExcursionStart · · 0), .taintIntervalSplit, (.taintExcursionEnd · · 0),
    fun z t => .tileTempResult z t 0, fun z t => .tileSwitchingCycle z t 0 {}, fun z t => .tileAgeResult z t 0,
    (.tileTestDone · · 0)].all fun f => !(f 48 0).wf && !(f 0 64).wf) = true := by decide
/-- A zone number of 48 and an array number of 8. -/
theorem test_wf_array : ([Instr.setReqFall, .setWindowSchedule, .setWaitExpiry, .windowStart, .windowEnd, .gateAckLate, fun z a => .gateAck z a false,
    fun z a => .setReq z a 0].all fun f => !(f 48 0).wf && !(f 0 8).wf) = true := by decide
/-- A context number of 4096, a model-set slot of 64, a partition of 16 and a queue of 256. -/
theorem test_wf_stores : (([Instr.genRetire, .pcxHomeMove, .pcxCommit, .pcxDrop].all fun f => !(f 4096).wf) &&
    ([Instr.fceStagingReset, .fceCommit, .fceClear, .fceSlotLost].all fun f => !(f 64).wf) &&
    ([Instr.stepMarkTaken, .cadenceLost, .hintExpiry, .groupBoundary, fun p => .contextFetchDone p false false].all fun f => !(f 16).wf) &&
    ([Instr.suspendExpiry, .userWindowEnergyRead].all fun f => !(f 256).wf) && ([Instr.claimExpiry, .leaseEnd].all fun f => !(f 256 0).wf && !(f 0 65536).wf)) = true := by decide
/-- Further operands of zones, tiles and arrays one past their range. -/
theorem test_wf_operands_1 : ([.powerOnResetRelease 8 false, .malformedRecord [], .taintExcursionStart 0 0 10, .taintExcursionEnd 0 0 10, .freqReq 0 256,
    .setReq 0 0 32, .tileTempResult 0 0 8388608, .tileAgeResult 0 0 65536, .tileTestDone 0 0 256, .tileSwitchingCycle 0 0 4 {}] : List Instr).all (fun c => !c.wf) = true := by decide
/-- Operands of the caps, the energy meter, the core pairs and the converter one past their range. -/
theorem test_wf_operands_2 : ([.msfChannelExclude 48, .msfChannelCycle 48 {}, .vsetInSample [65536] [], .capGroupWrite 16 0, .groupProposalRx 8 0 0 0 0 false,
    .groupProposalRx 0 16 0 0 0 false, .groupProposalRx 0 0 16 0 0 false, .nrgLoRead 0x100000, .nrgLoRead 2, .userWindowWrite 256 0, .userWindowWrite 0 4096,
    .taskDeadlineMiss 2 .currentCap, .lockstepDisagree 2, .corePairRestartDone 2, .tcvSelfCalDone {} {}, .tcvUrgent 32] : List Instr).all (fun c => !c.wf) = true := by decide
/-- Operands of the Lath and the cascade one past their range. -/
theorem test_wf_operands_3 : ([.lathTransferRx 0 (some 48) 0 0 0 [], .lathTransferRx 0 none 16 0 0 [], .lathTransferRx 0 none 0 0 0 [(4, true)], .lathAckRx (some 48) 0, .seamLaneFail 16 false,
    .cxLathFrameRx false 16 0, .timeRequestRx 8, .peerLost 8, .shareReportRx 8 0 0 0, .shareReportRx 0 65536 0 0, .shareReportRx 0 0 65536 0,
    .shareReportRx 0 0 0 65536, .shareRx 65536] : List Instr).all (fun c => !c.wf) = true := by decide
/-- The operands of a repetition one past their range: network, source, destination, class, sequence, kind, zone. -/
theorem test_wf_retry : [Instr.lathRetry (some 48) 0 0 0 0 0 none, .lathRetry none 128 0 0 0 0 none, .lathRetry none 0 128 0 0 0 none,
    .lathRetry none 0 0 4 0 0 none, .lathRetry none 0 0 0 4096 0 none].all (fun c => !c.wf) = true ∧
    (Instr.lathRetry none 0 0 0 0 5 none).wf = false ∧ (Instr.lathRetry none 0 0 0 0 0 (some 48)).wf = false := by decide
/-- Operands of the Snag unit, BIST, register port and PMBus one past their range. -/
theorem test_wf_operands_4 : ([.faultRecovery 256 0, .faultRecovery 0 2048, .sngCmdHalt 256, .sngForceWrite 8 0, .bstRun 16 0, .bstRun 0 2048,
    .unoccupiedAccess false 0x100000, .unoccupiedAccess false 2, .registerWrite 0x100000 0, .registerWrite 2 0, .page (some 256), .operation (some 256) none,
    .writeProtect (some 256), .mfrPowerCap (some 65536), .mfrEnergyCap (some 65536), .pmbusInvalid false 4] : List Instr).all (fun c => !c.wf) = true := by decide

/-! ## Worked cases of the spec -/

/-- 00 "Worked case": BLK_ID, and BLK_CFG of the reference host. -/
theorem test_identity : blkId = 0x000106D3 ∧ blkCfg { State.reset with su := { State.reset.su with zones := 30, tiles := 992, fields := 4, cascMaster := true } } = 0x0030F81E := by decide
/-- 03 R109: tile 7 of zone 3 reports 3,200 and the Float uses 3,188. -/
theorem test_trim_voltage : trimV { vofs := 3, vgain := -6 } { vratio := 0x8040, vofsU := -2 } 3200 = 3188 := by decide
/-- 03, fuse words of the reference host: FUS_VMAX_A, FUS_VMAX_B. -/
theorem test_fuse_words : regValue { State.reset with su := { State.reset.su with cond := .run }, fus := { State.reset.fus with loaded := true } } 0x70104 = 0x010400F0 ∧
    regValue { State.reset with su := { State.reset.su with cond := .run }, fus := { State.reset.fus with loaded := true } } 0x70108 = 0x00F000DC := by decide
/-- 07, packets of the 416 ns round of the decode step. -/
theorem test_forecast_packets : fp0Word 5 [60000, 60000, 138000, 138000] = 0x1590AC825812C051 ∧ fp1Word 5 4 3200 (true, 0, 7) 0 = 0x0000700011901052 ∧
    fpvWord [1050, 1050, 1480, 1485] 10 = 0x02AE6DC883506803 := by decide
/-- 08, beat 0 of the decode step's record: partition 2, queue 12, SID 0x4410. -/
theorem test_fcp_beat : (beatPart 0x4410000304B70C21, beatQueue 0x4410000304B70C21, beatSid 0x4410000304B70C21) = (2, 12, 0x4410) := by decide
/-- 14 R380: the word of data bits 0xA3, and symbol 1 received as 3. -/
theorem test_sc80 : sc80Encode 0xA3 = 0xC1A200000000000000A3 ∧ sc80Decode 0xC1A20000000000000033 = some (0xA3, true) := by decide
/-- 14 R396: shares of two reference hosts under 4,000 W. -/
theorem test_shares : sharesOf 4000 [(0, 2600, 1200), (1, 2600, 1200)] = [(0, 2000), (1, 2000)] ∧
    sharesOf 4000 [(0, 2600, 1200), (1, 1800, 1200)] = [(0, 2320), (1, 1680)] := by decide
/-- 17, worked case: the PEC of an MFR_POWER_CAP write of 2,000 W. -/
theorem test_pec : pec [0xB0, 0xD0, 0xD0, 0x07] = 0x18 := by decide
/-- 17, worked case: READ_PIN of 2,450 W. -/
theorem test_read_pin : linear11 2 (nearest 2450 4) = 0x1265 := by decide
/-- 16 R420, 02 R81: the identification. -/
theorem test_idcode : (match exec .idcode State.reset with
    | .next t => decide (t.tap.dr = 0x306D3B4F ∧ t.tap.ir = 2)
    | _ => false) = true := by decide
/-- 03 R103: 0x7 in the cells of bit 0 is PROVISIONED, and one blown cell alone reads 0. -/
theorem test_life_cycle : lcOf (lcRead 0x007) = some .provisioned ∧ lcOf (lcRead 0x001) = some .manufacture ∧ lcOf (lcRead 0x038) = none := by decide
/-- 03 R118, the digest of the three bytes "abc" as FIPS 180-4 gives it. -/
theorem test_sha384 : beNat (sha384 [0x61, 0x62, 0x63]) = 0xcb00753f45a35e8bb5a03d699ac65007272c32ab0eded1631a8b605a43ff5bed8086072ba1e7cc2358baeca134c825a7 := by decide +kernel
/-- 03 R121: a byte written reads back, the erased value leaves no entry. -/
theorem test_flash : flashGet (flashPut [] 5 3) 5 = 3 ∧ flashPut [(5, 3)] 5 0xFF = [] ∧ Memory.wf (flashPut [(9, 1)] 5 3) = true := by decide
/-- The queue is first in, first out. -/
theorem test_queue_is_first_in_first_out : (match step { State.reset with pending := [.idcode, .bypass] } with
    | .next t => decide (t.pending = [.bypass] ∧ t.tap.ir = 2)
    | _ => false) = true := by decide
/-- 01 R28: a tick of a running time base. -/
theorem test_tick : (tick { State.reset with tb := { State.reset.tb with running := true } }).tb.count = 1 := by decide
/-- 01 R41, 02 R50, 17 R442: the state after reset. -/
theorem test_reset : State.reset.pins.ready = false ∧ State.reset.pins.thrReq = 7 ∧ State.reset.tb.count = 0 ∧ State.reset.pmb.page = 0xFF ∧
    State.reset.pending = [] ∧ Memory.wf State.reset.nvm.flash = true := by decide
/-- 03 R98: a register beyond the early set reads 0 and ignores writes before READY. -/
theorem test_before_ready : regValue State.reset 0x8004 = 0 ∧ regWrite { State.reset with su := { State.reset.su with cond := .run } } 0x8004 5 =
    { State.reset with su := { State.reset.su with cond := .run } } := by decide +kernel

/-! ## Witnesses of the statements: each clause with hypotheses has operands and a state that meet all of them -/

theorem witness_idle_step_ticks :
    (∃ (s : State), s.pending = [] ∧ s.tb.running = false) ∧
    (∃ (s : State), s.pending = [] ∧ s.tb.running = true ∧ s.csc.slew = 0) :=
  ⟨⟨{ w0 with tb := { w0.tb with running := false } }, by decide +kernel⟩,
    ⟨w0, by decide +kernel⟩⟩

theorem witness_flash_form_kept_by_every_step :
    ∃ (s t : State), Memory.wf s.nvm.flash = true ∧ step s = .next t :=
  ⟨w0, tick w0, by decide +kernel, rfl⟩

theorem witness_ready_kept_safe_by_every_step :
    ∃ (s t : State), (s.pins.ready = true → s.su.cond = .run ∧ s.su.readyEver = true ∧ instSafeOrWorse s = false) ∧ step s = .next t ∧ t.pins.ready = true :=
  ⟨w0, tick w0, by decide +kernel, rfl, by decide +kernel⟩

theorem witness_life_cycle_never_goes_back :
    (∃ (c : BitVec 12) (i : Nat), i < 4) ∧
    (∃ (r : FuseRead) (s : State), s.su.cond = .run ∧ s.su.stepNo = 2 ∧ s.su.sub = 0 ∧ s.snag.haltAt = none ∧ s.su.fusesDone = false ∧ fuseBad s.fus.words r = false ∧ lcOf (lcRead s.fus.lcCells) = none) ∧
    (∃ (s t : State), step s = .next t) :=
  ⟨⟨0x03F, 3, by decide +kernel⟩,
    ⟨{}, { wStart 2 0 with fus := { (wStart 2 0).fus with lcCells := 0x1C0 } }, by decide +kernel⟩,
    ⟨w0, tick w0, rfl⟩⟩

theorem witness_count_moves_only_by_the_time_base :
    ∃ (c : Instr) (s t : State), (match c with | .powerOnResetRelease _ _ | .vbiasLoss | .resetNFall _ | .resetNRise | .timebaseLock _ | .timeAnswerRx _ _ _ _ => False | _ => True) ∧ exec c s = .next t :=
  ⟨.idcode, w0, w0idcode, by decide +kernel, rfl⟩

theorem witness_reset_and_release_rows :
    (∃ (id : Nat) (m : Bool) (s : State), s.su.por = true ∧ s.su.resetN = true ∧ id < 8) ∧
    (∃ (id : Nat) (m : Bool) (s : State), s.su.por = true ∧ s.su.resetN = false ∧ id < 8) ∧
    (∃ (low : Nat) (s : State), s.su.cond ≠ .unpowered ∧ passesFilter s low = true) ∧
    (∃ (s : State), s.su.resetN = false ∧ s.su.por = false ∧ s.su.cond = .inReset) ∧
    (∃ (low : Nat) (s : State), passesFilter s low = false) :=
  ⟨⟨0, true, State.reset, by decide +kernel⟩,
    ⟨7, false, { State.reset with su := { State.reset.su with resetN := false } }, by decide +kernel⟩,
    ⟨100000, w0, by decide +kernel⟩,
    ⟨{ State.reset with su := { State.reset.su with resetN := false, por := false } }, by decide +kernel⟩,
    ⟨50, w0, by decide +kernel⟩⟩

theorem witness_life_cycle_read_at_step_two :
    (∃ (c : BitVec 12) (i : Nat), i < 4) ∧
    (∃ (r : FuseRead) (s : State), s.su.cond = .run ∧ s.su.stepNo = 2 ∧ s.su.sub = 0 ∧ s.snag.haltAt = none ∧ s.su.fusesDone = false ∧ fuseBad s.fus.words r = true) ∧
    (∃ (r : FuseRead) (s : State), s.su.cond = .run ∧ s.su.stepNo = 2 ∧ s.su.sub = 0 ∧ s.snag.haltAt = none ∧ s.su.fusesDone = false ∧ fuseBad s.fus.words r = false ∧ lcOf (lcRead s.fus.lcCells) = none) ∧
    (∃ (r : FuseRead) (s : State), s.su.cond = .run ∧ s.su.stepNo = 2 ∧ s.su.sub = 0 ∧ s.snag.haltAt = none ∧ s.su.fusesDone = false ∧ fuseBad s.fus.words r = false ∧ lcOf (lcRead s.fus.lcCells) ≠ none) ∧
    (∃ (s : State), s.su.cond = .run ∧ s.su.stepNo = 2 ∧ s.su.sub = 0 ∧ s.snag.haltAt = none ∧ s.su.lockDone = false) ∧
    (∃ (s : State), s.su.cond = .run ∧ s.su.stepNo = 2 ∧ s.su.sub = 0 ∧ s.snag.haltAt = none ∧ s.su.lockDone = false) :=
  ⟨⟨0x03F, 3, by decide +kernel⟩,
    ⟨{ flips := [(4, 0x11)] }, wStart 2 0, by decide +kernel⟩,
    ⟨{}, { wStart 2 0 with fus := { (wStart 2 0).fus with lcCells := 0x1C0 } }, by decide +kernel⟩,
    ⟨{}, wStart 2 0, by decide +kernel⟩,
    ⟨wStart 2 0, by decide +kernel⟩,
    ⟨wStart 2 0, by decide +kernel⟩⟩

theorem witness_image_steps_three_and_four :
    (∃ (d : Discovery) (s : State), s.su.cond = .run ∧ s.su.stepNo = 3 ∧ s.su.sub = 0 ∧ s.snag.haltAt = none ∧ d.sfdpValid = true ∧ d.erase4k = true ∧ 26 ≤ d.densityLog2 ∧ d.densityLog2 ≤ 31 ∧ s.fus.shadow.keyroot.all (· = 0) = false ∧ headerCode (headerOf s.nvm.flash) d.densityLog2 = 0) ∧
    (∃ (d : Discovery) (s : State), s.su.cond = .run ∧ s.su.stepNo = 3 ∧ s.su.sub = 0 ∧ s.snag.haltAt = none ∧ (d.sfdpValid = false ∨ d.erase4k = false ∨ d.densityLog2 < 26 ∨ 31 < d.densityLog2)) ∧
    (∃ (d : Discovery) (s : State), s.su.cond = .run ∧ s.su.stepNo = 3 ∧ s.su.sub = 0 ∧ s.snag.haltAt = none ∧ d.sfdpValid = true ∧ d.erase4k = true ∧ 26 ≤ d.densityLog2 ∧ d.densityLog2 ≤ 31 ∧ s.fus.shadow.keyroot.all (· = 0) = true) ∧
    (∃ (d : Discovery) (s : State), s.su.cond = .run ∧ s.su.stepNo = 3 ∧ s.su.sub = 0 ∧ s.snag.haltAt = none ∧ d.sfdpValid = true ∧ d.erase4k = true ∧ 26 ≤ d.densityLog2 ∧ d.densityLog2 ≤ 31 ∧ s.fus.shadow.keyroot.all (· = 0) = false ∧ headerCode (headerOf s.nvm.flash) d.densityLog2 ≠ 0) ∧
    (∃ (s : State), s.su.cond = .run ∧ s.su.stepNo = 3 ∧ s.su.sub = 1 ∧ s.snag.haltAt = none) ∧
    (∃ (h : Header) (s : State), s.su.cond = .run ∧ s.su.stepNo = 3 ∧ s.su.sub = 2 ∧ s.snag.haltAt = none ∧ s.nvm.hdr = some h) ∧
    (∃ (h : Header) (s : State), s.su.cond = .run ∧ s.su.stepNo = 3 ∧ s.su.sub = 3 ∧ s.snag.haltAt = none ∧ s.nvm.hdr = some h) ∧
    (∃ (s : State), s.su.cond = .run ∧ s.su.stepNo = 3 ∧ s.su.sub = 3 ∧ s.snag.haltAt = none) ∧
    (∃ (s : State), s.su.cond = .run ∧ s.su.stepNo = 4 ∧ s.su.sub = 0 ∧ s.snag.haltAt = none) :=
  ⟨⟨{}, wFlashStart, by decide +kernel⟩,
    ⟨{ sfdpValid := false }, wStart 3 0, by decide +kernel⟩,
    ⟨{}, wStart 3 0, by decide +kernel⟩,
    ⟨{}, { wFlashStart with nvm := { wFlashStart.nvm with flash := [] } }, by decide +kernel⟩,
    ⟨wStart 3 1, by decide +kernel⟩,
    ⟨{}, { wStart 3 2 with nvm := { (wStart 3 2).nvm with hdr := some {} } }, by decide +kernel⟩,
    ⟨{}, { wStart 3 3 with nvm := { (wStart 3 3).nvm with hdr := some {} } }, by decide +kernel⟩,
    ⟨wStart 3 3, by decide +kernel⟩,
    ⟨wStart 4 0, by decide +kernel⟩⟩

theorem witness_step_five_self_calibration_and_thermal_wait :
    (∃ (a b : CalSpans) (c0 : Nat) (s : State), s.su.cond = .run ∧ s.su.stepNo = 5 ∧ s.su.sub = 0 ∧ s.snag.haltAt = none ∧ s.tcv.calAt = some c0 ∧ c0 + 19200000 ≤ s.tb.count ∧ s.su.readyEver = false ∧ s.su.waitThermal = false ∧ calOk (calOf s.tcv.calChop a) = true ∧ calOk (calOf s.tcv.calChop b) = true ∧ s.thm.lastShut = none ∧ s.msf.lock = true ∧ s.msf.syncLost = false) ∧
    (∃ (a b : CalSpans) (c0 : Nat) (s : State), s.su.cond = .run ∧ s.su.stepNo = 5 ∧ s.su.sub = 0 ∧ s.snag.haltAt = none ∧ s.tcv.calAt = some c0 ∧ c0 + 19200000 ≤ s.tb.count ∧ s.su.readyEver = false ∧ s.su.waitThermal = false ∧ calOk (calOf s.tcv.calChop a) = true ∧ calOk (calOf s.tcv.calChop b) = true ∧ s.thm.lastShut = none ∧ s.msf.lock = false) ∧
    (∃ (a b : CalSpans) (c0 : Nat) (r : ShutRecord) (s : State), s.su.cond = .run ∧ s.su.stepNo = 5 ∧ s.su.sub = 0 ∧ s.snag.haltAt = none ∧ s.tcv.calAt = some c0 ∧ c0 + 19200000 ≤ s.tb.count ∧ s.su.readyEver = false ∧ s.su.waitThermal = false ∧ calOk (calOf s.tcv.calChop a) = true ∧ calOk (calOf s.tcv.calChop b) = true ∧ s.thm.lastShut = some r ∧ r.type = 1) ∧
    (∃ (a b : CalSpans) (c0 : Nat) (s : State), s.su.cond = .run ∧ s.su.stepNo = 5 ∧ s.su.sub = 0 ∧ s.snag.haltAt = none ∧ s.tcv.calAt = some c0 ∧ c0 + 19200000 ≤ s.tb.count ∧ s.su.readyEver = false ∧ s.su.waitThermal = false ∧ (calOk (calOf s.tcv.calChop a) && calOk (calOf s.tcv.calChop b)) = false) ∧
    (∃ (r : ShutRecord) (s : State), s.su.cond = .run ∧ s.su.stepNo = 5 ∧ s.su.sub = 0 ∧ s.snag.haltAt = none ∧ s.su.waitThermal = true ∧ s.su.thermalAt = none ∧ s.thm.lastShut = some r ∧ (restartTz s r).1 < 8 * s.thm.cfg.tRestart ∧ s.msf.lock = true ∧ s.msf.syncLost = false) ∧
    (∃ (r : ShutRecord) (s : State), s.su.cond = .run ∧ s.su.stepNo = 5 ∧ s.su.sub = 0 ∧ s.snag.haltAt = none ∧ s.su.waitThermal = true ∧ s.su.thermalAt.all (fun c => decide (c + 10000000 ≤ s.tb.count)) = true ∧ s.thm.lastShut = some r ∧ 8 * s.thm.cfg.tRestart ≤ (restartTz s r).1) ∧
    (∃ (z c : Int), 0 < rdiv 362 c 16 - rdiv 362 z 16) :=
  ⟨⟨(wSpans 15), (wSpans 15), 0, wCal5, by decide +kernel, by decide +kernel, by decide +kernel, by decide +kernel, by decide +kernel, by decide +kernel, by decide +kernel, by decide +kernel, spans_ok, spans_ok, by decide +kernel⟩,
    ⟨(wSpans 15), (wSpans 15), 0, { wCal5 with msf := {} }, by decide +kernel, by decide +kernel, by decide +kernel, by decide +kernel, by decide +kernel, by decide +kernel, by decide +kernel, by decide +kernel, spans_ok, spans_ok, by decide +kernel⟩,
    ⟨(wSpans 15), (wSpans 15), 0, { type := 1 }, { wCal5 with thm := { wCal5.thm with lastShut := some { type := 1 } } }, by decide +kernel, by decide +kernel, by decide +kernel, by decide +kernel, by decide +kernel, by decide +kernel, by decide +kernel, by decide +kernel, spans_ok, spans_ok, by decide +kernel⟩,
    ⟨(wSpans 16), wSpans 15, 0, wCal5, by decide +kernel, by decide +kernel, by decide +kernel, by decide +kernel, by decide +kernel, by decide +kernel, by decide +kernel, by decide +kernel, by rw [Bool.and_eq_false_iff]; exact .inl spans_bad⟩,
    ⟨{ type := 1, zone := 0xFF }, { wStart 5 0 with su := { (wStart 5 0).su with waitThermal := true }, msf := { lock := true }, thm := { cfg := { tRestart := 2000, tHot := 100 }, lastShut := some { type := 1, zone := 0xFF } } }, by decide +kernel⟩,
    ⟨{ type := 1, zone := 0xFF }, { wStart 5 0 with su := { (wStart 5 0).su with waitThermal := true }, thm := { lastShut := some { type := 1, zone := 0xFF } } }, by decide +kernel⟩,
    ⟨0, 160, by decide +kernel⟩⟩

theorem witness_steps_six_and_seven :
    (∃ (s : State), s.msf.st = .soft ∧ s.msf.reached = true ∧ s.msf.capture = false ∧ s.tb.count % 64 = 0) ∧
    (∃ (s : State), s.msf.st = .settle ∧ s.msf.stAt + 1000000 ≤ s.tb.count ∧ withinPc 2 s.msf.vsns s.msf.vrefQ = true ∧ s.su.stepNo ≠ 6) ∧
    (∃ (s : State), s.msf.st = .settle ∧ s.msf.stAt + 1000000 ≤ s.tb.count ∧ withinPc 2 s.msf.vsns s.msf.vrefQ = true ∧ s.su.cond = .run ∧ s.su.stepNo = 6 ∧ s.su.sub = 0 ∧ s.snag.haltAt = none ∧ (s.zones.all fun zn => zn.syncLock && !zn.syncLost) = true) ∧
    (∃ (s : State), s.msf.st = .settle ∧ s.msf.stAt + 1000000 ≤ s.tb.count ∧ withinPc 2 s.msf.vsns s.msf.vrefQ = false ∧ s.snag.conds.contains (0x2A, 0) = false) ∧
    (∃ (r : BistResult) (s : State), s.su.cond = .run ∧ s.su.stepNo = 7 ∧ s.bist.startCls < 5 ∧ s.snag.haltAt = none ∧ r.failed = [] ∧ r.lanes = [] ∧ seamLost s.lth = false) ∧
    (∃ (r : BistResult) (s : State), s.su.cond = .run ∧ s.su.stepNo = 7 ∧ (s.bist.startCls = 0 ∨ s.bist.startCls = 1 ∨ s.bist.startCls = 3) ∧ s.snag.haltAt = none ∧ r.failed ≠ []) ∧
    (∃ (r : BistResult) (s : State), s.su.cond = .run ∧ s.su.stepNo = 7 ∧ s.bist.startCls = 5 ∧ s.snag.haltAt = none ∧ anyTest s = false ∧ (s.zones.all fun zn => (untested s zn).isEmpty) = true) ∧
    (∃ (s : State), s.su.cond = .run ∧ s.su.stepNo = 7 ∧ s.bist.startCls = 16 ∧ s.snag.haltAt = none ∧ s.csc.forming = false ∧ s.csc.formed = false ∧ s.csc.cfg.ninst ≤ 1) ∧
    (∃ (s : State), s.su.cond = .run ∧ s.su.stepNo = 7 ∧ s.bist.startCls = 16 ∧ s.snag.haltAt = none ∧ s.csc.forming = false ∧ s.csc.formed = false ∧ 1 < s.csc.cfg.ninst) ∧
    (∃ (s : State), s.su.cond = .run ∧ s.csc.forming = true ∧ s.csc.formAt + 1000000000 ≤ s.tb.count ∧ s.su.stepNo = 7 ∧ s.csc.isMaster = true) ∧
    (∃ (s : State), s.su.cond = .run ∧ s.csc.forming = true ∧ s.csc.formAt + 1000000000 ≤ s.tb.count ∧ s.csc.isMaster = false ∧ s.csc.hasMaster = false) :=
  ⟨⟨{ w0 with msf := { st := .soft, reached := true } }, by decide +kernel⟩,
    ⟨{ w0 with msf := { st := .settle, vsns := 6400, vrefQ := 6400 } }, by decide +kernel⟩,
    ⟨{ wStart 6 0 with tb := { count := 1000000, running := true }, msf := { st := .settle, vsns := 6400, vrefQ := 6400 } }, by decide +kernel⟩,
    ⟨{ w0 with msf := { st := .settle, vsns := 6200, vrefQ := 6400 } }, by decide +kernel⟩,
    ⟨{}, { wStart 7 0 with bist := { startCls := 2 } }, by decide +kernel⟩,
    ⟨{ failed := [0] }, { wStart 7 0 with bist := { startCls := 3 } }, by decide +kernel⟩,
    ⟨{}, { wStart 7 0 with bist := { startCls := 5 } }, by decide +kernel⟩,
    ⟨{ wStart 7 0 with bist := { startCls := 16 } }, by decide +kernel⟩,
    ⟨{ wStart 7 0 with bist := { startCls := 16 }, csc := { cfg := { ninst := 2 } } }, by decide +kernel⟩,
    ⟨{ wStart 7 0 with tb := { count := 1000000000, running := true }, csc := { forming := true, isMaster := true, cfg := { ninst := 2 } } }, by decide +kernel⟩,
    ⟨{ wStart 7 0 with tb := { count := 1000000000, running := true }, csc := { forming := true, cfg := { ninst := 2 } } }, by decide +kernel⟩⟩

theorem witness_stage_order_ready_rise_and_step_timeouts :
    (∃ (g : Nat) (s : State), s.su.cond = .run ∧ s.su.stepNo = 8 ∧ s.snag.haltAt = none ∧ stageOver s = true ∧ ((stagesOf s).find? fun x => s.su.stage < x) = some g) ∧
    (∃ (s : State), s.su.cond = .run ∧ s.su.stepNo = 8 ∧ s.snag.haltAt = none ∧ stageOver s = true ∧ ((stagesOf s).find? fun x => s.su.stage < x) = none ∧ s.tb.count % 64 = 0 ∧ instSafeHeld s = false) ∧
    (∃ (s : State), s.su.cond = .run ∧ s.su.stepNo = 8 ∧ s.snag.haltAt = none ∧ stageOver s = true ∧ ((stagesOf s).find? fun x => s.su.stage < x) = none ∧ instSafeHeld s = true) ∧
    (∃ (s : State), s.su.cond = .run ∧ s.snag.haltAt = none ∧ s.su.readyEver = false ∧ s.su.stepNo = 2 ∧ s.su.lockDone = false) ∧
    (∃ (s : State), s.su.cond = .run ∧ s.snag.haltAt = none ∧ s.su.readyEver = false ∧ s.su.stepNo = 2 ∧ s.su.lockDone = true) ∧
    (∃ (s : State), s.su.cond = .run ∧ s.snag.haltAt = none ∧ s.su.readyEver = false ∧ s.su.stepNo = 3 ∧ s.su.sub < 3 ∧ stepOver s = true) ∧
    (∃ (s : State), s.su.cond = .run ∧ s.snag.haltAt = none ∧ s.su.readyEver = false ∧ s.su.stepNo = 3 ∧ s.su.sub = 3 ∧ s.su.stepAt + 2000000 < s.tb.count) ∧
    (∃ (s : State), s.su.cond = .run ∧ s.snag.haltAt = none ∧ s.su.readyEver = false ∧ s.su.stepNo = 5 ∧ s.su.waitThermal = false ∧ s.su.stepAt + 19200000 < s.tb.count) ∧
    (∃ (s : State), s.su.cond = .run ∧ s.snag.haltAt = none ∧ s.su.readyEver = false ∧ s.su.stepNo = 6 ∧ s.msf.tries = 0 ∧ s.msf.loop = true ∧ s.su.stepAt + 10000000 < s.tb.count) ∧
    (∃ (s : State), s.su.cond = .run ∧ s.snag.haltAt = none ∧ s.su.readyEver = false ∧ s.su.stepNo = 7 ∧ s.csc.forming = false ∧ stepOver s = true) :=
  ⟨⟨3, { wStart 8 0 with zones := [{ wZone with st := .mist }, { cfg := { stage := 3 } }] }, by decide +kernel⟩,
    ⟨{ wStart 8 0 with tb := { count := 64, running := true }, zones := [{ wZone with st := .mist }] }, by decide +kernel⟩,
    ⟨{ wStart 8 0 with tb := { count := 64, running := true }, zones := [{ wZone with st := .mist }], snag := { held := [{ code := 0x2D, unit := 0, cls := .instSafe, l := 0 }] } }, by decide +kernel⟩,
    ⟨wStart 2 0, by decide +kernel⟩,
    ⟨{ wStart 2 0 with su := { (wStart 2 0).su with lockDone := true } }, by decide +kernel⟩,
    ⟨{ wStart 3 0 with tb := { count := 3000001, running := true } }, by decide +kernel⟩,
    ⟨{ wStart 3 3 with tb := { count := 2000001, running := true } }, by decide +kernel⟩,
    ⟨{ wStart 5 0 with tb := { count := 19200001, running := true } }, by decide +kernel⟩,
    ⟨{ wStart 6 0 with tb := { count := 10000001, running := true }, msf := { st := .soft } }, by decide +kernel⟩,
    ⟨{ wStart 7 0 with tb := { count := 15200001, running := true } }, by decide +kernel⟩⟩

theorem witness_sample_instant_takes_the_block_one_slot_on :
    (∃ (i : SampleInput) (s : State), s.su.cond = .run ∧ s.tb.running = true ∧ s.tb.count % 64 = 0 ∧ s.su.msfGrid = true ∧ s.su.grid = false ∧ s.pins.ready = false ∧ s.pins.thrReq = 7) ∧
    (∃ (i : SampleInput) (s : State), s.su.cond = .run ∧ s.tb.running = true ∧ s.tb.count % 64 = 0 ∧ s.su.msfGrid = true ∧ s.su.grid = true) ∧
    (∃ (i : SampleInput) (s : State), s.tb.count % 64 ≠ 0) :=
  ⟨⟨{ vsns := 6400 }, let s := wStart 6 0; { s with su := { s.su with msfGrid := true }, msf := { st := .soft, capture := true } }, by decide +kernel⟩,
    ⟨{ vsns := 6400, zones := [[{}, {}]] }, w0, by decide +kernel⟩,
    ⟨{}, { w0 with tb := { count := 5, running := true } }, by decide +kernel⟩⟩

theorem witness_overrun_lease_and_limit_updates :
    (∃ (z : Nat) (s : State), s.su.cond = .run ∧ z < s.zones.length ∧ s.su.grid = true ∧ (zoneD s z).overrunAt = none) ∧
    (∃ (z j : Nat) (s : State), s.su.cond = .run ∧ z < s.zones.length ∧ s.su.grid = true ∧ (zoneD s z).overrunAt = some j) ∧
    (∃ (z : Nat) (s : State), s.su.cond = .run ∧ z < s.zones.length ∧ s.su.grid = true ∧ (zoneD s z).leaseLost = false ∧ (zoneD s z).leaseAt + 3000000 ≤ s.tb.count) ∧
    (∃ (z : Nat) (l : Limit) (s : State), (s.caps.out.find? fun x => x.1 = z) = some (z, l)) :=
  ⟨⟨0, w0, by decide +kernel⟩,
    ⟨0, 1599999936, wz fun zn => { zn with overrunAt := some 1599999936 }, by decide +kernel⟩,
    ⟨0, w0, by decide +kernel⟩,
    ⟨0, {}, { w0 with caps := { out := [(0, {})] } }, by decide +kernel⟩⟩

theorem witness_snag_reports_and_conditions :
    (∃ (s : State) (code unit : Nat) (c : Cls), (code, unit) ∉ s.snag.conds) ∧
    (∃ (s : State) (code unit : Nat) (c : Cls), (code, unit) ∈ s.snag.conds) ∧
    (∃ (s : State) (code unit : Nat), (code, unit) ∈ s.snag.conds) ∧
    (∃ (s : State) (code unit : Nat), (code, unit) ∉ s.snag.conds) ∧
    (∃ (r : FaultRep) (l : List FaultRep), l.Pairwise (fun a b => b.before a = false)) :=
  ⟨⟨w0, 0x11, 0, .degrade, by decide +kernel⟩,
    ⟨{ w0 with snag := { conds := [(0x11, 0)] } }, 0x11, 0, .degrade, by decide +kernel⟩,
    ⟨{ w0 with snag := { conds := [(0x11, 0)] } }, 0x11, 0, by decide +kernel⟩,
    ⟨w0, 0x11, 0, by decide +kernel⟩,
    ⟨{ stamp := 5, code := 1, unit := 0, cls := .note }, [{ stamp := 4, code := 1, unit := 0, cls := .note }], by decide +kernel⟩⟩

theorem witness_forecast_round_and_arrival :
    (∃ (s : State), s.fce.running = true ∧ s.tb.count % 256 = 0) ∧
    (∃ (z : Nat) (p : FcPkt) (s : State), (s.fce.out.find? fun x => x.zone = z) = some p) ∧
    (∃ (a : Nat) (w : W64) (s : State), s.fce.fpv = some (a, w)) ∧
    (∃ (s : State), (anyAbsent s = true ∨ s.fce.absentDeg = false)) ∧
    (∃ (s : State), anyAbsent s = false ∧ s.fce.absentDeg = true) ∧
    (∃ (z : Nat) (f : Fcst) (s : State), (zoneD s z).fc = some f ∧ f.at_ + 1024 ≤ s.tb.count) ∧
    (∃ (a b c d k : Nat) (s : State), s.msf.fv = some (a, b, c, d, k) ∧ k + 1024 ≤ s.tb.count) ∧
    (∃ (k : Nat) (s : State), s.msf.absentAt = some k ∧ k + 1000000 ≤ s.tb.count ∧ s.fce.absentDeg = false) ∧
    (∃ (z k : Nat) (s : State), z < s.zones.length ∧ (zoneD s z).absentAt = some k ∧ k + 1000000 ≤ s.tb.count ∧ s.fce.absentDeg = false) :=
  ⟨⟨{ w0 with fce := { w0.fce with running := true } }, by decide +kernel⟩,
    ⟨0, { zone := 0, s := 0, fp0 := 0, fp1 := 0 }, { w0 with fce := { out := [{ zone := 0, s := 0, fp0 := 0, fp1 := 0 }] } }, by decide +kernel⟩,
    ⟨0, 3, { w0 with fce := { fpv := some (0, 3) }, msf := {} }, by decide +kernel⟩,
    ⟨{ w0 with msf := { absentAt := some 0 } }, by decide +kernel⟩,
    ⟨{ w0 with fce := { w0.fce with absentDeg := true } }, by decide +kernel⟩,
    ⟨0, {}, wz fun zn => { zn with fc := some {} }, by decide +kernel⟩,
    ⟨1, 2, 3, 4, 0, { w0 with msf := { fv := some (1, 2, 3, 4, 0) } }, by decide +kernel⟩,
    ⟨0, { w0 with msf := { absentAt := some 0 } }, by decide +kernel⟩,
    ⟨0, 0, wz fun zn => { zn with absentAt := some 0 }, by decide +kernel⟩⟩

theorem witness_tile_switching_cycle_is_right_by_the_formula :
    (∃ (z t ph : Nat) (c : CycleInput) (s : State), t < (zoneD s z).tiles.length ∧ (((tileD s z t).st = .start ∨ (tileD s z t).st = .reg)) ∧ ph < (tileD s z t).nact ∧ ((∀ w ∈ (tileD s z t).win, s.tb.count + 20 ≤ w.w))) ∧
    (∃ (z t ph : Nat) (c : CycleInput) (w : TileWin) (s : State), (tileD s z t).win = some w ∧ w.w < s.tb.count + 20) ∧
    (∃ (x : Tile) (ph : Nat) (c : CycleInput) (rows : List WaveRow) (mx : Nat), ph < 4 ∧ x.ic.length = 4 ∧ x.phOff.length = 4 ∧ x.phRow.length = 4) ∧
    (∃ (x : Tile) (c : CycleInput) (ic : Int) (lo mx n : Nat), (x.onTime c ic lo mx).1 = n ∧ lo < n ∧ n < mx) ∧
    (∃ (x : Tile) (c : CycleInput) (ic : Int) (lo mx n : Nat), n < (x.onTime c ic lo mx).1 ∧ lo ≤ n) ∧
    (∃ (x : Tile) (c : CycleInput) (ic : Int) (lo mx : Nat), lo ≤ mx) ∧
    (∃ (x : Tile) (ph : Nat) (c : CycleInput) (rows : List WaveRow) (mx : Nat), ((x.icu c.vfast > 10 * x.cfg.ilim ∨ (x.onTime c (x.icOf c.vfast) (rows.getD x.row {}).tonMin mx).2 = true))) ∧
    (∃ (x : Tile) (ph : Nat) (c : CycleInput) (rows : List WaveRow) (mx : Nat), x.icu c.vfast ≤ 10 * x.cfg.ilim ∧ (x.onTime c (x.icOf c.vfast) (rows.getD x.row {}).tonMin mx).2 = false) ∧
    (∃ (a b : Nat), a < 256 ∧ b < 256) :=
  ⟨⟨0, 0, 1, {}, w0, by decide +kernel⟩,
    ⟨0, 0, 1, {}, { w := 5, e := 9 }, wt fun x => { x with win := some { w := 5, e := 9 } }, by decide +kernel⟩,
    ⟨{}, 3, {}, [], 900, by decide +kernel⟩,
    ⟨{ cfg := { ilim := 100 } }, { sense := [0, 0, 2000] }, 3000, 1, 9, 2, by decide +kernel⟩,
    ⟨{ cfg := { ilim := 100 } }, { sense := [0, 0, 2000] }, 3000, 1, 9, 1, by decide +kernel⟩,
    ⟨{}, {}, 0, 4, 9, by decide +kernel⟩,
    ⟨{ cfg := { gf := 100 } }, 0, { vfast := -1000000 }, [], 9, by decide +kernel⟩,
    ⟨{ cfg := { ilim := 100 } }, 0, {}, [], 9, by decide +kernel⟩,
    ⟨250, 10, by decide +kernel⟩⟩

theorem witness_tile_faults_isolate_or_mark_the_tile :
    (∃ (z t : Nat) (s : State), t < (zoneD s z).tiles.length ∧ (((tileD s z t).st = .start ∨ (tileD s z t).st = .reg)) ∧ 16 ≤ (tileD s z t).tripsShort) ∧
    (∃ (z t : Nat) (s : State), t < (zoneD s z).tiles.length ∧ (tileD s z t).st ≠ .isolated) ∧
    (∃ (zn : Zone) (k t d df : Nat), (zn.tiles.getD t {}).taintOpen = some (d, df) ∧ (zn.tiles.getD t {}).switching = false ∧ t < zn.tiles.length) ∧
    (∃ (x : Tile) (c : Nat), x.st ≠ .isolated) ∧
    (∃ (x : Tile) (c : Nat), x.st = .isolated) ∧
    (∃ (z t : Nat) (s : State), t < (zoneD s z).tiles.length ∧ (tileD s z t).overCount = 157 ∧ (tileD s z t).overload = false) ∧
    (∃ (z t : Nat) (s : State), t < (zoneD s z).tiles.length ∧ (tileD s z t).overCount = 0 ∧ (tileD s z t).overload = true) ∧
    (∃ (z t n : Nat) (s : State), t < (zoneD s z).tiles.length ∧ (tileD s z t).loadCount s.tb.count = some n ∧ (850 * n : Nat) < (tileD s z t).est) ∧
    (∃ (x : Tile) (k e n : Nat), x.watch = [(e, n)] ∧ k < e) ∧
    (∃ (x : Tile) (k : Nat), (∀ p ∈ x.watch, p.1 ≤ k)) ∧
    (∃ (z t : Nat) (s : State), t < (zoneD s z).tiles.length ∧ (tileD s z t).st = .start ∧ 4 ≤ (tileD s z t).startCnt) ∧
    (∃ (z t : Nat) (b : Bool) (s : State), t < (zoneD s z).tiles.length ∧ (tileD s z t).stopping = some b) ∧
    (∃ (x : Tile) (k : Nat) (b : Bool), x.stopping = some b) :=
  ⟨⟨0, 0, wt fun x => { x with tripsShort := 16 }, by decide +kernel⟩,
    ⟨0, 1, w0, by decide +kernel⟩,
    ⟨{ tiles := [{ taintOpen := some (5, 3) }] }, 9, 0, 5, 3, by decide +kernel⟩,
    ⟨{}, 1, by decide +kernel⟩,
    ⟨{ st := .isolated, cause := 1 }, 2, by decide +kernel⟩,
    ⟨0, 0, wt fun x => { x with overCount := 157 }, by decide +kernel⟩,
    ⟨0, 0, wt fun x => { x with overload := true }, by decide +kernel⟩,
    ⟨0, 0, 1, wt fun x => { x with armed := some (1, 0), est := 851 }, by decide +kernel⟩,
    ⟨{ watch := [(1024, 3)] }, 1023, 1024, 3, by decide +kernel⟩,
    ⟨{ armed := some (1, 0) }, 5, by decide +kernel⟩,
    ⟨0, 0, wt fun x => { x with st := .start, startCnt := 4 }, by decide +kernel⟩,
    ⟨0, 0, false, wt fun x => { x with stopping := some false }, by decide +kernel⟩,
    ⟨{ st := .reg, stopping := some true }, 0, true, by decide +kernel⟩⟩

theorem witness_droop_taint_intervals_and_their_events :
    (∃ (z t : Nat) (s : State), t < (zoneD s z).tiles.length ∧ (tileD s z t).switching = true ∧ (tileD s z t).droopOut = false) ∧
    (∃ (x : Tile) (k v : Nat) (b : Bool), x.st ≠ .quiet) ∧
    (∃ (x : Tile) (k v : Nat) (b : Bool), x.st = .quiet ∧ x.held = none) ∧
    (∃ (z t : Nat) (s : State), t < (zoneD s z).tiles.length ∧ (tileD s z t).droopOut = true) ∧
    (∃ (s : State) (z : Nat), (zoneD s z).stretchOr = (zoneD s z).sft.req) ∧
    (∃ (s : State) (z : Nat), z < s.zones.length ∧ (zoneD s z).stretchOr = true ∧ (zoneD s z).sft.req = false) ∧
    (∃ (s : State) (z : Nat), z < s.zones.length ∧ (zoneD s z).stretchOr = false ∧ (zoneD s z).sft.req = true) ∧
    (∃ (z t f : Nat) (s : State), t < (zoneD s z).tiles.length ∧ (tileD s z t).switching = true ∧ (tileD s z t).taintOpen = none) ∧
    (∃ (z t f d df : Nat) (s : State), (tileD s z t).taintOpen = some (d, df)) ∧
    (∃ (z t d df : Nat) (s : State), (tileD s z t).taintOpen = some (d, df) ∧ d + 1024 ≤ s.tb.count) ∧
    (∃ (e : TaintEv) (k : Nat), e.startFine < 16 ∧ e.stopFine < 16 ∧ e.tile < 64 ∧ e.start ≤ e.stop ∧ e.stop ≤ k ∧ k < e.start + 2 ^ 23) :=
  ⟨⟨0, 0, w0, by decide +kernel⟩,
    ⟨{ droops := 255 }, 0, 0, true, by decide +kernel⟩,
    ⟨{ st := .quiet }, 5, 0, true, by decide +kernel⟩,
    ⟨0, 0, wt fun x => { x with droopOut := true }, by decide +kernel⟩,
    ⟨w0, 0, by decide +kernel⟩,
    ⟨wz fun zn => { zn with sft := { zn.sft with hold := true, req := false } }, 0, by decide +kernel⟩,
    ⟨wSft fun x => { x with hold := false, req := true }, 0, by decide +kernel⟩,
    ⟨0, 0, 3, w0, by decide +kernel⟩,
    ⟨0, 0, 3, 5, 1, wt fun x => { x with taintOpen := some (5, 1) }, by decide +kernel⟩,
    ⟨0, 0, 5, 1, wt fun x => { x with taintOpen := some (5, 1) }, by decide +kernel⟩,
    ⟨{ start := 7, startFine := 15, stop := 9, stopFine := 0, tile := 63 }, 12, by decide +kernel⟩⟩

theorem witness_stretch_limit_and_acknowledgement :
    (∃ (z a : Nat) (s : State), z < s.zones.length ∧ (zoneD s z).sft.since = some a ∧ (zoneD s z).sft.req = true ∧ (((zoneD s z).st = .mist ∨ (zoneD s z).st = .run ∨ (zoneD s z).st = .hold)) ∧ a + 10000 ≤ s.tb.count) ∧
    (∃ (z : Nat) (ack : Bool) (s : State), z < s.zones.length) ∧
    (∃ (x : Sft) (k : Nat) (ack : Bool), ack = x.ack) ∧
    (∃ (x : Sft) (k : Nat) (ack : Bool), ack ≠ x.ack) :=
  ⟨⟨0, 0, wz fun zn => { zn with sft := { zn.sft with req := true, since := some 0 } }, by decide +kernel⟩,
    ⟨0, true, w0, by decide +kernel⟩,
    ⟨{ ack := true }, 5, true, by decide +kernel⟩,
    ⟨{ ack := true }, 5, false, by decide +kernel⟩⟩

theorem witness_taint_gathering_and_taint_port :
    (∃ (z : Nat) (w : W64) (r : List W64) (s : State), (zoneD s z).sft.inflight = w :: r ∧ (zoneD s z).arraysOf (TaintEv.ofWord s.tb.count w).tile = []) ∧
    (∃ (z : Nat) (w : W64) (r : List W64) (e : TaintEv) (s : State), (zoneD s z).sft.inflight = w :: r ∧ e = TaintEv.ofWord s.tb.count w ∧ (zoneD s z).arraysOf e.tile ≠ [] ∧ (zoneD s z).sft.gather = none) ∧
    (∃ (z a : Nat) (w : W64) (r : List W64) (g : List Gathered) (e : TaintEv) (s : State), (zoneD s z).sft.inflight = w :: r ∧ e = TaintEv.ofWord s.tb.count w ∧ (zoneD s z).arraysOf e.tile ≠ [] ∧ (zoneD s z).sft.gather = some (a, g)) ∧
    (∃ (z e : Nat) (s : State), (zoneD s z).sft.strobeEnd = some e ∧ e ≤ s.tb.count) ∧
    (∃ (r : TntRec) (q : List TntRec) (s : State), s.pins.ready = true ∧ s.tnt.queue = r :: q) ∧
    (∃ (zz : BitVec 48) (a af e ef n : Nat) (s : State), s.pins.ready = true ∧ s.tnt.queue.length < 32 ∧ s.tnt.ovf = some (zz, a, af, e, ef, n)) :=
  ⟨⟨0, 0x0100000000000000, [], wSft fun x => { x with inflight := [0x0100000000000000] }, by decide +kernel⟩,
    ⟨0, 0, [], TaintEv.ofWord 1600000000 0, wSft fun x => { x with inflight := [0] }, by decide +kernel⟩,
    ⟨0, 5, 0, [], [], TaintEv.ofWord 1600000000 0, wSft fun x => { x with inflight := [0], gather := some (5, []) }, by decide +kernel⟩,
    ⟨0, 5, wz fun zn => { zn with sft := { zn.sft with strobeEnd := some 5 } }, by decide +kernel⟩,
    ⟨{ zone := 0, start := 1, stop := 2, b0 := 0, b1 := 1, b2 := 2, b3 := 0 }, [], { w0 with tnt := { queue := [{ zone := 0, start := 1, stop := 2, b0 := 0, b1 := 1, b2 := 2, b3 := 0 }] } }, by decide +kernel⟩,
    ⟨3, 1, 2, 3, 4, 5, { w0 with tnt := { ovf := some (3, 1, 2, 3, 4, 5) } }, by decide +kernel⟩⟩

theorem witness_frequency_handshake :
    (∃ (z c : Nat) (s : State), (zoneD s z).sft.freqReq = false ∧ c < 256) ∧
    (∃ (z c : Nat) (s : State), (zoneD s z).sft.freqReq = true) ∧
    (∃ (z : Nat) (s : State), z < s.zones.length ∧ (zoneD s z).sft.freqReq = true) ∧
    (∃ (x : Sft) (k : Nat) (b : Bool), x.freqSeenAt k = true ∧ x.freqSeen = false ∧ x.freqAck = false ∧ x.freqCode ≠ 0) ∧
    (∃ (x : Sft) (k : Nat) (b : Bool), x.freqSeenAt k = true ∧ x.freqSeen = false ∧ x.freqAck = false ∧ x.freqCode = 0) ∧
    (∃ (x : Sft) (k : Nat) (b : Bool), x.freqSeenAt k = false ∧ x.freqSeen = true) ∧
    (∃ (x : Sft) (k : Nat) (b : Bool), x.freqSeenAt k = x.freqSeen) ∧
    (∃ (zn : Zone) (k v c kr : Nat) (b : Bool), zn.sft.freqSeenAt k = zn.sft.freqSeen ∧ zn.sft.pending = some (c, kr) ∧ c ≤ zn.sft.g ∧ kr + 64 ≤ k) ∧
    (∃ (zn : Zone) (k v : Nat) (b : Bool), zn.sft.freqSeenAt k = zn.sft.freqSeen ∧ zn.sft.freqAck = false) ∧
    (∃ (z c kr : Nat) (s : State), s.tb.count % 64 = 0 ∧ (zoneD s z).sft.pending = some (c, kr) ∧ (zoneD s z).sft.g < c ∧ kr + 64 ≤ s.tb.count ∧ (((zoneD s z).st = .mist ∨ (zoneD s z).st = .run)) ∧ (zoneD s z).ready = true ∧ c ≤ (zoneD s z).sft.fceil ∧ noWindow (zoneD s z) s.tb.count = true ∧ stretchQuiet (zoneD s z) s.tb.count = true) :=
  ⟨⟨0, 255, w0, by decide +kernel⟩,
    ⟨0, 9, wSft fun x => { x with freqReq := true }, by decide +kernel⟩,
    ⟨0, wSft fun x => { x with freqReq := true }, by decide +kernel⟩,
    ⟨{ freqReq := true, freqCode := 9, freqAt := 5 }, 7, true, by decide +kernel⟩,
    ⟨{ freqReq := true, freqAt := 5 }, 7, true, by decide +kernel⟩,
    ⟨{ freqSeen := true, freqAt := 5 }, 7, true, by decide +kernel⟩,
    ⟨{}, 7, false, by decide +kernel⟩,
    ⟨{ sft := { pending := some (3, 64), g := 3 } }, 128, 0, 3, 64, true, by decide +kernel⟩,
    ⟨{}, 7, 9, true, by decide +kernel⟩,
    ⟨0, 9, 64, wz fun zn => { zn with sft := { zn.sft with pending := some (9, 64), fceil := 20, g := 1, req := false, edges := [] } }, by decide +kernel⟩⟩

theorem witness_set_window_request_grant_and_end :
    (∃ (z a dur : Nat) (s : State), (arrD s z a).setReq = false) ∧
    (∃ (z a dur : Nat) (s : State), (arrD s z a).setReq = true) ∧
    (∃ (z a : Nat) (s : State), (arrD s z a).setReq = true) ∧
    (∃ (x : Arr) (k : Nat), x.setAt k = true ∧ x.setSeen = false ∧ x.gnt = false ∧ x.sw = .idle) ∧
    (∃ (x : Arr) (k : Nat), x.setAt k = false ∧ x.setSeen = true ∧ x.gnt = true) ∧
    (∃ (x : Arr) (k : Nat), x.setAt k = false ∧ x.setSeen = true ∧ x.gnt = false ∧ x.sw ≠ .open_) ∧
    (∃ (z a w g : Nat) (set : List Nat) (s : State), s.tb.count % 64 = 0 ∧ a < (zoneD s z).arrays.length ∧ (zoneD s z).st = .run ∧ (zoneD s z).exitCnt = none ∧ s.snag.haltAt = none ∧ (arrD s z a).sw = .pending ∧ (arrD s z a).sched = false ∧ (arrD s z a).kr ≤ s.tb.count ∧ (arrD s z a).setDur ≠ 0 ∧ (arrD s z a).setDur ≤ 20 ∧ (∀ b < a, winNow s z b s.tb.count = none) ∧ (zoneD s z).winTest (partOf s (zoneD s z)) s.tb.count a (zoneVmax s z) = some (w, g, set)) ∧
    (∃ (zn : Zone) (p : Part) (k a v w g : Nat) (set : List Nat), zn.winTest p k a v = some (w, g, set)) ∧
    (∃ (z a : Nat) (s : State), s.tb.count % 64 = 0 ∧ a < (zoneD s z).arrays.length ∧ (arrD s z a).sw = .pending ∧ (arrD s z a).sched = false ∧ (arrD s z a).kr + 10000 * (zoneD s z).cfg.swait ≤ s.tb.count ∧ winNow s z a s.tb.count = none) ∧
    (∃ (zn : Zone) (a : Nat) (b : Bool), a < zn.arrays.length) ∧
    (∃ (z a : Nat) (s : State), a < (zoneD s z).arrays.length ∧ (arrD s z a).sched = true ∧ (arrD s z a).sw = .armed ∧ (arrD s z a).w = s.tb.count ∧ (arrD s z a).setAt s.tb.count = true) ∧
    (∃ (x : Tile) (k e : Nat), x.st = .reg ∧ x.win = some { w := k, e }) ∧
    (∃ (x : Tile) (k : Nat), (x.st ≠ .reg ∨ (∀ y ∈ x.win, y.w ≠ k))) ∧
    (∃ (z a : Nat) (s : State), a < (zoneD s z).arrays.length ∧ (arrD s z a).sw = .open_ ∧ (arrD s z a).w + 20 * (arrD s z a).g ≤ s.tb.count) ∧
    (∃ (x : Tile) (k v w e : Nat), x.win = some { w, e } ∧ e ≤ k ∧ x.st = .quiet) :=
  ⟨⟨0, 0, 5, w0, by decide +kernel⟩,
    ⟨0, 0, 5, wa fun x => { x with setReq := true }, by decide +kernel⟩,
    ⟨0, 0, wa fun x => { x with setReq := true, set := [0], sched := true }, by decide +kernel⟩,
    ⟨{ setReq := true, setReqAt := 5 }, 7, by decide +kernel⟩,
    ⟨{ setSeen := true, setReqAt := 5, gnt := true }, 7, by decide +kernel⟩,
    ⟨{ setSeen := true, setReqAt := 5, sw := .pending }, 7, by decide +kernel⟩,
    ⟨0, 0, 1600000128, 5, [0], wWin, by decide +kernel⟩,
    ⟨(zoneD wWin 0), {}, 1600000000, 0, 300, 1600000128, 5, [0], by decide +kernel⟩,
    ⟨0, 0, wa fun x => { x with sw := .pending }, by decide +kernel⟩,
    ⟨wZone, 0, true, by decide +kernel⟩,
    ⟨0, 0, wa fun x => { x with sched := true, sw := .armed, w := 1600000000, g := 5, setReq := true }, by decide +kernel⟩,
    ⟨{ st := .reg, win := some { w := 64, e := 164 } }, 64, 164, by decide +kernel⟩,
    ⟨{ st := .quiet }, 0, by decide +kernel⟩,
    ⟨0, 0, wa fun x => { x with sw := .open_, w := 5, g := 5, set := [0] }, by decide +kernel⟩,
    ⟨{ st := .quiet, win := some { w := 64, e := 164 } }, 164, 0, 64, 164, by decide +kernel⟩⟩

theorem witness_zone_target_and_ramp_rows :
    (∃ (z : Nat) (w : W32) (s : State), (s.su.cond = .run ∨ s.su.cond = .safe) ∧ s.su.readyEver = true ∧ z < s.zones.length ∧ w.toNat % 8 < 5 ∧ (¬((zoneD s z).arrays ≠ [] ∧ w.toNat % 8 = 0))) ∧
    (∃ (z : Nat) (w : W32) (s : State), (s.su.cond = .run ∨ s.su.cond = .safe) ∧ s.su.readyEver = true ∧ z < s.zones.length ∧ (zoneD s z).arrays ≠ [] ∧ w.toNat % 8 = 0) ∧
    (∃ (z : Nat) (w : W32) (s : State), (s.su.cond = .run ∨ s.su.cond = .safe) ∧ s.su.readyEver = true ∧ z < s.zones.length ∧ 5 ≤ w.toNat % 8) ∧
    (∃ (z : Nat) (r : ZRamp) (s : State), z < s.zones.length ∧ s.su.readyEver = true ∧ (zoneD s z).ramp = some r ∧ r.started = none ∧ r.startup = false ∧ r.r + 2000000 ≤ s.tb.count) ∧
    (∃ (z : Nat) (r : ZRamp) (s : State), z < s.zones.length ∧ (zoneD s z).ramp = some r ∧ r.started ≠ none ∧ 64 ≤ r.within) ∧
    (∃ (z k : Nat) (r : ZRamp) (s : State), z < s.zones.length ∧ (zoneD s z).ramp = some r ∧ (zoneD s z).nextSt = none ∧ (r.startup = false ∧ r.started = some k ∨ r.startup = true ∧ s.su.stageAt = k) ∧ k + 5000000 ≤ s.tb.count) ∧
    (∃ (z n : Nat) (s : State), z < s.zones.length ∧ (zoneD s z).st = .run ∧ (zoneD s z).exitCnt = some n ∧ 16 ≤ n) :=
  ⟨⟨0, 0x103, w0, by decide +kernel⟩,
    ⟨0, 0, w0, by decide +kernel⟩,
    ⟨0, 7, w0, by decide +kernel⟩,
    ⟨0, { r := 5 }, wz fun zn => { zn with st := .off, ramp := some { r := 5 } }, by decide +kernel⟩,
    ⟨0, { started := some 5, within := 64 }, wz fun zn => { zn with ramp := some { started := some 5, within := 64 } }, by decide +kernel⟩,
    ⟨0, 5, { started := some 5 }, wz fun zn => { zn with ramp := some { started := some 5 } }, by decide +kernel⟩,
    ⟨0, 16, wz fun zn => { zn with exitCnt := some 16 }, by decide +kernel⟩⟩

theorem witness_hold_gates_and_float_tables :
    (∃ (z g : Nat) (s : State), z < s.zones.length ∧ (zoneD s z).gateAt = some g ∧ g + 100000 ≤ s.tb.count) ∧
    (∃ (z h : Nat) (s : State), z < s.zones.length ∧ (zoneD s z).st = .hold ∧ (zoneD s z).holdAt = some h ∧ h + 2000000 ≤ s.tb.count) ∧
    (∃ (z a : Nat) (l : Bool) (s : State), a < (zoneD s z).arrays.length) ∧
    (∃ (z a : Nat) (s : State), a < (zoneD s z).arrays.length ∧ (zoneD s z).st = .run ∧ (zoneD s z).gateRun a = true ∧ (arrD s z a).gateReq = true ∧ (arrD s z a).gateAck = false ∧ (arrD s z a).gateReqAt + 100000 ≤ s.tb.count) ∧
    (∃ (z : Nat) (s : State), (s.su.cond = .run ∨ s.su.cond = .safe) ∧ s.su.readyEver = true ∧ z < s.zones.length) ∧
    (∃ (z : Nat) (w : W32) (s : State), (s.su.cond = .run ∨ s.su.cond = .safe) ∧ s.su.readyEver = true ∧ z < s.zones.length ∧ (zoneD s z).tblBank = true ∧ (zoneD s z).st = .hold) ∧
    (∃ (z : Nat) (w : W32) (s : State), (s.su.cond = .run ∨ s.su.cond = .safe) ∧ s.su.readyEver = true ∧ z < s.zones.length ∧ (zoneD s z).tblBank = true ∧ (zoneD s z).tblTable < 3 ∧ (zoneD s z).st ≠ .hold) ∧
    (∃ (z : Nat) (w : W32) (s : State), (s.su.cond = .run ∨ s.su.cond = .safe) ∧ s.su.readyEver = true ∧ z < s.zones.length ∧ (zoneD s z).tblBank = false) ∧
    (∃ (z : Nat) (b : Bool) (s : State), z < s.zones.length) ∧
    (∃ (z : Nat) (s : State), z < s.zones.length) ∧
    (∃ (z : Nat) (s : State), z < s.zones.length) :=
  ⟨⟨0, 5, wz fun zn => { zn with st := .mist, gateAt := some 5 }, by decide +kernel⟩,
    ⟨0, 5, wz fun zn => { zn with st := .hold, holdAt := some 5, commit := true }, by decide +kernel⟩,
    ⟨0, 0, true, w0, by decide +kernel⟩,
    ⟨0, 0, wz fun zn => { zn with lim := { zn.lim with capMask := 1 }, arrays := [{ gateReq := true }] }, by decide +kernel⟩,
    ⟨0, w0, by decide +kernel⟩,
    ⟨0, 7, wz fun zn => { zn with st := .hold, tblAddr := 0x100 }, by decide +kernel⟩,
    ⟨0, 7, wz fun zn => { zn with tblAddr := 0x100 }, by decide +kernel⟩,
    ⟨0, 7, w0, by decide +kernel⟩,
    ⟨0, 0, w0, by decide +kernel⟩,
    ⟨0, w0, by decide +kernel⟩,
    ⟨0, w0, by decide +kernel⟩⟩

theorem witness_strobe_sync_and_throttle_acknowledge :
    (∃ (z : Nat) (s : State), s.su.cond = .run ∧ z < s.zones.length ∧ s.su.grid = true ∧ (zoneD s z).st ≠ .safe ∧ (zoneD s z).halted = false) ∧
    (∃ (z : Nat) (s : State), z < s.zones.length ∧ (zoneD s z).safeDue = true) ∧
    (∃ (zn : Zone) (k : Nat) (r b : Bool), zn.st = .safe) ∧
    (∃ (z : Nat) (i : SyncIn) (s : State), z < s.zones.length ∧ (zoneD s z).syncLock = true ∧ (zoneD s z).syncLost = false ∧ ((4 * (zoneD s z).syncPer ≤ i.since ∨ 160 * i.period < (zoneD s z).cfg.mult * 1000000 ∨ (zoneD s z).cfg.mult * 1000000 < 60 * i.period))) ∧
    (∃ (z : Nat) (i : SyncIn) (s : State), z < s.zones.length ∧ i.since < 4 * i.period ∧ 60 * i.period ≤ (zoneD s z).cfg.mult * 1000000 ∧ (zoneD s z).cfg.mult * 1000000 ≤ 160 * i.period) ∧
    (∃ (s : State), (s.su.cond = .run ∨ s.su.cond = .safe)) :=
  ⟨⟨0, w0, by decide +kernel⟩,
    ⟨0, wz fun zn => { zn with safeDue := true }, by decide +kernel⟩,
    ⟨{ st := .safe }, 64, true, false, by decide +kernel⟩,
    ⟨0, { since := 5000 }, wz fun zn => { zn with syncLock := true, syncPer := 1000 }, by decide +kernel⟩,
    ⟨0, { since := 1, period := 1000000 }, wz fun zn => { zn with cfg := { zn.cfg with mult := 100 } }, by decide +kernel⟩,
    ⟨w0, by decide +kernel⟩⟩

theorem witness_tile_temperature_and_ageing :
    (∃ (z t : Nat) (raw : Int) (s : State), t < (zoneD s z).tiles.length ∧ (s.su.cond = .run ∨ s.su.cond = .safe) ∧ (tileD s z t).st ≠ .test ∧ s.su.grid = false ∧ (trimT (tileD s z t).fac (tileD s z t).usr raw < 8 * (s.fus.shadow.tshut : Int))) ∧
    (∃ (z t : Nat) (raw : Int) (s : State), z < s.zones.length ∧ t < (zoneD s z).tiles.length ∧ (s.su.cond = .run ∨ s.su.cond = .safe) ∧ (tileD s z t).st ≠ .test ∧ s.su.grid = false ∧ (8 * (s.fus.shadow.tshut : Int) ≤ trimT (tileD s z t).fac (tileD s z t).usr raw) ∧ (tileD s z t).hotBefore = true ∧ (0x44, z) ∉ s.snag.conds) ∧
    (∃ (z t : Nat) (raw : Int) (s : State), z < s.zones.length ∧ t < (zoneD s z).tiles.length ∧ (s.su.cond = .run ∨ s.su.cond = .safe) ∧ (tileD s z t).st ≠ .test ∧ s.su.grid = false ∧ (8 * (s.fus.shadow.tshut : Int) ≤ trimT (tileD s z t).fac (tileD s z t).usr raw) ∧ (tileD s z t).hotBefore = false) ∧
    (∃ (z t : Nat) (raw : Int) (s : State), s.zones = [] ∧ (s.su.cond = .run ∨ s.su.cond = .safe) ∧ s.su.fusesDone = true ∧ s.su.lockDone = true ∧ t < s.su.zoneTiles.getD z 0 ∧ (z, t) ∈ s.su.hotTiles ∧ 8 * (s.fus.shadow.tshut : Int) ≤ bareResult s z t raw ∧ (0x44, z) ∉ s.snag.conds) ∧
    (∃ (z t : Nat) (raw : Int) (s : State), s.zones = [] ∧ (s.su.cond = .run ∨ s.su.cond = .safe) ∧ s.su.fusesDone = true ∧ s.su.lockDone = true ∧ t < s.su.zoneTiles.getD z 0 ∧ (z, t) ∉ s.su.hotTiles ∧ 8 * (s.fus.shadow.tshut : Int) ≤ bareResult s z t raw) ∧
    (∃ (z t : Nat) (raw : Int) (s : State), t < (zoneD s z).tiles.length ∧ (s.su.cond = .run ∨ s.su.cond = .safe) ∧ (tileD s z t).st = .test) ∧
    (∃ (z t age : Nat) (s : State), t < (zoneD s z).tiles.length ∧ age < 65536) ∧
    (∃ (s : State), (s.su.cond = .run ∨ s.su.cond = .safe) ∧ s.cores.run1 = true) :=
  ⟨⟨0, 0, 100, { w0 with su := { w0.su with grid := false }, fus := { w0.fus with shadow := { tshut := 150 } } }, by decide +kernel⟩,
    ⟨0, 0, 2000, { wt (fun x => { x with hotBefore := true }) with su := { w0.su with grid := false }, fus := { w0.fus with shadow := { tshut := 150 } } }, by decide +kernel⟩,
    ⟨0, 0, 2000, { w0 with su := { w0.su with grid := false }, fus := { w0.fus with shadow := { tshut := 150 } } }, by decide +kernel⟩,
    ⟨0, 1, 6553600, { w0 with zones := [], su := { w0.su with fusesDone := true, lockDone := true, zoneTiles := [2], hotTiles := [(0, 1)] } }, by decide +kernel⟩,
    ⟨0, 1, 6553600, { w0 with zones := [], su := { w0.su with fusesDone := true, lockDone := true, zoneTiles := [2] } }, by decide +kernel⟩,
    ⟨0, 0, 2000, wt fun x => { x with st := .test }, by decide +kernel⟩,
    ⟨0, 1, 65535, w0, by decide +kernel⟩,
    ⟨w0, by decide +kernel⟩⟩

theorem witness_tile_tests_and_their_requests :
    (∃ (z t : Nat) (k : TileTest) (s : State), z < s.zones.length ∧ t < (zoneD s z).tiles.length ∧ (s.su.cond = .run ∨ s.su.cond = .safe) ∧ s.tb.count % 64 = 0 ∧ (tileD s z t).st = .test ∧ (tileD s z t).test = some k ∧ k.abandoned = false ∧ k.startup = false ∧ s.su.readyEver = true) ∧
    (∃ (z t f : Nat) (k : TileTest) (s : State), z < s.zones.length ∧ t < (zoneD s z).tiles.length ∧ (s.su.cond = .run ∨ s.su.cond = .safe) ∧ s.tb.count % 64 = 0 ∧ (tileD s z t).st = .test ∧ (tileD s z t).test = some k ∧ k.abandoned = false ∧ k.startup = false ∧ s.su.readyEver = true ∧ 0 < f) ∧
    (∃ (z t f : Nat) (k : TileTest) (s : State), z < s.zones.length ∧ t < (zoneD s z).tiles.length ∧ (s.su.cond = .run ∨ s.su.cond = .safe) ∧ s.tb.count % 64 = 0 ∧ (tileD s z t).st = .test ∧ (tileD s z t).test = some k ∧ k.abandoned = false ∧ k.startup = true ∧ 0 < f) ∧
    (∃ (z : Nat) (s : State), z < s.zones.length ∧ s.su.readyEver = true ∧ hasOverdue s z = true) ∧
    (∃ (c g : Nat) (s : State), (s.su.cond = .run ∨ s.su.cond = .safe) ∧ s.fus.loaded = true ∧ s.fus.lcRaw = 3) ∧
    (∃ (c g : Nat) (s : State), (s.su.cond = .run ∨ s.su.cond = .safe) ∧ life s ≠ some .deployed ∧ s.bist.req ≠ none) ∧
    (∃ (g z t : Nat) (s : State), (s.su.cond = .run ∨ s.su.cond = .safe) ∧ life s = some .provisioned ∧ s.bist.req = none ∧ s.pins.ready = true ∧ s.su.stepNo = 9 ∧ ofGTile s g = some (z, t)) ∧
    (∃ (m : Nat) (s : State), (s.su.cond = .run ∨ s.su.cond = .safe) ∧ life s = some .provisioned ∧ s.bist.req = none ∧ s.pins.ready = true ∧ s.su.stepNo = 9 ∧ m < 5) ∧
    (∃ (g a : Nat) (s : State), s.bist.req = some (5, g, a) ∧ s.bist.reqRun = false ∧ a + 1000000000 ≤ s.tb.count) :=
  ⟨⟨0, 1, { req := true }, wz fun zn => zn.modTile 1 fun x => { x with st := .test, test := some { req := true } }, by decide +kernel⟩,
    ⟨0, 1, 3, {}, wz fun zn => zn.modTile 1 fun x => { x with st := .test, test := some {} }, by decide +kernel⟩,
    ⟨0, 1, 3, { startup := true }, wz fun zn => zn.modTile 1 fun x => { x with st := .test, test := some { startup := true }, cmd := { run := false } }, by decide +kernel⟩,
    ⟨0, { w0 with snag := { runNs := 1000 * 3600000000000 } }, by decide +kernel⟩,
    ⟨5, 0, { w0 with fus := { w0.fus with lcRaw := 3 } }, by decide +kernel⟩,
    ⟨5, 0, { w0 with bist := { req := some (5, 0, 0) } }, by decide +kernel⟩,
    ⟨1, 0, 1, w0, by decide +kernel⟩,
    ⟨4, w0, by decide +kernel⟩,
    ⟨0, 5, { w0 with bist := { req := some (5, 0, 5) } }, by decide +kernel⟩⟩

theorem witness_memory_slice_tests :
    (∃ (s : State), s.su.cond = .run ∧ s.bist.sliceRun = false ∧ memReq s = none ∧ s.pins.ready = true ∧ s.bist.sliceAt + 1000000 * max 1 s.bist.cfg.mgap ≤ s.tb.count) ∧
    (∃ (m : Nat) (s : State), s.su.cond = .run ∧ s.bist.sliceRun = false ∧ memReq s = some m) ∧
    (∃ (s : State), s.bist.sliceRun = true ∧ memReq s = none ∧ s.su.readyEver = true) ∧
    (∃ (one two : Bool) (s : State), s.bist.sliceRun = true ∧ memReq s = none ∧ s.su.readyEver = true ∧ (one || two) = true) :=
  ⟨⟨w0, by decide +kernel⟩,
    ⟨0, { w0 with bist := { req := some (1, 0, 0), reqRun := true } }, by decide +kernel⟩,
    ⟨{ w0 with bist := { sliceRun := true } }, by decide +kernel⟩,
    ⟨true, false, { w0 with bist := { sliceRun := true } }, by decide +kernel⟩⟩

theorem witness_msf_set_point_sources :
    (∃ (i : SyncIn) (s : State), s.su.cond = .run ∧ s.msf.lock = true ∧ s.msf.syncLost = false ∧ (4 * s.msf.syncPer ≤ i.since ∨ 1000000000000 < 300000 * i.period ∨ 3000000 * i.period < 1000000000000)) ∧
    (∃ (i : SyncIn) (s : State), s.su.cond = .run ∧ 3 ≤ s.su.stepNo ∧ i.since < 4 * i.period ∧ 300000 * i.period ≤ 1000000000000 ∧ 1000000000000 ≤ 3000000 * i.period) ∧
    (∃ (mvs : List Nat) (ps : List (Nat × Nat)) (s : State), s.su.cond = .run ∧ s.msf.cfg.src = 1 ∧ mvs.length = 64 ∧ 6400 ≤ sumN mvs ∧ s.msf.vsetFallen = false ∧ s.msf.vsetLostAt = none) ∧
    (∃ (mvs : List Nat) (ps : List (Nat × Nat)) (v : Nat) (s : State), s.su.cond = .run ∧ s.msf.cfg.src = 2 ∧ (∀ p ∈ ps, dutyOk p = true) ∧ vsetPulse ps = some v ∧ s.msf.vsetFallen = false ∧ s.msf.vsetLostAt = none) ∧
    (∃ (p a b c d : Nat), 0 < p ∧ (∀ x ∈ [a, b, c, d], ∀ y ∈ [a, b, c, d], 625 * x ≤ 625 * y + 2 * p)) ∧
    (∃ (mvs : List Nat) (ps : List (Nat × Nat)) (s : State), s.su.cond = .run ∧ s.msf.cfg.src = 1 ∧ mvs.length = 64 ∧ sumN mvs < 6400) ∧
    (∃ (mvs : List Nat) (ps : List (Nat × Nat)) (p : Nat × Nat) (s : State), s.su.cond = .run ∧ s.msf.cfg.src = 2 ∧ p ∈ ps ∧ dutyOk p = false) ∧
    (∃ (s : State), s.su.cond = .run ∧ ((s.msf.cfg.src = 1 ∧ (∃ k, s.msf.vsetLowAt = some k ∧ k + 1000000 ≤ s.tb.count) ∨ s.msf.cfg.src = 2 ∧ (∃ k, s.msf.vsetBadAt = some k ∧ k ≤ s.tb.count) ∨ s.msf.cfg.src = 2 ∧ s.msf.vsetBadAt = none ∧ (∃ k, s.msf.vsetEdgeAt = some k ∧ k + 250000 ≤ s.tb.count))) ∧ s.msf.vsetLostAt = none) ∧
    (∃ (k : Nat) (s : State), s.msf.vsetLostAt = some k ∧ k + 1000000 ≤ s.tb.count ∧ s.msf.vsetFallen = false) ∧
    (∃ (k j : Nat) (s : State), s.msf.vsetLostAt = some k ∧ s.msf.vsetValidAt = some j ∧ j + 1000000 ≤ s.tb.count ∧ ((s.msf.cfg.src = 1 ∨ s.msf.cfg.src = 2 ∧ (∀ e ∈ s.msf.vsetEdgeAt, s.tb.count < e + 250000)))) ∧
    (∃ (w : W32) (s : State), (s.su.cond = .run ∨ s.su.cond = .safe) ∧ s.su.readyEver = true ∧ s.msf.st ≠ .hiccup ∧ s.msf.st ≠ .latched ∧ s.msf.cfg.vimMin ≤ w.toNat % 2 ^ 12 ∧ w.toNat % 2 ^ 12 ≤ s.msf.cfg.vimMax ∧ 5 ≤ w.toNat / 2 ^ 16 % 2 ^ 9 ∧ w.toNat / 2 ^ 16 % 2 ^ 9 ≤ 50) ∧
    (∃ (w : W32) (s : State), (s.su.cond = .run ∨ s.su.cond = .safe) ∧ s.su.readyEver = true ∧ (s.msf.st = .hiccup ∨ s.msf.st = .latched)) :=
  ⟨⟨{ since := 5, period := 300000 }, { w0 with msf := { lock := true } }, by decide +kernel⟩,
    ⟨{ since := 5, period := 1000000 }, w0, by decide +kernel⟩,
    ⟨List.replicate 64 100, [], wVset 1, by decide +kernel⟩,
    ⟨[], List.replicate 4 (100000, 50000), 1750, wVset 2, by decide +kernel⟩,
    ⟨100000, 50000, 50010, 50020, 50000, by decide +kernel⟩,
    ⟨List.replicate 64 99, [], wVset 1, by decide +kernel⟩,
    ⟨[], [(100000, 4999)], (100000, 4999), wVset 2, by decide +kernel⟩,
    ⟨{ wVset 2 with msf := { (wVset 2).msf with vsetBadAt := some 7 } }, by decide +kernel⟩,
    ⟨5, { w0 with msf := { cfg := { src := 1 }, vsetLostAt := some 5 } }, by decide +kernel⟩,
    ⟨5, 6, { w0 with msf := { cfg := { src := 1 }, vsetLostAt := some 5, vsetValidAt := some 6 } }, by decide +kernel⟩,
    ⟨0x000A0640, w0, by decide +kernel⟩,
    ⟨0x00FF0640, { w0 with msf := { st := .hiccup } }, by decide +kernel⟩⟩

theorem witness_msf_ladder_shorts_and_protection :
    (∃ (k : Nat) (s : State), s.msf.st = .run ∧ s.msf.dwellAt = some k ∧ s.msf.armed = none ∧ s.msf.level < s.msf.dn ∧ k + 1000 * s.msf.cfg.shedDwell ≤ s.tb.count ∧ s.msf.perAt = some s.tb.count) ∧
    (∃ (l p : Nat) (s : State), s.msf.st = .run ∧ s.msf.armed = some (l, p) ∧ p + 2 ≤ s.msf.per ∧ s.msf.perAt = some s.tb.count) ∧
    (∃ (s : State), s.msf.loop = true ∧ 64 ≤ s.msf.shortCnt ∧ s.msf.tries < 2 ∧ s.su.readyEver = false) ∧
    (∃ (s : State), s.msf.loop = true ∧ 64 ≤ s.msf.shortCnt ∧ s.su.readyEver = true) ∧
    (∃ (s : State), s.msf.loop = true ∧ 64 ≤ s.msf.shortCnt ∧ s.msf.tries = 2 ∧ (0x2C, 0) ∉ s.snag.conds) ∧
    (∃ (s : State), s.msf.st = .hiccup ∧ s.msf.shortAt + 50000000 ≤ s.tb.count) ∧
    (∃ (s : State), s.msf.st = .run ∧ max s.msf.stAt s.msf.shortAt + 1000000000 ≤ s.tb.count) ∧
    (∃ (s : State), s.su.cond = .run ∧ 2 ≤ s.msf.ovCnt ∧ (0x2D, 0) ∉ s.snag.conds) ∧
    (∃ (k : Nat) (s : State), s.su.cond = .run ∧ k < s.msf.cfg.nch ∧ k < s.msf.chans.length ∧ ((16 ≤ (s.msf.chans.getD k {}).bad ∨ 1024 ≤ (s.msf.chans.getD k {}).trips)) ∧ (s.msf.chans.getD k {}).excluded = false ∧ (0x2E, k) ∉ s.snag.conds) :=
  ⟨⟨5, { w0 with msf := { st := .run, dwellAt := some 5, dn := 1, perAt := some 1600000000 } }, by decide +kernel⟩,
    ⟨1, 3, { w0 with msf := { st := .run, armed := some (1, 3), per := 5, perAt := some 1600000000 } }, by decide +kernel⟩,
    ⟨{ w0 with su := { w0.su with readyEver := false }, msf := { st := .run, shortCnt := 64 } }, by decide +kernel⟩,
    ⟨{ w0 with msf := { st := .run, shortCnt := 64 } }, by decide +kernel⟩,
    ⟨{ w0 with msf := { st := .settle, shortCnt := 64, tries := 2 } }, by decide +kernel⟩,
    ⟨{ w0 with msf := { st := .hiccup } }, by decide +kernel⟩,
    ⟨{ w0 with msf := { st := .run, tries := 2 } }, by decide +kernel⟩,
    ⟨{ w0 with msf := { st := .run, ovCnt := 2 } }, by decide +kernel⟩,
    ⟨0, { w0 with msf := { st := .run, chans := [{ bad := 16 }] } }, by decide +kernel⟩⟩

theorem witness_msf_channel_cycle_and_power_good :
    (∃ (k : Nat) (c : ChanInput) (s : State), s.su.cond = .run ∧ s.su.msfGrid = true ∧ s.msf.loop = true ∧ s.msf.capture = false ∧ 0 < k ∧ 0 < s.msf.per ∧ s.msf.runsAt s.msf.level k = true) ∧
    (∃ (k : Nat) (c : ChanInput) (s : State), s.su.cond = .run ∧ s.su.msfGrid = true ∧ s.msf.loop = false) ∧
    (∃ (m : Msf) (k : Nat) (c : ChanInput), k < m.chans.length) ∧
    (∃ (c : ChanInput) (s : State), s.su.cond = .run ∧ s.su.msfGrid = true ∧ s.msf.loop = true ∧ s.msf.capture = false) ∧
    (∃ (m : Msf) (k : Nat) (c : ChanInput), k < m.chans.length ∧ imonAt c 0 * 100 < m.ilimcV) ∧
    (∃ (m : Msf) (k : Nat) (c : ChanInput), k < m.chans.length ∧ m.ilimcV ≤ imonAt c 0 * 100) ∧
    (∃ (k : Nat) (s : State), s.msf.outAt = some k ∧ s.pins.pgOut = true ∧ k + 10000 ≤ s.tb.count) ∧
    (∃ (k : Nat) (s : State), s.msf.inAt = some k ∧ s.msf.st = .run ∧ s.pins.pgOut = false ∧ k + 1000000 ≤ s.tb.count) :=
  ⟨⟨1, {}, { w0 with msf := { st := .run, cfg := { nch := 2 }, chans := [{}, {}], per := 1 } }, by decide +kernel⟩,
    ⟨1, {}, { w0 with msf := {} }, by decide +kernel⟩,
    ⟨{ chans := [{}] }, 0, {}, by decide +kernel⟩,
    ⟨{}, { w0 with msf := { st := .run, cfg := { nch := 2 }, chans := [{}, {}] } }, by decide +kernel⟩,
    ⟨{ chans := [{}], cfg := { ilimc := 100, imonGain := 10, imonOfs := 10 } }, 0, {}, by decide +kernel⟩,
    ⟨{ chans := [{}], cfg := { ilimc := 100, imonGain := 10, imonOfs := 10 } }, 0, { imon := [200] }, by decide +kernel⟩,
    ⟨5, { w0 with pins := { w0.pins with pgOut := true }, msf := { outAt := some 5 } }, by decide +kernel⟩,
    ⟨5, { w0 with msf := { st := .run, inAt := some 5 } }, by decide +kernel⟩⟩

theorem witness_forecast_port_naming_records :
    (∃ (b0 b1 : W64) (b2 : Option W64) (p q x g n : Nat) (s : State), bitsOf b0.toNat 4 4 = p ∧ bitsOf b0.toNat 8 8 = q ∧ bitsOf b0.toNat 16 12 = x ∧ bitsOf b0.toNat 32 16 = g ∧ bitsOf b0.toNat 48 16 = n ∧ s.pins.ready = true ∧ fcpQueued s < 64 ∧ p < s.tb.parts.length) ∧
    (∃ (b0 b1 : W64) (b2 : Option W64) (p q x g n : Nat) (s : State), bitsOf b0.toNat 4 4 = p ∧ bitsOf b0.toNat 8 8 = q ∧ bitsOf b0.toNat 16 12 = x ∧ bitsOf b0.toNat 32 16 = g ∧ bitsOf b0.toNat 48 16 = n ∧ s.pins.ready = true ∧ fcpQueued s < 64 ∧ p < s.tb.parts.length) ∧
    (∃ (b0 b1 : W64) (p q x g n : Nat) (s : State), bitsOf b0.toNat 4 4 = p ∧ bitsOf b0.toNat 8 8 = q ∧ bitsOf b0.toNat 16 12 = x ∧ bitsOf b0.toNat 32 16 = g ∧ bitsOf b0.toNat 48 16 = n ∧ s.pins.ready = true ∧ fcpQueued s < 64 ∧ p < s.tb.parts.length) ∧
    (∃ (b0 b1 : W64) (s : State), s.pins.ready = true ∧ bitsOf b0.toNat 4 4 < s.tb.parts.length ∧ 64 ≤ fcpQueued s ∧ b1.getLsbD 0 = false) ∧
    (∃ (b0 b1 : W64) (s : State), s.pins.ready = true ∧ bitsOf b0.toNat 4 4 < s.tb.parts.length ∧ 64 ≤ fcpQueued s ∧ b1.getLsbD 0 = false) ∧
    (∃ (b0 b1 : W64) (b2 : Option W64) (s : State), s.pins.ready = false) :=
  ⟨⟨0x4410000304B70C21, 0, none, 2, 12, 1207, 3, 17424, { w0 with tb := { w0.tb with parts := List.replicate 3 {} } }, by decide +kernel⟩,
    ⟨0x4410000304B70C21, 0, none, 2, 12, 1207, 3, 17424, { w0 with tb := { w0.tb with parts := List.replicate 3 {} } }, by decide +kernel⟩,
    ⟨0x4410000304B70C21, 0, 2, 12, 1207, 3, 17424, { w0 with tb := { w0.tb with parts := List.replicate 3 {} } }, by decide +kernel⟩,
    ⟨0x201, 0, { w0 with tb := { w0.tb with parts := [{ recs := List.replicate 64 {} }] } }, by decide +kernel⟩,
    ⟨0x201, 0, { w0 with tb := { w0.tb with parts := [{ recs := List.replicate 64 {} }] } }, by decide +kernel⟩,
    ⟨0x201, 0, none, State.reset, by decide +kernel⟩⟩

theorem witness_forecast_port_done_preempt_resume :
    (∃ (b0 : W64) (s : State), s.pins.ready = true ∧ fcpQueued s < 64) ∧
    (∃ (b0 : W64) (s : State), s.pins.ready = true ∧ fcpQueued s < 64) ∧
    (∃ (b0 : W64) (s : State), s.pins.ready = true ∧ fcpQueued s < 64 ∧ b0.toNat / 2 ^ 4 % 2 ^ 4 < s.tb.parts.length) ∧
    (∃ (b0 : W64) (s : State), s.pins.ready = true ∧ fcpQueued s < 64 ∧ (hasHint s (b0.toNat / 2 ^ 8 % 2 ^ 8) || hasSuspended s (b0.toNat / 2 ^ 8 % 2 ^ 8)) = true) ∧
    (∃ (b0 : W64) (s : State), s.pins.ready = true ∧ fcpQueued s < 64 ∧ (hasHint s (b0.toNat / 2 ^ 8 % 2 ^ 8) || hasSuspended s (b0.toNat / 2 ^ 8 % 2 ^ 8)) = false) ∧
    (∃ (p : Nat) (s : State), p < s.tb.parts.length) ∧
    (∃ (bs : List W64) (s : State), s.pins.ready = true ∧ beatsOk ((bs.headD 0).toNat % 16) bs.length = false) :=
  ⟨⟨0x0005000000000004, { w0 with pcx := { claims := [{ queue := 0, sid := 5, pcx := 1, gen := 1, expiry := none }] } }, by decide +kernel⟩,
    ⟨0x0005000000000005, { w0 with tb := { w0.tb with parts := [{ hints := [(0, 9), (1, 9)] }] } }, by decide +kernel⟩,
    ⟨0x0000000000000706, { w0 with pcx := { leases := [{ queue := 7, sid := 5, start := 0, stop := 1700000000, left := 9 }] } }, by decide +kernel⟩,
    ⟨0x0000000000000707, { w0 with pcx := { leases := [{ queue := 7, sid := 5, start := 0, stop := 1700000000, left := 9, susp := some (1, 50) }] } }, by decide +kernel⟩,
    ⟨0x0000000000000707, w0, by decide +kernel⟩,
    ⟨0, w0, by decide +kernel⟩,
    ⟨[8], w0, by decide +kernel⟩⟩

theorem witness_context_fetch_steps_and_expiries :
    (∃ (p : Nat) (r : NamingRec) (s : State), p < s.tb.parts.length ∧ ((partD s p).recs.reverse.find? fun x => x.fetchedAt.isNone) = some r) ∧
    (∃ (p : Nat) (r : NamingRec) (s : State), p < s.tb.parts.length ∧ ((partD s p).recs.reverse.find? fun x => x.fetchedAt.isNone) = some r) ∧
    (∃ (p : Nat) (r : NamingRec) (s : State), p < s.tb.parts.length ∧ ((partD s p).recs.reverse.find? fun x => x.fetchedAt.isNone) = some r ∧ (0x0D, 0) ∉ s.snag.conds) ∧
    (∃ (p : Nat) (m : Mark) (ms : List Mark) (s : State), p < s.tb.parts.length ∧ (partD s p).marks = m :: ms ∧ m.at_ ≤ s.tb.count) ∧
    (∃ (p : Part) (t l : Nat) (r : NamingRec), p.lastStart = some l ∧ (¬(p.cadence = true ∧ l + 4 * p.period ≤ t))) ∧
    (∃ (p l : Nat) (s : State), p < s.tb.parts.length ∧ (partD s p).lastStart = some l ∧ (partD s p).cadence = true ∧ l + 4 * (partD s p).period ≤ s.tb.count) :=
  ⟨⟨0, { at_ := 7 }, { w0 with tb := { w0.tb with parts := [{ recs := [{ at_ := 7 }] }] } }, by decide +kernel⟩,
    ⟨0, { at_ := 7 }, { w0 with tb := { w0.tb with parts := [{ recs := [{ at_ := 7 }] }] } }, by decide +kernel⟩,
    ⟨0, { at_ := 7 }, { w0 with tb := { w0.tb with parts := [{ recs := [{ at_ := 7 }] }] } }, by decide +kernel⟩,
    ⟨0, { at_ := 7 }, [], { w0 with tb := { w0.tb with parts := [{ marks := [{ at_ := 7 }] }] } }, by decide +kernel⟩,
    ⟨{ lastStart := some 5, intervals := [100] }, 205, 5, {}, by decide +kernel⟩,
    ⟨0, 5, { w0 with tb := { w0.tb with parts := [{ lastStart := some 5, cadence := true, period := 9 }] } }, by decide +kernel⟩⟩

theorem witness_context_store_commands :
    (∃ (s : State), (s.su.cond = .run ∨ s.su.cond = .safe) ∧ s.su.readyEver = true ∧ s.pcx.copy = none) ∧
    (∃ (w : W32) (s : State), (s.su.cond = .run ∨ s.su.cond = .safe) ∧ s.su.readyEver = true ∧ s.pcx.staged.length < 144) ∧
    (∃ (w : W32) (s : State), 144 ≤ s.pcx.staged.length) ∧
    (∃ (p : Nat) (s : State), (s.su.cond = .run ∨ s.su.cond = .safe) ∧ s.su.readyEver = true ∧ s.pcx.copy = none ∧ p < 4096 ∧ ctxCheck s s.pcx.staged.reverse p ≠ 0) ∧
    (∃ (p : Nat) (s : State), (s.su.cond = .run ∨ s.su.cond = .safe) ∧ s.su.readyEver = true ∧ s.pcx.copy = none ∧ p < 4096 ∧ ctxCheck s s.pcx.staged.reverse p = 0) ∧
    (∃ (s : State) (c : List W32) (p : Nat), c.length ≠ 144) ∧
    (∃ (n k : Nat) (c : List W32) (pl : Option Nat) (s : State), s.pcx.copy = some (n, c, pl, k) ∧ s.tb.count % 256 = 0 ∧ s.pcx.dead = false ∧ (s.pcx.entry n).gens = []) ∧
    (∃ (n k : Nat) (a : Gen) (c : List W32) (pl : Option Nat) (s : State), s.pcx.copy = some (n, c, pl, k) ∧ s.tb.count % 256 = 0 ∧ s.pcx.dead = false ∧ (s.pcx.entry n).gens = [a] ∧ s.pcx.inFlight n a s.tb.count = true) ∧
    (∃ (n : Nat) (g : Gen) (h : Nat) (s : State), s.pcx.dead = false ∧ (s.pcx.entry n).homing = some h ∧ (s.pcx.entry n).gens = [g] ∧ (s.pcx.entry n).no = n ∧ s.tb.count % 256 = 0) ∧
    (∃ (n : Nat) (a b : Gen) (s : State), s.pcx.dead = false ∧ (s.pcx.entry n).gens = [a, b] ∧ (s.pcx.entry n).no = n ∧ s.pcx.inFlight n a s.tb.count = false) ∧
    (∃ (p : Nat) (s : State), (s.su.cond = .run ∨ s.su.cond = .safe) ∧ s.su.readyEver = true ∧ s.pcx.copy = none ∧ p < 4096 ∧ ((s.pcx.entry p).gens.any fun g => s.pcx.inFlight p g s.tb.count) = true) ∧
    (∃ (p : Nat) (s : State), (s.su.cond = .run ∨ s.su.cond = .safe) ∧ s.su.readyEver = true ∧ s.pcx.copy = none ∧ p < 4096 ∧ ((s.pcx.entry p).gens.any fun g => s.pcx.inFlight p g s.tb.count) = false) :=
  ⟨⟨w0, by decide +kernel⟩,
    ⟨5, w0, by decide +kernel⟩,
    ⟨5, { w0 with pcx := { staged := List.replicate 144 0 } }, by decide +kernel⟩,
    ⟨5, w0, by decide +kernel⟩,
    ⟨5, { w0 with pcx := { staged := wCtx.reverse } }, by decide +kernel⟩,
    ⟨w0, [], 5, by decide +kernel⟩,
    ⟨5, 7, wCtx, none, { w0 with pcx := { copy := some (5, wCtx, none, 7) } }, by decide +kernel⟩,
    ⟨5, 7, { holdUntil := 1700000000 }, wCtx, none, { w0 with pcx := { copy := some (5, wCtx, none, 7), dir := [{ no := 5, gens := [{ holdUntil := 1700000000 }] }] } }, by decide +kernel⟩,
    ⟨5, { pool := some 3 }, 7, { w0 with pcx := { dir := [{ no := 5, gens := [{ pool := some 3 }], homing := some 7 }], pool := [3] } }, by decide +kernel⟩,
    ⟨5, {}, { pool := some 3 }, { w0 with pcx := { dir := [{ no := 5, gens := [{}, { pool := some 3 }] }], pool := [3] } }, by decide +kernel⟩,
    ⟨5, { w0 with pcx := { dir := [{ no := 5, gens := [{ holdUntil := 1700000000 }] }] } }, by decide +kernel⟩,
    ⟨5, { w0 with pcx := { dir := [{ no := 5, gens := [{ pool := some 3 }] }], pool := [3] } }, by decide +kernel⟩⟩

theorem witness_model_set_slots_and_adaptation :
    (∃ (n : Nat) (s : State), (s.su.cond = .run ∨ s.su.cond = .safe) ∧ s.su.readyEver = true ∧ s.fce.copy = none ∧ n < 64) ∧
    (∃ (w : W32) (s : State), (s.su.cond = .run ∨ s.su.cond = .safe) ∧ s.su.readyEver = true ∧ s.fce.staged.length < 1024) ∧
    (∃ (n : Nat) (s : State), (s.su.cond = .run ∨ s.su.cond = .safe) ∧ s.su.readyEver = true ∧ s.fce.copy = none ∧ n < 64 ∧ setCheck s.fce.staged.reverse = 0) ∧
    (∃ (n : Nat) (s : State), (s.su.cond = .run ∨ s.su.cond = .safe) ∧ s.su.readyEver = true ∧ s.fce.copy = none ∧ n < 64 ∧ setCheck s.fce.staged.reverse ≠ 0) ∧
    (∃ (m : List W32), m.length ≠ 1024) ∧
    (∃ (n : Nat) (s : State), (s.su.cond = .run ∨ s.su.cond = .safe) ∧ s.su.readyEver = true ∧ s.fce.copy = none ∧ n < 64 ∧ (s.zones.any fun zn => zn.cfg.defset = n) = true) ∧
    (∃ (n : Nat) (s : State), (s.su.cond = .run ∨ s.su.cond = .safe) ∧ s.su.readyEver = true ∧ s.fce.copy = none ∧ n < 64 ∧ (s.zones.any fun zn => zn.cfg.defset = n) = false) ∧
    (∃ (n : Nat) (m : List W32) (s : State), s.fce.copy = some (n, m) ∧ n < s.fce.slots.length) ∧
    (∃ (n : Nat) (s : State), n < s.fce.slots.length ∧ s.fce.slot n ≠ []) ∧
    (∃ (s : State), nextAdapt s = none) ∧
    (∃ (z : Nat) (s : State), s.fce.running = true ∧ s.tb.count % 20000 = 0 ∧ 20736 ≤ s.tb.count ∧ s.fce.freeze = false ∧ s.cores.run1 = true ∧ nextAdapt s = some z ∧ ((s.fce.zones.getD z {}).kept.find? fun k => k.1 = (s.tb.count - 20736) / 256 * 256) = none) ∧
    (∃ (z : Nat) (k : Nat × Nat × List Int) (s : State), s.fce.running = true ∧ s.tb.count % 20000 = 0 ∧ 20736 ≤ s.tb.count ∧ s.fce.freeze = false ∧ s.cores.run1 = true ∧ nextAdapt s = some z ∧ ((s.fce.zones.getD z {}).kept.find? fun x => x.1 = (s.tb.count - 20736) / 256 * 256) = some k ∧ k.2.1 = (s.fce.zones.getD z {}).set ∧ runThrough (zoneD s z) ((s.tb.count - 20736) / 256 * 256) = true ∧ s.fce.slotAt.getD k.2.1 0 < (s.tb.count - 20736) / 256 * 256) :=
  ⟨⟨63, w0, by decide +kernel⟩,
    ⟨5, w0, by decide +kernel⟩,
    ⟨3, { w0 with fce := { staged := wSet.reverse } }, by decide +kernel⟩,
    ⟨3, w0, by decide +kernel⟩,
    ⟨[], by decide +kernel⟩,
    ⟨0, w0, by decide +kernel⟩,
    ⟨5, w0, by decide +kernel⟩,
    ⟨3, [1], { w0 with fce := { w0.fce with copy := some (3, [1]) } }, by decide +kernel⟩,
    ⟨3, { w0 with fce := { w0.fce with slots := w0.fce.slots.set 3 [1] } }, by decide +kernel⟩,
    ⟨w0, by decide +kernel⟩,
    ⟨0, { w0 with fce := { w0.fce with running := true, zones := [{ set := 3 }], slots := w0.fce.slots.set 3 [0x01000000] } }, by decide +kernel⟩,
    ⟨0, wAdapt.2, wAdapt.1, by decide +kernel⟩⟩

theorem witness_boundaries_of_the_control_cores :
    (∃ (s : State), s.su.cond = .run ∧ s.su.grid = true ∧ s.tb.count % 10000 = 0 ∧ s.cores.run0 = true ∧ s.su.readyEver = true) ∧
    (∃ (s : State), s.su.cond = .run ∧ s.su.grid = true ∧ s.tb.count % 10000 = 0 ∧ s.cores.run0 = false) ∧
    (∃ (z : Nat) (s : State), s.su.readyEver = true ∧ s.tb.count % 10000 = 0 ∧ s.cores.run0 = true ∧ (zoneD s z).segs ≠ []) ∧
    (∃ (z : Nat) (s : State), s.su.readyEver = true ∧ s.tb.count % 10000 = 0) ∧
    (∃ (s : State), s.su.cond = .run ∧ s.su.grid = true ∧ s.tb.count % 1000000 = 0 ∧ s.cores.run0 = true ∧ s.cores.run1 = true ∧ s.su.readyEver = true) ∧
    (∃ (s : State), s.su.cond = .run ∧ s.su.grid = true ∧ s.tb.count % 10000 = 0 ∧ s.cores.run0 = true ∧ graceDue s ≠ []) ∧
    (∃ (s : State), s.su.cond = .run ∧ s.su.readyEver = true ∧ s.cores.run1 = true ∧ s.tb.count % 100000000 = 0 ∧ (winOutcome s).1 = 0) ∧
    (∃ (s : State), s.su.cond = .run ∧ s.su.readyEver = true ∧ s.cores.run1 = false ∧ s.tb.count % 100000000 = 0) ∧
    (∃ (s : State) (k : Int), s.su.cond = .run ∧ s.su.readyEver = true ∧ s.cores.run1 = true ∧ s.tb.count % 100000000 = 0 ∧ kOf s (winOutcome s).1 = some k ∧ 0x3800 ≤ k ∧ k ≤ 0x4800) ∧
    (∃ (s : State) (k : Int), s.su.cond = .run ∧ s.su.readyEver = true ∧ s.cores.run1 = true ∧ s.tb.count % 100000000 = 0 ∧ kOf s (winOutcome s).1 = some k ∧ (k < 0x3800 ∨ 0x4800 < k)) :=
  ⟨⟨w0, by decide +kernel⟩,
    ⟨{ w0 with cores := { run0 := false } }, by decide +kernel⟩,
    ⟨0, wz fun zn => { zn with segs := [{ sum := 5 }] }, by decide +kernel⟩,
    ⟨0, w0, by decide +kernel⟩,
    ⟨w0, by decide +kernel⟩,
    ⟨{ w0 with thm := { zones := [{ band := 3, watch := some 5 }], cfg := { tstep := 1, tlmin := 2 } } }, by decide +kernel⟩,
    ⟨w0, by decide +kernel⟩,
    ⟨{ w0 with cores := { run1 := false } }, by decide +kernel⟩,
    ⟨wCal, 0x4000, by decide +kernel⟩,
    ⟨{ wCal with caps := { wCal.caps with kcal := 0x5000 } }, 0x5000, by decide +kernel⟩⟩

theorem witness_cap_writes_groups_and_energy_reads :
    (∃ (w : W32) (s : State), (s.su.cond = .run ∨ s.su.cond = .safe) ∧ s.su.readyEver = true) ∧
    (∃ (c : CapCfg) (x : Nat), c.floor ≤ c.ceil) ∧
    (∃ (g : Nat) (w : W32) (s : State), (s.su.cond = .run ∨ s.su.cond = .safe) ∧ s.su.readyEver = true ∧ g < 16 ∧ g < s.caps.groups.length ∧ ((w.getLsbD 31 = false ∨ ∀ h < 16, h ≠ g → (s.caps.groups.getD h {}).claims (w.setWidth 16) = false))) ∧
    (∃ (g h : Nat) (w : W32) (s : State), (s.su.cond = .run ∨ s.su.cond = .safe) ∧ s.su.readyEver = true ∧ g < 16 ∧ h < 16 ∧ h ≠ g ∧ w.getLsbD 31 = true ∧ (s.caps.groups.getD h {}).claims (w.setWidth 16) = true) ∧
    (∃ (i g c gb d : Nat) (e : Bool) (s : State), s.su.cond = .run ∧ g < 16 ∧ g < s.caps.groups.length ∧ (s.caps.groups.getD g {}).en = true ∧ gbLen gb = gbLen (s.caps.groups.getD g {}).gbLen ∧ c < 16) ∧
    (∃ (i g c gb d : Nat) (e : Bool) (s : State), s.su.cond = .run ∧ g < 16 ∧ g < s.caps.groups.length ∧ (s.caps.groups.getD g {}).en = true ∧ gbLen gb ≠ gbLen (s.caps.groups.getD g {}).gbLen) ∧
    (∃ (g : Nat) (s : State), s.su.cond = .run ∧ g < 16 ∧ g < s.caps.groups.length ∧ s.cores.run0 = true ∧ s.tb.count % (10000 * gbLen (s.caps.groups.getD g {}).gbLen) = 0 ∧ (s.caps.groups.getD g {}).disable = false ∧ (s.caps.groups.getD g {}).newAt < s.tb.count) ∧
    (∃ (g : Nat) (s : State), s.su.cond = .run ∧ g < 16 ∧ g < s.caps.groups.length ∧ s.cores.run0 = true ∧ s.tb.count % (10000 * gbLen (s.caps.groups.getD g {}).gbLen) = 0 ∧ (s.caps.groups.getD g {}).disable = true) ∧
    (∃ (s : State), (s.su.cond = .run ∨ s.su.cond = .safe) ∧ s.su.readyEver = true) ∧
    (∃ (p : Nat) (s : State), (s.su.cond = .run ∨ s.su.cond = .safe) ∧ s.su.readyEver = true ∧ p < 16) ∧
    (∃ (q : Nat) (s : State), (s.su.cond = .run ∨ s.su.cond = .safe) ∧ s.su.readyEver = true ∧ q < 256) ∧
    (∃ (q o : Nat) (s : State), (s.su.cond = .run ∨ s.su.cond = .safe) ∧ s.su.readyEver = true) ∧
    (∃ (q o : Nat) (s : State), s.su.readyEver = false) :=
  ⟨⟨0x00640064, w0, by decide +kernel⟩,
    ⟨{ floor := 5, ceil := 9 }, 3, by decide +kernel⟩,
    ⟨3, 0x00020001, { w0 with caps := { groups := List.replicate 16 {} } }, by decide +kernel⟩,
    ⟨3, 1, 0x80020001, { w0 with caps := { groups := (List.replicate 16 {}).set 1 { newEn := true, newMembers := 3 } } }, by decide +kernel⟩,
    ⟨2, 0, 3, 1, 5, false, { w0 with caps := { groups := [{ en := true, gbLen := 1 }] } }, by decide +kernel⟩,
    ⟨2, 0, 3, 2, 5, false, { w0 with caps := { groups := [{ en := true, gbLen := 1 }] } }, by decide +kernel⟩,
    ⟨0, { w0 with caps := { groups := [{ newEn := true, newLen := 1, newMembers := 3 }] } }, by decide +kernel⟩,
    ⟨0, { w0 with caps := { groups := [{ en := true, gbLen := 1, disable := true }] } }, by decide +kernel⟩,
    ⟨w0, by decide +kernel⟩,
    ⟨15, w0, by decide +kernel⟩,
    ⟨255, w0, by decide +kernel⟩,
    ⟨0, 0, w0, by decide +kernel⟩,
    ⟨0, 0, State.reset, by decide +kernel⟩⟩

theorem witness_time_base_read_takes_one_consistent_copy :
    (∃ (s : State), s.su.cond = .run) ∧
    (∃ (s : State), s.su.cond = .run) ∧
    (∃ (s : State), s.su.cond = .run) ∧
    (∃ (s : State), s.su.cond = .run) ∧
    (∃ (w : W32) (s : State), s.su.cond = .run) ∧
    (∃ (p : Nat) (s : State), s.su.cond = .run ∧ p < 16) ∧
    (∃ (p l : Nat) (s : State), s.su.cond = .run ∧ p < 16 ∧ (partD s p).lastStart = some l ∧ (partD s p).cadence = true ∧ l + 4 * (partD s p).period ≤ s.tb.count) ∧
    (∃ (p : Nat), p < 16) :=
  ⟨⟨w0, by decide +kernel⟩,
    ⟨w0, by decide +kernel⟩,
    ⟨w0, by decide +kernel⟩,
    ⟨w0, by decide +kernel⟩,
    ⟨4, w0, by decide +kernel⟩,
    ⟨15, w0, by decide +kernel⟩,
    ⟨0, 5, { w0 with tb := { w0.tb with parts := [{ lastStart := some 5, cadence := true, period := 9 }] } }, by decide +kernel⟩,
    ⟨3, by decide +kernel⟩⟩

theorem witness_holdover_and_the_core_pairs :
    (∃ (s : State), s.su.cond = .run ∧ s.tb.running = true ∧ s.tb.holdover = false ∧ s.snag.conds.contains (0x08, 0) = false) ∧
    (∃ (s : State), s.su.cond = .run ∧ s.tb.holdover = true ∧ s.tb.holdoverAt + 10000000 ≤ s.tb.count) ∧
    (∃ (s : State), s.su.cond = .run ∧ s.tb.holdover = true ∧ s.tb.count < s.tb.holdoverAt + 10000000) ∧
    (∃ (s : State), s.su.cond = .run ∧ s.tb.holdover = true) ∧
    (∃ (task : Task) (s : State), s.su.cond = .run) ∧
    (∃ (pair : Nat) (task : Task) (s : State), pair ≠ Task.pair task) ∧
    (∃ (c : Ckpt) (s : State), s.su.cond = .run ∧ s.cores.undo.cap = some c) ∧
    (∃ (c : Ckpt) (s : State), s.su.cond = .run ∧ s.cores.undo.ms = some c) ∧
    (∃ (k r : Nat) (u : Bool) (a b : Option Nat) (s : State), s.su.cond = .run ∧ s.cores.undo.cal = some (k, u, r, a, b)) ∧
    (∃ (s : State), s.su.cond = .run) ∧
    (∃ (s : State), s.su.cond = .run) ∧
    (∃ (s : State), s.su.cond = .run) ∧
    (∃ (c : Ckpt) (s : State), s.cores.run0 = false ∧ s.cores.ck0 = some c) ∧
    (∃ (k : Nat) (ad : List Adapt) (s : State), s.cores.run1 = false ∧ s.cores.ck1 = some (k, ad)) :=
  ⟨⟨w0, by decide +kernel⟩,
    ⟨{ w0 with tb := { w0.tb with holdover := true } }, by decide +kernel⟩,
    ⟨{ w0 with tb := { w0.tb with holdover := true, holdoverAt := 1599999999 } }, by decide +kernel⟩,
    ⟨{ w0 with tb := { w0.tb with holdover := true } }, by decide +kernel⟩,
    ⟨.currentCap, w0, by decide +kernel⟩,
    ⟨1, .currentCap, w0, by decide +kernel⟩,
    ⟨wCkpt, { w0 with cores := { undo := { cap := some wCkpt } } }, by decide +kernel⟩,
    ⟨wCkpt, { w0 with cores := { undo := { ms := some wCkpt } } }, by decide +kernel⟩,
    ⟨0x4000, 2, false, none, some 5, { w0 with cores := { undo := { cal := some (0x4000, false, 2, none, some 5) } } }, by decide +kernel⟩,
    ⟨{ w0 with cores := { dis0 := some 1000000000 } }, by decide +kernel⟩,
    ⟨w0, by decide +kernel⟩,
    ⟨w0, by decide +kernel⟩,
    ⟨wCkpt, { w0 with cores := { run0 := false, ck0 := some wCkpt } }, by decide +kernel⟩,
    ⟨0x4000, [], { w0 with cores := { run1 := false, ck1 := some (0x4000, []) } }, by decide +kernel⟩⟩

theorem witness_converter_results_are_corrected_and_delivered :
    (∃ (bits : BitVec 10240) (s : State), s.su.cond = .run ∧ s.tcv.run = true ∧ calRuns s = false ∧ s.tcv.a.due ≤ s.tb.count ∧ s.tb.count % 400000 = 0 ∧ 1 < s.tcv.res.length) ∧
    (∃ (bits : BitVec 10240) (s : State), s.tb.count % 400000 ≠ 0) ∧
    (∃ (bits : BitVec 10240) (r : Int) (s : State), s.su.cond = .run ∧ s.tcv.run = true ∧ calRuns s = false ∧ s.tcv.b.due ≤ s.tb.count ∧ s.tb.count % 400000 = 0 ∧ s.tcv.b.kind = 0 ∧ s.tcv.b.method = 0 ∧ s.tcv.b.ch < s.tcv.res.length ∧ r = correct s.tcv.ofsB s.tcv.gainB (rawOf 0 s.tcv.b.chop bits)) ∧
    (∃ (bits : BitVec 10240) (r : Int) (s : State), s.su.cond = .run ∧ s.tcv.run = true ∧ calRuns s = false ∧ s.tcv.b.due ≤ s.tb.count ∧ s.tb.count % 400000 = 0 ∧ s.tcv.b.kind = 0 ∧ s.tcv.b.method = 1 ∧ 8 ≤ s.tcv.b.ch ∧ s.tcv.b.ch < 16 ∧ s.tcv.b.ch - 8 < s.thm.diodes.length ∧ r = blanked (correct 0 s.tcv.gainB (rawOf 1 s.tcv.b.chop bits))) ∧
    (∃ (bits : BitVec 10240) (r : Int) (s : State), s.su.cond = .run ∧ s.tcv.run = true ∧ calRuns s = false ∧ s.tcv.b.due ≤ s.tb.count ∧ s.tb.count % 400000 = 0 ∧ s.tcv.b.kind = 0 ∧ s.tcv.b.method = 2 ∧ s.tcv.b.ch < 16 ∧ r = blanked (correct 0 s.tcv.gainB (rawOf 2 s.tcv.b.chop bits))) ∧
    (∃ (bits : BitVec 10240) (r : Int) (s : State), s.su.readyEver = true ∧ s.su.cond = .run ∧ s.tcv.run = true ∧ calRuns s = false ∧ s.tcv.b.due ≤ s.tb.count ∧ s.tb.count % 400000 = 0 ∧ s.tcv.b.kind = 1 ∧ s.tcv.b.method = 0 ∧ r = correct s.tcv.ofsB s.tcv.gainB (rawOf 0 s.tcv.b.chop bits)) ∧
    (∃ (e : TcvQ) (rest : List TcvQ) (s : State), (s.su.cond = .run ∨ s.su.cond = .safe) ∧ s.su.readyEver = true ∧ s.tcv.queue = e :: rest) ∧
    (∃ (s : State), (s.su.cond = .run ∨ s.su.cond = .safe) ∧ s.su.readyEver = true ∧ s.tcv.queue = []) ∧
    (∃ (ch : Nat) (r : Int) (s : State), s.su.readyEver = true ∧ (s.tcv.winLo.getD ch 0).toInt ≤ (s.tcv.winHi.getD ch 0).toInt ∧ ch < s.tcv.res.length ∧ ch < 32 ∧ ((r / 256 < (s.tcv.winLo.getD ch 0).toInt ∨ (s.tcv.winHi.getD ch 0).toInt < r / 256))) :=
  ⟨⟨0, wTcv {}, by decide +kernel⟩,
    ⟨0, { w0 with tb := { w0.tb with count := 1 } }, by decide +kernel⟩,
    ⟨0, correct (wTcv {}).tcv.ofsB (wTcv {}).tcv.gainB (rawOf 0 0 0), wTcv { ch := 19, due := 1600000000 }, by decide +kernel, by decide +kernel, by decide +kernel, by decide +kernel, by decide +kernel, by decide +kernel, by decide +kernel, by decide +kernel, rfl⟩,
    ⟨0, blanked (correct 0 (wTcv {}).tcv.gainB (rawOf 1 0 0)), wTcv { ch := 9, method := 1, due := 1600000000 }, by decide +kernel, by decide +kernel, by decide +kernel, by decide +kernel, by decide +kernel, by decide +kernel, by decide +kernel, by decide +kernel, by decide +kernel, by decide +kernel, rfl⟩,
    ⟨0, blanked (correct 0 (wTcv {}).tcv.gainB (rawOf 2 0 0)), wTcv { ch := 9, method := 2, due := 1600000000 }, by decide +kernel, by decide +kernel, by decide +kernel, by decide +kernel, by decide +kernel, by decide +kernel, by decide +kernel, by decide +kernel, rfl⟩,
    ⟨0, correct (wTcv {}).tcv.ofsB (wTcv {}).tcv.gainB (rawOf 0 0 0), wTcv { ch := 9, kind := 1, due := 1600000000 }, by decide +kernel, by decide +kernel, by decide +kernel, by decide +kernel, by decide +kernel, by decide +kernel, by decide +kernel, by decide +kernel, rfl⟩,
    ⟨{ spec := false, modB := true, ch := 3, r := -5, xchk := false, stamp := 2048 }, [], { w0 with tcv := { queue := [{ spec := false, modB := true, ch := 3, r := -5, xchk := false, stamp := 2048 }] } }, by decide +kernel⟩,
    ⟨w0, by decide +kernel⟩,
    ⟨3, 256, { w0 with tcv := { res := List.replicate 23 {}, winLo := List.replicate 23 0, winHi := List.replicate 23 0 } }, by decide +kernel⟩⟩

theorem witness_converter_requests_and_its_loss :
    (∃ (s : State), (s.su.cond = .run ∨ s.su.cond = .safe) ∧ s.su.readyEver = true ∧ s.tcv.calAt = none ∧ tcvBusy s = false ∧ (s.zones.all fun zn => !zCounts zn.st)) ∧
    (∃ (s : State), (s.su.cond = .run ∨ s.su.cond = .safe) ∧ s.su.readyEver = true ∧ ((s.tcv.calAt ≠ none ∨ tcvBusy s = true ∨ ¬ (s.zones.all fun zn => !zCounts zn.st)))) ∧
    (∃ (s : State), (s.su.cond = .run ∨ s.su.cond = .safe) ∧ s.su.readyEver = true ∧ tcvBusy s = false) ∧
    (∃ (c : Nat) (s : State), (s.su.cond = .run ∨ s.su.cond = .safe) ∧ s.su.readyEver = true ∧ tcvBusy s = false ∧ c < 23 ∧ c ≠ 1 ∧ s.tcv.calAt = none ∧ s.tcv.b.ch = c ∧ s.tcv.b.method = methodOf s c) ∧
    (∃ (c : Nat) (s : State), (s.su.cond = .run ∨ s.su.cond = .safe) ∧ s.su.readyEver = true ∧ tcvBusy s = false ∧ c < 23 ∧ c ≠ 1 ∧ s.tcv.b.ch ≠ c) ∧
    (∃ (c : Nat) (s : State), (s.su.cond = .run ∨ s.su.cond = .safe) ∧ s.su.readyEver = true ∧ c < 32 ∧ (tcvBusy s = true ∨ 23 ≤ c)) ∧
    (∃ (s : State), (s.su.cond = .run ∨ s.su.cond = .safe) ∧ s.su.readyEver = true ∧ tcvBusy s = true) ∧
    (∃ (s : State), (s.su.cond = .run ∨ s.su.cond = .safe) ∧ s.su.readyEver = true ∧ tcvBusy s = false) ∧
    (∃ (c : Nat) (s : State), s.tcv.run = true ∧ s.tcv.running = false ∧ s.tcv.calAt = none ∧ (∀ a ∈ s.tcv.admitAt, a + 20000000 ≤ s.tb.count) ∧ s.tcv.waiting = some (some c) ∧ s.tcv.b.due ≠ ceilTo 400000 s.tb.count) ∧
    (∃ (s : State), s.tcv.run = true ∧ s.tcv.running = false ∧ s.tcv.calAt = none ∧ (∀ a ∈ s.tcv.admitAt, a + 20000000 ≤ s.tb.count) ∧ s.tcv.waiting = some none ∧ s.tcv.bAt = some s.tb.count ∧ s.tcv.b.due ≠ s.tb.count) ∧
    (∃ (a : Nat) (s : State), s.tcv.admitAt = some a ∧ s.tb.count < a + 20000000) ∧
    (∃ (s : State), s.su.cond = .run ∧ s.tcv.run = true ∧ calRuns s = false ∧ (((∃ a ∈ s.tcv.aAt, a + 2000000 ≤ s.tb.count) ∨ (∃ b ∈ s.tcv.bAt, b + 6000000 ≤ s.tb.count)))) :=
  ⟨⟨{ w0 with zones := [] }, by decide +kernel⟩,
    ⟨w0, by decide +kernel⟩,
    ⟨w0, by decide +kernel⟩,
    ⟨0, { w0 with tcv := { w0.tcv with run := true, res := List.replicate 23 {}, a := { ch := 1, due := 1600000000 }, b := { ch := 0 } } }, by decide +kernel⟩,
    ⟨22, { w0 with tcv := { w0.tcv with run := true, res := List.replicate 23 {}, a := { ch := 1, due := 1600000000 }, b := {} } }, by decide +kernel⟩,
    ⟨23, w0, by decide +kernel⟩,
    ⟨{ w0 with tcv := { w0.tcv with rideA := true } }, by decide +kernel⟩,
    ⟨w0, by decide +kernel⟩,
    ⟨22, { w0 with tcv := { run := true, waiting := some (some 22) } }, by decide +kernel⟩,
    ⟨{ w0 with tcv := { run := true, waiting := some none, bAt := some 1600000000 } }, by decide +kernel⟩,
    ⟨1599999999, { w0 with tcv := { admitAt := some 1599999999 } }, by decide +kernel⟩,
    ⟨{ w0 with tcv := { run := true, aAt := some 5 } }, by decide +kernel⟩⟩

theorem witness_sc_4_codes_correct_every_single_symbol_error :
    (∃ (d : W64) (k e : Nat), k < 20 ∧ 0 < e ∧ e < 16) ∧
    (∃ (d : BitVec 128) (k e : Nat), k < 36 ∧ 0 < e ∧ e < 16) ∧
    (∃ (h : W32) (k e : Nat), k < 11 ∧ 0 < e ∧ e < 16) :=
  ⟨⟨5, 19, 15, by decide +kernel⟩,
    ⟨5, 35, 15, by decide +kernel⟩,
    ⟨5, 10, 15, by decide +kernel⟩⟩

theorem witness_lath_transfers_sequence_repetition_and_seams :
    (∃ (rx : Nat) (net : Option Nat) (kind : Nat) (h : W32) (d : W64) (hd : BitVec 44) (wd : BitVec 80) (ot : List (Nat × Bool)) (l : Lth) (s : State), linkTake s.lth net rx hd ot = some l ∧ (s.su.cond = .run ∨ s.su.cond = .safe) ∧ s.lth.injHeld = none ∧ s.lth.injCtl.getLsbD 31 = false ∧ hdrDecode hd = some (h, false) ∧ sc80Decode wd = some (d, false) ∧ hAck h = false ∧ (net = none ∨ hClass h < 2) ∧ ((∀ y ∈ s.lth.streams, ¬ (y.net = net ∧ y.cx = none ∧ y.src = hSrc h ∧ y.dest = hDest h ∧ y.cls = hClass h)))) ∧
    (∃ (x : LathRx) (y : Stream) (h : W32) (d : W64) (s : State), hAck h = false ∧ (x.net = none ∨ hClass h < 2) ∧ s.lth.streams.find? (·.same { net := x.net, cx := x.cx, src := hSrc h, dest := hDest h, cls := hClass h, last := hSeq h }) = some y ∧ serialAfter 12 (hSeq h) y.last = true) ∧
    (∃ (x : LathRx) (y : Stream) (h : W32) (d : W64) (s : State), hAck h = false ∧ (x.net = none ∨ hClass h < 2) ∧ s.lth.streams.find? (·.same { net := x.net, cx := x.cx, src := hSrc h, dest := hDest h, cls := hClass h, last := hSeq h }) = some y ∧ serialAfter 12 (hSeq h) y.last = false) ∧
    (∃ (rx z : Nat) (kind : Nat) (h : W32) (d : W64) (hd : BitVec 44) (wd : BitVec 80) (ot : List (Nat × Bool)) (l : Lth) (s : State), linkTake s.lth (some z) rx hd ot = some l ∧ (s.su.cond = .run ∨ s.su.cond = .safe) ∧ s.lth.injHeld = none ∧ s.lth.injCtl.getLsbD 31 = false ∧ hdrDecode hd = some (h, false) ∧ sc80Decode wd = some (d, false) ∧ 2 ≤ hClass h) ∧
    (∃ (rx : Nat) (net : Option Nat) (kind : Nat) (hd : BitVec 44) (wd : BitVec 80) (ot : List (Nat × Bool)) (l : Lth) (s : State), linkTake s.lth net rx hd ot = some l ∧ (s.su.cond = .run ∨ s.su.cond = .safe) ∧ s.lth.injHeld = none ∧ s.lth.injCtl.getLsbD 31 = true ∧ injMatch s.lth.injCtl 0 { rx, net, cx := none, kind, header := hd, word := wd } = true ∧ s.lth.injCtl.toNat / 2 ^ 8 % 2 ^ 9 ≤ s.lth.injSkip ∧ injMode s.lth.injCtl s.lth.injPat = 0) ∧
    (∃ (rx : Nat) (net : Option Nat) (kind : Nat) (hd : BitVec 44) (wd : BitVec 80) (ot : List (Nat × Bool)) (s : State), (s.su.cond = .run ∨ s.su.cond = .safe) ∧ s.lth.injHeld = none ∧ s.lth.injCtl.getLsbD 31 = false ∧ hdrDecode hd = none) ∧
    (∃ (net : Option Nat) (h : W32) (hd : BitVec 44) (s : State), (s.su.cond = .run ∨ s.su.cond = .safe) ∧ hdrDecode hd = some (h, false)) ∧
    (∃ (w : TxWait) (z : Option Nat) (s : State), (s.su.cond = .run ∨ s.su.cond = .safe) ∧ w.kind < 5 ∧ w.cls = kindClass w.kind ∧ s.lth.waits = [w] ∧ w.at_ + (retryOf w.kind).1 ≤ s.tb.count ∧ w.tries < (retryOf w.kind).2) ∧
    (∃ (w : TxWait) (z : Option Nat) (s : State), (s.su.cond = .run ∨ s.su.cond = .safe) ∧ w.kind < 5 ∧ w.cls = kindClass w.kind ∧ s.lth.waits = [w] ∧ w.at_ + (retryOf w.kind).1 ≤ s.tb.count ∧ (retryOf w.kind).2 ≤ w.tries) ∧
    (∃ (j : Nat) (b : Bool) (s : State), (s.su.cond = .run ∨ s.su.cond = .safe) ∧ j < 16 ∧ s.lth.seam.getLsbD (2 * j + b2n b) = false ∧ s.lth.seam.getLsbD (2 * j + b2n (!b)) = false) ∧
    (∃ (j : Nat) (b : Bool) (s : State), (s.su.cond = .run ∨ s.su.cond = .safe) ∧ j < 16 ∧ s.lth.seam.getLsbD (2 * j + b2n b) = false ∧ s.lth.seam.getLsbD (2 * j + b2n (!b)) = true ∧ (0x55, j) ∉ s.snag.conds) ∧
    (∃ (w : W32) (s : State), (s.su.cond = .run ∨ s.su.cond = .safe) ∧ s.su.readyEver = true ∧ injectPermitted s = true) ∧
    (∃ (w : W32) (s : State), (s.su.cond = .run ∨ s.su.cond = .safe) ∧ s.su.readyEver = true ∧ injectPermitted s = false) ∧
    (∃ (rx : Nat) (net : Option Nat) (kind : Nat) (hd : BitVec 44) (wd : BitVec 80) (ot : List (Nat × Bool)) (s : State), linkTake s.lth net rx hd ot = none) ∧
    (∃ (net : Option Nat) (rx : Nat) (hd : BitVec 44) (h : W32) (ot : List (Nat × Bool)) (l : Lth), hdrDecode hd = some (h, false)) ∧
    (∃ (net : Option Nat) (rx : Nat) (hd : BitVec 44) (h : W32) (ot : List (Nat × Bool)) (l t : Lth), hdrDecode hd = some (h, false) ∧ linkTake l net rx hd ot = some t) :=
  ⟨⟨2, some 0, 0, (mkHeader 3 9 false 1 7), 0xA3, hdrEncode (mkHeader 3 9 false 1 7), sc80Encode 0xA3, [], { w0.lth with slots := [(some 0, 2, 1)] }, w0, by decide +kernel⟩,
    ⟨{ rx := 2, net := none, cx := none, kind := 0, header := 0, word := 0 }, { net := none, cx := none, src := 9, dest := 3, cls := 1, last := 4 }, (mkHeader 3 9 false 1 7), 5, { w0 with lth := { streams := [{ net := none, cx := none, src := 9, dest := 3, cls := 1, last := 4 }] } }, by decide +kernel⟩,
    ⟨{ rx := 2, net := none, cx := none, kind := 0, header := 0, word := 0 }, { net := none, cx := none, src := 9, dest := 3, cls := 1, last := 7 }, (mkHeader 3 9 false 1 7), 5, { w0 with lth := { streams := [{ net := none, cx := none, src := 9, dest := 3, cls := 1, last := 7 }] } }, by decide +kernel⟩,
    ⟨2, 0, 0, mkHeader 3 9 false 2 7, 0xA3, hdrEncode (mkHeader 3 9 false 2 7), sc80Encode 0xA3, [], { w0.lth with slots := [(some 0, 2, 1)] }, w0, by decide +kernel⟩,
    ⟨2, none, 0, 0, 0, [], { w0.lth with injCtl := 0x80000000, slots := [(none, 2, 1)] }, { w0 with lth := { w0.lth with injCtl := 0x80000000 } }, by decide +kernel⟩,
    ⟨2, none, 0, 0x11, 0, [], w0, by decide +kernel⟩,
    ⟨some 0, (mkHeader 3 9 false 1 7), hdrEncode (mkHeader 3 9 false 1 7), w0, by decide +kernel⟩,
    ⟨{ net := some 0, src := 3, dest := 127, cls := 0, seq := 5, kind := 0, tries := 7, at_ := 0 }, some 0, { w0 with lth := { w0.lth with waits := [{ net := some 0, src := 3, dest := 127, cls := 0, seq := 5, kind := 0, tries := 7, at_ := 0 }] } }, by decide +kernel⟩,
    ⟨{ net := some 0, src := 3, dest := 127, cls := 2, seq := 5, kind := 3, tries := 8, at_ := 0 }, some 0, { w0 with lth := { w0.lth with waits := [{ net := some 0, src := 3, dest := 127, cls := 2, seq := 5, kind := 3, tries := 8, at_ := 0 }] } }, by decide +kernel⟩,
    ⟨15, true, w0, by decide +kernel⟩,
    ⟨0, false, { w0 with lth := { seam := 2 } }, by decide +kernel⟩,
    ⟨0x80000001, { w0 with fus := { w0.fus with lcRaw := 0 } }, by decide +kernel⟩,
    ⟨0x80000001, { w0 with fus := { w0.fus with lcRaw := 3 } }, by decide +kernel⟩,
    ⟨2, none, 0, hdrEncode (mkHeader 3 9 false 2 7), 0, [(1, false)], w0, by decide +kernel⟩,
    ⟨none, 2, hdrEncode (mkHeader 3 9 false 2 7), mkHeader 3 9 false 2 7, [(3, true)], { slots := [(none, 2, 15)] }, by decide +kernel⟩,
    ⟨none, 2, hdrEncode (mkHeader 3 9 false 3 7), mkHeader 3 9 false 3 7, [(0, true)], { slots := [(none, 2, 15)] }, { slots := [(none, 2, 0)] }, by decide +kernel⟩⟩

theorem witness_cascade_links_heartbeats_time_and_shares :
    (∃ (b : Bool) (s : State), s.su.cond = .run ∧ 3 ≤ s.su.stepNo ∧ 1 < s.csc.cfg.ninst) ∧
    (∃ (b : Bool) (s : State), s.su.cond = .run ∧ 3 ≤ s.su.stepNo ∧ 1 < s.csc.cfg.ninst ∧ (if b then s.csc.cxbUp else s.csc.cxaUp) = true ∧ (0x58, 0) ∉ s.snag.conds) ∧
    (∃ (b : Bool) (kind : Nat) (f : BitVec 144) (s : State), bitsOf f.toNat 12 4 ≠ frameXchk f) ∧
    (∃ (b : Bool) (kind : Nat) (f : BitVec 144) (h : W32) (s : State), s.su.cond = .run ∧ 3 ≤ s.su.stepNo ∧ 1 < s.csc.cfg.ninst ∧ bitsOf f.toNat 12 4 = frameXchk f ∧ bitsOf f.toNat 10 2 = 0 ∧ s.lth.injHeld = none ∧ s.lth.injCtl.getLsbD 31 = false ∧ hdrDecode (BitVec.ofNat 44 (bitsOf f.toNat 16 44)) = some (h, false) ∧ frameHere s f = false) ∧
    (∃ (b : Bool) (kind : Nat) (f : BitVec 144) (h : W32) (r : State) (s : State), s.su.cond = .run ∧ 3 ≤ s.su.stepNo ∧ 1 < s.csc.cfg.ninst ∧ bitsOf f.toNat 12 4 = frameXchk f ∧ bitsOf f.toNat 10 2 = 0 ∧ s.lth.injHeld = none ∧ s.lth.injCtl.getLsbD 31 = false ∧ hdrDecode (BitVec.ofNat 44 (bitsOf f.toNat 16 44)) = some (h, false) ∧ frameHere s f = true ∧ r = lathReceive s { rx := 128 + b2n b, net := none, cx := some (bitsOf f.toNat 4 3), kind, header := BitVec.ofNat 44 (bitsOf f.toNat 16 44), word := BitVec.ofNat 80 (bitsOf f.toNat 60 80), frame := f }) ∧
    (∃ (s : State), s.su.cond = .run ∧ 3 ≤ s.su.stepNo ∧ 1 < s.csc.cfg.ninst ∧ (s.csc.cxaUp = true ∨ s.csc.cxbUp = true) ∧ s.tb.count % 10000 = 1000 * s.su.cascId) ∧
    (∃ (hb : W64) (s : State), s.su.cond = .run ∧ 1 < s.csc.cfg.ninst ∧ s.su.readyEver = true ∧ s.csc.forming = false ∧ hbFld hb 32 32 = s.csc.cfg.key.toNat ∧ hbFld hb 8 4 = s.csc.cfg.ninst ∧ hb.getLsbD 7 = s.fus.shadow.succession ∧ hbFld hb 0 3 ≠ s.su.cascId ∧ hbFld hb 0 3 < s.csc.peers.length ∧ (hbFld hb 4 3 = 0 ∨ hbFld hb 4 3 = 1) ∧ hb.getLsbD 3 = false) ∧
    (∃ (hb : W64) (s : State), s.su.cond = .run ∧ 1 < s.csc.cfg.ninst ∧ s.su.readyEver = true ∧ s.csc.forming = false ∧ hbFld hb 32 32 = s.csc.cfg.key.toNat ∧ hbFld hb 8 4 = s.csc.cfg.ninst ∧ hb.getLsbD 7 = s.fus.shadow.succession ∧ hbFld hb 0 3 = s.su.cascId ∧ hbFld hb 16 16 ≠ s.csc.nonce.toNat) ∧
    (∃ (s : State), s.su.cond = .run ∧ 1 < s.csc.cfg.ninst ∧ s.su.readyEver = true ∧ s.csc.isMaster = false ∧ s.csc.hasMaster = true ∧ s.csc.forming = false ∧ (∀ a ∈ s.csc.reqAt, a + 1000000 ≤ s.tb.count)) ∧
    (∃ (src : Nat) (s : State), s.su.cond = .run ∧ 1 < s.csc.cfg.ninst ∧ s.csc.isMaster = true ∧ src < 8) ∧
    (∃ (t1 t2 t3 t4 : Int) (s : State), s.su.cond = .run ∧ 1 < s.csc.cfg.ninst ∧ s.su.readyEver = true ∧ s.csc.isMaster = false ∧ s.csc.reqAt ≠ none ∧ s.csc.forming = false) ∧
    (∃ (i : Nat) (s : State), s.su.cond = .run ∧ 1 < s.csc.cfg.ninst ∧ i < s.csc.cfg.ninst ∧ i ≠ s.su.cascId ∧ i < s.csc.peers.length ∧ (peerD s i).seen = true ∧ (((peerD s i).at_ + 30000 ≤ s.tb.count ∨ (peerD s i).state = 2 ∨ (peerD s i).state = 3)) ∧ (peerD s i).lost = false ∧ (0x59, i) ∉ s.snag.conds) ∧
    (∃ (s : State), s.su.cond = .run ∧ 1 < s.csc.cfg.ninst ∧ s.csc.hasMaster = true ∧ s.csc.isMaster = false ∧ (peerD s s.csc.masterId).lost = true ∧ s.fus.shadow.succession = true ∧ s.tb.count % 10000 = 0 ∧ heir s = true) ∧
    (∃ (src p f m : Nat) (s : State), s.su.cond = .run ∧ 1 < s.csc.cfg.ninst ∧ s.csc.isMaster = true ∧ src < s.csc.cfg.ninst ∧ src ≠ s.su.cascId ∧ src < s.csc.peers.length) ∧
    (∃ (w : Nat) (s : State), s.su.cond = .run ∧ 1 < s.csc.cfg.ninst ∧ s.csc.isMaster = false ∧ w < 65536) ∧
    (∃ (cap : Nat) (xs : List (Nat × Nat × Nat)), 0 < cap ∧ cap < sumN (xs.map fun x => x.2.1) ∧ (∀ x ∈ xs, x.2.2 ≤ x.2.1)) :=
  ⟨⟨true, { w0 with csc := { w0.csc with cfg := { ninst := 2, cap := 4000 }, cxaUp := true } }, by decide +kernel⟩,
    ⟨false, { w0 with csc := { w0.csc with cfg := { ninst := 2, cap := 4000 }, cxaUp := true } }, by decide +kernel⟩,
    ⟨true, 0, 0x1000, w0, by decide +kernel⟩,
    ⟨true, 0, BitVec.ofNat 144 (2 + 3 * 16 + 1 * 4096 + 65536 * (hdrEncode 5).toNat), 5, { w0 with csc := { w0.csc with cfg := { ninst := 4 } } }, by decide +kernel⟩,
    ⟨true, 0, BitVec.ofNat 144 (3 * 16 + 3 * 4096 + 65536 * (hdrEncode 5).toNat), 5, _, { w0 with csc := { w0.csc with cfg := { ninst := 4 } } }, by decide +kernel, by decide +kernel, by decide +kernel, by decide +kernel, by decide +kernel, by decide +kernel, by decide +kernel, by decide +kernel, by decide +kernel, rfl⟩,
    ⟨{ w0 with csc := { w0.csc with cfg := { ninst := 2, cap := 4000 }, cxaUp := true } }, by decide +kernel⟩,
    ⟨0x0000000012340211, { w0 with csc := { w0.csc with cfg := { ninst := 2, cap := 4000 }, peers := List.replicate 8 {} } }, by decide +kernel⟩,
    ⟨0x0000000012340210, { w0 with csc := { w0.csc with cfg := { ninst := 2, cap := 4000 }, nonce := 1 } }, by decide +kernel⟩,
    ⟨{ w0 with csc := { w0.csc with cfg := { ninst := 2, cap := 4000 }, hasMaster := true } }, by decide +kernel⟩,
    ⟨1, { w0 with csc := { w0.csc with cfg := { ninst := 2, cap := 4000 }, isMaster := true } }, by decide +kernel⟩,
    ⟨0, 30, 40, 50, { w0 with csc := { w0.csc with cfg := { ninst := 2, cap := 4000 }, reqAt := some 5 } }, by decide +kernel⟩,
    ⟨1, { w0 with csc := { w0.csc with cfg := { ninst := 2, cap := 4000 }, peers := List.replicate 8 { seen := true } } }, by decide +kernel⟩,
    ⟨{ { w0 with csc := { w0.csc with cfg := { ninst := 2, cap := 4000 }, hasMaster := true, masterId := 1, peers := List.replicate 8 { seen := true, lost := true } } } with fus := { w0.fus with shadow := { w0.fus.shadow with succession := true } } }, by decide +kernel⟩,
    ⟨1, 2600, 1200, 0, { w0 with csc := { w0.csc with cfg := { ninst := 2, cap := 4000 }, isMaster := true, peers := List.replicate 8 {} } }, by decide +kernel⟩,
    ⟨2000, { w0 with csc := { w0.csc with cfg := { ninst := 2, cap := 4000 }, share := none } }, by decide +kernel⟩,
    ⟨4000, [(0, 2600, 1200), (1, 1800, 1200)], by decide +kernel⟩⟩

theorem witness_reports_take_the_action_of_their_class :
    (∃ (r : FaultRep) (rest : List FaultRep) (s : State), s.su.cond = .run ∧ s.snag.inbox = r :: rest ∧ r.cls = .note ∧ (r.code ≠ 0x61 ∨ s.su.readyEver = true) ∧ s.pmb.clearAt ≤ r.stamp) ∧
    (∃ (r : FaultRep) (rest : List FaultRep) (s : State), s.su.cond = .run ∧ s.snag.inbox = r :: rest ∧ r.cls = .degrade ∧ heldOf s r.code r.unit = none ∧ r.code ≠ 0x20 ∧ r.code ≠ 0x21) ∧
    (∃ (r : FaultRep) (rest : List FaultRep) (s : State), s.su.cond = .run ∧ s.snag.inbox = r :: rest ∧ r.cls = .zoneSafe ∧ heldOf s r.code r.unit = none ∧ r.unit < s.zones.length ∧ (zoneD s r.unit).halted = false ∧ r.code ≠ 0x20 ∧ r.code ≠ 0x21) ∧
    (∃ (r : FaultRep) (rest : List FaultRep) (s : State), s.su.cond = .run ∧ s.snag.inbox = r :: rest ∧ r.cls = .instSafe ∧ heldOf s r.code r.unit = none) ∧
    (∃ (r : FaultRep) (rest : List FaultRep) (s : State), s.su.cond = .run ∧ s.snag.inbox = r :: rest ∧ r.cls = .halt ∧ r.code ≠ 0x44 ∧ heldOf s r.code r.unit = none ∧ s.snag.haltAt = none) ∧
    (∃ (r : FaultRep) (rest : List FaultRep) (s : State), s.su.cond = .run ∧ s.snag.inbox = r :: rest ∧ r.cls = .halt ∧ r.code ≠ 0x44 ∧ heldOf s r.code r.unit = none ∧ s.snag.haltAt ≠ none ∧ r.code ≠ 0x20 ∧ r.code ≠ 0x21) ∧
    (∃ (r : FaultRep) (rest : List FaultRep) (h : Held) (s : State), s.su.cond = .run ∧ s.snag.inbox = r :: rest ∧ heldOf s r.code r.unit = some h ∧ r.cls ≠ .note ∧ clsCode r.cls ≤ clsCode h.cls) ∧
    (∃ (s : State), s.su.cond = .run ∧ s.snag.inbox = []) :=
  ⟨⟨{ stamp := 1599999990, code := 0x4A, unit := 0, cls := .note, detail := 0, l := 1599999990 }, [], { w0 with snag := { w0.snag with inbox := [{ stamp := 1599999990, code := 0x4A, unit := 0, cls := .note, detail := 0, l := 1599999990 }] } }, by decide +kernel⟩,
    ⟨{ stamp := 1599999990, code := 0x28, unit := 0, cls := .degrade, detail := 0, l := 1599999990 }, [], { w0 with snag := { w0.snag with inbox := [{ stamp := 1599999990, code := 0x28, unit := 0, cls := .degrade, detail := 0, l := 1599999990 }] } }, by decide +kernel⟩,
    ⟨{ stamp := 1599999990, code := 0x13, unit := 0, cls := .zoneSafe, detail := 0, l := 1599999990 }, [], { w0 with snag := { w0.snag with inbox := [{ stamp := 1599999990, code := 0x13, unit := 0, cls := .zoneSafe, detail := 0, l := 1599999990 }] } }, by decide +kernel⟩,
    ⟨{ stamp := 1599999990, code := 0x2D, unit := 0, cls := .instSafe, detail := 0, l := 1599999990 }, [], { w0 with snag := { w0.snag with inbox := [{ stamp := 1599999990, code := 0x2D, unit := 0, cls := .instSafe, detail := 0, l := 1599999990 }] } }, by decide +kernel⟩,
    ⟨{ stamp := 1599999990, code := 0x02, unit := 0, cls := .halt, detail := 0, l := 1599999990 }, [], { w0 with snag := { w0.snag with inbox := [{ stamp := 1599999990, code := 0x02, unit := 0, cls := .halt, detail := 0, l := 1599999990 }] } }, by decide +kernel⟩,
    ⟨{ stamp := 1599999990, code := 0x02, unit := 0, cls := .halt, detail := 0, l := 1599999990 }, [], { w0 with snag := { w0.snag with haltAt := some 5, inbox := [{ stamp := 1599999990, code := 0x02, unit := 0, cls := .halt, detail := 0, l := 1599999990 }] } }, by decide +kernel⟩,
    ⟨{ stamp := 1599999990, code := 0x28, unit := 0, cls := .degrade, detail := 0, l := 1599999990 }, [], { code := 0x28, unit := 0, cls := .degrade, l := 5 }, { w0 with snag := { w0.snag with held := [{ code := 0x28, unit := 0, cls := .degrade, l := 5 }], inbox := [{ stamp := 1599999990, code := 0x28, unit := 0, cls := .degrade, detail := 0, l := 1599999990 }] } }, by decide +kernel⟩,
    ⟨w0, by decide +kernel⟩⟩

theorem witness_recovery_power_down_alive_snapshots_and_forces :
    (∃ (c u : Nat) (h : Held) (s : State), (s.su.cond = .run ∨ s.su.cond = .safe) ∧ heldOf s c u = some h ∧ recovers s h = true ∧ c < s.snag.recov.length) ∧
    (∃ (c u : Nat) (h : Held) (s : State), heldOf s c u = some h ∧ ((h.latched = true ∨ h.cls = .halt ∨ h.preReady = true ∨ (c, u) ∈ s.snag.conds ∨ s.tb.count < h.l + quietOf s.snag.cfg h.cls))) ∧
    (∃ (h : Nat) (s : State), s.snag.haltAt = some h ∧ s.snag.haltStep < (stagesOf s).length ∧ h + 100000 + 500000 * s.snag.haltStep ≤ s.tb.count) ∧
    (∃ (h : Nat) (s : State), s.snag.haltAt = some h ∧ s.snag.haltMsf = false ∧ (stagesOf s).length ≤ s.snag.haltStep ∧ h + 100000 + 500000 * (stagesOf s).length ≤ s.tb.count) ∧
    (∃ (s : State), s.pins.ready = true ∧ instSafeOrWorse s = false ∧ ((s.caps.taskDone.take 4).any id) = true ∧ s.tb.count % (1000 * max 1 s.snag.cfg.aliveHalf) = 0) ∧
    (∃ (s : State), (s.pins.ready = false ∨ instSafeOrWorse s = true)) ∧
    (∃ (s : State), (s.su.cond = .run ∨ s.su.cond = .safe) ∧ s.su.readyEver = true) ∧
    (∃ (c : Nat) (s : State), (s.su.cond = .run ∨ s.su.cond = .safe) ∧ s.su.readyEver = true ∧ c ≠ 0x5A) ∧
    (∃ (s : State), (s.su.cond = .run ∨ s.su.cond = .safe) ∧ s.su.readyEver = true ∧ logWrites s = true ∧ s.nvm.queue.length < 32) ∧
    (∃ (s : State), (s.su.cond = .run ∨ s.su.cond = .safe) ∧ s.su.readyEver = true ∧ logWrites s = true ∧ s.nvm.queue.length < 32 ∧ s.snag.snapAt + 600000000000 ≤ s.tb.count) ∧
    (∃ (s : State), s.tb.count < s.snag.snapAt + 600000000000) ∧
    (∃ (k i : Nat) (c : Cls) (w : W32) (s : State), (s.su.cond = .run ∨ s.su.cond = .safe) ∧ s.su.readyEver = true ∧ k < 8 ∧ i < 32 ∧ w.getLsbD i = true ∧ injectPermitted s = true ∧ baseCls (32 * k + i) = some c ∧ (∀ f ∈ s.snag.forced, f.1 ≠ 32 * k + i)) ∧
    (∃ (k : Nat) (w : W32) (s : State), (s.su.cond = .run ∨ s.su.cond = .safe) ∧ s.su.readyEver = true ∧ k < 8 ∧ w ≠ 0 ∧ injectPermitted s = false) ∧
    (∃ (k : Nat) (s : State), (s.su.cond = .run ∨ s.su.cond = .safe) ∧ s.su.readyEver = true ∧ k < 8) ∧
    (∃ (e : LogEnt) (rest : List LogEnt) (s : State), (s.su.cond = .run ∨ s.su.cond = .safe) ∧ s.snag.log = e :: rest) ∧
    (∃ (s : State), (s.su.cond = .run ∨ s.su.cond = .safe) ∧ s.snag.log = []) ∧
    (∃ (z i : Nat) (s : State), i < (zoneD s z).tiles.length) :=
  ⟨⟨0x28, 0, { code := 0x28, unit := 0, cls := .degrade, l := 5 }, { w0 with snag := { w0.snag with cfg := { w0.snag.cfg with quietD := 1, quietZ := 1, quietI := 1 }, held := [{ code := 0x28, unit := 0, cls := .degrade, l := 5 }] } }, by decide +kernel⟩,
    ⟨0x28, 0, { code := 0x28, unit := 0, cls := .degrade, l := 5 }, { w0 with snag := { w0.snag with cfg := { w0.snag.cfg with quietD := 1, quietZ := 1, quietI := 1 }, conds := [(0x28, 0)], held := [{ code := 0x28, unit := 0, cls := .degrade, l := 5 }] } }, by decide +kernel⟩,
    ⟨5, { w0 with snag := { w0.snag with haltAt := some 5 } }, by decide +kernel⟩,
    ⟨5, { w0 with snag := { w0.snag with haltAt := some 5, haltStep := 1 } }, by decide +kernel⟩,
    ⟨{ w0 with caps := { w0.caps with taskDone := [true] } }, by decide +kernel⟩,
    ⟨State.reset, by decide +kernel⟩,
    ⟨w0, by decide +kernel⟩,
    ⟨0, w0, by decide +kernel⟩,
    ⟨w0, by decide +kernel⟩,
    ⟨{ w0 with tb := { w0.tb with count := 600000000000 } }, by decide +kernel⟩,
    ⟨w0, by decide +kernel⟩,
    ⟨1, 8, .degrade, 0x100, { w0 with fus := { w0.fus with lcRaw := 0 } }, by decide +kernel⟩,
    ⟨1, 0x100, { w0 with fus := { w0.fus with lcRaw := 3 } }, by decide +kernel⟩,
    ⟨1, w0, by decide +kernel⟩,
    ⟨{ forced := false, latched := false, recov := true, cls := 1, code := 0x28, unit := 3, stamp := 4096 }, [], { w0 with snag := { w0.snag with log := [{ forced := false, latched := false, recov := true, cls := 1, code := 0x28, unit := 3, stamp := 4096 }] } }, by decide +kernel⟩,
    ⟨w0, by decide +kernel⟩,
    ⟨0, 1, w0, by decide +kernel⟩⟩

theorem witness_flash_commands_bytes_and_logs :
    (∃ (s : State), (s.su.cond = .run ∨ s.su.cond = .safe) ∧ s.nvm.busy = none ∧ s.nvm.discovered = true ∧ s.nvm.progAddr.toNat < s.nvm.logBase.getD 0x600000) ∧
    (∃ (s : State), (s.su.cond = .run ∨ s.su.cond = .safe) ∧ s.nvm.busy = none ∧ (s.nvm.discovered = false ∨ s.nvm.logBase.getD 0x600000 ≤ s.nvm.progAddr.toNat)) ∧
    (∃ (s : State), (s.su.cond = .run ∨ s.su.cond = .safe) ∧ s.nvm.busy = none ∧ s.nvm.discovered = true) ∧
    (∃ (a : Nat) (s : State), s.nvm.busy = some (.erase a)) ∧
    (∃ (a : Nat) (p : List W32) (s : State), s.nvm.busy = some (.program a p) ∧ p.length = 64 ∧ Memory.wf s.nvm.flash = true) ∧
    (∃ (e : Bool) (s : State), s.nvm.busy = some .verify) ∧
    (∃ (a : Nat) (s : State), s.nvm.busy = some (.erase a)) ∧
    (∃ (w : W32) (s : State), (s.su.cond = .run ∨ s.su.cond = .safe) ∧ s.nvm.ptr < s.nvm.page.length) ∧
    (∃ (h : Header) (s : State), (s.su.cond = .run ∨ s.su.cond = .safe) ∧ logClears s = true ∧ s.nvm.hdr = some h) ∧
    (∃ (m : List Host.Cell) (h : Header) (r i q e : Nat), Memory.wf m = true ∧ h.logBase % 4096 = 0 ∧ r < 4 ∧ q < 2 ^ 32 ∧ e < 2 ^ 32) ∧
    (∃ (s : State), (s.su.cond = .run ∨ s.su.cond = .safe) ∧ logClears s = false) ∧
    (∃ (h : Header) (r : FhRec) (rest : List LogRec) (s : State), (s.su.cond = .run ∨ s.su.cond = .safe) ∧ s.nvm.busy = none ∧ s.nvm.logOk = true ∧ logWrites s = true ∧ s.cores.run1 = true ∧ s.nvm.batch ≠ 0 ∧ s.nvm.hdr = some h ∧ s.nvm.queue = .fh r :: rest) ∧
    (∃ (h : Header) (r : ShutRecord) (rest : List LogRec) (s : State), (s.su.cond = .run ∨ s.su.cond = .safe) ∧ s.nvm.busy = none ∧ s.nvm.logOk = true ∧ logWrites s = true ∧ s.cores.run1 = true ∧ s.nvm.batch ≠ 0 ∧ s.nvm.hdr = some h ∧ s.nvm.queue = .shut r :: rest) ∧
    (∃ (h : Header) (x : Snapshot) (rest : List LogRec) (s : State), (s.su.cond = .run ∨ s.su.cond = .safe) ∧ s.nvm.busy = none ∧ s.nvm.logOk = true ∧ logWrites s = true ∧ s.cores.run1 = true ∧ s.nvm.batch ≠ 0 ∧ s.nvm.hdr = some h ∧ s.nvm.queue = .snap x :: rest) ∧
    (∃ (h : Header) (r : LogRec) (rest : List LogRec) (s : State), (s.su.cond = .run ∨ s.su.cond = .safe) ∧ s.nvm.busy = none ∧ s.nvm.logOk = true ∧ logWrites s = true ∧ s.cores.run1 = true ∧ s.nvm.batch ≠ 0 ∧ s.nvm.hdr = some h ∧ s.nvm.queue = r :: rest) ∧
    (∃ (s : State), s.nvm.busy ≠ none) :=
  ⟨⟨w0, by decide +kernel⟩,
    ⟨{ w0 with nvm := { w0.nvm with progAddr := 0x600000 } }, by decide +kernel⟩,
    ⟨w0, by decide +kernel⟩,
    ⟨4096, { w0 with nvm := { w0.nvm with busy := some (.erase 4096), flash := [(4097, 3), (9000, 4)] } }, by decide +kernel⟩,
    ⟨512, List.replicate 64 0, { w0 with nvm := { w0.nvm with busy := some (.program 512 (List.replicate 64 0)) } }, by decide +kernel⟩,
    ⟨true, { w0 with nvm := { w0.nvm with busy := some .verify } }, by decide +kernel⟩,
    ⟨4096, { w0 with nvm := { w0.nvm with busy := some (.erase 4096) } }, by decide +kernel⟩,
    ⟨5, w0, by decide +kernel⟩,
    ⟨{}, { w0 with nvm := { w0.nvm with hdr := some {} } }, by decide +kernel⟩,
    ⟨[], {}, 3, 15, 7, 9, by decide +kernel⟩,
    ⟨{ w0 with fus := { w0.fus with lcRaw := 3 } }, by decide +kernel⟩,
    ⟨{}, {}, [], wLog (.fh {}), by decide +kernel⟩,
    ⟨{}, {}, [], wLog (.shut {}), by decide +kernel⟩,
    ⟨{}, {}, [], wLog (.snap {}), by decide +kernel⟩,
    ⟨{}, .fh {}, [], wLog (.fh {}), by decide +kernel⟩,
    ⟨{ w0 with nvm := { w0.nvm with busy := some (.erase 4096) } }, by decide +kernel⟩⟩

theorem witness_user_window_is_read_only :
    (∃ (q o : Nat) (s : State), (s.su.cond = .run ∨ s.su.cond = .safe) ∧ s.su.readyEver = true) ∧
    (∃ (q o : Nat) (s : State), s.su.readyEver = false) ∧
    (∃ (q o : Nat) (s : State), (s.su.cond = .run ∨ s.su.cond = .safe) ∧ o ∉ [0x00, 0x04, 0x08, 0x0C, 0x10, 0x14, 0x18]) :=
  ⟨⟨3, 4, w0, by decide +kernel⟩,
    ⟨3, 4, State.reset, by decide +kernel⟩,
    ⟨3, 0x1C, w0, by decide +kernel⟩⟩

theorem witness_register_port_accesses :
    (∃ (w : W32) (s : State), (s.su.cond = .run ∨ s.su.cond = .safe)) ∧
    (∃ (w : W32) (s : State), (s.su.cond = .run ∨ s.su.cond = .safe)) ∧
    (∃ (w : W32) (s : State), (s.su.cond = .run ∨ s.su.cond = .safe) ∧ s.su.readyEver = true) ∧
    (∃ (w : W32) (s : State), (s.su.cond = .run ∨ s.su.cond = .safe)) ∧
    (∃ (o : Nat) (w : W32) (s : State), s.su.readyEver = false ∧ openEarly o = false) ∧
    (∃ (o : Nat) (s : State), (s.su.cond = .run ∨ s.su.cond = .safe) ∧ regPeek s o = none) ∧
    (∃ (o : Nat) (s : State), (s.su.cond = .run ∨ s.su.cond = .safe) ∧ regPeek s o = none) ∧
    (∃ (s : State), s.su.cond ≠ .run ∧ s.su.cond ≠ .safe) :=
  ⟨⟨5, w0, by decide +kernel⟩,
    ⟨5, w0, by decide +kernel⟩,
    ⟨5, w0, by decide +kernel⟩,
    ⟨5, w0, by decide +kernel⟩,
    ⟨0x8004, 5, State.reset, by decide +kernel⟩,
    ⟨0xC, w0, by decide +kernel⟩,
    ⟨0xC, w0, by decide +kernel⟩,
    ⟨State.reset, by decide +kernel⟩⟩

theorem witness_pmbus_reads_answer_their_bytes :
    (∃ (s : State), pmbUp s = true) ∧
    (∃ (s : State), pmbUp s = true) ∧
    (∃ (s : State), pmbUp s = true) ∧
    (∃ (s : State), pmbUp s = true ∧ s.pmb.page = 0xFF) ∧
    (∃ (z : Nat) (s : State), pmbUp s = true ∧ s.pmb.page = z ∧ z ≠ 0xFF) ∧
    (∃ (s : State), pmbUp s = true) ∧
    (∃ (s : State), pmbUp s = true ∧ s.su.readyEver = true) ∧
    (∃ (n : Int) (d : Nat), 0 < d) ∧
    (∃ (e m : Int), -16 ≤ e ∧ e ≤ 15) ∧
    (∃ (s : State), pmbUp s = false) :=
  ⟨⟨w0, by decide +kernel⟩,
    ⟨w0, by decide +kernel⟩,
    ⟨w0, by decide +kernel⟩,
    ⟨w0, by decide +kernel⟩,
    ⟨0, { w0 with pmb := { w0.pmb with page := 0 } }, by decide +kernel⟩,
    ⟨w0, by decide +kernel⟩,
    ⟨w0, by decide +kernel⟩,
    ⟨2450, 4, by decide +kernel⟩,
    ⟨2, 613, by decide +kernel⟩,
    ⟨State.reset, by decide +kernel⟩⟩

theorem witness_pmbus_writes_and_their_refusals :
    (∃ (p : Nat) (s : State), pmbWrites s = true ∧ (p = 0xFF ∨ p < s.su.zones) ∧ s.pmb.wp ≠ 0x80) ∧
    (∃ (p : Nat) (s : State), pmbWrites s = true ∧ p ≠ 0xFF ∧ s.su.zones ≤ p) ∧
    (∃ (v : Nat) (s : State), pmbWrites s = true ∧ v ∈ [0, 0x20, 0x40, 0x80]) ∧
    (∃ (v : Nat) (s : State), pmbWrites s = true ∧ v ∉ [0, 0x20, 0x40, 0x80]) ∧
    (∃ (v : Nat) (s : State), pmbWrites s = true ∧ (v = 0 ∨ v = 0x40) ∧ s.pmb.wp ≠ 0x80) ∧
    (∃ (v : Nat) (s : State), pmbWrites s = true ∧ (v = 0 ∨ v = 0x40)) ∧
    (∃ (v : Nat) (p : Option Bool) (s : State), pmbWrites s = true ∧ (p = some false ∨ v ∉ [0, 0x40, 0x80])) ∧
    (∃ (s : State), pmbWrites s = true ∧ s.pins.ready = true) ∧
    (∃ (v : Nat) (s : State), pmbWrites s = true ∧ ((s.pmb.wp = 0x80 ∧ (v = 0 ∨ v = 0x40)))) ∧
    (∃ (s : State), pmbWrites s = true ∧ (s.pmb.ovAt < s.tb.count ∧ s.pmb.ocAt < s.tb.count ∧ s.pmb.inAt < s.tb.count) ∧ (∀ k < 5, s.snag.alertAt.getD k 0 < s.tb.count)) ∧
    (∃ (k : Nat) (s : State), pmbWrites s = true ∧ k < 5 ∧ s.tb.count ≤ s.snag.alertAt.getD k 0) ∧
    (∃ (b : Nat) (s : State), pmbWrites s = true ∧ b ∈ [7, 6, 5, 1]) ∧
    (∃ (b : Nat) (s : State), pmbUp s = true ∧ b ∈ [7, 6, 5, 1]) ∧
    (∃ (v : Nat) (s : State), pmbWrites s = false) ∧
    (∃ (s : State), s.su.cond = .run ∧ s.su.readyEver = true ∧ s.fus.loaded = true ∧ s.snag.alert &&& s.snag.mask ≠ 0) ∧
    (∃ (s : State), s.snag.alert &&& s.snag.mask = 0) :=
  ⟨⟨0xFF, w0, by decide +kernel⟩,
    ⟨60, w0, by decide +kernel⟩,
    ⟨0x80, w0, by decide +kernel⟩,
    ⟨1, w0, by decide +kernel⟩,
    ⟨0x40, w0, by decide +kernel⟩,
    ⟨0, { w0 with pmb := { w0.pmb with wp := 0x80 } }, by decide +kernel⟩,
    ⟨1, none, w0, by decide +kernel⟩,
    ⟨w0, by decide +kernel⟩,
    ⟨0, { w0 with pmb := { w0.pmb with wp := 0x80 } }, by decide +kernel⟩,
    ⟨w0, by decide +kernel⟩,
    ⟨3, { w0 with snag := { w0.snag with alertAt := List.replicate 5 1600000000 } }, by decide +kernel⟩,
    ⟨5, w0, by decide +kernel⟩,
    ⟨1, w0, by decide +kernel⟩,
    ⟨5, State.reset, by decide +kernel⟩,
    ⟨{ w0 with snag := { w0.snag with alert := 2 } }, by decide +kernel⟩,
    ⟨w0, by decide +kernel⟩⟩

theorem witness_power_and_energy_caps_keep_the_other_field :
    (∃ (w : Nat) (s : State), pmbWrites s = true ∧ s.pmb.wp = 0 ∧ w < 65536) ∧
    (∃ (w : Nat) (s : State), pmbWrites s = true ∧ s.pmb.wp = 0 ∧ w < 65536) ∧
    (∃ (p e : Nat) (s : State), (s.su.cond = .run ∨ s.su.cond = .safe) ∧ s.su.readyEver = true ∧ p < 65536 ∧ e < 65536) ∧
    (∃ (c : Caps) (a b : Nat), c.swAt = some a) ∧
    (∃ (s : State), pmbUp s = true ∧ s.su.readyEver = true ∧ s.caps.swPower < 65536) ∧
    (∃ (s : State), pmbUp s = true ∧ s.su.readyEver = true ∧ s.caps.swEnergy < 65536) :=
  ⟨⟨2000, w0, by decide +kernel⟩,
    ⟨2000, w0, by decide +kernel⟩,
    ⟨2000, 2200, w0, by decide +kernel⟩,
    ⟨{ swAt := some 5 }, 5, 6, by decide +kernel⟩,
    ⟨w0, by decide +kernel⟩,
    ⟨w0, by decide +kernel⟩⟩

theorem witness_test_access_port_instructions :
    (∃ (s : State), s.su.cond ≠ .unpowered) ∧
    (∃ (s : State), s.su.cond ≠ .unpowered) ∧
    (∃ (p : List Bool) (s : State), s.su.cond ≠ .unpowered) ∧
    (∃ (p : List Bool) (s : State), s.su.cond ≠ .unpowered ∧ testPermitted s = true) ∧
    (∃ (s : State), s.su.cond ≠ .unpowered ∧ testPermitted s = true) ∧
    (∃ (p : List Bool) (w sp : Bool) (a d : W32) (s : State), s.su.cond ≠ .unpowered ∧ testPermitted s = false) ∧
    (∃ (a d : W32) (s : State), s.su.cond ≠ .unpowered ∧ testPermitted s = true) ∧
    (∃ (a d : W32) (s : State), s.su.cond ≠ .unpowered ∧ testPermitted s = true) ∧
    (∃ (a : W32) (d : BitVec 128) (s : State), s.su.cond ≠ .unpowered ∧ life s = some .manufacture ∧ (∀ x ∈ s.fus.words, x.1 ≠ a.toNat)) ∧
    (∃ (a : W32) (d o : BitVec 128) (s : State), s.su.cond ≠ .unpowered ∧ life s = some .manufacture ∧ s.fus.words = [(a.toNat, o)]) ∧
    (∃ (s : State), s.su.cond ≠ .unpowered ∧ life s = some .manufacture) ∧
    (∃ (c : BitVec 12) (i : Nat), i < 12) ∧
    (∃ (s : State), s.su.cond ≠ .unpowered ∧ life s ≠ some .manufacture) ∧
    (∃ (a : W32) (d : BitVec 128) (s : State), s.su.cond ≠ .unpowered ∧ life s ≠ some .manufacture) :=
  ⟨⟨w0, by decide +kernel⟩,
    ⟨w0, by decide +kernel⟩,
    ⟨[true], { w0 with fus := { w0.fus with lcRaw := 0 } }, by decide +kernel⟩,
    ⟨[true], { w0 with fus := { w0.fus with lcRaw := 0 } }, by decide +kernel⟩,
    ⟨{ w0 with fus := { w0.fus with lcRaw := 0 } }, by decide +kernel⟩,
    ⟨[true], true, false, 0, 0, w0, by decide +kernel⟩,
    ⟨4, 5, { w0 with fus := { w0.fus with lcRaw := 0 } }, by decide +kernel⟩,
    ⟨4, 5, { w0 with fus := { w0.fus with lcRaw := 0 } }, by decide +kernel⟩,
    ⟨4, 5, { w0 with fus := { w0.fus with lcRaw := 0 } }, by decide +kernel⟩,
    ⟨4, 5, 8, { w0 with fus := { w0.fus with lcRaw := 0, words := [(4, 8)] } }, by decide +kernel⟩,
    ⟨{ w0 with fus := { w0.fus with lcRaw := 0 } }, by decide +kernel⟩,
    ⟨0, 11, by decide +kernel⟩,
    ⟨w0, by decide +kernel⟩,
    ⟨4, 5, w0, by decide +kernel⟩⟩

end Sys2Proof.Tests
end

section
/-!
The register port: what an access of the management bank does, said once for each kind of access (00 R17 to R19, 02 R72, 03 R98), and
the statement O54 from these rules.
-/
namespace Sys2Proof.Machine

/-- RP is answered in the run condition and in SAFE (R50, R98). -/
theorem alive_iff (s : State) : alive s = true ↔ s.su.cond = .run ∨ s.su.cond = .safe := by
  simp [alive]

theorem exec_registerWrite (o : Nat) (w : W32) (s : State) : exec (.registerWrite o w) s = .next (regWrite s o w) := rfl
theorem exec_unoccupiedAccess (wr : Bool) (o : Nat) (s : State) :
    exec (.unoccupiedAccess wr o) s = execUnoccupiedAccess wr o s := rfl
theorem exec_rpTimeout (s : State) : exec .rpTimeout s = execRpTimeout s := rfl

/-- The report of a NOTE arrives at the Snag unit, whatever else is queued there (R402, R403). -/
theorem note_mem_inbox (s : State) (code unit : Nat) (d : Option W32) :
    ∃ r ∈ (note s code unit d).snag.inbox, r.code = code ∧ r.unit = unit ∧ r.cls = .note ∧ r.stamp = s.tb.count :=
  ⟨_, mem_insRep _ _, rfl, rfl, rfl, rfl⟩

/-! ## Writes of the bank -/

/-- A register the first READY does not hold back is open throughout (R98). -/
theorem regOpen_of_early {o : Nat} (h : openEarly o = true) (s : State) : regOpen s o = true := by
  simp [regOpen, h]
theorem regOpen_of_ready {s : State} (h : s.su.readyEver = true) (o : Nat) : regOpen s o = true := by
  simp [regOpen, sinceReady, h]
theorem regOpen_eq_false {s : State} {o : Nat} (hr : s.su.readyEver = false) (he : openEarly o = false) : regOpen s o = false := by
  simp [regOpen, sinceReady, hr, he]

/-- A register that does not answer yet takes no write (R98). -/
theorem regWrite_closed {s : State} {o : Nat} (h : regOpen s o = false) (w : W32) : regWrite s o w = s := by
  simp [regWrite, h]
/-- A write where RP answers reaches the register that stands at its offset (R17). -/
theorem regWrite_occupied {s : State} {o : Nat} (ha : alive s = true) (ho : regOpen s o = true) (hp : (regPeek s o).isSome = true)
    (w : W32) : regWrite s o w = writeOccupied s o w := by
  simp [regWrite, ha, ho, Option.isNone_eq_false_iff.2 hp]
/-- A write of a register with RW or W1C fields does what those fields do (R17). -/
theorem writeOccupied_field {s t : State} {o : Nat} {w : W32} (h : writeField s o w = some t) : writeOccupied s o w = t := by
  simp [writeOccupied, h]
/-- The identity page answers from the start and is read-only (R17, R21, R98). -/
theorem regWrite_identity {s : State} (ha : alive s = true) {o : Nat} (ho : o ∈ [0, 4, 8]) (w : W32) : regWrite s o w = s := by
  simp only [List.mem_cons, List.not_mem_nil, or_false] at ho
  rcases ho with rfl | rfl | rfl <;> exact regWrite_occupied ha (regOpen_of_early rfl s) rfl w

/-- Of a field whose every bit is W1C, a write clears the bits written 1 (R17). -/
theorem w1c_full {n : Nat} (old : BitVec n) (w : W32) : w1c old (2 ^ n - 1) w.toNat = old &&& ~~~(w.setWidth n) := by
  have h : BitVec.ofNat n (w.toNat &&& (2 ^ n - 1)) = w.setWidth n := by
    apply BitVec.eq_of_toNat_eq
    simp [Nat.and_two_pow_sub_one_eq_mod]
  rw [w1c, h]

/-! ## Accesses to unoccupied offsets -/

/-- An access to an unoccupied offset: a read answers 0, a write does nothing, and from READY either is a NOTE (R19, R98). -/
theorem execUnoccupiedAccess_eq {s : State} {o : Nat} (ha : alive s = true) (hp : regPeek s o = none) (wr : Bool) :
    execUnoccupiedAccess wr o s = .next
      (if s.su.readyEver then note (if wr then s else rpData s 0) 0x01 0 else if wr then s else rpData s 0) := by
  simp [execUnoccupiedAccess, ha, hp, sinceReady]

/-- RP_TIMEOUT where no block answers (R72). -/
theorem execRpTimeout_of_not_alive {s : State} (h : alive s = false) :
    execRpTimeout s = .next { s with rp := { rdata := 0xFFFFFFFF, pulses := s.rp.pulses + 1 } } := by
  simp [execRpTimeout, h]

/-! ## O54 -/

/-- A write of a register with RW or W1C fields, where RP answers it. -/
theorem exec_registerWrite_field {s t : State} {o : Nat} {w : W32} (hc : s.su.cond = .run ∨ s.su.cond = .safe)
    (ho : regOpen s o = true) (hp : (regPeek s o).isSome = true) (hf : writeField s o w = some t) :
    exec (.registerWrite o w) s = .next t := by
  rw [exec_registerWrite, regWrite_occupied ((alive_iff s).2 hc) ho hp, writeOccupied_field hf]
/-- Settles O54: each access by the rule of its kind. -/
theorem registerPortAccesses : Obligations.RegisterPortAccesses := by
  unfold Obligations.RegisterPortAccesses
  refine ⟨fun w s hc => ?alert, fun w s hc => ⟨?mask, ?progAddr⟩, fun w s hc hr => ?qmask, fun w s hc => ?identity,
    fun o w s hr he => ?closed, fun o s hc hp => ?read, fun o s hc hp => ?write, fun s hrun hsafe => ?timeout⟩
  case alert =>
    rw [← w1c_full]
    exact exec_registerWrite_field hc (regOpen_of_early rfl s) rfl rfl
  case mask =>
    rw [← BitVec.ofNat_toNat]
    exact exec_registerWrite_field hc (regOpen_of_early rfl s) rfl rfl
  case progAddr => exact exec_registerWrite_field hc (regOpen_of_early rfl s) rfl rfl
  case qmask => exact exec_registerWrite_field hc (regOpen_of_ready hr _) rfl rfl
  case identity =>
    have ha : alive s = true := (alive_iff s).2 hc
    refine ⟨?_, ?_, ?_⟩ <;> rw [exec_registerWrite, regWrite_identity ha (by decide)]
  case closed => rw [exec_registerWrite, regWrite_closed (regOpen_eq_false hr he)]
  case read =>
    refine ⟨_, (exec_unoccupiedAccess _ _ _).trans (execUnoccupiedAccess_eq ((alive_iff s).2 hc) hp false), ?_⟩
    cases hr : s.su.readyEver
    · exact ⟨rfl, nofun, fun _ => rfl, rfl⟩
    · exact ⟨rfl, fun _ => note_mem_inbox (rpData s 0) 0x01 0 none, nofun, rfl⟩
  case write =>
    refine ⟨_, (exec_unoccupiedAccess _ _ _).trans (execUnoccupiedAccess_eq ((alive_iff s).2 hc) hp true), ?_⟩
    cases hr : s.su.readyEver
    · exact ⟨nofun, fun _ => rfl, rfl⟩
    · exact ⟨fun _ => note_mem_inbox s 0x01 0 none, nofun, rfl⟩
  case timeout =>
    have hdown : alive s = false := by simp [alive, hrun, hsafe]
    rw [exec_rpTimeout, execRpTimeout_of_not_alive hdown]

end Sys2Proof.Machine
end

section
/-!
Time: what a tick does, and the reset state. The statements O2 and O8.
-/
namespace Sys2Proof.Machine

/-- On an empty queue a step is a tick. -/
theorem step_idle {s : State} (h : s.pending = []) : step s = .next (tick s) := by
  simp [step, h]
/-- A time base that does not run stands still (R41). -/
theorem tick_stopped {s : State} (h : s.tb.running = false) : tick s = s := by
  simp [tick, h]
/-- With no correction under way a tick counts up by 1 (R28, R393). -/
theorem tickCount_of_no_slew {c : Csc} (h : c.slew = 0) (n : Nat) : tickCount c n = n + 1 := by
  simp [tickCount, slewNow, h]
/-- With no correction under way a tick moves nothing of the cascade but the distance from the last correction (R393). -/
theorem tickSlew_of_no_slew {c : Csc} (h : c.slew = 0) (n : Nat) : tickSlew c n = { c with slewCnt := min 1999 (c.slewCnt + 1) } := by
  simp [tickSlew, slewNow, h]
/-- A tick of a time base that runs with no correction under way. -/
theorem tick_of_no_slew {s : State} (hr : s.tb.running = true) (h : s.csc.slew = 0) :
    tick s = { s with
      tb := { s.tb with count := s.tb.count + 1 }
      csc := { s.csc with slewCnt := min 1999 (s.csc.slewCnt + 1) }
      snag := { s.snag with runNs := if s.pins.ready then s.snag.runNs + 1 else s.snag.runNs } } := by
  simp [tick, hr, tickCount_of_no_slew h, tickSlew_of_no_slew h]

/-- Settles O2: an idle step is a tick, and a tick without a correction moves the count, the correction counter and the hours. -/
theorem idleStepTicks : Obligations.IdleStepTicks := by
  unfold Obligations.IdleStepTicks
  refine ⟨fun s hq hr => ?stopped, fun s hq hr hs => ?running⟩
  case stopped => rw [step_idle hq, tick_stopped hr]
  case running =>
    rw [step_idle hq, tick_of_no_slew hr hs]
    exact ⟨_, rfl, rfl, hs, rfl⟩

/-- Settles O8: the reset state is one concrete state, and READY, the only premise, is low in it. -/
theorem resetIsSafeAndIdle : Obligations.ResetIsSafeAndIdle := by
  unfold Obligations.ResetIsSafeAndIdle
  refine ⟨rfl, rfl, rfl, rfl, rfl, rfl, rfl, rfl, rfl, rfl, rfl, rfl, rfl, rfl, fun hready => ?_⟩
  have hlow : State.reset.pins.ready = false := rfl
  exact absurd hready (by simp [hlow])

end Sys2Proof.Machine
end

section
/-!
Reports and conditions: where a report of the Snag unit is found, and access to a zone or a partition that has been changed.
-/
namespace Sys2Proof.Machine

/-- A report arrives at the Snag unit with its code, unit and class, stamped now (R399). -/
theorem report_mem_inbox (s : State) (code unit : Nat) (cls : Cls) (d : Option W32) (l : Bool) (c : Option CritRep) :
    ∃ r ∈ (report s code unit cls d l c).snag.inbox, r.code = code ∧ r.unit = unit ∧ r.cls = cls ∧ r.stamp = s.tb.count :=
  ⟨_, mem_insRep _ _, rfl, rfl, rfl, rfl⟩
/-- A report already on its way is not lost by another one (R403). -/
theorem mem_inbox_report {s : State} {r : FaultRep} (h : r ∈ s.snag.inbox) (code unit : Nat) (cls : Cls) (d : Option W32) (l : Bool)
    (c : Option CritRep) : r ∈ (report s code unit cls d l c).snag.inbox :=
  mem_insRep_of_mem _ _ _ h
/-- A condition that did not hold before is reported and stays asserted (R401). -/
theorem assertCond_of_not_mem {s : State} {code unit : Nat} (h : (code, unit) ∉ s.snag.conds) (cls : Cls) (l : Bool) (c : Option CritRep) :
    assertCond s code unit cls l c =
      { s with snag := { (report s code unit cls none l c).snag with conds := (code, unit) :: s.snag.conds } } := by
  rw [assertCond, if_neg (by simpa using h)]; rfl
/-- A new condition sends its report (R401). -/
theorem assertCond_mem_inbox {s : State} {code unit : Nat} (h : (code, unit) ∉ s.snag.conds) (cls : Cls) (l : Bool) (c : Option CritRep) :
    ∃ r ∈ (assertCond s code unit cls l c).snag.inbox, r.code = code ∧ r.unit = unit ∧ r.cls = cls ∧ r.stamp = s.tb.count := by
  rw [assertCond_of_not_mem h]
  exact report_mem_inbox s code unit cls none l c
/-- A condition that does not hold is not taken back (R404). -/
theorem deassertCond_of_not_mem {s : State} {code unit : Nat} (h : (code, unit) ∉ s.snag.conds) : deassertCond s code unit = s := by
  rw [deassertCond, if_neg (by simpa using h)]
/-- A condition taken back leaves the list of those that hold (R404). -/
theorem deassertCond_conds {s : State} {code unit : Nat} (h : (code, unit) ∈ s.snag.conds) :
    (deassertCond s code unit).snag.conds = s.snag.conds.erase (code, unit) := by
  rw [deassertCond, if_pos (by simpa using h)]

/-- A condition that begins, ends or follows a Boolean changes the Snag unit only (R401, R404). -/
theorem assertCond_eq (s : State) (code unit : Nat) (cls : Cls) (l : Bool) (c : Option CritRep) :
    ∃ n, assertCond s code unit cls l c = { s with snag := n } := by
  unfold assertCond; split <;> exact ⟨_, rfl⟩
theorem deassertCond_eq (s : State) (code unit : Nat) : ∃ n, deassertCond s code unit = { s with snag := n } := by
  unfold deassertCond; split <;> exact ⟨_, rfl⟩
theorem setCond_eq (s : State) (b : Bool) (code unit : Nat) (cls : Cls) : ∃ n, setCond s b code unit cls = { s with snag := n } := by
  unfold setCond
  split
  · exact assertCond_eq _ _ _ _ _ _
  · exact deassertCond_eq _ _ _

/-- Zone z as a change of it leaves it. -/
theorem zoneD_modZone {s : State} {z : Nat} (h : z < s.zones.length) (f : Zone → Zone) : zoneD (modZone s z f) z = f (zoneD s z) := by
  simp [zoneD, modZone, List.getD_eq_getElem?_getD, h]
/-- Partition p as a change of it leaves it. -/
theorem partD_modPart {s : State} {p : Nat} (h : p < s.tb.parts.length) (f : Part → Part) : partD (modPart s p f) p = f (partD s p) := by
  simp [partD, modPart, List.getD_eq_getElem?_getD, h]

end Sys2Proof.Machine
end

section
/-!
Float updates at the grid: overruns, leases and limit updates. The statement O17.
-/
namespace Sys2Proof.Machine

/-- What an update overrun leaves of a Float: no command is sent, the flag is set, the count since READY and the sample are kept (R30). -/
def Zone.overrun (since : Bool) (k : Nat) (zn : Zone) : Zone :=
  { zn with law := { zn.law with cmds := [] }, status := zn.status ||| 1, overrunAt := some k
            overruns := if since then satInc 0xFFFF zn.overruns else zn.overruns }
/-- UPDATE_OVERRUN at a Float on the grid: DEGRADE where the one before is at most 1,024 samples old, else a NOTE (R30). -/
theorem execUpdateOverrun_eq {s : State} {z : Nat} (hrun : s.su.cond = .run) (hz : z < s.zones.length) (hgrid : s.su.grid = true) :
    execUpdateOverrun z s = .next (report (modZone s z (Zone.overrun s.su.readyEver (s.tb.count / 64 * 64))) 0x10 z
      (if ∃ j ∈ (zoneD s z).overrunAt, s.tb.count / 64 * 64 < j + 65536 then .degrade else .note)) := by
  have hact : (!running s || !hasZone s z || !s.su.grid) = false := by simp [running, hasZone, hrun, hz, hgrid]
  simp only [execUpdateOverrun, hact]
  cases h : (zoneD s z).overrunAt <;> simp [now, floorTo] <;> rfl
/-- LEASE_EXPIRY of a Float whose lease has run for 3 ms (R47). -/
theorem execLeaseExpiry_due {s : State} {z : Nat} (hrun : s.su.cond = .run) (hz : z < s.zones.length) (hgrid : s.su.grid = true)
    (hheld : (zoneD s z).leaseLost = false) (hdue : (zoneD s z).leaseAt + 3000000 ≤ s.tb.count) :
    execLeaseExpiry z s = .next (assertCond (modZone s z fun zn => { zn with
      leaseLost := true, status := zn.status ||| 2
      leaseExpiries := if s.su.readyEver then satInc 0xFFFF zn.leaseExpiries else zn.leaseExpiries }) 0x11 z .degrade) :=
  if_pos (by simp [running, hasZone, now, hrun, hz, hgrid, hheld, hdue])
/-- LIMIT_UPDATE where one is on its way to the Float (R47, R163). -/
theorem execLimitUpdate_due {s : State} {z : Nat} {l : Limit} (h : (s.caps.out.find? fun x => x.1 = z) = some (z, l)) :
    execLimitUpdate z s = .next (deassertCond { modZone s z (fun zn => { zn with lim := l, leaseAt := s.tb.count, leaseLost := false }) with
      caps := { s.caps with out := s.caps.out.filter fun x => x.1 ≠ z } } 0x11 z) := by
  simp only [execLimitUpdate, h]; rfl

/-- Settles O17: each command by its equation where it acts. -/
theorem overrunLeaseAndLimitUpdates : Obligations.OverrunLeaseAndLimitUpdates := by
  unfold Obligations.OverrunLeaseAndLimitUpdates
  refine ⟨fun z s hrun hz hgrid hfirst => ?first, fun z j s hrun hz hgrid hj => ?again,
    fun z s hrun hz hgrid hheld hdue => ?lease, fun z l s hout => ?limit⟩
  case first =>
    show execUpdateOverrun z s = _
    rw [execUpdateOverrun_eq hrun hz hgrid, hfirst, if_neg (by simp)]
    rfl
  case again =>
    refine ⟨_, execUpdateOverrun_eq hrun hz hgrid, ?_, ?_, ?_, rfl⟩
    · show (zoneD (modZone s z _) z).law.cmds = []
      rw [zoneD_modZone hz]; rfl
    · show (zoneD (modZone s z _) z).tiles = _
      rw [zoneD_modZone hz]; rfl
    · obtain ⟨r, hr, hcode, hunit, hcls, hstamp⟩ := report_mem_inbox (modZone s z (Zone.overrun s.su.readyEver (s.tb.count / 64 * 64))) 0x10 z
        (if ∃ j ∈ (zoneD s z).overrunAt, s.tb.count / 64 * 64 < j + 65536 then .degrade else .note) none false none
      exact ⟨r, hr, hcode, hunit, hstamp, by simpa [hj] using hcls⟩
  case lease => exact execLeaseExpiry_due hrun hz hgrid hheld hdue
  case limit => exact execLimitUpdate_due hout

end Sys2Proof.Machine
end

section
/-!
Forecasts: rounds, arrival, expiry and absence. The statement O19.
-/
namespace Sys2Proof.Machine

/-- The packets of an evaluation are stamped with the start of its round (R227). -/
theorem evalZone_pkt_s {s : State} {z t : Nat} {p : FcPkt} (h : (evalZone s z t).pkt = some p) : p.s = t := by
  unfold evalZone at h
  dsimp only at h
  split at h
  · cases h; rfl
  · split at h
    · cases h
    · cases h; rfl
/-- A round of a running engine at a multiple of 256 TBT: the packets of every zone's evaluation and the FPV word (R33). -/
theorem execForecastRound_due {s : State} (hrun : s.fce.running = true) (ht : s.tb.count % 256 = 0) :
    ∃ f : Fce, execForecastRound s = .next { s with fce := f } ∧
      f.out = ((List.range s.zones.length).map (evalZone s · s.tb.count)).filterMap (·.pkt) ∧ ∃ w, f.fpv = some (s.tb.count, w) := by
  have hact : ¬ (!s.fce.running || now s % 256 ≠ 0) := by simp [now, hrun, ht]
  exact ⟨_, if_neg hact, rfl, _, rfl⟩

/-- A pair of packets that reaches its Float is the forecast in force (R228). -/
theorem execForecastPacketRx_due {s : State} {z : Nat} {p : FcPkt} (h : (s.fce.out.find? fun x => x.zone = z) = some p) :
    execForecastPacketRx z s = .next (absenceOver { modZone s z (fun zn => { zn with fc := some (Fcst.ofPkt p s.tb.count), absentAt := none }) with
      fce := { s.fce with out := s.fce.out.filter fun x => x.zone ≠ z } }) := by
  rw [execForecastPacketRx, h]; rfl

/-- The references of the module stage move, its state does not (R195). -/
theorem refTo_st (m : Msf) (k : Nat) : (m.refTo k).st = m.st := by
  unfold Msf.refTo; split <;> rfl

/-- An absence condition ends when no receiver is without forecasts, and only then (R48, R401). -/
theorem absenceOver_of_holds {s : State} (h : anyAbsent s = true ∨ s.fce.absentDeg = false) : absenceOver s = s :=
  if_neg (by rcases h with h | h <;> simp [h])
theorem absenceOver_of_ends {s : State} (h : anyAbsent s = false) (hd : s.fce.absentDeg = true) :
    absenceOver s = deassertCond { s with fce := { s.fce with absentDeg := false } } 0x0B 0 :=
  if_pos (by simp [h, hd])

/-- The start of an absence sets ABSENT_SEEN and touches the Snag unit besides (R229). -/
theorem absenceStart_eq (before : Bool) (s : State) :
    ∃ n : Snag, absenceStart before s = { s with fce := { s.fce with status := s.fce.status ||| 2 }, snag := n } := by
  unfold absenceStart
  split <;> exact ⟨_, rfl⟩
/-- The first receiver without forecasts is a NOTE (R48). -/
theorem absenceStart_mem_inbox (s : State) :
    ∃ r ∈ (absenceStart false s).snag.inbox, r.code = 0x0B ∧ r.cls = .note ∧ r.stamp = s.tb.count := by
  obtain ⟨r, hr, hcode, -, hcls, hstamp⟩ := note_mem_inbox { s with fce := { s.fce with status := s.fce.status ||| 2 } } 0x0B 0 none
  exact ⟨r, hr, hcode, hcls, hstamp⟩

/-- A Float's forecast lapses 1,024 ns after its arrival (R229). -/
theorem execForecastExpiry_float {s : State} {z : Nat} {f : Fcst} (hf : (zoneD s z).fc = some f) (hdue : f.at_ + 1024 ≤ s.tb.count) :
    execForecastExpiry (some z) s = .next (absenceStart (anyAbsent s) (modZone s z fun zn => { zn with fc := none, absentAt := some s.tb.count })) := by
  simp only [execForecastExpiry, hf]
  exact if_pos hdue
/-- The module stage's forecast lapses 1,024 ns after its arrival (R229). -/
theorem execForecastExpiry_msf {s : State} {a b c d k : Nat} (hf : s.msf.fv = some (a, b, c, d, k)) (hdue : k + 1024 ≤ s.tb.count) :
    execForecastExpiry none s = .next (absenceStart (anyAbsent s)
      { s with msf := { s.msf.refTo s.tb.count with fv := none, absentAt := some s.tb.count } }) := by
  simp only [execForecastExpiry, hf]
  exact if_pos hdue

/-- An absence of 1 ms is a DEGRADE condition (R48, R401). -/
theorem execForecastAbsentDegrade_due {s : State} (hlong : absentLong s = true) (hdeg : s.fce.absentDeg = false) :
    execForecastAbsentDegrade s = .next (assertCond { s with fce := { s.fce with absentDeg := true } } 0x0B 0 .degrade) :=
  if_pos (by simp [hlong, hdeg])
theorem absentLong_of_msf {s : State} {k : Nat} (h : s.msf.absentAt = some k) (hdue : k + 1000000 ≤ s.tb.count) : absentLong s = true := by
  simp [absentLong, h, now, hdue]
theorem absentLong_of_zone {s : State} {z k : Nat} (hz : z < s.zones.length) (h : (zoneD s z).absentAt = some k)
    (hdue : k + 1000000 ≤ s.tb.count) : absentLong s = true := by
  have hmem : zoneD s z ∈ s.zones := by
    simp [zoneD, List.getD_eq_getElem?_getD, hz]
  have hany : (s.zones.any fun zn => match zn.absentAt with
      | some t => decide (t + 1000000 ≤ now s)
      | none => false) = true :=
    List.any_eq_true.2 ⟨_, hmem, by rw [h]; exact decide_eq_true hdue⟩
  exact Bool.or_eq_true_iff.2 (.inr hany)

/-- Settles O19: each command by its equation where it acts. -/
theorem forecastRoundAndArrival : Obligations.ForecastRoundAndArrival := by
  unfold Obligations.ForecastRoundAndArrival
  refine ⟨fun s hrun ht => ?round, fun z p s h => execForecastPacketRx_due h, fun p k => ?packet, fun a w s h => ?fpv,
    fun s => absenceOver_of_holds, fun s => absenceOver_of_ends, fun z f s hf hdue => ?float, fun a b c d k s hf hdue => ?msf,
    fun k s hk hdue hdeg => execForecastAbsentDegrade_due (absentLong_of_msf hk hdue) hdeg,
    fun z k s hz hk hdue hdeg => execForecastAbsentDegrade_due (absentLong_of_zone hz hk hdue) hdeg⟩
  case round =>
    obtain ⟨f, heq, hout, hfpv⟩ := execForecastRound_due hrun ht
    refine ⟨_, heq, hout, fun p hp => ?_, hfpv, rfl⟩
    obtain ⟨e, he, hpe⟩ := List.mem_filterMap.1 (hout ▸ hp)
    obtain ⟨z, -, rfl⟩ := List.mem_map.1 he
    exact evalZone_pkt_s hpe
  case packet =>
    exact ⟨rfl, rfl, rfl, rfl, rfl, rfl, rfl, rfl, by simp [Fcst.ofPkt, bitsOf], rfl, rfl, rfl⟩
  case fpv =>
    show execFpvRx s = _
    simp only [execFpvRx, h, refTo_st]
    rfl
  case float =>
    obtain ⟨n, hn⟩ := absenceStart_eq (anyAbsent s) (modZone s z fun zn => { zn with fc := none, absentAt := some s.tb.count })
    refine ⟨_, execForecastExpiry_float hf hdue, ?_, ?_, fun hnone => ?_, ?_⟩
    · rw [hn]; rfl
    · rw [hn]; rfl
    · rw [hnone]; exact absenceStart_mem_inbox _
    · rw [hn]; rfl
  case msf =>
    obtain ⟨n, hn⟩ := absenceStart_eq (anyAbsent s) { s with msf := { s.msf.refTo s.tb.count with fv := none, absentAt := some s.tb.count } }
    refine ⟨_, execForecastExpiry_msf hf hdue, ?_, ?_, ?_⟩ <;> rw [hn]

end Sys2Proof.Machine
end

section
/-!
Context fetches, step clocks, and the ends of claims, leases and suspensions. The statement O38.
-/
namespace Sys2Proof.Machine

/-! ## The directory -/

/-- An entry is that of its PCX. -/
theorem entry_no (x : PcxStore) (n : Nat) : (x.entry n).no = n := by
  unfold PcxStore.entry
  split
  · rfl
  · cases h : x.dir.find? fun e => e.no = n with
    | none => rfl
    | some e => simpa using List.find?_some h
/-- A directory that is lost shows no generation (R248). -/
theorem entry_gens_of_dead {x : PcxStore} (h : x.dead = true) (n : Nat) : (x.entry n).gens = [] := by
  simp [PcxStore.entry, h]
/-- The entry put is the one found, where it holds a generation; an entry without one is no entry (R250). -/
theorem gens_entry_put (x : PcxStore) (e : Pcx) (h : x.dead = false) : ((x.put e).entry e.no).gens = e.gens := by
  have hentry : ((x.put e).entry e.no).gens = (((x.put e).dir.find? fun y => y.no = e.no).getD { no := e.no }).gens := by
    rw [PcxStore.entry, if_neg (by simp [PcxStore.put, h])]
  have hdir : (x.put e).dir = if e.gens.isEmpty then x.dir.filter fun y => y.no ≠ e.no else e :: x.dir.filter fun y => y.no ≠ e.no := rfl
  rw [hentry, hdir]
  split
  · have hnone : (x.dir.filter fun y => y.no ≠ e.no).find? (fun y => y.no = e.no) = none := by simp
    rw [hnone]
    simp_all
  · simp
/-- A generation removed from its entry is found no more. -/
theorem gens_entry_remove (x : PcxStore) (n gen : Nat) :
    ∀ g ∈ ((x.put { x.entry n with gens := (x.entry n).gens.filter fun g => g.no ≠ gen }).entry n).gens, g.no ≠ gen := by
  intro g hg
  cases h : x.dead
  · have hput := gens_entry_put x { x.entry n with gens := (x.entry n).gens.filter fun g => g.no ≠ gen } h
    rw [show ({ x.entry n with gens := (x.entry n).gens.filter fun g => g.no ≠ gen } : Pcx).no = n from entry_no x n] at hput
    rw [hput] at hg
    simpa using (List.mem_filter.1 hg).2
  · rw [entry_gens_of_dead (show (x.put _).dead = true from h)] at hg
    cases hg

/-! ## Context fetches (R34, R248) -/

/-- The record r of a partition has been fetched, with its context or without. -/
def NamingRec.fetched (r : NamingRec) (bad : Bool) (k : Nat) (x : NamingRec) : NamingRec :=
  if x.at_ = r.at_ && x.sid = r.sid && x.queue = r.queue then { (if bad then x.lost else x) with fetchedAt := some (x.fetchedAt.getD k) } else x
/-- A partition after a fetch of record r. -/
def Part.fetched (r : NamingRec) (bad : Bool) (k : Nat) (p : Part) : Part :=
  { p with recs := p.recs.map (r.fetched bad k), stepRec := p.stepRec.map (r.fetched bad k)
           marks := p.marks.map fun m => { m with src := r.fetched bad k m.src } }
/-- The context store without the generation that record r names; the error is seen (R34). -/
def PcxStore.lose (x : PcxStore) (r : NamingRec) : PcxStore :=
  let y : PcxStore := { x with pool := x.pool.filter fun i => !((x.entry r.pcx).gens.any fun g => g.no = r.gen && g.pool = some i) }
  (y.put { x.entry r.pcx with gens := (x.entry r.pcx).gens.filter fun g => g.no ≠ r.gen }).seen 4
/-- The generation lost is not found again. -/
theorem lose_removes (x : PcxStore) (r : NamingRec) : ∀ g ∈ ((x.lose r).entry r.pcx).gens, g.no ≠ r.gen :=
  gens_entry_remove { x with pool := x.pool.filter fun i => !((x.entry r.pcx).gens.any fun g => g.no = r.gen && g.pool = some i) } r.pcx r.gen
/-- CONTEXT_FETCH_DONE of a record that waits: the fetch succeeds (R248). -/
theorem execContextFetchDone_ok {s : State} {p : Nat} {r : NamingRec} (h : ((partD s p).recs.reverse.find? fun x => x.fetchedAt.isNone) = some r) :
    execContextFetchDone p false false s = .next (modPart s p (Part.fetched r false s.tb.count)) := by
  rw [execContextFetchDone, h]; rfl
/-- CONTEXT_FETCH_DONE of a record that waits: its context cannot be corrected (R34). -/
theorem execContextFetchDone_lost {s : State} {p : Nat} {r : NamingRec} (h : ((partD s p).recs.reverse.find? fun x => x.fetchedAt.isNone) = some r) :
    execContextFetchDone p true false s =
      .next (note { modPart s p (Part.fetched r true s.tb.count) with pcx := s.pcx.lose r } 0x0C 0) := by
  rw [execContextFetchDone, h]; rfl
/-- CONTEXT_FETCH_DONE of a record that waits: the directory cannot be corrected (R34). -/
theorem execContextFetchDone_dead {s : State} {p : Nat} {r : NamingRec} (h : ((partD s p).recs.reverse.find? fun x => x.fetchedAt.isNone) = some r) :
    execContextFetchDone p false true s =
      .next (assertCond { modPart s p (Part.fetched r true s.tb.count) with pcx := { s.pcx with dead := true }.seen 4 } 0x0D 0 .degrade) := by
  rw [execContextFetchDone, h]; rfl

/-! ## Step clocks (R43, R44) -/

/-- Learning at the end of a step leaves a partition's clock alone. -/
theorem contextLearn_part (s : State) (p gap q : Nat) :
    (partD (contextLearn s p gap) q).epoch = (partD s q).epoch ∧ (partD (contextLearn s p gap) q).marks.length = (partD s q).marks.length := by
  unfold contextLearn
  dsimp only
  split
  · exact ⟨rfl, rfl⟩
  · simp only [partD, List.getD_eq_getElem?_getD, List.getElem?_map]
    cases s.tb.parts[q]? <;> simp
/-- Learning changes the partitions' records, the context store and what a missed deadline gives back. -/
theorem contextLearn_frame (s : State) (p gap : Nat) :
    { contextLearn s p gap with tb := s.tb, pcx := s.pcx, cores := s.cores } = s ∧ (contextLearn s p gap).tb.count = s.tb.count ∧
      (contextLearn s p gap).tb.parts.length = s.tb.parts.length := by
  unfold contextLearn
  dsimp only
  split <;> simp
/-- The interval between two step starts is counted while the cadence lasts: four periods (R44). -/
theorem start_of_cadence {p : Part} {l t : Nat} (hl : p.lastStart = some l) (hc : ¬(p.cadence = true ∧ l + 4 * p.period ≤ t)) (r : NamingRec) :
    (p.start t r).intervals = ((t - l) :: p.intervals).take 8 ∧ (p.start t r).cadence = true ∧
      (p.start t r).period = sumN (((t - l) :: p.intervals).take 8) / (((t - l) :: p.intervals).take 8).length := by
  have hkeep : (p.cadence && decide (l + 4 * p.period ≤ t)) = false := by simpa using hc
  simp [Part.start, hl, hkeep]
/-- The state at a step mark before the mark is taken: pair 1, where it runs, has learned the step that ends (R38, R258). -/
def stepEnd (s : State) (p at_ : Nat) : State :=
  match (partD s p).stepRec, (partD s p).epochLog with
  | some _, (t, _) :: _ => if s.cores.run1 then contextLearn s p (at_ - t) else s
  | _, _ => s
/-- STEP_MARK_TAKEN of a mark that has been reached (R43, R246). -/
theorem execStepMarkTaken_due {s : State} {p : Nat} {m : Mark} {ms : List Mark} (hm : (partD s p).marks = m :: ms) (hdue : m.at_ ≤ s.tb.count) :
    execStepMarkTaken p s = .next (mapZones (modPart (stepEnd s p m.at_) p fun x => x.start m.at_ ((x.marks.head?.map (·.src)).getD m.src))
      fun _ zn => if zn.cfg.partition = p then zn.learnReset else zn) := by
  simp only [execStepMarkTaken, hm]
  exact if_neg (Nat.not_lt.2 hdue)
/-- What learning at a step's end leaves alone. -/
theorem stepEnd_frame (s : State) (p k : Nat) :
    (partD (stepEnd s p k) p).epoch = (partD s p).epoch ∧ (partD (stepEnd s p k) p).marks.length = (partD s p).marks.length ∧
      (stepEnd s p k).tb.count = s.tb.count ∧ (stepEnd s p k).tb.parts.length = s.tb.parts.length ∧
      { stepEnd s p k with tb := s.tb, pcx := s.pcx, cores := s.cores } = s := by
  have hlearn (gap : Nat) := contextLearn_part s p gap p
  have hframe (gap : Nat) := contextLearn_frame s p gap
  unfold stepEnd
  split
  · split
    · exact ⟨(hlearn _).1, (hlearn _).2, (hframe _).2.1, (hframe _).2.2, (hframe _).1⟩
    · exact ⟨rfl, rfl, rfl, rfl, rfl⟩
  · exact ⟨rfl, rfl, rfl, rfl, rfl⟩

/-- The present instant, under the name that the model's comparisons use. -/
theorem count_eq_now (s : State) : s.tb.count = now s := rfl
/-- What stays when the elements that satisfy a test go. -/
theorem mem_filter_not {α : Type} {p : α → Bool} {l : List α} {x : α} : x ∈ l.filter (fun y => !p y) ↔ x ∈ l ∧ ¬(p x = true) := by
  simp

/-! ## Ends of claims, leases and suspensions (R249, R252, R264) -/

/-- A change of the claims' expiry leaves the leases alone. -/
theorem foldl_setExpiry_leases (e : PcxStore → Option Nat) (ls : List Lease) (x : PcxStore) :
    (ls.foldl (fun x l => x.setExpiry l (e x)) x).leases = x.leases := by
  induction ls generalizing x with
  | nil => rfl
  | cons l ls ih => rw [List.foldl_cons, ih]; rfl
/-- The leases that a discard leaves: those that are not suspended leases of the queue, or that it does not name (R264). -/
theorem discard_leases (x : PcxStore) (q k : Nat) (drop : Lease → Bool) :
    (x.discard q k drop).leases = x.leases.filter fun l => !(l.queue = q && l.susp.isSome && drop l) := by
  show List.filter _ (List.foldl _ x _).leases = _
  rw [foldl_setExpiry_leases fun x => some (k + x.claimMax)]

/-- A sum of naturals, folded from either end. -/
theorem sumN_eq_foldr (l : List Nat) : sumN l = l.foldr (· + ·) 0 := by
  rw [sumN, List.foldl_eq_foldr]

/-- Settles O38: each command by its equation where it acts, and the ends by the filter they are. -/
theorem contextFetchStepsAndExpiries : Obligations.ContextFetchStepsAndExpiries := by
  unfold Obligations.ContextFetchStepsAndExpiries
  refine ⟨fun p r s hp hr => ?fetched, fun p r s hp hr => ?lost, fun p r s hp hr hnew => ?dead, fun p m ms s hp hm hdue => ?mark,
    fun p t l r hl hc => ?period, fun p l s hp hl hc hdue => ?cadence, fun q sid s => ⟨_, rfl, fun c => ?claims, rfl⟩,
    fun q sid s => ⟨_, rfl, fun l => ?leases, rfl⟩, fun q s => ⟨_, rfl, fun l => ?suspended, rfl⟩⟩
  case fetched =>
    refine ⟨_, execContextFetchDone_ok hr, ?_, ?_, ?_, rfl⟩ <;> rw [partD_modPart hp]
    · simp only [Part.fetched]
      refine List.map_congr_left fun x _ => ?_
      simp [NamingRec.fetched, and_assoc]
    · rfl
    · exact List.length_map _
  case lost =>
    refine ⟨_, execContextFetchDone_lost hr, lose_removes s.pcx r, ?_, rfl, rfl⟩
    obtain ⟨x, hx, hcode, -, hcls, hstamp⟩ :=
      note_mem_inbox { modPart s p (Part.fetched r true s.tb.count) with pcx := s.pcx.lose r } 0x0C 0 none
    exact ⟨x, hx, hcode, hcls, hstamp⟩
  case dead =>
    have hassert := assertCond_frame { modPart s p (Part.fetched r true s.tb.count) with pcx := { s.pcx with dead := true }.seen 4 } 0x0D 0 .degrade false none
    obtain ⟨x, hx, hcode, -, hcls, hstamp⟩ :=
      assertCond_mem_inbox (s := { modPart s p (Part.fetched r true s.tb.count) with pcx := { s.pcx with dead := true }.seen 4 }) hnew .degrade false none
    refine ⟨_, execContextFetchDone_dead hr, ?_, fun n => entry_gens_of_dead ?_ n, assertCond_conds _ _ _ _ _ _, ⟨x, hx, hcode, hcls, hstamp⟩, ?_⟩
    · exact congrArg (·.pcx.dead) hassert
    · exact congrArg (·.pcx.dead) hassert
    · exact congrArg (·.zones) hassert
  case mark =>
    obtain ⟨hepoch, hmarks, hcount, hparts, hframe⟩ := stepEnd_frame s p m.at_
    have hp' : p < (stepEnd s p m.at_).tb.parts.length := hparts ▸ hp
    refine ⟨_, execStepMarkTaken_due hm hdue, ?_, ?_, ?_, hcount, ?_, ?_, ?_⟩
    · show (partD (modPart _ p _) p).epoch = _
      rw [partD_modPart hp', ← hepoch]; rfl
    · show (partD (modPart _ p _) p).lastStart = _
      rw [partD_modPart hp']; rfl
    · show (partD (modPart _ p _) p).marks.length = _
      rw [partD_modPart hp']
      show ((partD (stepEnd s p m.at_) p).marks.drop 1).length = _
      rw [List.length_drop, hmarks, hm]; rfl
    · show ((stepEnd s p m.at_).zones.mapIdx _).length = _
      rw [List.length_mapIdx]
      exact congrArg (·.zones.length) hframe
    · exact congrArg (·.snag) hframe
    · exact congrArg (·.pins) hframe
  case period =>
    obtain ⟨-, hcad, hper⟩ := start_of_cadence hl hc r
    exact ⟨by rw [hper, sumN_eq_foldr], hcad, rfl⟩
  case cadence =>
    show execCadenceLost p s = _
    simp only [execCadenceLost, hl]
    exact if_pos (by simp [hc, now, hdue])
  case claims =>
    refine mem_filter_not.trans (and_congr_right' (not_congr ?_))
    cases c.expiry <;> simp [and_assoc, count_eq_now]
  case leases =>
    refine mem_filter_not.trans (and_congr_right' (not_congr ?_))
    simp [and_assoc, count_eq_now]
  case suspended =>
    rw [discard_leases]
    refine mem_filter_not.trans (and_congr_right' (not_congr ?_))
    rcases l.susp with _ | ⟨a, b⟩ <;> simp [count_eq_now]

end Sys2Proof.Machine
end

section
/-!
Holdover and the lockstep pairs. The statement O44.
-/
namespace Sys2Proof.Machine

/-- The block is alive in a start (R50). -/
theorem alive_of_run {s : State} (h : s.su.cond = .run) : alive s = true := (alive_iff s).2 (.inl h)

/-- A report of a code, unit and class, stamped `k`, is on its way to the Snag unit (R399). -/
def Reported (s : State) (code unit : Nat) (cls : Cls) (k : Nat) : Prop :=
  ∃ r ∈ s.snag.inbox, r.code = code ∧ r.unit = unit ∧ r.cls = cls ∧ r.stamp = k
/-- Another report loses none (R403). -/
theorem Reported.report {s : State} {code unit k : Nat} {cls : Cls} (h : Reported s code unit cls k) (code' unit' : Nat) (cls' : Cls)
    (d : Option W32) (l : Bool) (c : Option CritRep) : Reported (report s code' unit' cls' d l c) code unit cls k := by
  obtain ⟨r, hr, hrest⟩ := h
  exact ⟨r, mem_inbox_report hr _ _ _ _ _ _, hrest⟩
/-- A condition that begins or ends moves only last assertions (R401, R404). -/
theorem Reported.setCond {s : State} {code unit k : Nat} {cls : Cls} (h : Reported s code unit cls k) (b : Bool) (code' unit' : Nat) (cls' : Cls) :
    Reported (setCond s b code' unit' cls') code unit cls k := by
  unfold Machine.setCond
  split
  · unfold assertCond
    split
    · exact h
    · exact h.report _ _ _ _ _ _
  · unfold deassertCond
    split
    · obtain ⟨r, hr, hcode, hunit, hcls, hk⟩ := h
      refine ⟨_, List.mem_map_of_mem hr, ?_⟩
      split <;> exact ⟨hcode, hunit, hcls, hk⟩
    · exact h

/-! ## Time base (R45) -/

/-- The state after REFCLK is lost, before the condition is reported (R45). -/
def holdoverFrom (s : State) : State :=
  { s with tb := { s.tb with lock := false, holdover := true, holdoverSeen := true, holdoverAt := s.tb.count } }
/-- The state after REFCLK has returned, before the condition ends (R45). -/
def relocked (s : State) : State := { s with tb := { s.tb with lock := true, holdover := false } }
/-- REFCLK_LOST while the time base runs outside holdover. -/
theorem execRefclkLost_of_run {s : State} (hc : s.su.cond = .run) (hr : s.tb.running = true) (hh : s.tb.holdover = false) :
    execRefclkLost s = .next (assertCond (holdoverFrom s) 0x08 0 .degrade) :=
  if_pos (by simp [alive_of_run hc, hr, hh])
/-- HOLDOVER_TIMEOUT acts in holdover once 10 ms have passed. -/
theorem execHoldoverTimeout_due {s : State} (hc : s.su.cond = .run) (hh : s.tb.holdover = true) (hk : s.tb.holdoverAt + 10000000 ≤ s.tb.count) :
    execHoldoverTimeout s = .next (report s 0x08 0 .instSafe) :=
  if_pos (by simp [alive_of_run hc, hh, now, hk])
theorem execHoldoverTimeout_early {s : State} (hk : s.tb.count < s.tb.holdoverAt + 10000000) : execHoldoverTimeout s = .next s :=
  if_neg (by simp [now, Nat.not_le.2 hk])
/-- REFCLK_RETURN in holdover. -/
theorem execRefclkReturn_of_run {s : State} (hc : s.su.cond = .run) (hh : s.tb.holdover = true) :
    execRefclkReturn s = .next (deassertCond (relocked s) 0x08 0) :=
  if_pos (by simp [alive_of_run hc, hh])

/-! ## Deadlines (R39) -/

/-- An abandoned run of a task other than the calibration gives back settings of pair 0, working copies of pair 1 or the batch of the log. -/
theorem dropRun_eq (s : State) {task : Task} (h : task ≠ .calibration) :
    ∃ caps thm fce pcx nvm, dropRun s task = { s with caps := caps, thm := thm, fce := fce, pcx := pcx, nvm := nvm } := by
  cases task with
  | currentCap => simp only [dropRun, dropCap]; split <;> exact ⟨_, _, _, _, _, rfl⟩
  | powerCap => simp only [dropRun, dropPower]; split <;> exact ⟨_, _, _, _, _, rfl⟩
  | energyThermal => simp only [dropRun, dropTherm, sendLevel]; split <;> (try split) <;> exact ⟨_, _, _, _, _, rfl⟩
  | group => simp only [dropRun, dropGroups]; split <;> exact ⟨_, _, _, _, _, rfl⟩
  | adaptation => simp only [dropRun, dropAdapt]; split <;> (try split) <;> exact ⟨_, _, _, _, _, rfl⟩
  | learning => simp only [dropRun, dropLearn]; split <;> exact ⟨_, _, _, _, _, rfl⟩
  | housekeeping => exact ⟨_, _, _, _, _, rfl⟩
  | calibration => exact absurd rfl h
/-- A calibration given up, where one had run: KCAL and what goes with it, and the condition 0x39 as it stood (R39). -/
theorem dropCal_eq {s : State} {k r : Nat} {u : Bool} {a b : Option Nat} (h : s.cores.undo.cal = some (k, u, r, a, b)) :
    dropCal s = setCond { s with caps := { s.caps with kcal := k, uncal := u, rejects := r, calAt := a, calAcc := b, kcalNext := none } }
      u 0x39 0 .degrade := by
  rw [dropCal, h]
theorem dropCal_caps {s : State} {k r : Nat} {u : Bool} {a b : Option Nat} (h : s.cores.undo.cal = some (k, u, r, a, b)) :
    (dropCal s).caps = { s.caps with kcal := k, uncal := u, rejects := r, calAt := a, calAcc := b, kcalNext := none } := by
  obtain ⟨n, hn⟩ := setCond_eq { s with caps := { s.caps with kcal := k, uncal := u, rejects := r, calAt := a, calAcc := b, kcalNext := none } }
    u 0x39 0 .degrade
  rw [dropCal_eq h, hn]
/-- A current-cap run given up changes the cap loop's settings only. -/
theorem dropCap_eq (s : State) : ∃ caps, dropCap s = { s with caps := caps } := by
  unfold dropCap
  split <;> exact ⟨_, rfl⟩
/-- What any abandoned run may give back. -/
theorem dropRun_frame (s : State) (task : Task) :
    ∃ caps thm fce pcx nvm snag, dropRun s task = { s with caps := caps, thm := thm, fce := fce, pcx := pcx, nvm := nvm, snag := snag } := by
  by_cases h : task = .calibration
  · subst h
    cases hcal : s.cores.undo.cal with
    | none => simp only [dropRun, dropCal, hcal]; exact ⟨_, _, _, _, _, _, rfl⟩
    | some c =>
      obtain ⟨k, u, r, a, b⟩ := c
      obtain ⟨n, hn⟩ := setCond_eq { s with caps := { s.caps with kcal := k, uncal := u, rejects := r, calAt := a, calAcc := b, kcalNext := none } }
        u 0x39 0 .degrade
      rw [dropRun, dropCal_eq hcal, hn]
      exact ⟨_, _, _, _, _, _, rfl⟩
  · obtain ⟨caps, thm, fce, pcx, nvm, heq⟩ := dropRun_eq s h
    exact ⟨caps, thm, fce, pcx, nvm, s.snag, heq⟩
/-- An abandoned run loses no report. -/
theorem Reported.dropRun {s : State} {code unit k : Nat} {cls : Cls} (h : Reported s code unit cls k) (task : Task) :
    Reported (dropRun s task) code unit cls k := by
  by_cases ht : task = .calibration
  · subst ht
    cases hcal : s.cores.undo.cal with
    | none => simpa only [Machine.dropRun, dropCal, hcal] using h
    | some c =>
      rw [Machine.dropRun, dropCal_eq hcal]
      refine Reported.setCond ?_ _ _ _ _
      exact h
  · obtain ⟨caps, thm, fce, pcx, nvm, heq⟩ := dropRun_eq s ht
    rw [heq]; exact h

/-- A run abandoned at its deadline: a NOTE, what the run had set given back, and pair 0's limit updates dropped. -/
def abandonRun (s : State) (task : Task) : State :=
  let s1 := dropRun (note s 0x09 0) task
  if Task.pair task = 0 then { s1 with caps := { s1.caps with out := [] } } else s1
/-- A current-cap run abandoned besides: the miss is counted, and the second in a row is DEGRADE. -/
def countMiss (s : State) : State :=
  let n := satInc 2 s.cores.misses
  let s1 : State := { s with caps := { s.caps with taskDone := s.caps.taskDone.set 0 false }, cores := { s.cores with misses := n } }
  if 2 ≤ n then report s1 0x09 0 .degrade else s1
theorem execTaskDeadlineMiss_of_run {s : State} (hc : s.su.cond = .run) (task : Task) :
    execTaskDeadlineMiss (Task.pair task) task s =
      .next (if task = .currentCap then countMiss (abandonRun s task) else abandonRun s task) := by
  have hact : ¬(!running s || decide (Task.pair task ≠ Task.pair task)) = true := by simp [running, hc]
  rw [execTaskDeadlineMiss, if_neg hact]
  cases task <;> rfl
theorem execTaskDeadlineMiss_other_pair {pair : Nat} {task : Task} (h : pair ≠ Task.pair task) (s : State) :
    execTaskDeadlineMiss pair task s = .next s :=
  if_pos (by simp [h])

/-- What an abandoned run leaves alone. -/
theorem abandonRun_frame (s : State) (task : Task) :
    ∃ caps thm fce pcx nvm snag, abandonRun s task = { s with caps := caps, thm := thm, fce := fce, pcx := pcx, nvm := nvm, snag := snag } := by
  obtain ⟨caps, thm, fce, pcx, nvm, snag, heq⟩ := dropRun_frame (note s 0x09 0) task
  simp only [abandonRun, heq]
  split <;> exact ⟨_, _, _, _, _, _, rfl⟩
/-- The abandoned run is a NOTE. -/
theorem reported_abandonRun (s : State) (task : Task) : Reported (abandonRun s task) 0x09 0 .note s.tb.count := by
  have hnote : Reported (dropRun (note s 0x09 0) task) 0x09 0 .note s.tb.count := Reported.dropRun (note_mem_inbox s 0x09 0 none) task
  unfold abandonRun
  dsimp only
  split <;> exact hnote
/-- An abandoned run of pair 0 delivers no limit update. -/
theorem abandonRun_out (s : State) {task : Task} (h : Task.pair task = 0) : (abandonRun s task).caps.out = [] := by
  simp only [abandonRun, h, if_true]
theorem abandonRun_pair1 (s : State) {task : Task} (h : Task.pair task ≠ 0) : abandonRun s task = dropRun (note s 0x09 0) task :=
  if_neg h
/-- A miss counted: the window is not completed, the count rises to 2 at most, and the Snag unit may have a report more. -/
theorem countMiss_eq (s : State) : ∃ n, countMiss s =
    { s with caps := { s.caps with taskDone := s.caps.taskDone.set 0 false }, cores := { s.cores with misses := satInc 2 s.cores.misses }, snag := n } := by
  unfold countMiss
  dsimp only
  split <;> exact ⟨_, rfl⟩
theorem Reported.countMiss {s : State} {code unit k : Nat} {cls : Cls} (h : Reported s code unit cls k) :
    Reported (countMiss s) code unit cls k := by
  unfold Machine.countMiss
  dsimp only
  split
  · refine Reported.report ?_ _ _ _ _ _ _
    exact h
  · exact h
/-- The second miss in a row is DEGRADE (R39). -/
theorem reported_countMiss {s : State} (h : 1 ≤ s.cores.misses) : Reported (countMiss s) 0x09 0 .degrade s.tb.count := by
  have htwo : 2 ≤ satInc 2 s.cores.misses := by simp only [satInc, satAdd]; omega
  simp only [countMiss, if_pos htwo]
  exact report_mem_inbox _ _ _ _ _ _ _

/-! ## The core pairs (R40) -/

/-- LOCKSTEP_DISAGREE of pair 0: it stops, and its limit updates are discarded. -/
theorem execLockstepDisagree_pair0 {s : State} (hc : s.su.cond = .run) :
    execLockstepDisagree 0 s = .next { report s 0x0A 0 (if disSoon s.cores.dis0 s.tb.count then .instSafe else .note) with
      cores := { s.cores with run0 := false, dis0 := some s.tb.count }, caps := { s.caps with out := [] } } :=
  if_neg (by simp [alive_of_run hc])
/-- LOCKSTEP_DISAGREE of pair 1: it stops, and a KCAL not yet in force and its batch of records are discarded. -/
theorem execLockstepDisagree_pair1 {s : State} (hc : s.su.cond = .run) :
    execLockstepDisagree 1 s = .next { report s 0x0A 0 (if disSoon s.cores.dis1 s.tb.count then .instSafe else .note) with
      cores := { s.cores with run1 := false, dis1 := some s.tb.count }, caps := { s.caps with kcalNext := none }
      nvm := { s.nvm with batch := 0 } } :=
  if_neg (by simp [alive_of_run hc])
/-- A disagreement within 1 s of the last one of the pair (R40). -/
theorem disSoon_of_within {last : Option Nat} {t : Nat} (h : ∃ a ∈ last, t < a + 1000000000) : disSoon last t = true := by
  obtain ⟨a, rfl, ha⟩ := h
  exact decide_eq_true ha
theorem disSoon_of_later {last : Option Nat} {t : Nat} (h : ∀ a ∈ last, a + 1000000000 ≤ t) : disSoon last t = false := by
  cases last with
  | none => rfl
  | some a => exact decide_eq_false (Nat.not_lt.2 (h a rfl))
/-- The report of a disagreement, by the distance from the last one (R40). -/
theorem reported_disagreement (s : State) (last : Option Nat) :
    ((∃ a ∈ last, s.tb.count < a + 1000000000) →
      Reported (report s 0x0A 0 (if disSoon last s.tb.count then .instSafe else .note)) 0x0A 0 .instSafe s.tb.count) ∧
    ((∀ a ∈ last, a + 1000000000 ≤ s.tb.count) →
      Reported (report s 0x0A 0 (if disSoon last s.tb.count then .instSafe else .note)) 0x0A 0 .note s.tb.count) := by
  refine ⟨fun h => ?_, fun h => ?_⟩
  · rw [disSoon_of_within h]; exact report_mem_inbox _ _ _ _ _ _ _
  · rw [disSoon_of_later h]; exact report_mem_inbox _ _ _ _ _ _ _

/-- CORE_PAIR_RESTART_DONE of a pair that is stopped. -/
theorem execCorePairRestartDone_pair0 {s : State} (h : s.cores.run0 = false) :
    execCorePairRestartDone 0 s = .next { restore0 s with cores := { s.cores with run0 := true } } :=
  if_pos (by simp [h])
theorem execCorePairRestartDone_pair1 {s : State} (h : s.cores.run1 = false) :
    execCorePairRestartDone 1 s = .next { restore1 s with cores := { s.cores with run1 := true } } := by
  rw [execCorePairRestartDone, if_neg (by simp), if_pos (by simp [h])]

/-- Settles O44: each command by its equation where it acts, and an abandoned run by what it leaves alone. -/
theorem holdoverAndTheCorePairs : Obligations.HoldoverAndTheCorePairs := by
  unfold Obligations.HoldoverAndTheCorePairs
  refine ⟨fun s hc hr hh hnew => ?lost, fun s hc hh hk => ⟨_, execHoldoverTimeout_due hc hh hk, report_mem_inbox _ _ _ _ _ _ _, rfl⟩,
    fun s _ _ hk => execHoldoverTimeout_early hk, fun s hc hh => ?back, fun task s hc => ?missed,
    fun pair task s hp => execTaskDeadlineMiss_other_pair hp s, fun c s hc hu => ?undoCap, fun c s hc hu => ?undoPower,
    fun k r u a b s hc hu => ?undoCal, fun s hc => ?missedCap, fun s hc => ?pair0, fun s hc => ?pair1,
    fun c s hr hck => ?restart0, fun k ad s hr hck => ?restart1⟩
  case lost =>
    have hnew' : (0x08, 0) ∉ s.snag.conds := by simpa using hnew
    refine ⟨_, execRefclkLost_of_run hc hr hh, ?_⟩
    rw [assertCond_of_not_mem (s := holdoverFrom s) hnew']
    exact ⟨rfl, report_mem_inbox _ _ _ _ _ _ _, rfl, rfl⟩
  case back =>
    obtain ⟨n, hn⟩ := deassertCond_eq (relocked s) 0x08 0
    refine ⟨_, execRefclkReturn_of_run hc hh, by rw [hn]; rfl, fun h => deassertCond_conds h, fun h => ?_, by rw [hn]; rfl⟩
    exact congrArg (·.snag) (deassertCond_of_not_mem (s := relocked s) h)
  case missed =>
    obtain ⟨caps, thm, fce, pcx, nvm, snag, heq⟩ := abandonRun_frame s task
    have hnote := reported_abandonRun s task
    have hout := abandonRun_out s (task := task)
    refine ⟨_, execTaskDeadlineMiss_of_run hc task, ?_⟩
    split
    · obtain ⟨n, hn⟩ := countMiss_eq (abandonRun s task)
      refine ⟨hnote.countMiss, ?_⟩
      rw [hn]
      refine ⟨hout, ?_⟩
      rw [heq]
      exact ⟨rfl, rfl, rfl, rfl, rfl, rfl⟩
    · refine ⟨hnote, hout, ?_⟩
      rw [heq]
      exact ⟨rfl, rfl, rfl, rfl, rfl, rfl⟩
  case undoCap =>
    obtain ⟨n, hn⟩ := countMiss_eq (abandonRun s .currentCap)
    have hu' : (note s 0x09 0).cores.undo.cap = some c := hu
    refine ⟨_, execTaskDeadlineMiss_of_run hc .currentCap, ?_⟩
    rw [if_pos rfl, hn]
    simp only [abandonRun, dropRun, dropCap, hu']
    exact ⟨rfl, rfl, rfl⟩
  case undoPower =>
    have hu' : (note s 0x09 0).cores.undo.ms = some c := hu
    refine ⟨_, execTaskDeadlineMiss_of_run hc .powerCap, ?_⟩
    simp only [abandonRun, dropRun, dropPower, hu']
    exact ⟨rfl, rfl, rfl⟩
  case undoCal =>
    have hu' : (note s 0x09 0).cores.undo.cal = some (k, u, r, a, b) := hu
    refine ⟨_, execTaskDeadlineMiss_of_run hc .calibration, ?_⟩
    rw [if_neg (by decide), abandonRun_pair1 s (by decide), dropRun, dropCal_caps hu']
    exact ⟨rfl, rfl, rfl, rfl, rfl⟩
  case missedCap =>
    obtain ⟨caps, hdrop⟩ := dropCap_eq (note s 0x09 0)
    have hrun : abandonRun s .currentCap = { note s 0x09 0 with caps := { caps with out := [] } } := by
      simp only [abandonRun, dropRun, hdrop]; rfl
    have hnote := (reported_abandonRun s .currentCap).countMiss
    have hsecond := reported_countMiss (s := abandonRun s .currentCap)
    obtain ⟨n, hn⟩ := countMiss_eq (abandonRun s .currentCap)
    refine ⟨_, execTaskDeadlineMiss_of_run hc .currentCap, hnote, ?_⟩
    rw [hrun] at hsecond hn ⊢
    refine ⟨?_, ?_, hsecond, ?_⟩ <;> rw [if_pos rfl, hn] <;> rfl
  case pair0 =>
    obtain ⟨hsoon, hlater⟩ := reported_disagreement s s.cores.dis0
    exact ⟨_, execLockstepDisagree_pair0 hc, rfl, rfl, rfl, rfl, rfl, hsoon, hlater, rfl, rfl⟩
  case pair1 =>
    obtain ⟨hsoon, hlater⟩ := reported_disagreement s s.cores.dis1
    exact ⟨_, execLockstepDisagree_pair1 hc, rfl, rfl, rfl, rfl, rfl, rfl, rfl, hsoon, hlater, rfl⟩
  case restart0 =>
    refine ⟨_, execCorePairRestartDone_pair0 hr, rfl, ?_⟩
    simp [restore0, hck]
  case restart1 =>
    refine ⟨_, execCorePairRestartDone_pair1 hr, rfl, ?_⟩
    simp [restore1, hck]

end Sys2Proof.Machine
end

section
/-!
The Lath: the order at a link, a transfer at its receiver, repetition, seams and injection. The statement O48.
-/
namespace Sys2Proof.Machine

/-- The block answers in the run condition and in SAFE (R50). -/
theorem not_alive_eq_false {s : State} (h : s.su.cond = .run ∨ s.su.cond = .safe) : (!alive s) = false := by
  rw [(alive_iff s).2 h]; rfl

/-! ## The order at a link (R36) -/

theorem hClass_lt (h : W32) : hClass h < 4 := Nat.mod_lt _ (by decide)
/-- A header that decodes takes a slot where the link serves it. -/
theorem linkTake_eq {l : Lth} {net : Option Nat} {rx : Nat} {hd : BitVec 44} {h : W32} {c : Bool} {ot : List (Nat × Bool)}
    (hh : hdrDecode hd = some (h, c)) :
    linkTake l net rx hd ot = if linkServes (slotsOf l net rx) (hClass h) ot then
      some { l with slots := (net, rx, if hClass h = 3 then 0 else min 15 (slotsOf l net rx + 1)) ::
        l.slots.filter fun e => !(e.1 == net && e.2.1 == rx) } else none := by
  simp only [linkTake, hh]
  cases linkServes (slotsOf l net rx) (hClass h) ot <;> rfl
/-- A header that does not decode has taken its slot before. -/
theorem linkTake_undecodable {hd : BitVec 44} (hh : hdrDecode hd = none) (l : Lth) (net : Option Nat) (rx : Nat) (ot : List (Nat × Bool)) :
    linkTake l net rx hd ot = some l := by
  rw [linkTake, hh]
/-- A slot changes the link's slot counts only. -/
theorem linkTake_slots {l t : Lth} {net : Option Nat} {rx : Nat} {hd : BitVec 44} {ot : List (Nat × Bool)} (h : linkTake l net rx hd ot = some t) :
    t = { l with slots := t.slots } := by
  cases hh : hdrDecode hd with
  | none => rw [linkTake_undecodable hh] at h; cases h; rfl
  | some p =>
    rw [linkTake_eq (c := p.2) hh] at h
    split at h
    · cases h; rfl
    · cases h
/-- Which packets a link serves (R36): first within the class, and the most urgent class that waits, but a BULK packet due its slot. -/
theorem linkServes_eq_false {n cls : Nat} {ot : List (Nat × Bool)} (hcls : cls < 4) :
    linkServes n cls ot = false ↔ (∃ o ∈ ot, o.1 = cls ∧ o.2 = true) ∨ (n < 15 ∧ ∃ o ∈ ot, o.1 < cls) ∨
      (15 ≤ n ∧ cls < 3 ∧ ((∃ o ∈ ot, o.1 = 3) ∨ ∃ o ∈ ot, o.1 < cls)) := by
  have hahead : (ot.any fun o => o.1 = cls && o.2) = true ↔ ∃ o ∈ ot, o.1 = cls ∧ o.2 = true := by simp
  have hbulk : (ot.any fun o => o.1 = 3) = true ↔ ∃ o ∈ ot, o.1 = 3 := by simp
  have hurgent : (ot.all fun o => cls ≤ o.1) = false ↔ ∃ o ∈ ot, o.1 < cls := by simp
  have hne : cls ≠ 3 ↔ cls < 3 := by omega
  have hlt : ¬ 15 ≤ n ↔ n < 15 := by omega
  simp only [linkServes]
  rw [← hahead, ← hbulk, ← hurgent, ← hne, ← hlt]
  generalize (ot.any fun o => o.1 = cls && o.2) = a
  generalize (ot.any fun o => decide (o.1 = 3)) = b
  generalize (ot.all fun o => decide (cls ≤ o.1)) = c
  by_cases h3 : cls = 3 <;> by_cases hn : 15 ≤ n <;> cases a <;> cases b <;> cases c <;> simp [h3, hn]
/-- A link counts its slots since its last BULK packet (assumption 110). -/
theorem slotsOf_cons_same (net : Option Nat) (rx n : Nat) (es : List (Option Nat × Nat × Nat)) (l : Lth) :
    slotsOf { l with slots := (net, rx, n) :: es } net rx = n := by
  simp [slotsOf]
/-- The slots of the other links are counted on their own. -/
theorem slotsOf_cons_other {net m : Option Nat} {rx r : Nat} (h : (m, r) ≠ (net, rx)) (n : Nat) (l : Lth) :
    slotsOf { l with slots := (net, rx, n) :: l.slots.filter fun e => !(e.1 == net && e.2.1 == rx) } m r = slotsOf l m r := by
  have hother : ¬(m = net ∧ r = rx) := by simpa using h
  have hhead : (net == m && rx == r) = false := by
    simpa using fun h1 h2 => hother ⟨Eq.symm h1, Eq.symm h2⟩
  have hskip : (fun e : Option Nat × Nat × Nat => decide ((!(e.1 == net && e.2.1 == rx)) = true ∧ (e.1 == m && e.2.1 == r) = true)) =
      fun e => e.1 == m && e.2.1 == r := by
    funext e
    rw [Bool.eq_iff_iff]
    simp only [decide_eq_true_eq, Bool.not_eq_true', Bool.and_eq_true, beq_iff_eq, and_iff_right_iff_imp]
    rintro ⟨rfl, rfl⟩
    simpa using hother
  simp only [slotsOf, List.find?_cons, hhead, List.find?_filter, hskip]

/-! ## A transfer at its receiver (R378, R380 to R382) -/

/-- Two streams are the same where all that names them agrees (R381). -/
theorem same_iff (a b : Stream) : a.same b = true ↔ a.net = b.net ∧ a.cx = b.cx ∧ a.src = b.src ∧ a.dest = b.dest ∧ a.cls = b.cls := by
  simp [Stream.same, and_assoc]
/-- The stream a transfer belongs to, with its SEQ as L (R381). -/
def streamOf (x : LathRx) (h : W32) : Stream :=
  { net := x.net, cx := x.cx, src := hSrc h, dest := hDest h, cls := hClass h, last := hSeq h }
/-- The Lath's state once traffic of an acknowledged kind is answered (R382). -/
def answered (l : Lth) (x : LathRx) (h : W32) : Lth :=
  if acknowledged x.kind (hClass h) then { l with ackOut := some (ackOf h) } else l
/-- The Lath's state once a transfer is accepted: delivered, and its SEQ is the stream's L (R381). -/
def accepted (l : Lth) (x : LathRx) (h : W32) (d : W64) : Lth :=
  { answered l x h with streams := streamOf x h :: l.streams.filter fun y => !y.same (streamOf x h), delivered := some (x.rx, hClass h, d) }
/-- A transfer that is no acknowledgement and travels in a class its network carries is taken as its stream stands (R37, R381). -/
theorem lathDeliver_taken (s : State) {x : LathRx} {h : W32} (d : W64) (hack : hAck h = false) (hnet : x.net = none ∨ hClass h < 2) :
    lathDeliver s x h d = match s.lth.streams.find? (·.same (streamOf x h)) with
      | none => { s with lth := accepted s.lth x h d }
      | some y => if serialAfter 12 (hSeq h) y.last then
          if gapOf y.last (hSeq h) = 0 then { s with lth := accepted s.lth x h d }
          else note { s with lth := { accepted s.lth x h d with lost := satAdd 0xFFFF (accepted s.lth x h d).lost (gapOf y.last (hSeq h)) }.seen 2 } 0x52 0
        else { s with lth := answered s.lth x h } := by
  have htaken : ¬(x.net.isSome && decide (2 ≤ hClass h)) = true := by
    rcases hnet with h1 | h1 <;> simp [h1]
  have hnoack : ¬ hAck h = true := by simp [hack]
  rw [lathDeliver, if_neg htaken, if_neg hnoack]
  rfl
/-- A zone segment takes nothing in TELEMETRY or BULK (R37). -/
theorem lathDeliver_zone (s : State) {x : LathRx} {h : W32} (d : W64) (hnet : x.net.isSome = true) (hcls : 2 ≤ hClass h) :
    lathDeliver s x h d = s :=
  if_pos (by simp [hnet, hcls])
/-- An answer changes the acknowledgement that leaves only. -/
theorem answered_eq (l : Lth) (x : LathRx) (h : W32) : ∃ a, answered l x h = { l with ackOut := a } := by
  unfold answered; split <;> exact ⟨_, rfl⟩
/-- Traffic of an acknowledged kind is answered (R382). -/
theorem answered_of_kind (l : Lth) {x : LathRx} {h : W32} (hk : hClass h = 3 ∨ x.kind < 5 ∧ hClass h = kindClass x.kind) :
    answered l x h = { l with ackOut := some (ackOf h) } :=
  if_pos (by simpa [acknowledged] using hk)

/-- A transfer that decodes without a correction is delivered as decoded. -/
theorem lathReceive_clean (s : State) (x : LathRx) {h : W32} {d : W64} (hh : hdrDecode x.header = some (h, false))
    (hw : sc80Decode x.word = some (d, false)) : lathReceive s x = lathDeliver s x h d := by
  simp only [lathReceive, hh, hw]; rfl
/-- A header that does not decode is counted uncorrectable (R383). -/
theorem lathReceive_undecodable (s : State) (x : LathRx) (hh : hdrDecode x.header = none) : lathReceive s x = lthUncorr s x.rx false := by
  rw [lathReceive, hh]

/-! ## Fault injection (R386, R387) -/

/-- With no injection armed or held a transfer goes on to its decoder. -/
theorem inject_idle {s : State} (hheld : s.lth.injHeld = none) (hoff : s.lth.injCtl.getLsbD 31 = false) (link : Nat) (x : LathRx) :
    inject s link x = (s, [x]) := by
  simp only [inject, hheld, hoff]
  split <;> rfl
/-- An armed injection without a pattern drops the transfer it matches, once the transfers to skip have gone by. -/
theorem inject_drops {s : State} {link : Nat} {x : LathRx} (hheld : s.lth.injHeld = none) (hon : s.lth.injCtl.getLsbD 31 = true)
    (hmatch : injMatch s.lth.injCtl link x = true) (hskip : fld s.lth.injCtl 8 9 ≤ s.lth.injSkip)
    (hmode : injMode s.lth.injCtl s.lth.injPat = 0) : inject s link x = ({ s with lth := injCount s.lth }, []) := by
  simp [inject, hheld, hon, hmatch, hmode, Nat.not_lt.2 hskip]

/-- A transfer at an on-die receiver. -/
abbrev dieTransfer (rx : Nat) (net : Option Nat) (kind : Nat) (hd : BitVec 44) (wd : BitVec 80) : LathRx :=
  { rx, net, cx := none, kind, header := hd, word := wd }
/-- LATH_TRANSFER_RX of a transfer that its link serves. -/
theorem execLathTransferRx_served {s : State} {rx kind : Nat} {net : Option Nat} {hd : BitVec 44} {wd : BitVec 80} {ot : List (Nat × Bool)}
    {l : Lth} (ha : s.su.cond = .run ∨ s.su.cond = .safe) (hl : linkTake s.lth net rx hd ot = some l) :
    execLathTransferRx rx net kind hd wd ot s = .next
      ((inject { s with lth := l } 0 (dieTransfer rx net kind hd wd)).2.foldl lathReceive
        (inject { s with lth := l } 0 (dieTransfer rx net kind hd wd)).1) := by
  simp only [execLathTransferRx, not_alive_eq_false ha, hl]
  rfl
/-- Served with no injection armed or held, it reaches its decoder. -/
theorem execLathTransferRx_received {s : State} {rx : Nat} {net : Option Nat} (kind : Nat) {hd : BitVec 44} (wd : BitVec 80) {ot : List (Nat × Bool)}
    {l : Lth} (ha : s.su.cond = .run ∨ s.su.cond = .safe) (hl : linkTake s.lth net rx hd ot = some l) (hheld : s.lth.injHeld = none)
    (hoff : s.lth.injCtl.getLsbD 31 = false) :
    execLathTransferRx rx net kind hd wd ot s = .next
      (lathReceive { s with lth := l } (dieTransfer rx net kind hd wd)) := by
  have hl' := linkTake_slots hl
  have hidle := inject_idle (s := { s with lth := l }) (by rw [hl']; exact hheld) (by rw [hl']; exact hoff) 0
    (dieTransfer rx net kind hd wd)
  rw [execLathTransferRx_served ha hl, hidle]
  rfl
/-- A packet that its link does not serve waits on (R36). -/
theorem execLathTransferRx_waits {s : State} {rx : Nat} {net : Option Nat} (kind : Nat) {hd : BitVec 44} (wd : BitVec 80) {ot : List (Nat × Bool)}
    (hl : linkTake s.lth net rx hd ot = none) : execLathTransferRx rx net kind hd wd ot s = .next s := by
  rw [execLathTransferRx, hl]
  exact ite_self _

/-! ## Repetition (R382) -/

/-- Every try failed: the Lath's own part. -/
theorem triesFailed_lth (s : State) (kind : Nat) (z : Option Nat) : (triesFailed s kind z).lth = s.lth.seen 3 := by
  unfold triesFailed
  dsimp only
  split <;> rfl
/-- A fault report that names no Float, and a Snag action, that failed are INSTANCE-SAFE (R382). -/
theorem triesFailed_report (s : State) {kind : Nat} {z : Option Nat} (h : kind = 1 ∨ (kind = 0 ∧ z = none)) :
    triesFailed s kind z = report { s with lth := s.lth.seen 3 } 0x53 0 .instSafe := by
  rcases h with rfl | ⟨rfl, rfl⟩
  · cases z <;> rfl
  · rfl
/-- An action holds a zone for SAFE, unless the power-down has taken it out (R175, R402). -/
theorem zoneD_zoneToSafe {s : State} {z : Nat} (hz : z < s.zones.length) (h : (zoneD s z).halted = false) :
    zoneD (zoneToSafe s z) z = { zoneD s z with snagSafe := true, safeDue := decide ((zoneD s z).st ≠ .safe) } := by
  rw [zoneToSafe, zoneD_modZone hz, if_neg (by simp [h])]
/-- LATH_RETRY of the one transfer that waits, once its interval has passed: repeated, or given up when its tries are used. -/
theorem execLathRetry_due {s : State} {w : TxWait} (ha : s.su.cond = .run ∨ s.su.cond = .safe) (hkind : w.kind < 5)
    (hcls : w.cls = kindClass w.kind) (hw : s.lth.waits = [w]) (hdue : w.at_ + (retryOf w.kind).1 ≤ s.tb.count) (z : Option Nat) :
    execLathRetry w.net w.src w.dest w.cls w.seq w.kind z s = .next
      (if w.tries < (retryOf w.kind).2 then { s with lth := { s.lth with
          repeats := satInc 0xFFFF s.lth.repeats, waits := [{ w with tries := w.tries + 1, at_ := s.tb.count }] } }
       else triesFailed { s with lth := { s.lth with waits := [] } } w.kind z) := by
  have hact : ¬(!alive s || decide (5 ≤ w.kind) || decide (w.cls ≠ kindClass w.kind)) = true := by
    simp [not_alive_eq_false ha, hkind, hcls]
  rw [execLathRetry, if_neg hact]
  simp only [now, hw, decide_true, Bool.and_self, List.find?_cons_of_pos, Option.getD_some, Nat.not_lt.2 hdue, ↓reduceIte, Bool.not_and,
    Bool.not_true, Bool.or_self, Bool.false_eq_true, not_false_eq_true, List.filter_cons_of_neg, List.filter_nil]
  split <;> rfl

/-! ## Seams (R384, R385) -/

/-- A lane's bit is set once the lane has failed. -/
theorem getLsbD_or_bit (x : W32) {b : Nat} (hb : b < 32) : (x ||| w32 (2 ^ b)).getLsbD b = true := by
  rw [w32, BitVec.getLsbD_or, BitVec.getLsbD_ofNat, Nat.testBit_two_pow_self]
  simp [hb]
theorem getLsbD_or_bit_other (x : W32) {b i : Nat} (hi : i ≠ b) : (x ||| w32 (2 ^ b)).getLsbD i = x.getLsbD i := by
  rw [w32, BitVec.getLsbD_or, BitVec.getLsbD_ofNat, Nat.testBit_two_pow_of_ne (Ne.symm hi)]
  simp

/-- The bit of a lane of crossing j is one of the 32 (R384). -/
theorem laneBit_lt {j : Nat} (hj : j < 16) (b : Bool) : 2 * j + b2n b < 32 := by
  have : b2n b ≤ 1 := by cases b <;> decide
  omega
/-- The seam registers after a lane of a crossing fails. -/
def seamFail (s : State) (j : Nat) (b : Bool) : State := { s with lth := { s.lth with seam := s.lth.seam ||| w32 (2 ^ (2 * j + b2n b)) } }
/-- Both lanes of a crossing have failed when its other lane had. -/
theorem seamBoth_fail (s : State) {j : Nat} (hj : j < 16) (b : Bool) :
    seamBoth (seamFail s j b).lth j = s.lth.seam.getLsbD (2 * j + b2n (!b)) := by
  have hlt := laneBit_lt hj b
  have hset := getLsbD_or_bit s.lth.seam hlt
  have hother := getLsbD_or_bit_other s.lth.seam (b := 2 * j + b2n b) (i := 2 * j + b2n (!b)) (by cases b <;> simp [b2n])
  unfold seamBoth seamFail
  cases b
  · have h0 : (s.lth.seam ||| w32 (2 ^ (2 * j + b2n false))).getLsbD (2 * j) = true := hset
    have h1 : (s.lth.seam ||| w32 (2 ^ (2 * j + b2n false))).getLsbD (2 * j + 1) = _ := hother
    rw [h0, h1]
    exact Bool.true_and _
  · have h0 : (s.lth.seam ||| w32 (2 ^ (2 * j + b2n true))).getLsbD (2 * j) = _ := hother
    have h1 : (s.lth.seam ||| w32 (2 ^ (2 * j + b2n true))).getLsbD (2 * j + 1) = true := hset
    rw [h0, h1]
    exact Bool.and_true _
/-- SEAM_LANE_FAIL of a lane that had not failed. -/
theorem execSeamLaneFail_new {s : State} {j : Nat} {b : Bool} (ha : s.su.cond = .run ∨ s.su.cond = .safe) (hj : j < 16)
    (hnew : s.lth.seam.getLsbD (2 * j + b2n b) = false) :
    execSeamLaneFail j b s = .next
      (if s.lth.seam.getLsbD (2 * j + b2n (!b)) then assertCond (seamFail s j b) 0x55 j .instSafe else note (seamFail s j b) 0x54 j) := by
  have hact : ¬(!alive s || decide (16 ≤ j) || s.lth.seam.getLsbD (2 * j + b2n b)) = true := by
    simp only [not_alive_eq_false ha, hnew]
    simp [hj]
  rw [execSeamLaneFail, if_neg hact, ← seamBoth_fail s hj b]
  rfl
/-- A crossing without a lane is SEAM_LOST. -/
theorem seamLost_of_both {l : Lth} {j : Nat} (hj : j < 16) (h : seamBoth l j = true) : seamLost l = true :=
  List.any_eq_true.2 ⟨j, List.mem_range.2 hj, h⟩

/-- LTH_INJ_CTL_WRITE since READY. -/
theorem execLthInjCtlWrite_eq {s : State} (ha : s.su.cond = .run ∨ s.su.cond = .safe) (hr : s.su.readyEver = true) (w : W32) :
    execLthInjCtlWrite w s = .next
      (if injectPermitted s then { s with lth := { s.lth with injCtl := w, injSkip := 0, injDone := 0 } } else note s 0x01 0) := by
  have hact : ¬(!alive s || !sinceReady s) = true := by simp [not_alive_eq_false ha, sinceReady, hr]
  rw [execLthInjCtlWrite, if_neg hact]
  cases injectPermitted s <;> rfl

/-! ## O48 -/

/-- Settles O48: the order by what a link serves, a transfer by its stream, and each other command by its equation where it acts. -/
theorem lathTransfersSequenceRepetitionAndSeams : Obligations.LathTransfersSequenceRepetitionAndSeams := by
  unfold Obligations.LathTransfersSequenceRepetitionAndSeams
  refine ⟨fun rx net kind h d hd wd ot l s hl ha hheld hoff hh hw hack hnet hnew => ?first,
    fun x y h d s hack hnet hy hafter => ?next, fun x y h d s hack hnet hy hstale => ?stale,
    fun rx z kind h d hd wd ot l s hl ha hheld hoff hh hw hcls => ?zone,
    fun rx net kind hd wd ot l s hl ha hheld hon hmatch hskip hmode => ?dropped,
    fun rx net kind hd wd ot s ha hheld hoff hh => ?undecodable,
    fun net h hd s ha hh => ?ack, fun w z s ha hkind hcls hw hdue hleft => ?repeated, fun w z s ha hkind hcls hw hdue hused => ?givenUp,
    fun j b s ha hj hnew hother => ?lane, fun j b s ha hj hnew hother hcond => ?lanes,
    fun w s ha hr hp => ?inject, fun w s ha hr hp => ?noInject, fun rx net kind hd wd ot s hl => execLathTransferRx_waits kind wd hl,
    fun net rx hd h ot l hh => ?serves, fun net rx hd h ot l t hh hl => ?slots⟩
  case first =>
    have hfresh : l.streams.find? (·.same (streamOf (dieTransfer rx net kind hd wd) h)) = none := by
      rw [linkTake_slots hl]
      exact List.find?_eq_none.2 fun y hy hsame => hnew y hy ((same_iff _ _).1 hsame)
    have hfilter : (l.streams.filter fun y => !y.same (streamOf (dieTransfer rx net kind hd wd) h)) = l.streams :=
      List.filter_eq_self.2 fun y hy => by simpa using List.find?_eq_none.1 hfresh y hy
    have hdeliver : lathReceive { s with lth := l } (dieTransfer rx net kind hd wd) =
        { s with lth := accepted l (dieTransfer rx net kind hd wd) h d } := by
      rw [lathReceive_clean _ (dieTransfer rx net kind hd wd) hh hw, lathDeliver_taken _ d hack hnet]
      simp only [hfresh]
    have hacc : accepted l (dieTransfer rx net kind hd wd) h d = { answered l (dieTransfer rx net kind hd wd) h with
        streams := streamOf (dieTransfer rx net kind hd wd) h :: s.lth.streams, delivered := some (rx, hClass h, d) } := by
      rw [accepted, hfilter, linkTake_slots hl]
    refine ⟨_, execLathTransferRx_received kind wd ha hl hheld hoff, ?_⟩
    rw [hdeliver, hacc, linkTake_slots hl]
    obtain ⟨a, ha⟩ := answered_eq { s.lth with slots := l.slots } (dieTransfer rx net kind hd wd) h
    refine ⟨rfl, ?_, ?_, ?_, rfl, ?_, fun hkind => ?_, rfl⟩
    · rw [ha]
    · rw [ha]
    · rw [ha]
    · rw [ha]
    · rw [answered_of_kind (x := dieTransfer rx net kind hd wd) _ hkind]; rfl
  case next =>
    have hy' : s.lth.streams.find? (·.same (streamOf x h)) = some y := hy
    obtain ⟨a, ha⟩ := answered_eq s.lth x h
    rw [lathDeliver_taken _ d hack hnet]
    simp only [hy', hafter, if_true, accepted, ha]
    split
    case isTrue hgap => exact ⟨rfl, fun _ => ⟨rfl, rfl⟩, fun hpos => by omega⟩
    case isFalse hgap => exact ⟨rfl, fun hzero => absurd hzero hgap, fun _ => ⟨rfl, _, mem_insRep _ _, rfl, rfl⟩⟩
  case stale =>
    have hy' : s.lth.streams.find? (·.same (streamOf x h)) = some y := hy
    obtain ⟨a, ha⟩ := answered_eq s.lth x h
    rw [lathDeliver_taken _ d hack hnet]
    simp only [hy', hstale, ha]
    exact ⟨rfl, rfl, rfl, rfl⟩
  case zone =>
    show execLathTransferRx rx (some z) kind hd wd ot s = _
    rw [execLathTransferRx_received kind wd ha hl hheld hoff, lathReceive_clean _ (dieTransfer rx (some z) kind hd wd) hh hw, lathDeliver_zone _ _ rfl hcls]
  case dropped =>
    have hl' := linkTake_slots hl
    have hdrop := inject_drops (s := { s with lth := l }) (x := dieTransfer rx net kind hd wd) (link := 0) (by rw [hl']; exact hheld)
      (by rw [hl']; exact hon) (by rw [hl']; exact hmatch) (by rw [hl']; exact hskip) (by rw [hl']; exact hmode)
    show execLathTransferRx rx net kind hd wd ot s = _
    rw [execLathTransferRx_served ha hl, hdrop]
    rfl
  case undecodable =>
    refine ⟨_, execLathTransferRx_received kind wd ha (linkTake_undecodable hh _ _ _ _) hheld hoff, ?_⟩
    rw [lathReceive_undecodable _ (dieTransfer rx net kind hd wd) hh]
    refine ⟨rfl, rfl, rfl, ⟨_, mem_insRep _ _, rfl, rfl, .inl rfl⟩, rfl⟩
  case ack =>
    show execLathAckRx net hd s = _
    simp only [execLathAckRx, not_alive_eq_false ha, hh]
    rfl
  case repeated =>
    show execLathRetry w.net w.src w.dest w.cls w.seq w.kind z s = _
    rw [execLathRetry_due ha hkind hcls hw hdue z, if_pos hleft]
  case givenUp =>
    refine ⟨_, execLathRetry_due ha hkind hcls hw hdue z, ?_⟩
    rw [if_neg (Nat.not_lt.2 hused)]
    have hlth := triesFailed_lth { s with lth := { s.lth with waits := [] } } w.kind z
    refine ⟨by rw [hlth]; rfl, by rw [hlth]; rfl, by rw [hlth]; rfl, fun hreport => ?_, fun hport => ?_, fun n hn hfault hz hnothalted => ?_⟩
    · rw [triesFailed_report _ hreport]
      exact ⟨report_mem_inbox _ _ _ _ _ _ _, rfl, rfl⟩
    · rw [hport]
      exact ⟨rfl, note_mem_inbox _ _ _ _, rfl⟩
    · cases hn
      rw [hfault]
      have hsafe := zoneD_zoneToSafe (s := { s with lth := { s.lth with waits := [] }.seen 3 }) hz hnothalted
      refine ⟨congrArg (·.snagSafe) hsafe, fun hst => (congrArg (·.safeDue) hsafe).trans (decide_eq_true hst)⟩
  case lane =>
    refine ⟨_, execSeamLaneFail_new ha hj hnew, ?_⟩
    rw [hother]
    exact ⟨rfl, getLsbD_or_bit _ (laneBit_lt hj b), note_mem_inbox (seamFail s j b) 0x54 j none, rfl⟩
  case lanes =>
    refine ⟨_, execSeamLaneFail_new ha hj hnew, ?_⟩
    rw [hother, if_pos rfl, assertCond_of_not_mem (s := seamFail s j b) hcond]
    exact ⟨seamLost_of_both hj ((seamBoth_fail s hj b).trans hother), report_mem_inbox (seamFail s j b) 0x55 j .instSafe none false none, rfl⟩
  case inject =>
    show execLthInjCtlWrite w s = _
    rw [execLthInjCtlWrite_eq ha hr w, if_pos hp]
  case noInject =>
    show execLthInjCtlWrite w s = _
    rw [execLthInjCtlWrite_eq ha hr w, if_neg (by simp [hp])]
  case serves =>
    rw [linkTake_eq hh, ← linkServes_eq_false (hClass_lt h)]
    cases linkServes (slotsOf l net rx) (hClass h) ot <;> simp
  case slots =>
    have hslots := linkTake_slots hl
    rw [linkTake_eq hh] at hl
    split at hl
    · cases hl
      exact ⟨slotsOf_cons_same _ _ _ _ _, fun n r hne => slotsOf_cons_other hne _ _, rfl⟩
    · cases hl

end Sys2Proof.Machine
end

section
/-!
What the work of the control cores at a boundary leaves alone: one lemma per operation, said once.
-/
namespace Sys2Proof.Machine

/-- The parts of the state that the control cores' work at a boundary leaves alone: the time base, start-up, levels, fuses, flash, energy
counters, module stage, the number of zones, and which pairs run. -/
structure Still where
  tb : TimeBase
  su : StartUp
  pins : Pins
  fus : Fuses
  nvm : Nvm
  nrg : Nrg
  msf : Msf
  nzones : Nat
  run0 : Bool
  run1 : Bool
/-- What a state holds of them. -/
def still (s : State) : Still :=
  ⟨s.tb, s.su, s.pins, s.fus, s.nvm, s.nrg, s.msf, s.zones.length, s.cores.run0, s.cores.run1⟩
theorem still_mk : ∀ tb su pins fus nvm zones msf fce pcx tnt caps nrg thm tcv lth csc snag bist cores rp pmb tap pending,
    still (State.mk tb su pins fus nvm zones msf fce pcx tnt caps nrg thm tcv lth csc snag bist cores rp pmb tap pending) =
      ⟨tb, su, pins, fus, nvm, nrg, msf, zones.length, cores.run0, cores.run1⟩ := by
  intros; rfl
theorem still_eta (k : Still) : (⟨k.tb, k.su, k.pins, k.fus, k.nvm, k.nrg, k.msf, k.nzones, k.run0, k.run1⟩ : Still) = k := rfl
/-- Each part of a state is that part of what stands still, for `simp`. -/
theorem still_rules :
    (∀ s : State, s.tb = (still s).tb ∧ s.su = (still s).su ∧ s.pins = (still s).pins) ∧
    (∀ s : State, s.fus = (still s).fus ∧ s.nvm = (still s).nvm ∧ s.nrg = (still s).nrg ∧ s.msf = (still s).msf) ∧
    ∀ s : State, s.zones.length = (still s).nzones ∧ s.cores.run0 = (still s).run0 ∧ s.cores.run1 = (still s).run1 :=
  ⟨fun _ => ⟨rfl, rfl, rfl⟩, fun _ => ⟨rfl, rfl, rfl, rfl⟩, fun _ => ⟨rfl, rfl, rfl⟩⟩
/-- A fold of an operation that leaves them alone leaves them alone. -/
theorem foldl_still {α : Type} (f : State → α → State) (h : ∀ s x, still (f s x) = still s) (l : List α) (s : State) :
    still (l.foldl f s) = still s := by
  induction l generalizing s with
  | nil => rfl
  | cons x xs ih => rw [List.foldl_cons, ih, h]

@[simp] theorem report_still (s : State) (code unit : Nat) (cls : Cls) (d : Option W32) (l : Bool) (c : Option CritRep) :
    still (report s code unit cls d l c) = still s := rfl
@[simp] theorem note_still (s : State) (code unit : Nat) (d : Option W32) : still (note s code unit d) = still s := rfl
@[simp] theorem modZone_still (s : State) (z : Nat) (f : Zone → Zone) : still (modZone s z f) = still s := by
  simp [still, modZone]
@[simp] theorem modTile_still (s : State) (z t : Nat) (f : Tile → Tile) : still (modTile s z t f) = still s := modZone_still _ _ _
@[simp] theorem assertCond_still (s : State) (code unit : Nat) (cls : Cls) (l : Bool) (c : Option CritRep) : still (assertCond s code unit cls l c) = still s := by
  simp [assertCond, apply_ite still, still_mk, still_eta, still_rules]
@[simp] theorem deassertCond_still (s : State) (code unit : Nat) : still (deassertCond s code unit) = still s := by
  simp [deassertCond, apply_ite still, still_mk, still_eta, still_rules]
@[simp] theorem setCond_still (s : State) (b : Bool) (code unit : Nat) (cls : Cls) : still (setCond s b code unit cls) = still s := by
  simp [setCond, apply_ite still]
@[simp] theorem modCapZ_still (s : State) (z : Nat) (f : CapZone → CapZone) : still (modCapZ s z f) = still s := by
  simp [modCapZ, still_mk, still_eta, still_rules]
@[simp] theorem modThm_still (s : State) (z : Nat) (f : ThmZone → ThmZone) : still (modThm s z f) = still s := by
  simp [modThm, still_mk, still_eta, still_rules]
@[simp] theorem thmSeen_still (s : State) (b : Nat) : still (thmSeen s b) = still s := by
  simp [thmSeen, still_mk, still_eta, still_rules]
@[simp] theorem modUndo_still (s : State) (f : Undo → Undo) : still (modUndo s f) = still s := by
  simp [modUndo, still_mk, still_eta, still_rules]
@[simp] theorem cxSend_still (s : State) (ms : List CxMsg) : still (cxSend s ms) = still s := by
  simp [cxSend, apply_ite still, still_mk, still_eta, still_rules]
@[simp] theorem formCaps_still (s : State) : still (formCaps s) = still s := by
  simp [formCaps, still_mk, still_eta, still_rules]
@[simp] theorem kcalDue_still (s : State) : still (kcalDue s) = still s := by
  unfold kcalDue
  split <;> simp [still_mk, still_eta, still_rules]
@[simp] theorem shareDue_still (s : State) (b : Nat) : still (shareDue s b) = still s := by
  unfold shareDue
  split <;> simp [apply_ite still, still_mk, still_eta, still_rules]
@[simp] theorem calLoss_still (s : State) : still (calLoss s) = still s := by
  simp [calLoss, still_mk, still_eta, still_rules]
@[simp] theorem kcalStale_still (s : State) : still (kcalStale s) = still s := by
  unfold kcalStale
  split <;> simp [apply_ite still]
@[simp] theorem stage1_still (s : State) : still (stage1 s) = still s := by
  unfold stage1
  split <;> simp [still_mk, still_eta, still_rules]
@[simp] theorem lowerVz_still (s : State) (z : Nat) : still (lowerVz s z) = still s := by
  unfold lowerVz
  split <;> simp [apply_ite still]
@[simp] theorem stage2Act_still (s : State) : still (stage2Act s) = still s := by
  simp [stage2Act, foldl_still, still_mk, still_eta, still_rules]
@[simp] theorem stage2Release_still (s : State) : still (stage2Release s) = still s := by
  simp [stage2Release, apply_ite still, still_mk, still_eta, still_rules]
@[simp] theorem stage2Step_still (s : State) : still (stage2Step s) = still s := by
  simp [stage2Step, apply_ite still]
@[simp] theorem raiseVz_still (s : State) : still (raiseVz s) = still s := by
  simp [raiseVz, apply_ite still, still_mk, still_eta, still_rules]
@[simp] theorem gateOne_still (s : State) : still (gateOne s) = still s := by
  unfold gateOne
  split <;> simp [still_mk, still_eta, still_rules]
@[simp] theorem releaseStep_still (s : State) : still (releaseStep s) = still s := by
  unfold releaseStep
  repeat' split
  all_goals simp [still_mk, still_eta, still_rules]
@[simp] theorem capStages_still (s : State) (b : Nat) : still (capStages s b) = still s := by
  simp [capStages, apply_ite still, still_mk, still_eta, still_rules]
@[simp] theorem zoneCodes_still (s : State) : still (zoneCodes s) = still s := by
  simp [zoneCodes, still_mk, still_eta, still_rules]
@[simp] theorem takeZone_still (s : State) (z : Nat) : still (takeZone s z) = still s := by
  simp [takeZone, apply_ite still, still_mk, still_eta, still_rules]
@[simp] theorem propose_still (s : State) : still (propose s) = still s := by
  simp [propose, still_mk, still_eta, still_rules]
@[simp] theorem sendProposals_still (s : State) : still (sendProposals s) = still s := by
  simp [sendProposals, apply_ite still, still_rules]
@[simp] theorem proposals_still (s : State) : still (proposals s) = still s := by
  simp [proposals]
@[simp] theorem formLimits_still (s : State) : still (formLimits s) = still s := by
  simp [formLimits, foldl_still, still_mk, still_eta, still_rules]
@[simp] theorem boundaryInputs_still (s : State) (b : Nat) : still (boundaryInputs s b) = still s := by
  simp [boundaryInputs, still_mk, still_eta, still_rules]
@[simp] theorem thmLookZone_still (s : State) (z : Nat) : still (thmLookZone s z) = still s := by
  simp [thmLookZone, apply_ite still, foldl_still]
@[simp] theorem thmLook_still (s : State) : still (thmLook s) = still s := by
  simp [thmLook, foldl_still, still_rules]
@[simp] theorem raiseCritical_still (s : State) (z source : Nat) (temp : Int) (cause : Nat) : still (raiseCritical s z source temp cause) = still s := by
  simp [raiseCritical]
@[simp] theorem raiseBands_still (s : State) (before : List Nat) : still (raiseBands s before) = still s := by
  simp [raiseBands, foldl_still, still_rules]
@[simp] theorem evalBand_still (s : State) (z : Nat) : still (evalBand s z) = still s := by
  simp [evalBand, apply_ite still, still_mk, still_eta, still_rules]
@[simp] theorem evalBands_still (s : State) : still (evalBands s) = still s := by
  simp [evalBands, foldl_still, still_rules]
@[simp] theorem sendLevel_still (s : State) : still (sendLevel s) = still s := by
  simp [sendLevel, apply_ite still, still_mk, still_eta, still_rules]
@[simp] theorem setTreq_still (s : State) (l : Nat) : still (setTreq s l) = still s := by
  simp [setTreq, still_mk, still_eta, still_rules]
@[simp] theorem throttle_still (s : State) : still (throttle s) = still s := by
  simp [throttle, still_mk, still_eta, still_rules]
@[simp] theorem enforceZone_still (s : State) (z : Nat) : still (enforceZone s z) = still s := by
  simp [enforceZone]
@[simp] theorem enforceAll_still (s : State) : still (enforceAll s) = still s := by
  simp [enforceAll, foldl_still, still_rules]
@[simp] theorem ackLateNote_still (s : State) : still (ackLateNote s) = still s := by
  simp [ackLateNote, apply_ite still, still_mk, still_eta, still_rules]
@[simp] theorem graceZone_still (s : State) (z : Nat) : still (graceZone s z) = still s := by
  simp [graceZone, apply_ite still, still_mk, still_eta, still_rules]
@[simp] theorem powerRun_still (s : State) : still (powerRun s) = still s := by
  simp [powerRun, apply_ite still, still_rules]
@[simp] theorem offerOne_still (s : State) (x : Nat × Nat) : still (offerOne s x) = still s := by
  simp [offerOne, apply_ite still, still_mk, still_eta, still_rules]
@[simp] theorem offerTests_still (s : State) : still (offerTests s) = still s := by
  simp [offerTests, apply_ite still, foldl_still, still_rules]

end Sys2Proof.Machine
end

section
/-!
The boundaries of the control cores: the 10 µs and 1 ms boundaries, the end of a grace and the calibration window. The statement O41.
-/
namespace Sys2Proof.Machine

/-- The energy segments on their way to pair 0, and each zone's own with its count of current samples (R308, R310). -/
def energyIn (s : State) : List (Nat × Seg) × List (List Seg × Nat) := (s.caps.rxSegs, s.zones.map fun zn => (zn.segs, zn.izCnt))
theorem energyIn_eq {s t : State} (hrx : t.caps.rxSegs = s.caps.rxSegs) (hz : t.zones = s.zones) : energyIn t = energyIn s := by
  rw [energyIn, hrx, hz]; rfl

/-- Conditions, curtailment stages and proposals leave the energy segments alone. -/
@[simp] theorem setCond_energyIn (s : State) (b : Bool) (code unit : Nat) (cls : Cls) : energyIn (setCond s b code unit cls) = energyIn s := by
  obtain ⟨n, hn⟩ := setCond_eq s b code unit cls
  rw [hn]; rfl
@[simp] theorem stage1_energyIn (s : State) : energyIn (stage1 s) = energyIn s := by
  unfold stage1; split <;> rfl
@[simp] theorem gateOne_energyIn (s : State) : energyIn (gateOne s) = energyIn s := by
  unfold gateOne; split <;> rfl
@[simp] theorem releaseStep_energyIn (s : State) : energyIn (releaseStep s) = energyIn s := by
  unfold releaseStep
  split
  · rfl
  · split
    · rfl
    · split <;> rfl
theorem endWindows_rxSegs (c : Caps) (b : Nat) : (c.endWindows b).rxSegs = c.rxSegs := by
  simp [Caps.endWindows, apply_ite Caps.rxSegs]
theorem endWindows_energyIn (s : State) (b : Nat) : energyIn { s with caps := s.caps.endWindows b } = energyIn s := by
  rw [energyIn, endWindows_rxSegs]; rfl
/-- What an operation keeps it keeps where it is done on a condition. -/
theorem keeps_ite {α β : Type} {f : α → β} {p : Prop} [Decidable p] {x y : α} (h : f x = f y) : f (if p then x else y) = f y := by
  split
  · exact h
  · rfl
@[simp] theorem capStages_energyIn (s : State) (b : Nat) : energyIn (capStages s b) = energyIn s := by
  unfold capStages
  generalize capTests s b 256 = o, capTests s b (256 + s.caps.cfg.relMargin) = r
  obtain ⟨oi, op, oe⟩ := o
  obtain ⟨ri, rp, re⟩ := r
  dsimp -zeta only
  extract_lets isOver exh rel c0 _ c1 _ c2 s1 s2 gd s3 s4
  have h0 : c0.rxSegs = s.caps.rxSegs := keeps_ite (f := Caps.rxSegs) rfl
  have h1 : c1.rxSegs = c0.rxSegs := keeps_ite (f := Caps.rxSegs) rfl
  have h2 : c2.rxSegs = c1.rxSegs := keeps_ite (f := Caps.rxSegs) rfl
  calc energyIn { s4 with caps := s4.caps.endWindows b }
    _ = energyIn s4 := endWindows_energyIn s4 b
    _ = energyIn s3 := keeps_ite (releaseStep_energyIn s3)
    _ = energyIn s2 := keeps_ite (gateOne_energyIn s2)
    _ = energyIn s1 := keeps_ite (stage1_energyIn s1)
    _ = energyIn s := energyIn_eq (h2.trans (h1.trans h0)) rfl
@[simp] theorem proposals_energyIn (s : State) : energyIn (proposals s) = energyIn s := by
  have hsend (t : State) : energyIn (sendProposals t) = energyIn t := by
    unfold sendProposals cxSend
    split
    · rfl
    · dsimp only; split <;> rfl
  rw [proposals, hsend]; rfl
@[simp] theorem kcalStale_energyIn (s : State) : energyIn (kcalStale s) = energyIn s := by
  have hloss : energyIn (calLoss s) = energyIn s := by
    obtain ⟨n, hn⟩ := assertCond_eq { s with caps := { s.caps with uncal := true } } 0x39 0 .degrade false none
    rw [calLoss, hn]; rfl
  unfold kcalStale
  split
  · split
    · exact hloss
    · rfl
  · rfl

/-- What an operation on x brings about at x, and keeps at the others, holds over a whole list after a fold. -/
theorem foldl_reaches {α : Type} {P : State → α → Prop} {f : State → α → State} (hat : ∀ s x, P (f s x) x)
    (hkeep : ∀ s x y, P s y → P (f s x) y) (l : List α) (s : State) (x : α) (h : x ∈ l ∨ P s x) : P (l.foldl f s) x := by
  induction l generalizing s with
  | nil => simpa using h
  | cons y ys ih =>
    refine ih _ ?_
    rcases h with h | h
    · rcases List.mem_cons.mp h with rfl | h
      · exact .inr (hat _ _)
      · exact .inl h
    · exact .inr (hkeep _ _ _ h)

/-- Zone j has no segment of its own left. -/
def emptied (s : State) (j : Nat) : Prop := ∀ zn ∈ s.zones[j]?, zn.segs = []
/-- A boundary takes the segments a zone has, with what was kept of earlier ones (R308). -/
theorem takeZone_of_no_segs {s : State} {z : Nat} (h : (zoneD s z).segs = []) : takeZone s z = s := if_pos (by simp [h])
theorem takeZone_of_segs {s : State} {z : Nat} (h : (zoneD s z).segs ≠ []) :
    takeZone s z = { modZone s z (fun zn => { zn with segs := [], sent := [] }) with
      caps := { s.caps with rxSegs := s.caps.rxSegs ++ (sendSegs (zoneD s z).segs (zoneD s z).sent).map fun g => (z, g) } } :=
  if_neg (by simpa using h)
theorem takeZone_emptied (s : State) (z : Nat) : emptied (takeZone s z) z := by
  intro zn hzn
  by_cases h : (zoneD s z).segs = []
  · rw [takeZone_of_no_segs h] at hzn
    simpa [zoneD, List.getD_eq_getElem?_getD, Option.mem_def.mp hzn] using h
  · rw [takeZone_of_segs h] at hzn
    obtain ⟨x, _, rfl⟩ : ∃ x, s.zones[z]? = some x ∧ { x with segs := [], sent := [] } = zn := by simpa [modZone] using hzn
    rfl
theorem takeZone_keeps_emptied (s : State) (z j : Nat) (h : emptied s j) : emptied (takeZone s z) j := by
  by_cases hzj : z = j
  · rw [hzj]; exact takeZone_emptied s j
  · intro zn hzn
    refine h zn ?_
    by_cases hs : (zoneD s z).segs = []
    · rwa [takeZone_of_no_segs hs] at hzn
    · rw [takeZone_of_segs hs] at hzn
      simpa [modZone, hzj] using hzn
/-- After a boundary has taken every zone's segments none is left (R308). -/
theorem takeZones_segs (s : State) : ∀ zn ∈ ((List.range s.zones.length).foldl takeZone s).zones, zn.segs = [] := by
  intro zn hzn
  obtain ⟨j, hj⟩ := List.mem_iff_getElem?.mp hzn
  have hlen : ((List.range s.zones.length).foldl takeZone s).zones.length = s.zones.length :=
    congrArg Still.nzones (foldl_still takeZone takeZone_still _ s)
  have hjr : j ∈ List.range s.zones.length := by
    rw [List.mem_range, ← hlen]; exact (List.getElem?_eq_some_iff.mp hj).1
  exact foldl_reaches takeZone_emptied takeZone_keeps_emptied _ s j (.inl hjr) zn hj

/-- Accrual of one segment leaves the meters of the whole Slat and the zones alone (R310). -/
theorem accrueSeg_meters (k : Nat) (s : State) (x : Nat × Seg) :
    (accrueSeg k s x).nrg.inst = s.nrg.inst ∧ (accrueSeg k s x).nrg.ovh = s.nrg.ovh ∧ (accrueSeg k s x).zones = s.zones := by
  unfold accrueSeg; split <;> exact ⟨rfl, rfl, rfl⟩
theorem accrueSegs_meters (k : Nat) (l : List (Nat × Seg)) (s : State) :
    (l.foldl (accrueSeg k) s).nrg.inst = s.nrg.inst ∧ (l.foldl (accrueSeg k) s).nrg.ovh = s.nrg.ovh ∧
      (l.foldl (accrueSeg k) s).zones = s.zones := by
  induction l generalizing s with
  | nil => exact ⟨rfl, rfl, rfl⟩
  | cons x xs ih =>
    obtain ⟨hi, ho, hz⟩ := ih (accrueSeg k s x)
    obtain ⟨hi', ho', hz'⟩ := accrueSeg_meters k s x
    exact ⟨hi.trans hi', ho.trans ho', hz.trans hz'⟩
/-- Accrual at boundary b adds the window's energy to NRG_INST and the overhead to NRG_OVH (R310, R312). -/
theorem accrue_meters (s : State) (b : Nat) :
    (accrue s b).nrg.inst.e = (s.nrg.inst.e + eWin s s.caps.kcal) % 2 ^ 80 ∧
      (accrue s b).nrg.ovh.e = (s.nrg.ovh.e + byKcal (rawOvh s) s.caps.kcal) % 2 ^ 80 ∧ (accrue s b).nrg.stamp = b ∧
      (accrue s b).zones = s.zones := by
  obtain ⟨hi, ho, hz⟩ := accrueSegs_meters (b - 1) s.caps.rxSegs s
  refine ⟨?_, ?_, rfl, hz⟩
  · show (Ctr.add _ _).e = _
    rw [hi]; rfl
  · show (Ctr.add _ _).e = _
    rw [ho]; rfl

/-! ## The 10 µs boundary (R308 to R312) -/

theorem clearIm_still (s : State) : still (clearIm s) = { still s with msf := { s.msf with imSum := 0, imCnt := 0 } } := rfl
theorem accrueSeg_still (k : Nat) (s : State) (x : Nat × Seg) : still (accrueSeg k s x) = { still s with nrg := (accrueSeg k s x).nrg } := by
  unfold accrueSeg; split <;> rfl
theorem accrueSegs_still (k : Nat) (l : List (Nat × Seg)) (s : State) :
    still (l.foldl (accrueSeg k) s) = { still s with nrg := (l.foldl (accrueSeg k) s).nrg } := by
  induction l generalizing s with
  | nil => rfl
  | cons x xs ih => rw [List.foldl_cons, ih, accrueSeg_still]
theorem accrue_still (s : State) (b : Nat) : still (accrue s b) = { still s with nrg := (accrue s b).nrg } := by
  show { still (s.caps.rxSegs.foldl (accrueSeg (b - 1)) s) with nrg := (accrue s b).nrg } = _
  rw [accrueSegs_still]
theorem windowSums_rxSegs (c : Caps) (e i b r : Nat) : (windowSums c e i b r).rxSegs = c.rxSegs := rfl
theorem still_withCaps (s : State) (c : Caps) : still { s with caps := c } = still s := rfl
theorem energyIn_withCaps (s : State) (c : Caps) : energyIn { s with caps := c } = (c.rxSegs, (energyIn s).2) := rfl
/-- The state in which a boundary has taken every zone's segments. -/
def takeZones (s : State) : State := (List.range s.zones.length).foldl takeZone s
theorem takeZones_still (s : State) : still (takeZones s) = still s := foldl_still takeZone takeZone_still _ s
theorem capRun_eq (s : State) (b : Nat) : ∃ e i r, capRun s b =
    kcalStale (proposals (capStages { zoneCodes (accrue (clearIm (takeZones s)) b) with
      caps := windowSums (zoneCodes (accrue (clearIm (takeZones s)) b)).caps e i b r } b)) := ⟨_, _, _, rfl⟩
/-- Curtailment at a 10 µs boundary accrues the energy with the boundary's stamp and begins the windows anew (R308, R312). -/
theorem capRun_still (s : State) (b : Nat) : ∃ n m, still (capRun s b) = { still s with nrg := n, msf := m } ∧ n.stamp = b ∧ m.imCnt = 0 := by
  obtain ⟨e, i, r, hrun⟩ := capRun_eq s b
  obtain ⟨-, -, hstamp, -⟩ := accrue_meters (clearIm (takeZones s)) b
  refine ⟨_, { (takeZones s).msf with imSum := 0, imCnt := 0 }, ?_, hstamp, rfl⟩
  rw [hrun, kcalStale_still, proposals_still, capStages_still, still_withCaps, zoneCodes_still, accrue_still, clearIm_still, takeZones_still]
/-- It takes every zone's segments and leaves none behind (R308). -/
theorem capRun_energyIn (s : State) (b : Nat) : energyIn (capRun s b) = ([], s.zones.map fun _ => ([], 0)) := by
  obtain ⟨e, i, r, hrun⟩ := capRun_eq s b
  obtain ⟨-, -, -, hz⟩ := accrue_meters (clearIm (takeZones s)) b
  have hcodes (t : State) : (energyIn (zoneCodes t)).2 = t.zones.map fun zn => (zn.segs, 0) := by
    simp [energyIn, zoneCodes]
  have hlen : (takeZones s).zones.length = s.zones.length := congrArg Still.nzones (takeZones_still s)
  have hnone : ∀ zn ∈ (takeZones s).zones, (zn.segs, 0) = (([] : List Seg), 0) := fun zn h => by rw [takeZones_segs s zn h]
  rw [hrun, kcalStale_energyIn, proposals_energyIn, capStages_energyIn, energyIn_withCaps, windowSums_rxSegs, hcodes, hz]
  refine Prod.ext rfl ?_
  show (takeZones s).zones.map _ = _
  rw [List.map_congr_left hnone, List.map_const', List.map_const', hlen]

/-- The step of a run that judges zone z's asked frequency before its limit update (R322). -/
def limitZone (s : State) (z : Nat) : State :=
  setCond (modZone s z fun zn => { zn with sft := { zn.sft with freqOver := freqOver s z } }) (freqOver s z) 0x17 z .degrade
theorem formLimits_eq_limitZones (s : State) : formLimits s =
    { (List.range s.zones.length).foldl limitZone s with
      caps := { ((List.range s.zones.length).foldl limitZone s).caps with
        out := (List.range s.zones.length).map fun z => (z, limitOf s z) } } := rfl
/-- What a zone whose frequency has been judged keeps of its segments and its current samples. -/
theorem map_segs_modify_freqOver (zs : List Zone) (z : Nat) (b : Bool) :
    ((zs.modify z fun zn => { zn with sft := { zn.sft with freqOver := b } }).map fun zn => (zn.segs, zn.izCnt)) =
      zs.map fun zn => (zn.segs, zn.izCnt) := by
  refine List.ext_getElem? fun j => ?_
  by_cases hzj : z = j
  · cases hj : zs[j]? <;> simp [hzj, hj]
  · simp [hzj]
theorem limitZones_eq (l : List Nat) (s : State) :
    ∃ zs n, l.foldl limitZone s = { s with zones := zs, snag := n } ∧
      (zs.map fun zn => (zn.segs, zn.izCnt)) = s.zones.map fun zn => (zn.segs, zn.izCnt) := by
  induction l generalizing s with
  | nil => exact ⟨_, _, rfl, rfl⟩
  | cons z l ih =>
    obtain ⟨zs, n, hs, hz⟩ := ih (limitZone s z)
    obtain ⟨m, hm⟩ := setCond_eq (modZone s z fun zn => { zn with sft := { zn.sft with freqOver := freqOver s z } }) (freqOver s z) 0x17 z .degrade
    rw [← limitZone] at hm
    rw [hm] at hs hz
    exact ⟨zs, n, by rw [List.foldl_cons, hm, hs]; rfl, hz.trans (map_segs_modify_freqOver s.zones z _)⟩
/-- The limit updates of a run: one for every zone (R163, R322). Nothing else changes but the judged frequencies and their conditions. -/
theorem formLimits_eq (s : State) : ∃ zs n out, formLimits s = { s with zones := zs, snag := n, caps := { s.caps with out := out } } ∧
    (zs.map fun zn => (zn.segs, zn.izCnt)) = (s.zones.map fun zn => (zn.segs, zn.izCnt)) ∧ out.map (·.1) = List.range s.zones.length := by
  obtain ⟨zs, n, hs, hz⟩ := limitZones_eq (List.range s.zones.length) s
  refine ⟨zs, n, (List.range s.zones.length).map fun z => (z, limitOf s z), ?_, hz, ?_⟩
  · rw [formLimits_eq_limitZones, hs]
  · rw [List.map_map]; exact List.map_id _

/-- What a run of curtailment begins with: the settings to go back to and the boundary's inputs (R39, R308). -/
def runStart (s : State) : State :=
  let s1 := if s.caps.taskDone.head? = some true then { s with cores := { s.cores with misses := 0 } } else s
  boundaryInputs (modUndo s1 fun u => { u with cap := some (ckptOf s1) }) s.tb.count
theorem runStart_still (s : State) : still (runStart s) = still s := by
  rw [runStart, boundaryInputs_still, modUndo_still]
  exact keeps_ite (f := still) rfl
/-- ENFORCEMENT_BOUNDARY with pair 0 running since READY is a run of curtailment whose limit updates it forms (R308 to R312). -/
theorem execEnforcementBoundary_running {s : State} (hrun : s.su.cond = .run) (hgrid : s.su.grid = true) (hb : s.tb.count % 10000 = 0)
    (hpair : s.cores.run0 = true) (hready : s.su.readyEver = true) : exec .enforcementBoundary s =
      .next (formLimits { capRun (runStart s) s.tb.count with caps := (capRun (runStart s) s.tb.count).caps.pushTask true }) := by
  have hb' : now s % 10000 = 0 := hb
  have hsince : sinceReady (runStart s) = true := (congrArg (fun k : Still => k.su.readyEver) (runStart_still s)).trans hready
  refine (if_neg (by simp [onGrid, running, hrun, hgrid, hb'])).trans ((if_neg (by simp [hpair])).trans ?_)
  exact congrArg (fun t : State => (.next (formLimits { t with caps := t.caps.pushTask true }) : Out)) (if_pos hsince)
/-- ENERGY_SEGMENT_RX that pair 0 receives, and one that it does not (R309). -/
theorem execEnergySegmentRx_delivered {s : State} {z : Nat} (hready : s.su.readyEver = true) (hb : s.tb.count % 10000 = 0)
    (hpair : s.cores.run0 = true) : exec (.energySegmentRx z true) s = .next (takeZone s z) := by
  have hb' : now s % 10000 = 0 := hb
  exact (if_neg (by simp [sinceReady, hready, hb'])).trans (if_pos (by simp [hpair]))
theorem execEnergySegmentRx_lost {s : State} {z : Nat} (hready : s.su.readyEver = true) (hb : s.tb.count % 10000 = 0) :
    exec (.energySegmentRx z false) s = .next (modZone s z Zone.carry) := by
  have hb' : now s % 10000 = 0 := hb
  exact (if_neg (by simp [sinceReady, hready, hb'])).trans (if_neg (by simp))

theorem enforcementBoundary_running (s : State) (hrun : s.su.cond = .run) (hgrid : s.su.grid = true) (hb : s.tb.count % 10000 = 0)
    (hpair : s.cores.run0 = true) (hready : s.su.readyEver = true) :
    ∃ t, exec .enforcementBoundary s = .next t ∧ t.nrg.stamp = s.tb.count ∧ t.caps.rxSegs = [] ∧
      (t.zones.all fun zn => zn.segs.isEmpty && zn.izCnt = 0) = true ∧ t.caps.out.map (·.1) = List.range s.zones.length ∧
      t.zones.length = s.zones.length ∧ t.msf.imCnt = 0 ∧ t.caps.taskDone.head? = some true ∧
      t.su = s.su ∧ t.pins = s.pins ∧ t.nvm = s.nvm ∧ t.fus = s.fus := by
  have hexec := execEnforcementBoundary_running hrun hgrid hb hpair hready
  obtain ⟨n, m, hstill, hstamp, hcnt⟩ := capRun_still (runStart s) s.tb.count
  have hin := capRun_energyIn (runStart s) s.tb.count
  generalize capRun (runStart s) s.tb.count = u at *
  obtain ⟨zs, sn, out, hform, hzs, hout⟩ := formLimits_eq { u with caps := u.caps.pushTask true }
  rw [runStart_still] at hstill
  obtain ⟨-, hsu, hpins, hfus, hnvm, hnrg, hmsf, hlen, -, -⟩ := Still.mk.inj hstill
  obtain ⟨hrx, hmap⟩ := Prod.mk.inj hin
  have hlen' : u.zones.length = s.zones.length := hlen
  rw [hform] at hexec
  refine ⟨_, hexec, ?_, hrx, ?_, hlen' ▸ hout, ?_, ?_, rfl, hsu, hpins, hnvm, hfus⟩
  · show u.nrg.stamp = _
    rw [hnrg, hstamp]
  · have hall : (zs.map fun zn => (zn.segs, zn.izCnt)).all (fun x => x.1.isEmpty && x.2 = 0) = true := by
      rw [hzs]; show (u.zones.map _).all _ = true
      rw [hmap]; simp
    simpa using hall
  · have h := congrArg List.length hzs
    rw [List.length_map, List.length_map] at h
    exact h.trans hlen
  · show u.msf.imCnt = 0
    rw [hmsf, hcnt]

/-! ## The 1 ms boundary and the end of a grace (R38, R325, R341) -/

/-- ENFORCEMENT_BOUNDARY with pair 0 stopped: the Floats carry their energy and the counters stand still (R309). -/
theorem enforcementBoundary_stopped (s : State) (hrun : s.su.cond = .run) (hgrid : s.su.grid = true) (hb : s.tb.count % 10000 = 0)
    (hpair : s.cores.run0 = false) :
    ∃ t, exec .enforcementBoundary s = .next t ∧ t.nrg = s.nrg ∧
      t.zones = (s.zones.map fun zn => { zn.carry with izSum := 0, izCnt := 0 }) ∧ t.caps.codes = s.caps.codes ∧ t.caps.out = s.caps.out ∧
      t.caps.taskDone.head? = some false ∧ { t with zones := s.zones, caps := s.caps, msf := s.msf } = s := by
  have hb' : now s % 10000 = 0 := hb
  have hexec : exec .enforcementBoundary s = .next (capIdle s s.tb.count) :=
    (if_neg (by simp [onGrid, running, hrun, hgrid, hb'])).trans (if_pos (by simp [hpair]))
  refine ⟨_, hexec, rfl, rfl, ?_, ?_, rfl, rfl⟩
  · simp [capIdle, clearIm, Caps.pushTask, Caps.endWindows, apply_ite Caps.codes]
  · simp [capIdle, clearIm, Caps.pushTask, Caps.endWindows, apply_ite Caps.out]

/-- An offered self-test, and a report to the constellation, touch no more than their own unit (R197, R425). -/
theorem offerOne_eq (s : State) (x : Nat × Nat) : ∃ zs b, offerOne s x = { s with zones := zs, bist := b } := by
  unfold offerOne; dsimp only
  repeat' split
  all_goals exact ⟨_, _, rfl⟩
theorem offerTests_eq (s : State) : ∃ zs b, offerTests s = { s with zones := zs, bist := b } := by
  have hfold (l : List (Nat × Nat)) (t : State) : ∃ zs b, l.foldl offerOne t = { t with zones := zs, bist := b } := by
    induction l generalizing t with
    | nil => exact ⟨_, _, rfl⟩
    | cons x xs ih =>
      obtain ⟨zs, b, h⟩ := offerOne_eq t x
      obtain ⟨zs', b', h'⟩ := ih (offerOne t x)
      exact ⟨zs', b', by rw [List.foldl_cons, h', h]⟩
  unfold offerTests
  split
  · exact hfold _ s
  · exact ⟨_, _, rfl⟩
theorem cxSend_eq (s : State) (ms : List CxMsg) : ∃ c, cxSend s ms = { s with csc := c } := by
  unfold cxSend; split <;> exact ⟨_, rfl⟩
theorem answerShares_eq (s : State) : ∃ c, answerShares s = { s with csc := c } := by
  unfold answerShares; dsimp only
  split
  · exact ⟨_, rfl⟩
  · split
    · split
      · exact cxSend_eq (takeShare _ _) _
      · exact cxSend_eq { s with csc := _ } _
    · exact ⟨_, rfl⟩
theorem msReport_eq (s : State) : ∃ c, msReport s = { s with csc := c } := by
  unfold msReport
  split
  · exact ⟨_, rfl⟩
  · split
    · exact answerShares_eq s
    · exact cxSend_eq s _

/-- The level a run of the power cap sends is the larger of the thermal request and CTHR (R325, R338). -/
theorem sendLevel_level (s : State) : (sendLevel s).thm.level = max (sendLevel s).thm.treq (sendLevel s).caps.cthr := by
  unfold sendLevel; dsimp only
  split
  · next h => exact h.symm
  · rfl
/-- A run of the power cap ends with the level sent and a limit update for every zone (R163, R325). -/
theorem powerRun_limits (s : State) : (powerRun s).caps.out.map (·.1) = List.range s.zones.length ∧
    (powerRun s).thm.level = max (powerRun s).thm.treq (powerRun s).caps.cthr := by
  obtain ⟨u, hu⟩ : ∃ u, powerRun s = formLimits (sendLevel u) := ⟨_, rfl⟩
  obtain ⟨zs, n, out, hform, hzs, hout⟩ := formLimits_eq (sendLevel u)
  have hlen : (sendLevel u).zones.length = s.zones.length := by
    have h := congrArg Still.nzones (powerRun_still s)
    rw [hu, formLimits_still] at h
    exact h
  rw [hu, hform]
  exact ⟨hlen ▸ hout, sendLevel_level u⟩

/-- The checkpoint of a running pair holds its settings (R40). -/
theorem takeCkpt_ck0 {s : State} (h : s.cores.run0 = true) : (takeCkpt s).cores.ck0 = some (ckptOf s) := if_pos h
theorem takeCkpt_ck1 {s : State} (h : s.cores.run1 = true) : (takeCkpt s).cores.ck1 = some (s.tb.count, s.fce.adapt) := if_pos h
/-- POWER_WINDOW_BOUNDARY on the grid with both pairs running since READY (R38, R325). -/
theorem powerWindowBoundary_running (s : State) (hrun : s.su.cond = .run) (hgrid : s.su.grid = true) (hb : s.tb.count % 1000000 = 0)
    (hpair0 : s.cores.run0 = true) (hpair1 : s.cores.run1 = true) (hready : s.su.readyEver = true) :
    ∃ t, exec .powerWindowBoundary s = .next t ∧ (∃ c ∈ t.cores.ck0, c.codes = t.caps.codes ∧ c.zones = t.caps.zones) ∧
      t.cores.ck1 = some (s.tb.count, t.fce.adapt) ∧ t.caps.out.map (·.1) = List.range s.zones.length ∧
      t.thm.level = max t.thm.treq t.caps.cthr ∧ t.zones.length = s.zones.length ∧ t.pins = s.pins ∧ t.tb = s.tb ∧ t.nrg = s.nrg := by
  have hb' : now s % 1000000 = 0 := hb
  have hexec : exec .powerWindowBoundary s = .next (takeCkpt (takeBatch (msReport (offerTests (powerRun s))))) := by
    show execPowerWindowBoundary s = _
    rw [execPowerWindowBoundary, if_neg (by simp [alive_of_run hrun, hb']), if_neg (by simp [onGrid, running, hrun, hgrid])]
    simp [sinceReady, hpair0, hready]
  obtain ⟨hout, hlevel⟩ := powerRun_limits s
  have hstill := powerRun_still s
  have hlen : (offerTests (powerRun s)).zones.length = s.zones.length :=
    congrArg Still.nzones ((offerTests_still _).trans hstill)
  obtain ⟨zs, b, hoffer⟩ := offerTests_eq (powerRun s)
  obtain ⟨c, hreport⟩ := msReport_eq (offerTests (powerRun s))
  rw [hreport, hoffer] at hexec
  rw [hoffer] at hlen
  generalize powerRun s = u at *
  obtain ⟨htb, -, hpins, -, -, hnrg, -, -, hr0, hr1⟩ := Still.mk.inj hstill
  simp only [takeBatch, hr1, hpair1, if_true] at hexec
  refine ⟨_, hexec, ?_, ?_, hout, hlevel, hlen, hpins, htb, hnrg⟩
  · exact ⟨_, takeCkpt_ck0 (hr0.trans hpair0), rfl, rfl⟩
  · exact (takeCkpt_ck1 (hr1.trans hpair1)).trans (congrArg (fun tb : TimeBase => some (tb.count, u.fce.adapt)) htb)

/-- Zone z as a change of zone y leaves it. -/
theorem thmD_modThm (s : State) (y z : Nat) (f : ThmZone → ThmZone) :
    thmD (modThm s y f) z = if y = z ∧ z < s.thm.zones.length then f (thmD s z) else thmD s z := by
  by_cases hyz : y = z
  · subst hyz
    by_cases hlen : y < s.thm.zones.length <;> simp [thmD, modThm, List.getD_eq_getElem?_getD, hlen]
  · simp [thmD, modThm, List.getD_eq_getElem?_getD, hyz]
/-- A step of enforcement leaves the band and the watch alone, and a HOT zone under enforcement (R342). -/
theorem enforce_band (x : ThmZone) (tlmin tstep n : Nat) : (x.enforce tlmin tstep n).band = x.band := by
  unfold ThmZone.enforce
  repeat' split
  all_goals rfl
theorem enforce_watch (x : ThmZone) (tlmin tstep n : Nat) : (x.enforce tlmin tstep n).watch = x.watch := by
  unfold ThmZone.enforce
  repeat' split
  all_goals rfl
theorem enforce_enf {x : ThmZone} (hhot : x.band = 3) (tlmin tstep n : Nat) : (x.enforce tlmin tstep n).enf = x.enf := by
  unfold ThmZone.enforce
  rw [if_pos (by rw [hhot])]
  repeat' split
  all_goals rfl
/-- Enforcement of a zone is one step of its record; the rest of it is a condition (R342). -/
theorem enforceZone_thm (s : State) (z : Nat) :
    (enforceZone s z).thm = (modThm s z fun x => x.enforce s.thm.cfg.tlmin s.thm.cfg.tstep (zoneD s z).arrays.length).thm := by
  obtain ⟨n, hn⟩ := setCond_eq (modThm s z fun x => x.enforce s.thm.cfg.tlmin s.thm.cfg.tstep (zoneD s z).arrays.length) _ 0x43 z .degrade
  rw [enforceZone, hn]
theorem thmD_of_thm {s t : State} (h : s.thm = t.thm) (z : Nat) : thmD s z = thmD t z := by rw [thmD, thmD, h]

/-- A zone is watched no longer, and is enforced where it is HOT (R341). -/
def graced (s : State) (z : Nat) : Prop := (thmD s z).watch = none ∧ ((thmD s z).band = 3 → (thmD s z).enf = true)
/-- A zone's record when enforcement begins at the end of its grace. -/
def ThmZone.underEnforcement (x : ThmZone) : ThmZone := { x with watch := none, enf := true }
/-- What the end of a grace leaves of a zone's record. -/
theorem thmD_graceZone_hot {s : State} {y : Nat} (h : (thmD s y).band = 3) (z : Nat) : ∃ l t n, thmD (graceZone s y) z =
    if y = z ∧ z < s.thm.zones.length then (thmD s z).underEnforcement.enforce l t n else thmD s z := by
  let u : State := { modThm s y (fun x => { x with watch := none }) with
    thm := { (modThm s y fun x => { x with watch := none }).thm with enforced := satInc 255 s.thm.enforced } }
  have hexec : graceZone s y = enforceZone (modThm u y fun x => { x with enf := true }) y := if_pos h
  have hu : thmD u z = if y = z ∧ z < s.thm.zones.length then { thmD s z with watch := none } else thmD s z := thmD_modThm s y z _
  have hulen : u.thm.zones.length = s.thm.zones.length := List.length_modify ..
  have hvlen : (modThm u y fun x => { x with enf := true }).thm.zones.length = s.thm.zones.length := (List.length_modify ..).trans hulen
  refine ⟨s.thm.cfg.tlmin, s.thm.cfg.tstep, (zoneD s y).arrays.length, ?_⟩
  rw [hexec, thmD_of_thm (enforceZone_thm _ _), thmD_modThm, thmD_modThm, hu, hvlen, hulen]
  by_cases hz : y = z ∧ z < s.thm.zones.length
  · simp only [if_pos hz]; rfl
  · simp only [if_neg hz]
theorem thmD_graceZone_cool {s : State} {y : Nat} (h : (thmD s y).band ≠ 3) (z : Nat) : thmD (graceZone s y) z =
    if y = z ∧ z < s.thm.zones.length then { thmD s z with watch := none } else thmD s z := by
  rw [graceZone, if_neg h, thmD_modThm]
/-- The end of a grace leaves every band. -/
theorem graceZone_band (s : State) (y z : Nat) : (thmD (graceZone s y) z).band = (thmD s z).band := by
  by_cases h : (thmD s y).band = 3
  · obtain ⟨l, t, n, hz⟩ := thmD_graceZone_hot h z
    rw [hz, apply_ite ThmZone.band, enforce_band]; exact ite_self _
  · rw [thmD_graceZone_cool h, apply_ite ThmZone.band, ite_self]
theorem graceZone_graced (s : State) (z : Nat) : graced (graceZone s z) z := by
  by_cases hz : z < s.thm.zones.length
  · by_cases h : (thmD s z).band = 3
    · obtain ⟨l, t, n, hg⟩ := thmD_graceZone_hot h z
      rw [graced, hg, if_pos ⟨rfl, hz⟩, enforce_watch, enforce_enf (x := (thmD s z).underEnforcement) h]
      exact ⟨rfl, fun _ => rfl⟩
    · rw [graced, graceZone_band, thmD_graceZone_cool h, if_pos ⟨rfl, hz⟩]
      exact ⟨rfl, fun hb => absurd hb h⟩
  · have hd : thmD s z = {} := by simp [thmD, List.getD_eq_getElem?_getD, hz]
    have h : (thmD s z).band ≠ 3 := by rw [hd]; decide
    rw [graced, thmD_graceZone_cool h, if_neg fun hc => hz hc.2, hd]
    exact ⟨rfl, by decide⟩
theorem graceZone_keeps_graced (s : State) (y z : Nat) (h : graced s z) : graced (graceZone s y) z := by
  by_cases hyz : y = z
  · rw [hyz]; exact graceZone_graced s z
  · have hsame : thmD (graceZone s y) z = thmD s z := by
      by_cases hb : (thmD s y).band = 3
      · obtain ⟨l, t, n, hg⟩ := thmD_graceZone_hot hb z
        rw [hg, if_neg fun hc => hyz hc.1]
      · rw [thmD_graceZone_cool hb, if_neg fun hc => hyz hc.1]
    rw [graced, hsame]; exact h
theorem graceZones_band (l : List Nat) (s : State) (z : Nat) : (thmD (l.foldl graceZone s) z).band = (thmD s z).band := by
  induction l generalizing s with
  | nil => rfl
  | cons y ys ih => rw [List.foldl_cons, ih, graceZone_band]

/-- A late acknowledgement, and the proposals of the controllers, leave the zones' records alone. -/
theorem ackLateNote_zones (s : State) : (ackLateNote s).thm.zones = s.thm.zones := by
  unfold ackLateNote; split <;> rfl
theorem proposals_thm (s : State) : (proposals s).thm = s.thm := by
  unfold proposals sendProposals
  split
  · rfl
  · obtain ⟨c, hc⟩ := cxSend_eq (propose s) _
    rw [hc]; rfl

/-- GRACE_END with zones whose grace is over (R341). -/
theorem graceEnd_due (s : State) (hrun : s.su.cond = .run) (hgrid : s.su.grid = true) (hb : s.tb.count % 10000 = 0)
    (hpair : s.cores.run0 = true) (hdue : graceDue s ≠ []) :
    ∃ t, exec .graceEnd s = .next t ∧ (∀ z ∈ graceDue s, (thmD t z).watch = none) ∧
      (∀ z ∈ graceDue s, (thmD s z).band = 3 → (thmD t z).enf = true) ∧ t.zones.length = s.zones.length ∧ t.pins = s.pins ∧
      t.nrg = s.nrg := by
  have hb' : now s % 10000 = 0 := hb
  refine ⟨_, if_pos (by simp [onGrid, running, hrun, hgrid, hpair, hb', hdue]), ?_⟩
  let u := (graceDue s).foldl graceZone (ackLateNote s)
  have hthm (z : Nat) : thmD (formLimits (proposals u)) z = thmD u z := by
    obtain ⟨zs, n, out, hform, -, -⟩ := formLimits_eq (proposals u)
    rw [hform]; exact thmD_of_thm (proposals_thm u) z
  have hband (z : Nat) : (thmD u z).band = (thmD s z).band := by
    rw [graceZones_band, thmD, ackLateNote_zones]; rfl
  have hgraced (z : Nat) (hz : z ∈ graceDue s) : graced (formLimits (proposals u)) z := by
    rw [graced, hthm]; exact foldl_reaches graceZone_graced graceZone_keeps_graced _ _ z (.inl hz)
  have hstill : still (formLimits (proposals u)) = still s := by
    rw [formLimits_still, proposals_still]
    exact (foldl_still graceZone graceZone_still _ _).trans (ackLateNote_still s)
  obtain ⟨-, -, hpins, -, -, hnrg, -, hlen, -, -⟩ := Still.mk.inj hstill
  exact ⟨fun z hz => (hgraced z hz).1, fun z hz hhot => (hgraced z hz).2 (by rw [hthm, hband, hhot]), hlen, hpins, hnrg⟩

/-! ## The calibration window (R316, R367) -/

/-- A condition that is asserted loses no report either (R401). -/
theorem Reported.assertCond {s : State} {code unit k : Nat} {cls : Cls} (h : Reported s code unit cls k) (code' unit' : Nat) (cls' : Cls) :
    Reported (assertCond s code' unit' cls') code unit cls k := by
  have hset := h.setCond true code' unit' cls'
  rwa [Machine.setCond, if_pos rfl] at hset

/-- The registers of a window that ends, before its k is judged (R367). -/
def windowClosed (s : State) : State :=
  let s0 := { s with cores := { s.cores with undo := { s.cores.undo with
    cal := some (s.caps.kcal, s.caps.uncal, s.caps.rejects, s.caps.calAt, s.caps.calAcc) } } }
  windowRegs (if (winOutcome s).2 then note s0 0x49 1 else s0) (winOutcome s).1
/-- The judgement of the k of a window (R316). -/
def judgeCal (s : State) (out : Nat) (k : Option Int) : State :=
  match k with
  | none => s
  | some k => if 0x3800 ≤ k && k ≤ 0x4800 then acceptCal s out k.toNat else rejectCal s
/-- Three estimates in a row are a loss of the rail's sensor (R369). -/
def judgeTcv (s : State) : State := if 3 ≤ s.tcv.estRow then tcvLost s else s

theorem windowRegs_eq (s : State) (out : Nat) : ∃ t, windowRegs s out =
    { s with tcv := t, caps := { s.caps with prSum := 0, peSum := 0, prCnt := 0 } } ∧ t.pmCnt = 0 ∧ t.pmOut = out ∧
      (out = 0 → t.pm = 0 ∧ t.estRow = 0) :=
  ⟨_, rfl, rfl, rfl, by rintro rfl; exact ⟨rfl, rfl⟩⟩
/-- The end of a window begins its sums anew; of the rest it touches the restore point and the reports (R367). -/
theorem windowClosed_eq (s : State) : ∃ c n t, windowClosed s =
    { s with cores := c, snag := n, tcv := t, caps := { s.caps with prSum := 0, peSum := 0, prCnt := 0 } } ∧ t.pmCnt = 0 ∧
      t.pmOut = (winOutcome s).1 ∧ ((winOutcome s).1 = 0 → t.pm = 0 ∧ t.estRow = 0) := by
  unfold windowClosed
  dsimp only
  split
  · obtain ⟨t, ht, hrest⟩ := windowRegs_eq (note { s with cores := { s.cores with undo := { s.cores.undo with
      cal := some (s.caps.kcal, s.caps.uncal, s.caps.rejects, s.caps.calAt, s.caps.calAcc) } } } 0x49 1) (winOutcome s).1
    exact ⟨_, _, t, ht, hrest⟩
  · obtain ⟨t, ht, hrest⟩ := windowRegs_eq { s with cores := { s.cores with undo := { s.cores.undo with
      cal := some (s.caps.kcal, s.caps.uncal, s.caps.rejects, s.caps.calAt, s.caps.calAcc) } } } (winOutcome s).1
    exact ⟨_, _, t, ht, hrest⟩
theorem acceptCal_eq (s : State) (out k : Nat) : ∃ n t, acceptCal s out k =
    { s with snag := n, tcv := t, caps := { s.caps with kcalNext := some k, rejects := 0 } } := by
  unfold acceptCal
  dsimp only
  split
  · obtain ⟨n, hn⟩ := deassertCond_eq { s with tcv := { s.tcv with lost := false }, caps := { s.caps with kcalNext := some k, rejects := 0 } } 0x48 0
    exact ⟨n, _, hn⟩
  · exact ⟨_, _, rfl⟩
theorem calLoss_eq (s : State) : ∃ n, calLoss s = { s with snag := n, caps := { s.caps with uncal := true } } :=
  assertCond_eq { s with caps := { s.caps with uncal := true } } 0x39 0 .degrade false none
theorem tcvLost_eq (s : State) : ∃ n t, tcvLost s = { s with snag := n, tcv := t } := by
  obtain ⟨n, hn⟩ := assertCond_eq { s with tcv := if s.tcv.lost then s.tcv else { s.tcv with lost := true }.seen 5 } 0x48 0 .degrade false none
  exact ⟨n, _, hn⟩
theorem judgeTcv_eq (s : State) : ∃ n t, judgeTcv s = { s with snag := n, tcv := t } := by
  unfold judgeTcv
  split
  · exact tcvLost_eq s
  · exact ⟨_, _, rfl⟩
theorem Reported.judgeTcv {s : State} {code unit k : Nat} {cls : Cls} (h : Reported s code unit cls k) :
    Reported (judgeTcv s) code unit cls k := by
  unfold Machine.judgeTcv
  split
  · refine Reported.assertCond ?_ _ _ _
    exact h
  · exact h
/-- A k that is refused is counted and is a NOTE 0x38; the settings in force and the one that waits stay (R316). -/
theorem rejectCal_eq (s : State) : ∃ n u st, rejectCal s = { s with snag := n, caps := { s.caps with
    rejects := s.caps.rejects + 1, calReject := satInc 255 s.caps.calReject, status := st, uncal := u } } := by
  unfold rejectCal
  dsimp only
  split
  · obtain ⟨n, hn⟩ := calLoss_eq (note { s with caps := { s.caps with
      rejects := s.caps.rejects + 1, calReject := satInc 255 s.caps.calReject }.seen 7 } 0x38 0)
    exact ⟨n, _, _, hn⟩
  · exact ⟨_, _, _, rfl⟩
theorem reported_rejectCal (s : State) : Reported (rejectCal s) 0x38 0 .note s.tb.count := by
  have hnote : Reported (note { s with caps := { s.caps with
      rejects := s.caps.rejects + 1, calReject := satInc 255 s.caps.calReject }.seen 7 } 0x38 0) 0x38 0 .note s.tb.count :=
    note_mem_inbox _ 0x38 0 none
  unfold rejectCal
  dsimp only
  split
  · refine Reported.assertCond ?_ _ _ _
    exact hnote
  · exact hnote

section
variable {s : State} (hrun : s.su.cond = .run) (hready : s.su.readyEver = true) (hb : s.tb.count % 100000000 = 0)
include hrun hready hb

/-- CALIBRATION_WINDOW at the end of a window: its registers, then its k, then the state of the rail's sensor (R316, R367). -/
theorem execCalibrationWindow_running (hpair : s.cores.run1 = true) :
    exec .calibrationWindow s = .next (judgeTcv (judgeCal (windowClosed s) (winOutcome s).1 (kOf s (winOutcome s).1))) := by
  have hb' : now s % 100000000 = 0 := hb
  exact (if_neg (by simp [running, sinceReady, hrun, hready, hb'])).trans (if_neg (by simp [hpair]))
/-- With pair 1 stopped the window's sums begin anew (assumption 102). -/
theorem execCalibrationWindow_stopped (hpair : s.cores.run1 = false) : exec .calibrationWindow s = .next (restartWindow s) := by
  have hb' : now s % 100000000 = 0 := hb
  exact (if_neg (by simp [running, sinceReady, hrun, hready, hb'])).trans (if_pos (by simp [hpair]))

theorem calibrationWindow_none (hpair : s.cores.run1 = true) (hout : (winOutcome s).1 = 0) :
    ∃ t, exec .calibrationWindow s = .next t ∧ t.caps.kcal = s.caps.kcal ∧ t.caps.kcalNext = s.caps.kcalNext ∧
      t.caps.rejects = s.caps.rejects ∧ t.caps.prCnt = 0 ∧ t.tcv.pmOut = 0 ∧ t.tcv.pm = 0 ∧ t.tcv.pmCnt = 0 ∧ t.nrg = s.nrg ∧
      t.zones = s.zones := by
  have hexec := execCalibrationWindow_running hrun hready hb hpair
  obtain ⟨c, n, t, hclosed, hcnt, hpm, hzero⟩ := windowClosed_eq s
  obtain ⟨hpm0, hest⟩ := hzero hout
  have hk : kOf s (winOutcome s).1 = none := by rw [hout]; rfl
  rw [hk, judgeCal, hclosed, judgeTcv, if_neg (by rw [hest]; decide)] at hexec
  exact ⟨_, hexec, rfl, rfl, rfl, rfl, hpm.trans hout, hpm0, hcnt, rfl, rfl⟩
theorem calibrationWindow_accepted (hpair : s.cores.run1 = true) {k : Int} (hk : kOf s (winOutcome s).1 = some k) (hlo : 0x3800 ≤ k)
    (hhi : k ≤ 0x4800) :
    ∃ t, exec .calibrationWindow s = .next t ∧ t.caps.kcalNext = some k.toNat ∧ t.caps.kcal = s.caps.kcal ∧ t.caps.rejects = 0 ∧
      t.caps.prCnt = 0 ∧ t.nrg = s.nrg := by
  have hexec := execCalibrationWindow_running hrun hready hb hpair
  obtain ⟨c, n, t, hclosed, -⟩ := windowClosed_eq s
  obtain ⟨n', t', haccept⟩ := acceptCal_eq (windowClosed s) (winOutcome s).1 k.toNat
  obtain ⟨n'', t'', hjudge⟩ := judgeTcv_eq (acceptCal (windowClosed s) (winOutcome s).1 k.toNat)
  rw [hk, judgeCal, if_pos (by simp [hlo, hhi]), hjudge, haccept, hclosed] at hexec
  exact ⟨_, hexec, rfl, rfl, rfl, rfl, rfl⟩
theorem calibrationWindow_refused (hpair : s.cores.run1 = true) {k : Int} (hk : kOf s (winOutcome s).1 = some k)
    (hout : k < 0x3800 ∨ 0x4800 < k) :
    ∃ t, exec .calibrationWindow s = .next t ∧ t.caps.kcalNext = s.caps.kcalNext ∧ t.caps.kcal = s.caps.kcal ∧
      t.caps.rejects = s.caps.rejects + 1 ∧ t.caps.calReject = min 255 (s.caps.calReject + 1) ∧ Reported t 0x38 0 .note s.tb.count ∧
      t.nrg = s.nrg := by
  have hexec := execCalibrationWindow_running hrun hready hb hpair
  obtain ⟨c, n, t, hclosed, -⟩ := windowClosed_eq s
  obtain ⟨n', u, st, hreject⟩ := rejectCal_eq (windowClosed s)
  obtain ⟨n'', t'', hjudge⟩ := judgeTcv_eq (rejectCal (windowClosed s))
  have hrep : Reported (judgeTcv (rejectCal (windowClosed s))) 0x38 0 .note s.tb.count := by
    have hcount : (windowClosed s).tb.count = s.tb.count := by rw [hclosed]
    exact hcount ▸ (reported_rejectCal (windowClosed s)).judgeTcv
  rw [hk, judgeCal, if_neg (by simp; omega)] at hexec
  refine ⟨_, hexec, ?_, ?_, ?_, ?_, hrep, ?_⟩
  all_goals rw [hjudge, hreject, hclosed]
  rfl
end

/-- Settles O41: curtailment at the 10 µs boundary goes through the two projections `still` and `energyIn`, the end of a grace through
`graced`, the calibration window through its three stages. -/
theorem boundariesOfTheControlCores : Obligations.BoundariesOfTheControlCores := by
  unfold Obligations.BoundariesOfTheControlCores
  refine ⟨enforcementBoundary_running, enforcementBoundary_stopped, accrue_meters, ?_, ?_, powerWindowBoundary_running, graceEnd_due, ?_, ?_, ?_, ?_⟩
  · intro z s hready hb hpair hsegs
    rw [execEnergySegmentRx_delivered hready hb hpair, takeZone_of_segs hsegs]
  · exact fun z s hready hb => execEnergySegmentRx_lost hready hb
  · exact fun s hrun hready hpair hb => calibrationWindow_none hrun hready hb hpair
  · intro s hrun hready hpair hb
    exact ⟨_, execCalibrationWindow_stopped hrun hready hb hpair, rfl, rfl, rfl, rfl, rfl, rfl, rfl⟩
  · exact fun s k hrun hready hpair hb hk => calibrationWindow_accepted hrun hready hb hpair hk
  · exact fun s k hrun hready hpair hb hk => calibrationWindow_refused hrun hready hb hpair hk

end Sys2Proof.Machine
end

section
/-!
A sample instant: what a sample of the Floats leaves alone, and the instant as a whole. The statement O15.
-/
namespace Sys2Proof.Machine

/-- The parts of the state that a sample of the Floats leaves alone: all but the zones, the taint queue, the self-test and the Snag unit,
as far as a sample instant speaks of them, and the number of zones. -/
structure OffFloat where
  tb : TimeBase
  su : StartUp
  pins : Pins
  fus : Fuses
  nvm : Nvm
  msf : Msf
  thm : Thm
  nzones : Nat
/-- What a state holds of them. -/
def offFloat (s : State) : OffFloat := ⟨s.tb, s.su, s.pins, s.fus, s.nvm, s.msf, s.thm, s.zones.length⟩
theorem offFloat_mk : ∀ tb su pins fus nvm zones msf fce pcx tnt caps nrg thm tcv lth csc snag bist cores rp pmb tap pending,
    offFloat (State.mk tb su pins fus nvm zones msf fce pcx tnt caps nrg thm tcv lth csc snag bist cores rp pmb tap pending) =
      ⟨tb, su, pins, fus, nvm, msf, thm, zones.length⟩ := by
  intros; rfl
theorem offFloat_eta (k : OffFloat) : (⟨k.tb, k.su, k.pins, k.fus, k.nvm, k.msf, k.thm, k.nzones⟩ : OffFloat) = k := rfl
/-- Each part of a state is that part of what a sample leaves alone, for `simp`. -/
theorem offFloat_rules :
    (∀ s : State, s.tb = (offFloat s).tb ∧ s.su = (offFloat s).su ∧ s.pins = (offFloat s).pins ∧ s.fus = (offFloat s).fus) ∧
    ∀ s : State, s.nvm = (offFloat s).nvm ∧ s.msf = (offFloat s).msf ∧ s.thm = (offFloat s).thm ∧ s.zones.length = (offFloat s).nzones :=
  ⟨fun _ => ⟨rfl, rfl, rfl, rfl⟩, fun _ => ⟨rfl, rfl, rfl, rfl⟩⟩
theorem foldl_offFloat {α : Type} (f : State → α → State) (h : ∀ s x, offFloat (f s x) = offFloat s) (l : List α) (s : State) :
    offFloat (l.foldl f s) = offFloat s := by
  induction l generalizing s with
  | nil => rfl
  | cons x xs ih => rw [List.foldl_cons, ih, h]
theorem note_offFloat (s : State) (code unit : Nat) (d : Option W32) : offFloat (note s code unit d) = offFloat s := rfl
theorem assertCond_offFloat (s : State) (code unit : Nat) (cls : Cls) (l : Bool) (c : Option CritRep) :
    offFloat (assertCond s code unit cls l c) = offFloat s := by
  unfold assertCond; split <;> rfl
@[simp] theorem modZone_offFloat (s : State) (z : Nat) (f : Zone → Zone) : offFloat (modZone s z f) = offFloat s := by
  simp [offFloat, modZone]
@[simp] theorem modTile_offFloat (s : State) (z t : Nat) (f : Tile → Tile) : offFloat (modTile s z t f) = offFloat s := modZone_offFloat ..
@[simp] theorem tntPush_offFloat (s : State) (r : TntRec) (sf ef : Nat) : offFloat (tntPush s r sf ef) = offFloat s := by
  simp [tntPush, apply_ite offFloat, note_offFloat, offFloat_mk, offFloat_eta, offFloat_rules]
@[simp] theorem taintRecord_offFloat (s : State) (z cause : Nat) (arrays : List Nat) (start sf stop ef : Nat) : offFloat (taintRecord s z cause arrays start sf stop ef) = offFloat s := by
  simp [taintRecord, apply_ite offFloat]
@[simp] theorem gatherRecord_offFloat (s : State) (z cause : Nat) (evs : List Gathered) : offFloat (gatherRecord s z cause evs) = offFloat s := by
  simp [gatherRecord, apply_ite offFloat]
@[simp] theorem closeGather_offFloat (s : State) (z : Nat) : offFloat (closeGather s z) = offFloat s := by
  unfold closeGather
  split <;> simp [apply_ite offFloat]
@[simp] theorem abandonTile_offFloat (s : State) (z t : Nat) : offFloat (abandonTile s z t) = offFloat s := by
  unfold abandonTile
  split <;> simp [apply_ite offFloat, note_offFloat, offFloat_mk, offFloat_eta, offFloat_rules]
@[simp] theorem abandonTests_offFloat (s : State) (z : Nat) : offFloat (abandonTests s z) = offFloat s := by
  simp [abandonTests, foldl_offFloat]
@[simp] theorem updStretch_offFloat (s : State) (z : Nat) : offFloat (updStretch s z) = offFloat s := by
  simp [updStretch]
@[simp] theorem zoneStop_offFloat (s : State) (z : Nat) (f : Zone → Zone) : offFloat (zoneStop s z f) = offFloat s := by
  simp [zoneStop, apply_ite offFloat, note_offFloat]
@[simp] theorem enterZoneSafe_offFloat (s : State) (z : Nat) : offFloat (enterZoneSafe s z) = offFloat s := by
  simp [enterZoneSafe, apply_ite offFloat]
@[simp] theorem zoneBefore_offFloat (s : State) (z : Nat) : offFloat (zoneBefore s z) = offFloat s := by
  simp [zoneBefore]
@[simp] theorem note14_offFloat (s : State) (z b : Nat) : offFloat (note14 s z b) = offFloat s := by
  simp [note14, note_offFloat]
theorem zoneSample_offFloat (k : Nat) (raw : List (List RawTile)) (busy : List Bool) (s0 : State) (z : Nat) :
    offFloat (zoneSample k raw busy s0 z) = offFloat s0 := by
  unfold zoneSample
  dsimp only
  rw [foldl_offFloat _ (fun s t => abandonTile_offFloat s z t)]
  simp only [apply_ite offFloat, assertCond_offFloat, modZone_offFloat, ite_self]
  split <;> simp only [note14_offFloat, foldl_offFloat _ (fun s t => note_offFloat s 0x23 (gTile s z t) none), modZone_offFloat, zoneBefore_offFloat]
theorem floatsSample_offFloat (k : Nat) (raw : List (List RawTile)) (s : State) : offFloat (floatsSample k raw s) = offFloat s :=
  foldl_offFloat _ (zoneSample_offFloat k raw _) _ s
theorem startRound_offFloat (s : State) : offFloat (startRound s) = offFloat s := by
  refine foldl_offFloat _ (fun s z => ?_) _ s
  split
  · exact modZone_offFloat ..
  · rfl

/-- The throttle level sent, since when, and the one before it (R338). -/
def sentLevel (s : State) : Nat × Nat × Nat := (s.thm.level, s.thm.levelAt, s.thm.levelOld)
theorem thmSeen_sentLevel (s : State) (b : Nat) : sentLevel (thmSeen s b) = sentLevel s := rfl
theorem modThm_sentLevel (s : State) (z : Nat) (f : ThmZone → ThmZone) : sentLevel (modThm s z f) = sentLevel s := rfl
theorem setCond_sentLevel (s : State) (b : Bool) (code unit : Nat) (cls : Cls) : sentLevel (setCond s b code unit cls) = sentLevel s := by
  obtain ⟨n, hn⟩ := setCond_eq s b code unit cls
  rw [hn]; rfl
theorem foldl_sentLevel {α : Type} (f : State → α → State) (h : ∀ s x, sentLevel (f s x) = sentLevel s) (l : List α) (s : State) :
    sentLevel (l.foldl f s) = sentLevel s := by
  induction l generalizing s with
  | nil => rfl
  | cons x xs ih => rw [List.foldl_cons, ih, h]
/-- A look at the thermal sources sends no level (R332). -/
theorem thmLookZone_sentLevel (s : State) (z : Nat) : sentLevel (thmLookZone s z) = sentLevel s := by
  have hnotes := foldl_sentLevel (fun s (_ : Nat) => note (thmSeen s 1) 0x41 z) (fun _ _ => rfl)
  simp [thmLookZone, apply_ite sentLevel, setCond_sentLevel, hnotes, thmSeen_sentLevel, modThm_sentLevel]
theorem thmLook_sentLevel (s : State) : sentLevel (thmLook s) = sentLevel s := foldl_sentLevel _ thmLookZone_sentLevel _ s

/-- What a sample instant's outputs depend on, and what it leaves alone. -/
def instantView (s : State) : TimeBase × StartUp × Pins × Fuses × Nvm × Msf × Nat × (Nat × Nat × Nat) × List Cls × Option Nat :=
  (s.tb, s.su, s.pins, s.fus, s.nvm, s.msf, s.zones.length, sentLevel s, s.snag.held.map (·.cls), s.snag.haltAt)
theorem instantView_of_offFloat {s t : State} (hoff : offFloat t = offFloat s) (hkept : kept t = kept s) : instantView t = instantView s := by
  obtain ⟨htb, hsu, hpins, hfus, hnvm, hmsf, hthm, hlen⟩ := OffFloat.mk.inj hoff
  obtain ⟨-, -, -, -, -, -, -, -, hheld, hhalt⟩ := Kept.mk.inj hkept
  rw [instantView, instantView, sentLevel, sentLevel, htb, hsu, hpins, hfus, hnvm, hmsf, hthm, hlen, hheld, hhalt]
theorem instantView_of_still {s t : State} (hstill : still t = still s) (hsent : sentLevel t = sentLevel s) (hkept : kept t = kept s) :
    instantView t = instantView s := by
  obtain ⟨htb, hsu, hpins, hfus, hnvm, -, hmsf, hlen, -, -⟩ := Still.mk.inj hstill
  obtain ⟨-, -, -, -, -, -, -, -, hheld, hhalt⟩ := Kept.mk.inj hkept
  rw [instantView, instantView, htb, hsu, hpins, hfus, hnvm, hmsf, hlen, hsent, hheld, hhalt]
/-- Whether INSTANCE-SAFE or worse holds, and the level that has arrived, come from what `instantView` shows. -/
theorem instSafeOrWorse_congr {s t : State} (hheld : t.snag.held.map (·.cls) = s.snag.held.map (·.cls))
    (hhalt : t.snag.haltAt = s.snag.haltAt) : instSafeOrWorse t = instSafeOrWorse s := by
  have hany (u : State) : instSafeHeld u = (u.snag.held.map (·.cls)).any fun c => c = .instSafe := by
    rw [List.any_map]; rfl
  rw [instSafeOrWorse, instSafeOrWorse, hany, hany, halted, halted, hheld, hhalt]
theorem levelIn_congr {s t : State} (hsent : sentLevel t = sentLevel s) (htb : t.tb = s.tb) : levelIn t = levelIn s := by
  simp only [sentLevel, Prod.mk.injEq] at hsent
  obtain ⟨hlevel, hat, hold⟩ := hsent
  rw [levelIn, levelIn, now, now, hlevel, hat, hold, htb]

/-- READY after the recovery that a sample instant looks for (R406). -/
theorem readyAgain_eq (s : State) :
    readyAgain s = { s with pins := { s.pins with ready := s.pins.ready || (s.su.readyEver && !instSafeOrWorse s) } } := by
  unfold readyAgain
  split
  · next h =>
    simp only [sinceReady, Bool.and_eq_true] at h
    simp [h.1.1, h.2]
  · next h =>
    have hr : (s.pins.ready || (s.su.readyEver && !instSafeOrWorse s)) = s.pins.ready := by
      simp only [sinceReady, ready] at h
      cases hp : s.pins.ready <;> simp_all
    rw [hr]
/-- THR_REQ at a sample instant (R66). -/
theorem thrSample_eq (s : State) : ∃ m, thrSample s =
    { s with pins := { s.pins with thrReq := if !ready s || instSafeOrWorse s then 7 else levelIn s }, thm := m } := by
  by_cases h : (if !ready s || instSafeOrWorse s then 7 else levelIn s) = s.pins.thrReq
  · exact ⟨s.thm, (if_pos h).trans (by rw [h])⟩
  · exact ⟨_, if_neg h⟩

/-- A sample instant of the Floats on the grid, before the module stage's own sample (R28, R406, R421). -/
def sampleFloats (i : SampleInput) (s : State) : State :=
  let a := floatsSample s.tb.count i.zones (readyAgain s)
  let b := if roundDue a then startRound a else a
  if sinceReady b then thmLook b else b
theorem sampleFloats_view (i : SampleInput) (s : State) : instantView (sampleFloats i s) = instantView (readyAgain s) := by
  unfold sampleFloats
  extract_lets a b
  calc instantView (if sinceReady b then thmLook b else b)
    _ = instantView b := keeps_ite (instantView_of_still (thmLook_still b) (thmLook_sentLevel b) (thmLook_kept b))
    _ = instantView a := keeps_ite (instantView_of_offFloat (startRound_offFloat a) (startRound_kept a))
    _ = instantView (readyAgain s) := instantView_of_offFloat (floatsSample_offFloat _ _ _) (floatsSample_kept _ _ _)

section
variable {s : State} (hrun : s.su.cond = .run) (htb : s.tb.running = true) (hk : s.tb.count % 64 = 0) (hmsf : s.su.msfGrid = true)
include hrun htb hk hmsf

theorem execSampleInstant_due : ¬ (!running s || !s.tb.running || !atSample s || !s.su.msfGrid) = true := by
  have hk' : now s % 64 = 0 := hk
  simp [running, atSample, hrun, htb, hk', hmsf]
theorem execSampleInstant_grid (hgrid : s.su.grid = true) (i : SampleInput) : exec (.sampleInstant i) s =
    .next (thrSample { sampleFloats i s with msf := (sampleFloats i s).msf.sample s.tb.count i.vsns }) := by
  refine (if_neg (execSampleInstant_due hrun htb hk hmsf)).trans ?_
  simp only [hgrid]
  rfl
/-- Before the Floats are on the grid only the MSF takes in its result (R28). -/
theorem execSampleInstant_msfOnly (hgrid : s.su.grid = false) (hready : s.pins.ready = false) (hthr : s.pins.thrReq = 7) (i : SampleInput) :
    exec (.sampleInstant i) s = .next { s with msf := s.msf.sample s.tb.count i.vsns } := by
  refine (if_neg (execSampleInstant_due hrun htb hk hmsf)).trans ?_
  simp [hgrid, thrSample, ready, hready, hthr, now]

theorem sampleInstant_grid (hgrid : s.su.grid = true) (i : SampleInput) :
    ∃ t, exec (.sampleInstant i) s = .next t ∧ t.msf = s.msf.sample s.tb.count i.vsns ∧ t.zones.length = s.zones.length ∧
      t.pins.ready = (s.pins.ready || (s.su.readyEver && !instSafeOrWorse s)) ∧
      t.pins.thrReq = (if !t.pins.ready || instSafeOrWorse s then 7 else levelIn s) ∧ t.tb = s.tb ∧ t.su = s.su ∧ t.fus = s.fus ∧
      t.nvm.flash = s.nvm.flash := by
  have hexec := execSampleInstant_grid hrun htb hk hmsf hgrid i
  obtain ⟨m, hthr⟩ := thrSample_eq { sampleFloats i s with msf := (sampleFloats i s).msf.sample s.tb.count i.vsns }
  have hview := sampleFloats_view i s
  rw [readyAgain_eq] at hview
  simp only [instantView, Prod.mk.injEq] at hview
  obtain ⟨hvtb, hvsu, hvpins, hvfus, hvnvm, hvmsf, hvlen, hvsent, hvheld, hvhalt⟩ := hview
  generalize sampleFloats i s = u at *
  have hready : ready { u with msf := u.msf.sample s.tb.count i.vsns } = (s.pins.ready || (s.su.readyEver && !instSafeOrWorse s)) :=
    congrArg Pins.ready hvpins
  have hsafe : instSafeOrWorse { u with msf := u.msf.sample s.tb.count i.vsns } = instSafeOrWorse s :=
    instSafeOrWorse_congr hvheld hvhalt
  have hlevel : levelIn { u with msf := u.msf.sample s.tb.count i.vsns } = levelIn s :=
    levelIn_congr hvsent hvtb
  rw [hready, hsafe, hlevel] at hthr
  rw [hthr] at hexec
  refine ⟨_, hexec, ?_, hvlen, hready, ?_, hvtb, hvsu, hvfus, congrArg Nvm.flash hvnvm⟩
  · rw [hvmsf]
  · exact congrArg (fun r => if !r || instSafeOrWorse s then 7 else levelIn s) hready.symm
end

/-- Settles O15: the steps of a sample instant leave alone what `instantView` shows, so that READY and THR_REQ come from the recovery and from
the level sent. -/
theorem sampleInstantTakesTheBlockOneSlotOn : Obligations.SampleInstantTakesTheBlockOneSlotOn := by
  unfold Obligations.SampleInstantTakesTheBlockOneSlotOn
  refine ⟨?_, ?_, ?_⟩
  · exact fun i s hrun htb hk hmsf hgrid hready hthr => execSampleInstant_msfOnly hrun htb hk hmsf hgrid hready hthr i
  · exact fun i s hrun htb hk hmsf hgrid => sampleInstant_grid hrun htb hk hmsf hgrid i
  · intro i s hk
    exact if_pos (by have hk' : ¬ now s % 64 = 0 := hk; simp [atSample, hk'])
end Sys2Proof.Machine
end

section
/-!
The time-base count: no command but a start, a reset, the multiplier lock and a time answer moves it. The statement O7.
-/
namespace Sys2Proof.Machine

/-- A command that answers a next state leaves the time-base count (R41). -/
def CountKept (s : State) (o : Out) : Prop := match o with
  | .next t => (kept t).count = (kept s).count
  | _ => True
@[simp] theorem countKept_next (s t : State) : CountKept s (.next t) ↔ (kept t).count = (kept s).count := Iff.rfl
@[simp] theorem countKept_refused (s : State) (r : Refusal) : CountKept s (.refused r) := trivial
@[simp] theorem countKept_ite (s : State) (c : Prop) [Decidable c] (a b : Out) :
    CountKept s (if c then a else b) ↔ (c → CountKept s a) ∧ (¬ c → CountKept s b) := by
  split <;> simp [*]
@[simp] theorem countKept_pmbRead (s : State) (b : List Byte) : CountKept s (pmbRead s b) := by
  unfold pmbRead; split <;> rfl
@[simp] theorem countKept_tapOn (s : State) (o : Out) (h : CountKept s o) : CountKept s (tapOn s o) := by
  unfold tapOn; split <;> simp [h]
@[simp] theorem countKept_pmbWrite (s : State) (f : State → State) (h : ∀ s, kept (f s) = kept s) : CountKept s (pmbWrite s f) := by
  unfold pmbWrite; split <;> simp [h]
@[simp] theorem countKept_nvmStart (s : State) (ok : Bool) (r : NvmRun) : CountKept s (nvmStart s ok r) := by
  unfold nvmStart; dsimp only; repeat' split
  all_goals rfl

/-! ## Commands whose operations keep all of `kept` -/

@[simp] theorem execImageBodyReadDone_count (s : State) : CountKept s (execImageBodyReadDone s) := by
  simp [execImageBodyReadDone]
@[simp] theorem execLogScanDone_count (ok : Bool) (s : State) : CountKept s (execLogScanDone ok s) := by
  unfold execLogScanDone
  repeat' split
  all_goals simp [apply_ite kept, kept_mk, kept_rules]
@[simp] theorem execUserCalDone_count (s : State) : CountKept s (execUserCalDone s) := by
  simp [execUserCalDone]
@[simp] theorem execThermalRestartCheck_count (s : State) : CountKept s (execThermalRestartCheck s) := by
  unfold execThermalRestartCheck
  repeat' split
  all_goals simp [kept_mk, kept_eta, kept_rules]
@[simp] theorem execMsfBaseReached_count (s : State) : CountKept s (execMsfBaseReached s) := by
  simp [execMsfBaseReached, kept_mk, kept_eta, kept_rules]
@[simp] theorem execStartupBistDone_count (s : State) : CountKept s (execStartupBistDone s) := by
  simp [execStartupBistDone, kept_mk, kept_eta, kept_rules]
@[simp] theorem execFormationTimeout_count (s : State) : CountKept s (execFormationTimeout s) := by
  simp [execFormationTimeout]
@[simp] theorem execUpdateOverrun_count (z : Nat) (s : State) : CountKept s (execUpdateOverrun z s) := by
  simp [execUpdateOverrun]
@[simp] theorem execForecastRound_count (s : State) : CountKept s (execForecastRound s) := by
  simp [execForecastRound, kept_mk, kept_eta, kept_rules]
@[simp] theorem execForecastPacketRx_count (z : Nat) (s : State) : CountKept s (execForecastPacketRx z s) := by
  unfold execForecastPacketRx
  split <;> simp [kept_mk, kept_eta, kept_rules]
@[simp] theorem execFpvRx_count (s : State) : CountKept s (execFpvRx s) := by
  unfold execFpvRx
  split <;> simp [kept_mk, kept_eta, kept_rules]
@[simp] theorem execForecastExpiry_count (z : Option Nat) (s : State) : CountKept s (execForecastExpiry z s) := by
  unfold execForecastExpiry
  repeat' split
  all_goals simp [kept_mk, kept_eta, kept_rules]
@[simp] theorem execForecastAbsentDegrade_count (s : State) : CountKept s (execForecastAbsentDegrade s) := by
  simp [execForecastAbsentDegrade, kept_mk, kept_eta, kept_rules]
@[simp] theorem execLimitUpdate_count (z : Nat) (s : State) : CountKept s (execLimitUpdate z s) := by
  unfold execLimitUpdate
  split <;> simp [kept_mk, kept_eta, kept_rules]
@[simp] theorem execLeaseExpiry_count (z : Nat) (s : State) : CountKept s (execLeaseExpiry z s) := by
  simp [execLeaseExpiry]
@[simp] theorem execSubmitPp_count (b0 b1 : W64) (b2 : Option W64) (s : State) : CountKept s (execSubmitPp b0 b1 b2 s) := by
  simp [execSubmitPp, apply_ite kept]
@[simp] theorem execSubmitCb_count (b0 b1 : W64) (b2 : Option W64) (s : State) : CountKept s (execSubmitCb b0 b1 b2 s) := by
  simp [execSubmitCb, apply_ite kept]
@[simp] theorem execStep_count (b0 b1 : W64) (s : State) : CountKept s (execStep b0 b1 s) := by
  simp [execStep, apply_ite kept]
@[simp] theorem execDone_count (b0 : W64) (s : State) : CountKept s (execDone b0 s) := by
  simp [execDone]
@[simp] theorem execDoneLast_count (b0 : W64) (s : State) : CountKept s (execDoneLast b0 s) := by
  simp [execDoneLast]
@[simp] theorem execPreempt_count (b0 : W64) (s : State) : CountKept s (execPreempt b0 s) := by
  simp [execPreempt]
@[simp] theorem execResume_count (b0 : W64) (s : State) : CountKept s (execResume b0 s) := by
  simp [execResume, kept_mk, kept_eta, kept_rules]
@[simp] theorem execMalformedRecord_count (beats : List W64) (s : State) : CountKept s (execMalformedRecord beats s) := by
  simp [execMalformedRecord, kept_mk, kept_eta, kept_rules]
@[simp] theorem execContextFetchDone_count (p : Nat) (uncorrectable directory : Bool) (s : State) : CountKept s (execContextFetchDone p uncorrectable directory s) := by
  unfold execContextFetchDone
  split <;> simp [kept_mk, kept_eta, kept_rules]
@[simp] theorem execStepMarkTaken_count (p : Nat) (s : State) : CountKept s (execStepMarkTaken p s) := by
  unfold execStepMarkTaken; dsimp only
  repeat' split
  all_goals simp
@[simp] theorem execCadenceLost_count (p : Nat) (s : State) : CountKept s (execCadenceLost p s) := by
  unfold execCadenceLost; dsimp only
  repeat' split
  all_goals simp
@[simp] theorem execClaimExpiry_count (q sid : Nat) (s : State) : CountKept s (execClaimExpiry q sid s) := by
  simp [execClaimExpiry, kept_mk, kept_eta, kept_rules]
@[simp] theorem execGenRetire_count (pcx : Nat) (s : State) : CountKept s (execGenRetire pcx s) := by
  simp [execGenRetire, kept_mk, kept_eta, kept_rules]
@[simp] theorem execPcxHomeMove_count (pcx : Nat) (s : State) : CountKept s (execPcxHomeMove pcx s) := by
  unfold execPcxHomeMove; dsimp only
  repeat' split
  all_goals simp [kept_mk, kept_eta, kept_rules]
@[simp] theorem execLeaseEnd_count (q sid : Nat) (s : State) : CountKept s (execLeaseEnd q sid s) := by
  simp [execLeaseEnd, kept_mk, kept_eta, kept_rules]
@[simp] theorem execSuspendExpiry_count (q : Nat) (s : State) : CountKept s (execSuspendExpiry q s) := by
  simp [execSuspendExpiry, kept_mk, kept_eta, kept_rules]
@[simp] theorem execHintExpiry_count (p : Nat) (s : State) : CountKept s (execHintExpiry p s) := by
  simp [execHintExpiry]
@[simp] theorem execPcxStagingReset_count (s : State) : CountKept s (execPcxStagingReset s) := by
  simp [execPcxStagingReset, kept_mk, kept_eta, kept_rules]
@[simp] theorem execPcxStageWrite_count (w : W32) (s : State) : CountKept s (execPcxStageWrite w s) := by
  simp [execPcxStageWrite, kept_mk, kept_eta, kept_rules]
@[simp] theorem execPcxCommit_count (pcx : Nat) (s : State) : CountKept s (execPcxCommit pcx s) := by
  simp [execPcxCommit, kept_mk, kept_eta, kept_rules]
@[simp] theorem execPcxDrop_count (pcx : Nat) (s : State) : CountKept s (execPcxDrop pcx s) := by
  simp [execPcxDrop, kept_mk, kept_eta, kept_rules]
@[simp] theorem execPcxDirSwitch_count (s : State) : CountKept s (execPcxDirSwitch s) := by
  unfold execPcxDirSwitch
  split <;> simp [kept_mk, kept_eta, kept_rules]
@[simp] theorem execFceStagingReset_count (slot : Nat) (s : State) : CountKept s (execFceStagingReset slot s) := by
  simp [execFceStagingReset, kept_mk, kept_eta, kept_rules]
@[simp] theorem execFceLoadData_count (w : W32) (s : State) : CountKept s (execFceLoadData w s) := by
  simp [execFceLoadData, kept_mk, kept_eta, kept_rules]
@[simp] theorem execFceCommit_count (slot : Nat) (s : State) : CountKept s (execFceCommit slot s) := by
  simp [execFceCommit, kept_mk, kept_eta, kept_rules]
@[simp] theorem execFceClear_count (slot : Nat) (s : State) : CountKept s (execFceClear slot s) := by
  simp [execFceClear, kept_mk, kept_eta, kept_rules]
@[simp] theorem execFceCopyDone_count (s : State) : CountKept s (execFceCopyDone s) := by
  unfold execFceCopyDone
  split <;> simp [kept_mk, kept_eta, kept_rules]
@[simp] theorem execFceSlotLost_count (slot : Nat) (s : State) : CountKept s (execFceSlotLost slot s) := by
  simp [execFceSlotLost, kept_mk, kept_eta, kept_rules]
@[simp] theorem execAdaptationRun_count (s : State) : CountKept s (execAdaptationRun s) := by
  unfold execAdaptationRun; dsimp only
  repeat' split
  all_goals simp [kept_mk, kept_eta, kept_rules]
@[simp] theorem execDroopCrossing_count (z t : Nat) (s : State) : CountKept s (execDroopCrossing z t s) := by
  simp [execDroopCrossing]
@[simp] theorem execDroopRelease_count (z t : Nat) (s : State) : CountKept s (execDroopRelease z t s) := by
  simp [execDroopRelease]
@[simp] theorem execStretchTimeout_count (z : Nat) (s : State) : CountKept s (execStretchTimeout z s) := by
  unfold execStretchTimeout; dsimp only
  repeat' split
  all_goals simp
@[simp] theorem execTaintExcursionEnd_count (z t fine : Nat) (s : State) : CountKept s (execTaintExcursionEnd z t fine s) := by
  unfold execTaintExcursionEnd
  split <;> simp
@[simp] theorem execTaintIntervalSplit_count (z t : Nat) (s : State) : CountKept s (execTaintIntervalSplit z t s) := by
  unfold execTaintIntervalSplit
  split <;> simp
@[simp] theorem execTaintEventRx_count (z : Nat) (s : State) : CountKept s (execTaintEventRx z s) := by
  unfold execTaintEventRx; dsimp only
  repeat' split
  all_goals simp
@[simp] theorem execTaintStrobeEnd_count (z : Nat) (s : State) : CountKept s (execTaintStrobeEnd z s) := by
  unfold execTaintStrobeEnd
  split <;> simp
@[simp] theorem execTntRecordSend_count (s : State) : CountKept s (execTntRecordSend s) := by
  unfold execTntRecordSend
  split <;> simp [kept_mk, kept_eta, kept_rules]
@[simp] theorem execTntOverflowRecord_count (s : State) : CountKept s (execTntOverflowRecord s) := by
  unfold execTntOverflowRecord
  split <;> simp [kept_mk, kept_eta, kept_rules]
@[simp] theorem execFreqReq_count (z code : Nat) (s : State) : CountKept s (execFreqReq z code s) := by
  simp [execFreqReq]
@[simp] theorem execFreqIncreaseGrant_count (z : Nat) (s : State) : CountKept s (execFreqIncreaseGrant z s) := by
  unfold execFreqIncreaseGrant; dsimp only
  repeat' split
  all_goals simp
@[simp] theorem execFreqReqFall_count (z : Nat) (s : State) : CountKept s (execFreqReqFall z s) := by
  simp [execFreqReqFall]
@[simp] theorem execSetReq_count (z a dur : Nat) (s : State) : CountKept s (execSetReq z a dur s) := by
  simp [execSetReq]
@[simp] theorem execSetWindowSchedule_count (z a : Nat) (s : State) : CountKept s (execSetWindowSchedule z a s) := by
  unfold execSetWindowSchedule
  repeat' split
  all_goals simp
@[simp] theorem execSetWaitExpiry_count (z a : Nat) (s : State) : CountKept s (execSetWaitExpiry z a s) := by
  simp [execSetWaitExpiry]
@[simp] theorem execSetReqFall_count (z a : Nat) (s : State) : CountKept s (execSetReqFall z a s) := by
  simp [execSetReqFall]
@[simp] theorem execWindowStart_count (z a : Nat) (s : State) : CountKept s (execWindowStart z a s) := by
  simp [execWindowStart]
@[simp] theorem execWindowEnd_count (z a : Nat) (s : State) : CountKept s (execWindowEnd z a s) := by
  simp [execWindowEnd]
@[simp] theorem execGateAck_count (z a : Nat) (level : Bool) (s : State) : CountKept s (execGateAck z a level s) := by
  simp [execGateAck]
@[simp] theorem execGateAckLate_count (z a : Nat) (s : State) : CountKept s (execGateAckLate z a s) := by
  simp [execGateAckLate, kept_mk, kept_eta, kept_rules]
@[simp] theorem execZoneGateTimeout_count (z : Nat) (s : State) : CountKept s (execZoneGateTimeout z s) := by
  unfold execZoneGateTimeout
  split <;> simp
@[simp] theorem execThrAckToggle_count (s : State) : CountKept s (execThrAckToggle s) := by
  simp [execThrAckToggle, kept_mk, kept_eta, kept_rules]
@[simp] theorem execFltReqWrite_count (z : Nat) (w : W32) (s : State) : CountKept s (execFltReqWrite z w s) := by
  simp [execFltReqWrite, apply_ite kept]
@[simp] theorem execPupDeferExpiry_count (z : Nat) (s : State) : CountKept s (execPupDeferExpiry z s) := by
  unfold execPupDeferExpiry
  split <;> simp
@[simp] theorem execZoneRampDone_count (z : Nat) (s : State) : CountKept s (execZoneRampDone z s) := by
  unfold execZoneRampDone
  split <;> simp
@[simp] theorem execZoneRampTimeout_count (z : Nat) (s : State) : CountKept s (execZoneRampTimeout z s) := by
  unfold execZoneRampTimeout; dsimp only
  repeat' split
  all_goals simp
@[simp] theorem execZoneRunExitDone_count (z : Nat) (s : State) : CountKept s (execZoneRunExitDone z s) := by
  unfold execZoneRunExitDone; dsimp only
  repeat' split
  all_goals simp
@[simp] theorem execHoldTimeout_count (z : Nat) (s : State) : CountKept s (execHoldTimeout z s) := by
  unfold execHoldTimeout; dsimp only
  repeat' split
  all_goals simp
@[simp] theorem execFltTblDataAccess_count (z : Nat) (write : Option W32) (s : State) : CountKept s (execFltTblDataAccess z write s) := by
  unfold execFltTblDataAccess
  repeat' split
  all_goals simp
@[simp] theorem execFloatTableEccError_count (z : Nat) (shadow corrected : Bool) (s : State) : CountKept s (execFloatTableEccError z shadow corrected s) := by
  simp [execFloatTableEccError]
@[simp] theorem execZoneStrobeLoss_count (z : Nat) (s : State) : CountKept s (execZoneStrobeLoss z s) := by
  simp [execZoneStrobeLoss]
@[simp] theorem execTileTripShort_count (z t : Nat) (s : State) : CountKept s (execTileTripShort z t s) := by
  simp [execTileTripShort]
@[simp] theorem execTileSwitchFail_count (z t : Nat) (s : State) : CountKept s (execTileSwitchFail z t s) := by
  simp [execTileSwitchFail]
@[simp] theorem execTileOverloadSet_count (z t : Nat) (s : State) : CountKept s (execTileOverloadSet z t s) := by
  simp [execTileOverloadSet]
@[simp] theorem execTileTempResult_count (z t : Nat) (raw : Int) (s : State) : CountKept s (execTileTempResult z t raw s) := by
  simp [execTileTempResult, apply_ite kept]
@[simp] theorem execTileOverloadClear_count (z t : Nat) (s : State) : CountKept s (execTileOverloadClear z t s) := by
  simp [execTileOverloadClear]
@[simp] theorem execTileLoadStep_count (z t : Nat) (s : State) : CountKept s (execTileLoadStep z t s) := by
  unfold execTileLoadStep; dsimp only
  repeat' split
  all_goals simp
@[simp] theorem execTileWatchEnd_count (z t : Nat) (s : State) : CountKept s (execTileWatchEnd z t s) := by
  simp [execTileWatchEnd]
@[simp] theorem execAgeingUpdate_count (s : State) : CountKept s (execAgeingUpdate s) := by
  simp [execAgeingUpdate, kept_mk, kept_eta, kept_rules]
@[simp] theorem execTileRegEntry_count (z t : Nat) (s : State) : CountKept s (execTileRegEntry z t s) := by
  simp [execTileRegEntry]
@[simp] theorem execTileStopDone_count (z t : Nat) (s : State) : CountKept s (execTileStopDone z t s) := by
  simp [execTileStopDone]
@[simp] theorem execTileAgeResult_count (z t age : Nat) (s : State) : CountKept s (execTileAgeResult z t age s) := by
  simp [execTileAgeResult]
@[simp] theorem execTileTestDone_count (z t failStep : Nat) (s : State) : CountKept s (execTileTestDone z t failStep s) := by
  unfold execTileTestDone; dsimp only
  repeat' split
  all_goals simp [kept_mk, kept_eta, kept_rules]
@[simp] theorem execZoneSyncLost_count (z : Nat) (i : SyncIn) (s : State) : CountKept s (execZoneSyncLost z i s) := by
  simp [execZoneSyncLost]
@[simp] theorem execZoneSyncRelock_count (z : Nat) (i : SyncIn) (s : State) : CountKept s (execZoneSyncRelock z i s) := by
  simp [execZoneSyncRelock]
@[simp] theorem execMsfSyncLost_count (i : SyncIn) (s : State) : CountKept s (execMsfSyncLost i s) := by
  simp [execMsfSyncLost, kept_mk, kept_eta, kept_rules]
@[simp] theorem execMsfSyncRelock_count (i : SyncIn) (s : State) : CountKept s (execMsfSyncRelock i s) := by
  simp [execMsfSyncRelock, kept_mk, kept_eta, kept_rules]
@[simp] theorem execVsetInLost_count (s : State) : CountKept s (execVsetInLost s) := by
  unfold execVsetInLost; dsimp only
  repeat' split
  all_goals simp [kept_mk, kept_eta, kept_rules]
@[simp] theorem execVsetFallback_count (s : State) : CountKept s (execVsetFallback s) := by
  unfold execVsetFallback
  split <;> simp [kept_mk, kept_eta, kept_rules]
@[simp] theorem execVsetInReturn_count (s : State) : CountKept s (execVsetInReturn s) := by
  unfold execVsetInReturn; dsimp only
  repeat' split
  all_goals simp [kept_mk, kept_eta, kept_rules]
@[simp] theorem execMsfVsetWrite_count (w : W32) (s : State) : CountKept s (execMsfVsetWrite w s) := by
  simp [execMsfVsetWrite, apply_ite kept, kept_mk, kept_eta, kept_rules]
@[simp] theorem execMsfShedArm_count (s : State) : CountKept s (execMsfShedArm s) := by
  unfold execMsfShedArm; dsimp only
  repeat' split
  all_goals simp [kept_mk, kept_eta, kept_rules]
@[simp] theorem execMsfShedCommit_count (s : State) : CountKept s (execMsfShedCommit s) := by
  unfold execMsfShedCommit; dsimp only
  repeat' split
  all_goals simp [kept_mk, kept_eta, kept_rules]
@[simp] theorem execMsfWatchEnd_count (s : State) : CountKept s (execMsfWatchEnd s) := by
  simp [execMsfWatchEnd, kept_mk, kept_eta, kept_rules]
@[simp] theorem execMsfShort_count (s : State) : CountKept s (execMsfShort s) := by
  simp [execMsfShort, apply_ite kept, kept_mk, kept_eta, kept_rules]
@[simp] theorem execMsfHiccupEnd_count (s : State) : CountKept s (execMsfHiccupEnd s) := by
  simp [execMsfHiccupEnd, kept_mk, kept_eta, kept_rules]
@[simp] theorem execMsfTriesReset_count (s : State) : CountKept s (execMsfTriesReset s) := by
  simp [execMsfTriesReset, kept_mk, kept_eta, kept_rules]
@[simp] theorem execMsfOvervoltage_count (s : State) : CountKept s (execMsfOvervoltage s) := by
  simp [execMsfOvervoltage, kept_mk, kept_eta, kept_rules]
@[simp] theorem execMsfChannelExclude_count (k : Nat) (s : State) : CountKept s (execMsfChannelExclude k s) := by
  simp [execMsfChannelExclude]
@[simp] theorem execPgFault_count (s : State) : CountKept s (execPgFault s) := by
  unfold execPgFault
  split <;> simp
@[simp] theorem execPgRestore_count (s : State) : CountKept s (execPgRestore s) := by
  unfold execPgRestore
  split <;> simp [kept_mk, kept_eta, kept_rules]
@[simp] theorem execEnforcementBoundary_count (s : State) : CountKept s (execEnforcementBoundary s) := by
  simp [execEnforcementBoundary, apply_ite kept, kept_mk, kept_eta, kept_rules]
@[simp] theorem execEnergySegmentRx_count (z : Nat) (delivered : Bool) (s : State) : CountKept s (execEnergySegmentRx z delivered s) := by
  simp [execEnergySegmentRx]
@[simp] theorem execPowerWindowBoundary_count (s : State) : CountKept s (execPowerWindowBoundary s) := by
  simp [execPowerWindowBoundary, apply_ite kept]
@[simp] theorem execGraceEnd_count (s : State) : CountKept s (execGraceEnd s) := by
  simp [execGraceEnd, foldl_kept]
@[simp] theorem execCalibrationWindow_count (s : State) : CountKept s (execCalibrationWindow s) := by
  unfold execCalibrationWindow; dsimp only
  repeat' split
  all_goals simp [kept_mk, kept_eta, kept_rules]
@[simp] theorem execCapSwWrite_count (w : W32) (s : State) : CountKept s (execCapSwWrite w s) := by
  simp [execCapSwWrite]
@[simp] theorem execCapGroupWrite_count (g : Nat) (w : W32) (s : State) : CountKept s (execCapGroupWrite g w s) := by
  simp [execCapGroupWrite, kept_mk, kept_eta, kept_rules]
@[simp] theorem execGroupBoundary_count (g : Nat) (s : State) : CountKept s (execGroupBoundary g s) := by
  simp [execGroupBoundary, apply_ite kept, kept_mk, kept_eta, kept_rules]
@[simp] theorem execNrgLoRead_count (offset : Nat) (s : State) : CountKept s (execNrgLoRead offset s) := by
  simp [execNrgLoRead, kept_mk, kept_eta, kept_rules]
@[simp] theorem execUserWindowEnergyRead_count (q : Nat) (s : State) : CountKept s (execUserWindowEnergyRead q s) := by
  simp [execUserWindowEnergyRead, kept_mk, kept_eta, kept_rules]
@[simp] theorem execUserWindowWrite_count (_q _offset : Nat) (s : State) : CountKept s (execUserWindowWrite _q _offset s) := by
  simp [execUserWindowWrite]
@[simp] theorem execTbsNowLoRead_count (s : State) : CountKept s (execTbsNowLoRead s) := by
  simp [execTbsNowLoRead, kept_mk, kept_eta, kept_rules]
@[simp] theorem execRefclkLost_count (s : State) : CountKept s (execRefclkLost s) := by
  simp [execRefclkLost, kept_mk, kept_eta, kept_rules]
@[simp] theorem execHoldoverTimeout_count (s : State) : CountKept s (execHoldoverTimeout s) := by
  simp [execHoldoverTimeout]
@[simp] theorem execLockstepDisagree_count (pair : Nat) (s : State) : CountKept s (execLockstepDisagree pair s) := by
  simp [execLockstepDisagree, kept_mk, kept_eta, kept_rules]
@[simp] theorem execCorePairRestartDone_count (pair : Nat) (s : State) : CountKept s (execCorePairRestartDone pair s) := by
  simp [execCorePairRestartDone, kept_mk, kept_eta, kept_rules]
@[simp] theorem execTcvResult_count (modB : Bool) (bits : BitVec 10240) (s : State) : CountKept s (execTcvResult modB bits s) := by
  simp [execTcvResult]
@[simp] theorem execTcvSelfCal_count (s : State) : CountKept s (execTcvSelfCal s) := by
  simp [execTcvSelfCal]
@[simp] theorem execTcvSelfCalDone_count (spanA spanB : CalSpans) (s : State) : CountKept s (execTcvSelfCalDone spanA spanB s) := by
  unfold execTcvSelfCalDone
  split <;> simp [kept_mk, kept_eta, kept_rules]
@[simp] theorem execTcvUrgent_count (ch : Nat) (s : State) : CountKept s (execTcvUrgent ch s) := by
  simp [execTcvUrgent, kept_mk, kept_eta, kept_rules]
@[simp] theorem execTcvCapture_count (s : State) : CountKept s (execTcvCapture s) := by
  simp [execTcvCapture, kept_mk, kept_eta, kept_rules]
@[simp] theorem execTcvAdmission_count (s : State) : CountKept s (execTcvAdmission s) := by
  unfold execTcvAdmission; dsimp only
  repeat' split
  all_goals simp [kept_mk, kept_eta, kept_rules]
@[simp] theorem execTcvQLoRead_count (s : State) : CountKept s (execTcvQLoRead s) := by
  unfold execTcvQLoRead
  repeat' split
  all_goals simp [kept_mk, kept_eta, kept_rules]
@[simp] theorem execTcvStopped_count (s : State) : CountKept s (execTcvStopped s) := by
  simp [execTcvStopped, kept_mk, kept_eta, kept_rules]
@[simp] theorem execLathAckRx_count (net : Option Nat) (header : BitVec 44) (s : State) : CountKept s (execLathAckRx net header s) := by
  unfold execLathAckRx
  repeat' split
  all_goals simp
@[simp] theorem execLathRetry_count (net : Option Nat) (src dest cls seq kind : Nat) (zone : Option Nat) (s : State) : CountKept s (execLathRetry net src dest cls seq kind zone s) := by
  simp [execLathRetry, kept_mk, kept_eta, kept_rules]
@[simp] theorem execSeamLaneFail_count (j : Nat) (laneB : Bool) (s : State) : CountKept s (execSeamLaneFail j laneB s) := by
  simp [execSeamLaneFail, apply_ite kept, kept_mk, kept_eta, kept_rules]
@[simp] theorem execLthInjCtlWrite_count (w : W32) (s : State) : CountKept s (execLthInjCtlWrite w s) := by
  simp [execLthInjCtlWrite, kept_mk, kept_eta, kept_rules]
@[simp] theorem execCxLinkUp_count (cxb : Bool) (s : State) : CountKept s (execCxLinkUp cxb s) := by
  simp [execCxLinkUp, apply_ite kept, kept_mk, kept_eta, kept_rules]
@[simp] theorem execCxLinkDown_count (cxb : Bool) (s : State) : CountKept s (execCxLinkDown cxb s) := by
  simp [execCxLinkDown, apply_ite kept, kept_mk, kept_eta, kept_rules]
@[simp] theorem execHeartbeatSend_count (s : State) : CountKept s (execHeartbeatSend s) := by
  simp [execHeartbeatSend]
@[simp] theorem execHeartbeatRx_count (hb : W64) (s : State) : CountKept s (execHeartbeatRx hb s) := by
  simp [execHeartbeatRx, apply_ite kept, kept_mk, kept_eta, kept_rules]
@[simp] theorem execTimeExchangeStart_count (s : State) : CountKept s (execTimeExchangeStart s) := by
  simp [execTimeExchangeStart, kept_mk, kept_eta, kept_rules]
@[simp] theorem execTimeRequestRx_count (src : Nat) (s : State) : CountKept s (execTimeRequestRx src s) := by
  simp [execTimeRequestRx]
@[simp] theorem execPeerLost_count (i : Nat) (s : State) : CountKept s (execPeerLost i s) := by
  simp [execPeerLost]
@[simp] theorem execMasterSuccession_count (s : State) : CountKept s (execMasterSuccession s) := by
  simp [execMasterSuccession, kept_mk, kept_eta, kept_rules]
@[simp] theorem execShareReportRx_count (src pset floor p1ms : Nat) (s : State) : CountKept s (execShareReportRx src pset floor p1ms s) := by
  simp [execShareReportRx]
@[simp] theorem execShareRx_count (w : Nat) (s : State) : CountKept s (execShareRx w s) := by
  simp [execShareRx]
@[simp] theorem execHaltStageOff_count (s : State) : CountKept s (execHaltStageOff s) := by
  unfold execHaltStageOff
  split <;> simp [foldl_kept, kept_mk, kept_eta, kept_rules]
@[simp] theorem execHaltMsfOff_count (s : State) : CountKept s (execHaltMsfOff s) := by
  unfold execHaltMsfOff
  split <;> simp [kept_mk, kept_eta, kept_rules]
@[simp] theorem execAliveToggle_count (s : State) : CountKept s (execAliveToggle s) := by
  simp [execAliveToggle, kept_mk, kept_eta, kept_rules]
@[simp] theorem execSngCmdHalt_count (confirm : Nat) (s : State) : CountKept s (execSngCmdHalt confirm s) := by
  simp [execSngCmdHalt]
@[simp] theorem execSngCmdSnapshot_count (s : State) : CountKept s (execSngCmdSnapshot s) := by
  simp [execSngCmdSnapshot]
@[simp] theorem execSngForceWrite_count (k : Nat) (w : W32) (s : State) : CountKept s (execSngForceWrite k w s) := by
  simp [execSngForceWrite, apply_ite kept, foldl_kept]
@[simp] theorem execSngLogLoRead_count (s : State) : CountKept s (execSngLogLoRead s) := by
  unfold execSngLogLoRead
  repeat' split
  all_goals simp [kept_mk, kept_eta, kept_rules]
@[simp] theorem execSnapshotTimer_count (s : State) : CountKept s (execSnapshotTimer s) := by
  simp [execSnapshotTimer]
@[simp] theorem execCleanPeriod_count (s : State) : CountKept s (execCleanPeriod s) := by
  simp [execCleanPeriod]
@[simp] theorem execNvmErase_count (s : State) : CountKept s (execNvmErase s) := by
  simp [execNvmErase]
@[simp] theorem execNvmProgram_count (s : State) : CountKept s (execNvmProgram s) := by
  simp [execNvmProgram]
@[simp] theorem execNvmVerify_count (s : State) : CountKept s (execNvmVerify s) := by
  simp [execNvmVerify]
@[simp] theorem execNvmCommandDone_count (flashError : Bool) (s : State) : CountKept s (execNvmCommandDone flashError s) := by
  unfold execNvmCommandDone
  split <;> simp [kept_mk, kept_rules]
@[simp] theorem execNvmProgDataWrite_count (w : W32) (s : State) : CountKept s (execNvmProgDataWrite w s) := by
  simp [execNvmProgDataWrite, kept_mk, kept_eta, kept_rules]
@[simp] theorem execBstRun_count (cls target : Nat) (s : State) : CountKept s (execBstRun cls target s) := by
  simp [execBstRun, kept_mk, kept_eta, kept_rules]
@[simp] theorem execBstRequestDrop_count (s : State) : CountKept s (execBstRequestDrop s) := by
  unfold execBstRequestDrop
  split <;> simp [kept_mk, kept_eta, kept_rules]
@[simp] theorem execMemSliceTest_count (s : State) : CountKept s (execMemSliceTest s) := by
  simp [execMemSliceTest, kept_mk, kept_eta, kept_rules]
@[simp] theorem execMemSliceDone_count (oneSym twoSym : Bool) (s : State) : CountKept s (execMemSliceDone oneSym twoSym s) := by
  unfold execMemSliceDone; dsimp only
  repeat' split
  all_goals simp [kept_mk, kept_eta, kept_rules]
@[simp] theorem execTileTestOverdue_count (z : Nat) (s : State) : CountKept s (execTileTestOverdue z s) := by
  simp [execTileTestOverdue]
@[simp] theorem execUnoccupiedAccess_count (write : Bool) (o : Nat) (s : State) : CountKept s (execUnoccupiedAccess write o s) := by
  simp [execUnoccupiedAccess, apply_ite kept]
@[simp] theorem execRpTimeout_count (s : State) : CountKept s (execRpTimeout s) := by
  simp [execRpTimeout, kept_mk, kept_eta, kept_rules]
@[simp] theorem execPage_count (write : Option Nat) (s : State) : CountKept s (execPage write s) := by
  unfold execPage
  split <;> simp [apply_ite kept, kept_mk, kept_eta, kept_rules]
@[simp] theorem execClearFaults_count (s : State) : CountKept s (execClearFaults s) := by
  simp [execClearFaults, kept_mk, kept_eta, kept_rules]
@[simp] theorem execCapability_count (s : State) : CountKept s (execCapability s) := by
  simp [execCapability]
@[simp] theorem execVoutMode_count (s : State) : CountKept s (execVoutMode s) := by
  simp [execVoutMode]
@[simp] theorem execStatusByte_count (s : State) : CountKept s (execStatusByte s) := by
  simp [execStatusByte]
@[simp] theorem execStatusWord_count (s : State) : CountKept s (execStatusWord s) := by
  simp [execStatusWord]
@[simp] theorem execWriteProtect_count (write : Option Nat) (s : State) : CountKept s (execWriteProtect write s) := by
  unfold execWriteProtect
  split <;> simp [apply_ite kept, kept_mk, kept_eta, kept_rules]
@[simp] theorem execStatusTemperature_count (s : State) : CountKept s (execStatusTemperature s) := by
  simp [execStatusTemperature]
@[simp] theorem execStatusCml_count (s : State) : CountKept s (execStatusCml s) := by
  simp [execStatusCml]
@[simp] theorem execStatusMfrSpecific_count (s : State) : CountKept s (execStatusMfrSpecific s) := by
  simp [execStatusMfrSpecific]
@[simp] theorem execReadVin_count (s : State) : CountKept s (execReadVin s) := by
  simp [execReadVin]
@[simp] theorem execReadIin_count (s : State) : CountKept s (execReadIin s) := by
  simp [execReadIin]
@[simp] theorem execMfrPowerCap_count (write : Option Nat) (s : State) : CountKept s (execMfrPowerCap write s) := by
  unfold execMfrPowerCap
  split <;> simp [apply_ite kept]
@[simp] theorem execReadVout_count (s : State) : CountKept s (execReadVout s) := by
  simp [execReadVout]
@[simp] theorem execReadIout_count (s : State) : CountKept s (execReadIout s) := by
  simp [execReadIout]
@[simp] theorem execReadTemperature1_count (s : State) : CountKept s (execReadTemperature1 s) := by
  simp [execReadTemperature1]
@[simp] theorem execReadTemperature2_count (s : State) : CountKept s (execReadTemperature2 s) := by
  simp [execReadTemperature2]
@[simp] theorem execReadPin_count (s : State) : CountKept s (execReadPin s) := by
  simp [execReadPin]
@[simp] theorem execMfrEnergyCap_count (write : Option Nat) (s : State) : CountKept s (execMfrEnergyCap write s) := by
  unfold execMfrEnergyCap
  split <;> simp [apply_ite kept]
@[simp] theorem execPmbusRevision_count (s : State) : CountKept s (execPmbusRevision s) := by
  simp [execPmbusRevision]
@[simp] theorem execMfrId_count (s : State) : CountKept s (execMfrId s) := by
  simp [execMfrId]
@[simp] theorem execMfrModel_count (s : State) : CountKept s (execMfrModel s) := by
  simp [execMfrModel]
@[simp] theorem execMfrRevision_count (s : State) : CountKept s (execMfrRevision s) := by
  simp [execMfrRevision]
@[simp] theorem execMfrCapEff_count (s : State) : CountKept s (execMfrCapEff s) := by
  simp [execMfrCapEff]
@[simp] theorem execMfrCapLimits_count (s : State) : CountKept s (execMfrCapLimits s) := by
  simp [execMfrCapLimits]
@[simp] theorem execMfrReadEnergy_count (s : State) : CountKept s (execMfrReadEnergy s) := by
  simp [execMfrReadEnergy]
@[simp] theorem execMfrBlk_count (s : State) : CountKept s (execMfrBlk s) := by
  simp [execMfrBlk]
@[simp] theorem execMfrSnag_count (s : State) : CountKept s (execMfrSnag s) := by
  simp [execMfrSnag]
@[simp] theorem execPmbusInvalid_count (write : Bool) (bit : Nat) (s : State) : CountKept s (execPmbusInvalid write bit s) := by
  simp [execPmbusInvalid]
@[simp] theorem execSmbusTimeout_count (s : State) : CountKept s (execSmbusTimeout s) := by
  simp [execSmbusTimeout, kept_mk, kept_eta, kept_rules]
@[simp] theorem execAlertResponse_count (s : State) : CountKept s (execAlertResponse s) := by
  simp [execAlertResponse]
@[simp] theorem execExtest_count (pins : List Bool) (s : State) : CountKept s (execExtest pins s) := by
  simp [execExtest, kept_mk, kept_eta, kept_rules]
@[simp] theorem execSamplePreload_count (pins : List Bool) (s : State) : CountKept s (execSamplePreload pins s) := by
  simp [execSamplePreload]
@[simp] theorem execIdcode_count (s : State) : CountKept s (execIdcode s) := by
  simp [execIdcode, kept_mk, kept_eta, kept_rules]
@[simp] theorem execHighz_count (s : State) : CountKept s (execHighz s) := by
  simp [execHighz, kept_mk, kept_eta, kept_rules]
@[simp] theorem execFuseProg_count (addr : W32) (data : BitVec 128) (s : State) : CountKept s (execFuseProg addr data s) := by
  simp [execFuseProg, kept_mk, kept_rules]
@[simp] theorem execBypass_count (s : State) : CountKept s (execBypass s) := by
  simp [execBypass]
@[simp] theorem execTapReset_count (s : State) : CountKept s (execTapReset s) := by
  simp [execTapReset]
@[simp] theorem execRefclkReturn_count (s : State) : CountKept s (execRefclkReturn s) := by
  simp [execRefclkReturn, kept_mk, kept_eta, kept_rules]
@[simp] theorem execVsetInSample_count (mvs : List Nat) (periods : List (Nat × Nat)) (s : State) : CountKept s (execVsetInSample mvs periods s) := by
  simp [execVsetInSample, kept_mk, kept_eta, kept_rules]
@[simp] theorem execTileSwitchingCycle_count (z t ph : Nat) (c : CycleInput) (s : State) : CountKept s (execTileSwitchingCycle z t ph c s) := by
  simp [execTileSwitchingCycle]
@[simp] theorem execMsfChannelCycle_count (k : Nat) (c : ChanInput) (s : State) : CountKept s (execMsfChannelCycle k c s) := by
  simp [execMsfChannelCycle, kept_mk, kept_eta, kept_rules]
@[simp] theorem execTaintExcursionStart_count (z t fine : Nat) (s : State) : CountKept s (execTaintExcursionStart z t fine s) := by
  simp [execTaintExcursionStart]

/-! ## Operations that move a level, a held pair or a fuse, but not the count -/

theorem outState_count {s : State} {o : Out} (h : CountKept s o) : (kept (outState s o)).count = (kept s).count := by
  cases o with
  | next t => exact h
  | fault _ => rfl
  | refused _ => rfl
@[simp] theorem enterSafe_count (s : State) (code : Nat) : (kept (enterSafe s code)).count = (kept s).count := rfl
@[simp] theorem applyFlag_count (s : State) (h : Header) : (kept (applyFlag s h)).count = (kept s).count := by
  unfold applyFlag; split <;> rfl
@[simp] theorem setLog_count (s : State) (n : Nvm) (h : Header) (m : List Host.Cell) : (kept (setLog s n h m)).count = (kept s).count := rfl
@[simp] theorem logClear_count (s : State) (r : Nat) : CountKept s (logClear s r) := by
  unfold logClear
  repeat' split
  all_goals simp
@[simp] theorem execLogClearCnt_count (s : State) : CountKept s (execLogClearCnt s) := logClear_count s 3
@[simp] theorem execLogClearFh_count (s : State) : CountKept s (execLogClearFh s) := logClear_count s 1
@[simp] theorem execLogClearShut_count (s : State) : CountKept s (execLogClearShut s) := logClear_count s 2
@[simp] theorem readyFall_count (s : State) : (kept (readyFall s)).count = (kept s).count := rfl
@[simp] theorem readyAgain_count (s : State) : (kept (readyAgain s)).count = (kept s).count := by
  rw [readyAgain_eq]; rfl
@[simp] theorem inject_kept (s : State) (link : Nat) (x : LathRx) : kept (inject s link x).1 = kept s := by
  unfold inject; dsimp only
  repeat' split
  all_goals rfl
@[simp] theorem dropRun_count (s : State) (task : Task) : (kept (dropRun s task)).count = (kept s).count := by
  obtain ⟨caps, thm, fce, pcx, nvm, snag, h⟩ := dropRun_frame s task
  rw [h]; rfl
theorem classOutcome_kept (s : State) (c : Nat) (r : BistResult) : kept (classOutcome s c r).1 = kept s := by
  unfold classOutcome
  split
  · exact foldl_kept _ laneFail_kept _ s
  · split
    · exact foldl_kept _ excludeChan_kept _ s
    · rfl
@[simp] theorem beginStep7_count (s : State) : (kept (beginStep7 s)).count = (kept s).count := by
  unfold beginStep7
  dsimp only
  split <;> simp [kept_mk, kept_eta, kept_rules]
@[simp] theorem readyRise_count (s : State) : (kept (readyRise s)).count = (kept s).count := by
  simp [readyRise, kept_mk, kept_rules]
/-- The rules of the Snag unit: actions, raised pairs, reports and recoveries (R402, R403, R406). -/
@[simp] theorem actInstSafe_count (s : State) : (kept (actInstSafe s)).count = (kept s).count := by
  simp [actInstSafe, apply_ite kept, apply_ite Kept.count, foldl_kept, kept_mk, kept_rules]
@[simp] theorem actHalt_count (s : State) (r : FaultRep) : (kept (actHalt s r)).count = (kept s).count := by
  simp [actHalt, apply_ite kept, apply_ite Kept.count, kept_mk, kept_rules]
@[simp] theorem act_count (s : State) (r : FaultRep) (first : Bool) : (kept (act s r first)).count = (kept s).count := by
  unfold act
  dsimp only
  split <;> simp [apply_ite kept]
@[simp] theorem raise_count (s : State) (r : FaultRep) : (kept (raise s r)).count = (kept s).count := by
  simp [raise, apply_ite kept, kept_mk, kept_rules]
@[simp] theorem decideReport_count (s : State) (r : FaultRep) : (kept (decideReport s r)).count = (kept s).count := by
  unfold decideReport
  dsimp only
  repeat' split
  all_goals simp [kept_mk, kept_eta, kept_rules]
@[simp] theorem recoverPair_count (s : State) (h : Held) : (kept (recoverPair s h)).count = (kept s).count := by
  simp [recoverPair, apply_ite kept, kept_mk, kept_rules]

/-! ## The register port (R17, R70) -/

theorem writeField_count {s t : State} {o : Nat} {w : W32} (h : writeField s o w = some t) : (kept t).count = (kept s).count := by
  have hall : (writeField s o w).all (fun t => t.tb.count = s.tb.count) = true := by
    simp [writeField, apply_ite (Option.all _)]
  rw [h] at hall
  exact of_decide_eq_true hall
@[simp] theorem writePage_count (s : State) (z o : Nat) (w : W32) : (kept (writePage s z o w)).count = (kept s).count := by
  simp [writePage, apply_ite kept, apply_ite Kept.count, outState_count]
@[simp] theorem writeCmd_count (s : State) (o : Nat) (w : W32) : (kept (writeCmd s o w)).count = (kept s).count := by
  simp [writeCmd, apply_ite kept, apply_ite Kept.count, outState_count, kept_mk, kept_rules]
@[simp] theorem regWrite_count (s : State) (o : Nat) (w : W32) : (kept (regWrite s o w)).count = (kept s).count := by
  have hocc : (kept (writeOccupied s o w)).count = (kept s).count := by
    cases h : writeField s o w with
    | some t => rw [writeOccupied_field h]; exact writeField_count h
    | none =>
      simp only [writeOccupied, h]
      repeat' split
      all_goals simp [outState_count]
  simp [regWrite, apply_ite kept, apply_ite Kept.count, hocc]
@[simp] theorem regRead_count (s : State) (o : Nat) : (kept (regRead s o)).count = (kept s).count := by
  unfold regRead
  split
  · rfl
  · split
    · simp
    · split <;> simp [apply_ite kept, apply_ite Kept.count, outState_count]
@[simp] theorem userRead_count (s : State) (q n : Nat) : (kept (userRead s q n)).count = (kept s).count := by
  simp [userRead, apply_ite kept, apply_ite Kept.count, outState_count]
@[simp] theorem tapAccess_count (s : State) (write space : Bool) (o : Nat) (w : W32) :
    (kept (tapAccess s write space o w)).count = (kept s).count := by
  simp [tapAccess, apply_ite kept, apply_ite Kept.count, outState_count]

/-! ## The commands that use them -/

@[simp] theorem execCxLathFrameRx_count (cxb : Bool) (kind : Nat) (frame : BitVec 144) (s : State) :
    CountKept s (execCxLathFrameRx cxb kind frame s) := by
  unfold execCxLathFrameRx
  split
  · rfl
  · refine congrArg Kept.count ((foldl_kept _ (fun t y => ?_) _ _).trans (inject_kept s _ _))
    simp [apply_ite kept, kept_mk, kept_eta, kept_rules]
@[simp] theorem execLathTransferRx_count (rx : Nat) (net : Option Nat) (kind : Nat) (header : BitVec 44) (word : BitVec 80)
    (waiting : List (Nat × Bool)) (s : State) : CountKept s (execLathTransferRx rx net kind header word waiting s) := by
  unfold execLathTransferRx
  split
  · rfl
  · split
    · rfl
    · simp [foldl_kept, kept_mk, kept_eta, kept_rules]
@[simp] theorem execFaultRecovery_count (code unit : Nat) (s : State) : CountKept s (execFaultRecovery code unit s) := by
  unfold execFaultRecovery
  split <;> simp
@[simp] theorem execFaultReport_count (s : State) : CountKept s (execFaultReport s) := by
  unfold execFaultReport
  split <;> simp [kept_mk, kept_eta, kept_rules]
@[simp] theorem execFlashDiscoveryDone_count (d : Discovery) (s : State) : CountKept s (execFlashDiscoveryDone d s) := by
  simp [execFlashDiscoveryDone, apply_ite kept, kept_mk, kept_rules]
@[simp] theorem execFuseLoadDone_count (r : FuseRead) (s : State) : CountKept s (execFuseLoadDone r s) := by
  simp [execFuseLoadDone, apply_ite kept, apply_ite Kept.count, kept_mk, kept_rules]
@[simp] theorem execImageCheckDone_count (s : State) : CountKept s (execImageCheckDone s) := by
  unfold execImageCheckDone
  split <;> simp [apply_ite kept, kept_mk, kept_rules]
@[simp] theorem execLogWriteDone_count (ok : Bool) (s : State) : CountKept s (execLogWriteDone ok s) := by
  unfold execLogWriteDone
  split
  · rfl
  · split <;> simp [apply_ite kept, apply_ite Kept.count, kept_mk, kept_rules]
@[simp] theorem execStartupStepTimeout_count (s : State) : CountKept s (execStartupStepTimeout s) := by
  unfold execStartupStepTimeout
  split
  · rfl
  · split <;> simp [kept_mk, kept_rules]
@[simp] theorem execMsfSettleEnd_count (s : State) : CountKept s (execMsfSettleEnd s) := by
  simp [execMsfSettleEnd, apply_ite kept, apply_ite Kept.count]
@[simp] theorem execGroupProposalRx_count (src g code gb decided : Nat) (emergency : Bool) (s : State) :
    CountKept s (execGroupProposalRx src g code gb decided emergency s) := by
  simp [execGroupProposalRx, apply_ite kept, kept_mk, kept_rules]
@[simp] theorem execOperation_count (write : Option Nat) (pecOk : Option Bool) (s : State) : CountKept s (execOperation write pecOk s) := by
  unfold execOperation
  split <;> simp [apply_ite kept]
@[simp] theorem execRegisterWrite_count (o : Nat) (w : W32) (s : State) : CountKept s (execRegisterWrite o w s) := regWrite_count s o w
@[simp] theorem execSampleInstant_count (i : SampleInput) (s : State) : CountKept s (execSampleInstant i s) := by
  simp [execSampleInstant, apply_ite kept, apply_ite Kept.count, kept_mk, kept_rules]
@[simp] theorem execStartupBistClassDone_count (r : BistResult) (s : State) : CountKept s (execStartupBistClassDone r s) := by
  unfold execStartupBistClassDone
  dsimp only
  split
  · split
    · simp [kept_mk, kept_rules]
    · simp [apply_ite kept, apply_ite Kept.count, classOutcome_kept, kept_mk, kept_rules]
  · split <;> simp [kept_mk, kept_rules]
@[simp] theorem execStretchAckCheck_count (z : Nat) (ack : Bool) (s : State) : CountKept s (execStretchAckCheck z ack s) := by
  unfold execStretchAckCheck
  split
  · rfl
  · exact congrArg Kept.count ((foldl_kept _ (fun s _ => note_kept s 0x16 z none) _ _).trans (modZone_kept s z _))
@[simp] theorem execTaskDeadlineMiss_count (pair : Nat) (task : Task) (s : State) : CountKept s (execTaskDeadlineMiss pair task s) := by
  simp [execTaskDeadlineMiss, apply_ite kept, apply_ite Kept.count, kept_mk, kept_rules]
@[simp] theorem execZoneStageDone_count (s : State) : CountKept s (execZoneStageDone s) := by
  unfold execZoneStageDone
  split
  · rfl
  · split <;> simp
@[simp] theorem execRpAccess_count (write space : Bool) (addr data : W32) (s : State) : CountKept s (execRpAccess write space addr data s) := by
  refine countKept_tapOn s _ ?_
  simp [kept_mk, kept_rules]
@[simp] theorem execFuseProvision_count (s : State) : CountKept s (execFuseProvision s) := by
  refine countKept_tapOn s _ ?_
  simp [apply_ite kept, apply_ite Kept.count, kept_mk, kept_rules]

/-- The commands that the spec lets set the count: a start, a reset, the multiplier lock and a time answer (R41, R393). -/
def Instr.setsCount : Instr → Bool
  | .powerOnResetRelease _ _ | .vbiasLoss | .resetNFall _ | .resetNRise | .timebaseLock _ | .timeAnswerRx _ _ _ _ => true
  | _ => false
theorem exec_count (c : Instr) (h : Instr.setsCount c = false) (s : State) : CountKept s (exec c s) := by
  cases c <;> simp [Instr.setsCount, exec] at h ⊢

/-- Settles O7: every command but the six leaves the count, one lemma for each of them. -/
theorem countMovesOnlyByTheTimeBase : Obligations.CountMovesOnlyByTheTimeBase := by
  unfold Obligations.CountMovesOnlyByTheTimeBase
  intro c s t hc hexec
  have hset : Instr.setsCount c = false := by
    cases c <;> simp_all [Instr.setsCount]
  have hkept := exec_count c hset s
  rw [hexec] at hkept
  exact hkept

end Sys2Proof.Machine
end

section
/-!
What a command leaves alone, said once per command: the ones whose operations keep all of `kept` (queue, flash bytes, condition, READY, fuses,
count, held classes, HALT), one lemma each from the laws of the operations they call.
-/
namespace Sys2Proof.Machine

/-- The command answers a next state and leaves everything of `kept` as it was. -/
def Stays (s : State) (o : Out) : Prop := match o with
  | .next t => kept t = kept s
  | _ => False
@[simp] theorem stays_next (s t : State) : Stays s (.next t) ↔ kept t = kept s := Iff.rfl
@[simp] theorem stays_ite (s : State) (c : Prop) [Decidable c] (a b : Out) :
    Stays s (if c then a else b) ↔ (c → Stays s a) ∧ (¬ c → Stays s b) := by
  split <;> simp [*]
@[simp] theorem stays_pmbRead (s : State) (b : List Byte) : Stays s (pmbRead s b) := by
  unfold pmbRead; split <;> rfl
@[simp] theorem stays_tapOn (s : State) (o : Out) (h : Stays s o) : Stays s (tapOn s o) := by
  unfold tapOn; split <;> simp [h]
@[simp] theorem stays_pmbWrite (s : State) (f : State → State) (h : ∀ s, kept (f s) = kept s) : Stays s (pmbWrite s f) := by
  unfold pmbWrite; split <;> simp [h]
@[simp] theorem stays_nvmStart (s : State) (ok : Bool) (r : NvmRun) : Stays s (nvmStart s ok r) := by
  unfold nvmStart; dsimp only; repeat' split
  all_goals rfl
/-- The state a command answers within a register access keeps what the command keeps. -/
theorem outState_kept {s : State} {o : Out} (h : Stays s o) : kept (outState s o) = kept s := by
  cases o with
  | next t => exact h
  | fault _ => rfl
  | refused _ => rfl

@[simp] theorem execImageBodyReadDone_stays (s : State) : Stays s (execImageBodyReadDone s) := by simp [execImageBodyReadDone]
@[simp] theorem execUserCalDone_stays (s : State) : Stays s (execUserCalDone s) := by simp [execUserCalDone]
@[simp] theorem execThermalRestartCheck_stays (s : State) : Stays s (execThermalRestartCheck s) := by
  unfold execThermalRestartCheck
  repeat' split
  all_goals simp [kept_mk, kept_eta, kept_rules]
@[simp] theorem execMsfBaseReached_stays (s : State) : Stays s (execMsfBaseReached s) := by
  simp [execMsfBaseReached, kept_mk, kept_eta, kept_rules]
@[simp] theorem execStartupBistDone_stays (s : State) : Stays s (execStartupBistDone s) := by
  simp [execStartupBistDone, kept_mk, kept_eta, kept_rules]
@[simp] theorem execFormationTimeout_stays (s : State) : Stays s (execFormationTimeout s) := by simp [execFormationTimeout]
@[simp] theorem execUpdateOverrun_stays (z : Nat) (s : State) : Stays s (execUpdateOverrun z s) := by simp [execUpdateOverrun]
@[simp] theorem execForecastRound_stays (s : State) : Stays s (execForecastRound s) := by
  simp [execForecastRound, kept_mk, kept_eta, kept_rules]
@[simp] theorem execForecastPacketRx_stays (z : Nat) (s : State) : Stays s (execForecastPacketRx z s) := by
  unfold execForecastPacketRx
  split <;> simp [kept_mk, kept_eta, kept_rules]
@[simp] theorem execFpvRx_stays (s : State) : Stays s (execFpvRx s) := by
  unfold execFpvRx
  split <;> simp [kept_mk, kept_eta, kept_rules]
@[simp] theorem execForecastExpiry_stays (z : Option Nat) (s : State) : Stays s (execForecastExpiry z s) := by
  unfold execForecastExpiry
  repeat' split
  all_goals simp [kept_mk, kept_eta, kept_rules]
@[simp] theorem execForecastAbsentDegrade_stays (s : State) : Stays s (execForecastAbsentDegrade s) := by
  simp [execForecastAbsentDegrade, kept_mk, kept_eta, kept_rules]
@[simp] theorem execLimitUpdate_stays (z : Nat) (s : State) : Stays s (execLimitUpdate z s) := by
  unfold execLimitUpdate
  split <;> simp [kept_mk, kept_eta, kept_rules]
@[simp] theorem execLeaseExpiry_stays (z : Nat) (s : State) : Stays s (execLeaseExpiry z s) := by simp [execLeaseExpiry]
@[simp] theorem execSubmitPp_stays (b0 b1 : W64) (b2 : Option W64) (s : State) : Stays s (execSubmitPp b0 b1 b2 s) := by
  simp [execSubmitPp, apply_ite kept]
@[simp] theorem execSubmitCb_stays (b0 b1 : W64) (b2 : Option W64) (s : State) : Stays s (execSubmitCb b0 b1 b2 s) := by
  simp [execSubmitCb, apply_ite kept]
@[simp] theorem execStep_stays (b0 b1 : W64) (s : State) : Stays s (execStep b0 b1 s) := by simp [execStep, apply_ite kept]
@[simp] theorem execDone_stays (b0 : W64) (s : State) : Stays s (execDone b0 s) := by simp [execDone]
@[simp] theorem execDoneLast_stays (b0 : W64) (s : State) : Stays s (execDoneLast b0 s) := by simp [execDoneLast]
@[simp] theorem execPreempt_stays (b0 : W64) (s : State) : Stays s (execPreempt b0 s) := by simp [execPreempt]
@[simp] theorem execResume_stays (b0 : W64) (s : State) : Stays s (execResume b0 s) := by simp [execResume, kept_mk, kept_eta, kept_rules]
@[simp] theorem execMalformedRecord_stays (beats : List W64) (s : State) : Stays s (execMalformedRecord beats s) := by
  simp [execMalformedRecord, kept_mk, kept_eta, kept_rules]
@[simp] theorem execContextFetchDone_stays (p : Nat) (uncorrectable directory : Bool) (s : State) :
    Stays s (execContextFetchDone p uncorrectable directory s) := by
  unfold execContextFetchDone
  split <;> simp [kept_mk, kept_eta, kept_rules]
@[simp] theorem execStepMarkTaken_stays (p : Nat) (s : State) : Stays s (execStepMarkTaken p s) := by
  unfold execStepMarkTaken; dsimp only
  repeat' split
  all_goals simp
@[simp] theorem execCadenceLost_stays (p : Nat) (s : State) : Stays s (execCadenceLost p s) := by
  unfold execCadenceLost; dsimp only
  repeat' split
  all_goals simp
@[simp] theorem execClaimExpiry_stays (q sid : Nat) (s : State) : Stays s (execClaimExpiry q sid s) := by
  simp [execClaimExpiry, kept_mk, kept_eta, kept_rules]
@[simp] theorem execGenRetire_stays (pcx : Nat) (s : State) : Stays s (execGenRetire pcx s) := by
  simp [execGenRetire, kept_mk, kept_eta, kept_rules]
@[simp] theorem execPcxHomeMove_stays (pcx : Nat) (s : State) : Stays s (execPcxHomeMove pcx s) := by
  unfold execPcxHomeMove; dsimp only
  repeat' split
  all_goals simp [kept_mk, kept_eta, kept_rules]
@[simp] theorem execLeaseEnd_stays (q sid : Nat) (s : State) : Stays s (execLeaseEnd q sid s) := by
  simp [execLeaseEnd, kept_mk, kept_eta, kept_rules]
@[simp] theorem execSuspendExpiry_stays (q : Nat) (s : State) : Stays s (execSuspendExpiry q s) := by
  simp [execSuspendExpiry, kept_mk, kept_eta, kept_rules]
@[simp] theorem execHintExpiry_stays (p : Nat) (s : State) : Stays s (execHintExpiry p s) := by simp [execHintExpiry]
@[simp] theorem execPcxStagingReset_stays (s : State) : Stays s (execPcxStagingReset s) := by
  simp [execPcxStagingReset, kept_mk, kept_eta, kept_rules]
@[simp] theorem execPcxStageWrite_stays (w : W32) (s : State) : Stays s (execPcxStageWrite w s) := by
  simp [execPcxStageWrite, kept_mk, kept_eta, kept_rules]
@[simp] theorem execPcxCommit_stays (pcx : Nat) (s : State) : Stays s (execPcxCommit pcx s) := by
  simp [execPcxCommit, kept_mk, kept_eta, kept_rules]
@[simp] theorem execPcxDrop_stays (pcx : Nat) (s : State) : Stays s (execPcxDrop pcx s) := by
  simp [execPcxDrop, kept_mk, kept_eta, kept_rules]
@[simp] theorem execPcxDirSwitch_stays (s : State) : Stays s (execPcxDirSwitch s) := by
  unfold execPcxDirSwitch
  split <;> simp [kept_mk, kept_eta, kept_rules]
@[simp] theorem execFceStagingReset_stays (slot : Nat) (s : State) : Stays s (execFceStagingReset slot s) := by
  simp [execFceStagingReset, kept_mk, kept_eta, kept_rules]
@[simp] theorem execFceLoadData_stays (w : W32) (s : State) : Stays s (execFceLoadData w s) := by
  simp [execFceLoadData, kept_mk, kept_eta, kept_rules]
@[simp] theorem execFceCommit_stays (slot : Nat) (s : State) : Stays s (execFceCommit slot s) := by
  simp [execFceCommit, kept_mk, kept_eta, kept_rules]
@[simp] theorem execFceClear_stays (slot : Nat) (s : State) : Stays s (execFceClear slot s) := by
  simp [execFceClear, kept_mk, kept_eta, kept_rules]
@[simp] theorem execFceCopyDone_stays (s : State) : Stays s (execFceCopyDone s) := by
  unfold execFceCopyDone
  split <;> simp [kept_mk, kept_eta, kept_rules]
@[simp] theorem execFceSlotLost_stays (slot : Nat) (s : State) : Stays s (execFceSlotLost slot s) := by
  simp [execFceSlotLost, kept_mk, kept_eta, kept_rules]
@[simp] theorem execAdaptationRun_stays (s : State) : Stays s (execAdaptationRun s) := by
  unfold execAdaptationRun; dsimp only
  repeat' split
  all_goals simp [kept_mk, kept_eta, kept_rules]
@[simp] theorem execDroopCrossing_stays (z t : Nat) (s : State) : Stays s (execDroopCrossing z t s) := by simp [execDroopCrossing]
@[simp] theorem execDroopRelease_stays (z t : Nat) (s : State) : Stays s (execDroopRelease z t s) := by simp [execDroopRelease]
@[simp] theorem execStretchTimeout_stays (z : Nat) (s : State) : Stays s (execStretchTimeout z s) := by
  unfold execStretchTimeout; dsimp only
  repeat' split
  all_goals simp
@[simp] theorem execTaintExcursionEnd_stays (z t fine : Nat) (s : State) : Stays s (execTaintExcursionEnd z t fine s) := by
  unfold execTaintExcursionEnd
  split <;> simp
@[simp] theorem execTaintIntervalSplit_stays (z t : Nat) (s : State) : Stays s (execTaintIntervalSplit z t s) := by
  unfold execTaintIntervalSplit
  split <;> simp
@[simp] theorem execTaintEventRx_stays (z : Nat) (s : State) : Stays s (execTaintEventRx z s) := by
  unfold execTaintEventRx; dsimp only
  repeat' split
  all_goals simp
@[simp] theorem execTaintStrobeEnd_stays (z : Nat) (s : State) : Stays s (execTaintStrobeEnd z s) := by
  unfold execTaintStrobeEnd
  split <;> simp
@[simp] theorem execTntRecordSend_stays (s : State) : Stays s (execTntRecordSend s) := by
  unfold execTntRecordSend
  split <;> simp [kept_mk, kept_eta, kept_rules]
@[simp] theorem execTntOverflowRecord_stays (s : State) : Stays s (execTntOverflowRecord s) := by
  unfold execTntOverflowRecord
  split <;> simp [kept_mk, kept_eta, kept_rules]
@[simp] theorem execFreqReq_stays (z code : Nat) (s : State) : Stays s (execFreqReq z code s) := by simp [execFreqReq]
@[simp] theorem execFreqIncreaseGrant_stays (z : Nat) (s : State) : Stays s (execFreqIncreaseGrant z s) := by
  unfold execFreqIncreaseGrant; dsimp only
  repeat' split
  all_goals simp
@[simp] theorem execFreqReqFall_stays (z : Nat) (s : State) : Stays s (execFreqReqFall z s) := by simp [execFreqReqFall]
@[simp] theorem execSetReq_stays (z a dur : Nat) (s : State) : Stays s (execSetReq z a dur s) := by simp [execSetReq]
@[simp] theorem execSetWindowSchedule_stays (z a : Nat) (s : State) : Stays s (execSetWindowSchedule z a s) := by
  unfold execSetWindowSchedule
  repeat' split
  all_goals simp
@[simp] theorem execSetWaitExpiry_stays (z a : Nat) (s : State) : Stays s (execSetWaitExpiry z a s) := by simp [execSetWaitExpiry]
@[simp] theorem execSetReqFall_stays (z a : Nat) (s : State) : Stays s (execSetReqFall z a s) := by simp [execSetReqFall]
@[simp] theorem execWindowStart_stays (z a : Nat) (s : State) : Stays s (execWindowStart z a s) := by simp [execWindowStart]
@[simp] theorem execWindowEnd_stays (z a : Nat) (s : State) : Stays s (execWindowEnd z a s) := by simp [execWindowEnd]
@[simp] theorem execGateAck_stays (z a : Nat) (level : Bool) (s : State) : Stays s (execGateAck z a level s) := by simp [execGateAck]
@[simp] theorem execGateAckLate_stays (z a : Nat) (s : State) : Stays s (execGateAckLate z a s) := by
  simp [execGateAckLate, kept_mk, kept_eta, kept_rules]
@[simp] theorem execZoneGateTimeout_stays (z : Nat) (s : State) : Stays s (execZoneGateTimeout z s) := by
  unfold execZoneGateTimeout
  split <;> simp
@[simp] theorem execThrAckToggle_stays (s : State) : Stays s (execThrAckToggle s) := by
  simp [execThrAckToggle, kept_mk, kept_eta, kept_rules]
@[simp] theorem execFltReqWrite_stays (z : Nat) (w : W32) (s : State) : Stays s (execFltReqWrite z w s) := by
  simp [execFltReqWrite, apply_ite kept]
@[simp] theorem execPupDeferExpiry_stays (z : Nat) (s : State) : Stays s (execPupDeferExpiry z s) := by
  unfold execPupDeferExpiry
  split <;> simp
@[simp] theorem execZoneRampDone_stays (z : Nat) (s : State) : Stays s (execZoneRampDone z s) := by
  unfold execZoneRampDone
  split <;> simp
@[simp] theorem execZoneRampTimeout_stays (z : Nat) (s : State) : Stays s (execZoneRampTimeout z s) := by
  unfold execZoneRampTimeout; dsimp only
  repeat' split
  all_goals simp
@[simp] theorem execZoneRunExitDone_stays (z : Nat) (s : State) : Stays s (execZoneRunExitDone z s) := by
  unfold execZoneRunExitDone; dsimp only
  repeat' split
  all_goals simp
@[simp] theorem execHoldTimeout_stays (z : Nat) (s : State) : Stays s (execHoldTimeout z s) := by
  unfold execHoldTimeout; dsimp only
  repeat' split
  all_goals simp
@[simp] theorem execFltTblDataAccess_stays (z : Nat) (write : Option W32) (s : State) : Stays s (execFltTblDataAccess z write s) := by
  unfold execFltTblDataAccess
  repeat' split
  all_goals simp
@[simp] theorem execFloatTableEccError_stays (z : Nat) (shadow corrected : Bool) (s : State) :
    Stays s (execFloatTableEccError z shadow corrected s) := by
  simp [execFloatTableEccError]
@[simp] theorem execZoneStrobeLoss_stays (z : Nat) (s : State) : Stays s (execZoneStrobeLoss z s) := by simp [execZoneStrobeLoss]
@[simp] theorem execTileTripShort_stays (z t : Nat) (s : State) : Stays s (execTileTripShort z t s) := by simp [execTileTripShort]
@[simp] theorem execTileSwitchFail_stays (z t : Nat) (s : State) : Stays s (execTileSwitchFail z t s) := by simp [execTileSwitchFail]
@[simp] theorem execTileOverloadSet_stays (z t : Nat) (s : State) : Stays s (execTileOverloadSet z t s) := by simp [execTileOverloadSet]
@[simp] theorem execTileTempResult_stays (z t : Nat) (raw : Int) (s : State) : Stays s (execTileTempResult z t raw s) := by
  simp [execTileTempResult, apply_ite kept]
@[simp] theorem execTileOverloadClear_stays (z t : Nat) (s : State) : Stays s (execTileOverloadClear z t s) := by
  simp [execTileOverloadClear]
@[simp] theorem execTileLoadStep_stays (z t : Nat) (s : State) : Stays s (execTileLoadStep z t s) := by
  unfold execTileLoadStep; dsimp only
  repeat' split
  all_goals simp
@[simp] theorem execTileWatchEnd_stays (z t : Nat) (s : State) : Stays s (execTileWatchEnd z t s) := by simp [execTileWatchEnd]
@[simp] theorem execAgeingUpdate_stays (s : State) : Stays s (execAgeingUpdate s) := by
  simp [execAgeingUpdate, kept_mk, kept_eta, kept_rules]
@[simp] theorem execTileRegEntry_stays (z t : Nat) (s : State) : Stays s (execTileRegEntry z t s) := by simp [execTileRegEntry]
@[simp] theorem execTileStopDone_stays (z t : Nat) (s : State) : Stays s (execTileStopDone z t s) := by simp [execTileStopDone]
@[simp] theorem execTileAgeResult_stays (z t age : Nat) (s : State) : Stays s (execTileAgeResult z t age s) := by simp [execTileAgeResult]
@[simp] theorem execTileTestDone_stays (z t failStep : Nat) (s : State) : Stays s (execTileTestDone z t failStep s) := by
  unfold execTileTestDone; dsimp only
  repeat' split
  all_goals simp [kept_mk, kept_eta, kept_rules]
@[simp] theorem execZoneSyncLost_stays (z : Nat) (i : SyncIn) (s : State) : Stays s (execZoneSyncLost z i s) := by simp [execZoneSyncLost]
@[simp] theorem execZoneSyncRelock_stays (z : Nat) (i : SyncIn) (s : State) : Stays s (execZoneSyncRelock z i s) := by
  simp [execZoneSyncRelock]
@[simp] theorem execMsfSyncLost_stays (i : SyncIn) (s : State) : Stays s (execMsfSyncLost i s) := by
  simp [execMsfSyncLost, kept_mk, kept_eta, kept_rules]
@[simp] theorem execMsfSyncRelock_stays (i : SyncIn) (s : State) : Stays s (execMsfSyncRelock i s) := by
  simp [execMsfSyncRelock, kept_mk, kept_eta, kept_rules]
@[simp] theorem execVsetInLost_stays (s : State) : Stays s (execVsetInLost s) := by
  unfold execVsetInLost; dsimp only
  repeat' split
  all_goals simp [kept_mk, kept_eta, kept_rules]
@[simp] theorem execVsetFallback_stays (s : State) : Stays s (execVsetFallback s) := by
  unfold execVsetFallback
  split <;> simp [kept_mk, kept_eta, kept_rules]
@[simp] theorem execVsetInReturn_stays (s : State) : Stays s (execVsetInReturn s) := by
  unfold execVsetInReturn; dsimp only
  repeat' split
  all_goals simp [kept_mk, kept_eta, kept_rules]
@[simp] theorem execMsfVsetWrite_stays (w : W32) (s : State) : Stays s (execMsfVsetWrite w s) := by
  simp [execMsfVsetWrite, apply_ite kept, kept_mk, kept_eta, kept_rules]
@[simp] theorem execMsfShedArm_stays (s : State) : Stays s (execMsfShedArm s) := by
  unfold execMsfShedArm; dsimp only
  repeat' split
  all_goals simp [kept_mk, kept_eta, kept_rules]
@[simp] theorem execMsfShedCommit_stays (s : State) : Stays s (execMsfShedCommit s) := by
  unfold execMsfShedCommit; dsimp only
  repeat' split
  all_goals simp [kept_mk, kept_eta, kept_rules]
@[simp] theorem execMsfWatchEnd_stays (s : State) : Stays s (execMsfWatchEnd s) := by simp [execMsfWatchEnd, kept_mk, kept_eta, kept_rules]
@[simp] theorem execMsfShort_stays (s : State) : Stays s (execMsfShort s) := by
  simp [execMsfShort, apply_ite kept, kept_mk, kept_eta, kept_rules]
@[simp] theorem execMsfHiccupEnd_stays (s : State) : Stays s (execMsfHiccupEnd s) := by
  simp [execMsfHiccupEnd, kept_mk, kept_eta, kept_rules]
@[simp] theorem execMsfTriesReset_stays (s : State) : Stays s (execMsfTriesReset s) := by
  simp [execMsfTriesReset, kept_mk, kept_eta, kept_rules]
@[simp] theorem execMsfOvervoltage_stays (s : State) : Stays s (execMsfOvervoltage s) := by
  simp [execMsfOvervoltage, kept_mk, kept_eta, kept_rules]
@[simp] theorem execMsfChannelExclude_stays (k : Nat) (s : State) : Stays s (execMsfChannelExclude k s) := by simp [execMsfChannelExclude]
@[simp] theorem execPgFault_stays (s : State) : Stays s (execPgFault s) := by
  unfold execPgFault
  split <;> simp
@[simp] theorem execPgRestore_stays (s : State) : Stays s (execPgRestore s) := by
  unfold execPgRestore
  split <;> simp [kept_mk, kept_eta, kept_rules]
@[simp] theorem execEnforcementBoundary_stays (s : State) : Stays s (execEnforcementBoundary s) := by
  simp [execEnforcementBoundary, apply_ite kept, kept_mk, kept_eta, kept_rules]
@[simp] theorem execEnergySegmentRx_stays (z : Nat) (delivered : Bool) (s : State) : Stays s (execEnergySegmentRx z delivered s) := by
  simp [execEnergySegmentRx]
@[simp] theorem execPowerWindowBoundary_stays (s : State) : Stays s (execPowerWindowBoundary s) := by
  simp [execPowerWindowBoundary, apply_ite kept]
@[simp] theorem execGraceEnd_stays (s : State) : Stays s (execGraceEnd s) := by simp [execGraceEnd, foldl_kept]
@[simp] theorem execCalibrationWindow_stays (s : State) : Stays s (execCalibrationWindow s) := by
  unfold execCalibrationWindow; dsimp only
  repeat' split
  all_goals simp [kept_mk, kept_eta, kept_rules]
@[simp] theorem execCapSwWrite_stays (w : W32) (s : State) : Stays s (execCapSwWrite w s) := by simp [execCapSwWrite]
@[simp] theorem execCapGroupWrite_stays (g : Nat) (w : W32) (s : State) : Stays s (execCapGroupWrite g w s) := by
  simp [execCapGroupWrite, kept_mk, kept_eta, kept_rules]
@[simp] theorem execGroupBoundary_stays (g : Nat) (s : State) : Stays s (execGroupBoundary g s) := by
  simp [execGroupBoundary, apply_ite kept, kept_mk, kept_eta, kept_rules]
@[simp] theorem execNrgLoRead_stays (offset : Nat) (s : State) : Stays s (execNrgLoRead offset s) := by
  simp [execNrgLoRead, kept_mk, kept_eta, kept_rules]
@[simp] theorem execUserWindowEnergyRead_stays (q : Nat) (s : State) : Stays s (execUserWindowEnergyRead q s) := by
  simp [execUserWindowEnergyRead, kept_mk, kept_eta, kept_rules]
@[simp] theorem execUserWindowWrite_stays (_q _offset : Nat) (s : State) : Stays s (execUserWindowWrite _q _offset s) := by
  simp [execUserWindowWrite]
@[simp] theorem execTbsNowLoRead_stays (s : State) : Stays s (execTbsNowLoRead s) := by
  simp [execTbsNowLoRead, kept_mk, kept_eta, kept_rules]
@[simp] theorem execRefclkLost_stays (s : State) : Stays s (execRefclkLost s) := by simp [execRefclkLost, kept_mk, kept_eta, kept_rules]
@[simp] theorem execHoldoverTimeout_stays (s : State) : Stays s (execHoldoverTimeout s) := by simp [execHoldoverTimeout]
@[simp] theorem execLockstepDisagree_stays (pair : Nat) (s : State) : Stays s (execLockstepDisagree pair s) := by
  simp [execLockstepDisagree, kept_mk, kept_eta, kept_rules]
@[simp] theorem execCorePairRestartDone_stays (pair : Nat) (s : State) : Stays s (execCorePairRestartDone pair s) := by
  simp [execCorePairRestartDone, kept_mk, kept_eta, kept_rules]
@[simp] theorem execTcvResult_stays (modB : Bool) (bits : BitVec 10240) (s : State) : Stays s (execTcvResult modB bits s) := by
  simp [execTcvResult]
@[simp] theorem execTcvSelfCal_stays (s : State) : Stays s (execTcvSelfCal s) := by simp [execTcvSelfCal]
@[simp] theorem execTcvSelfCalDone_stays (spanA spanB : CalSpans) (s : State) : Stays s (execTcvSelfCalDone spanA spanB s) := by
  unfold execTcvSelfCalDone
  split <;> simp [kept_mk, kept_eta, kept_rules]
@[simp] theorem execTcvUrgent_stays (ch : Nat) (s : State) : Stays s (execTcvUrgent ch s) := by
  simp [execTcvUrgent, kept_mk, kept_eta, kept_rules]
@[simp] theorem execTcvCapture_stays (s : State) : Stays s (execTcvCapture s) := by simp [execTcvCapture, kept_mk, kept_eta, kept_rules]
@[simp] theorem execTcvAdmission_stays (s : State) : Stays s (execTcvAdmission s) := by
  unfold execTcvAdmission; dsimp only
  repeat' split
  all_goals simp [kept_mk, kept_eta, kept_rules]
@[simp] theorem execTcvQLoRead_stays (s : State) : Stays s (execTcvQLoRead s) := by
  unfold execTcvQLoRead
  repeat' split
  all_goals simp [kept_mk, kept_eta, kept_rules]
@[simp] theorem execTcvStopped_stays (s : State) : Stays s (execTcvStopped s) := by simp [execTcvStopped, kept_mk, kept_eta, kept_rules]
@[simp] theorem execLathAckRx_stays (net : Option Nat) (header : BitVec 44) (s : State) : Stays s (execLathAckRx net header s) := by
  unfold execLathAckRx
  repeat' split
  all_goals simp
@[simp] theorem execLathRetry_stays (net : Option Nat) (src dest cls seq kind : Nat) (zone : Option Nat) (s : State) :
    Stays s (execLathRetry net src dest cls seq kind zone s) := by
  simp [execLathRetry, kept_mk, kept_eta, kept_rules]
@[simp] theorem execSeamLaneFail_stays (j : Nat) (laneB : Bool) (s : State) : Stays s (execSeamLaneFail j laneB s) := by
  simp [execSeamLaneFail, apply_ite kept, kept_mk, kept_eta, kept_rules]
@[simp] theorem execLthInjCtlWrite_stays (w : W32) (s : State) : Stays s (execLthInjCtlWrite w s) := by
  simp [execLthInjCtlWrite, kept_mk, kept_eta, kept_rules]
@[simp] theorem execCxLinkUp_stays (cxb : Bool) (s : State) : Stays s (execCxLinkUp cxb s) := by
  simp [execCxLinkUp, apply_ite kept, kept_mk, kept_eta, kept_rules]
@[simp] theorem execCxLinkDown_stays (cxb : Bool) (s : State) : Stays s (execCxLinkDown cxb s) := by
  simp [execCxLinkDown, apply_ite kept, kept_mk, kept_eta, kept_rules]
@[simp] theorem execHeartbeatSend_stays (s : State) : Stays s (execHeartbeatSend s) := by simp [execHeartbeatSend]
@[simp] theorem execHeartbeatRx_stays (hb : W64) (s : State) : Stays s (execHeartbeatRx hb s) := by
  simp [execHeartbeatRx, apply_ite kept, kept_mk, kept_eta, kept_rules]
@[simp] theorem execTimeExchangeStart_stays (s : State) : Stays s (execTimeExchangeStart s) := by
  simp [execTimeExchangeStart, kept_mk, kept_eta, kept_rules]
@[simp] theorem execTimeRequestRx_stays (src : Nat) (s : State) : Stays s (execTimeRequestRx src s) := by simp [execTimeRequestRx]
@[simp] theorem execPeerLost_stays (i : Nat) (s : State) : Stays s (execPeerLost i s) := by simp [execPeerLost]
@[simp] theorem execMasterSuccession_stays (s : State) : Stays s (execMasterSuccession s) := by
  simp [execMasterSuccession, kept_mk, kept_eta, kept_rules]
@[simp] theorem execShareReportRx_stays (src pset floor p1ms : Nat) (s : State) : Stays s (execShareReportRx src pset floor p1ms s) := by
  simp [execShareReportRx]
@[simp] theorem execShareRx_stays (w : Nat) (s : State) : Stays s (execShareRx w s) := by simp [execShareRx]
@[simp] theorem execHaltStageOff_stays (s : State) : Stays s (execHaltStageOff s) := by
  unfold execHaltStageOff
  split <;> simp [foldl_kept, kept_mk, kept_eta, kept_rules]
@[simp] theorem execHaltMsfOff_stays (s : State) : Stays s (execHaltMsfOff s) := by
  unfold execHaltMsfOff
  split <;> simp [kept_mk, kept_eta, kept_rules]
@[simp] theorem execAliveToggle_stays (s : State) : Stays s (execAliveToggle s) := by simp [execAliveToggle, kept_mk, kept_eta, kept_rules]
@[simp] theorem execSngCmdHalt_stays (confirm : Nat) (s : State) : Stays s (execSngCmdHalt confirm s) := by simp [execSngCmdHalt]
@[simp] theorem execSngCmdSnapshot_stays (s : State) : Stays s (execSngCmdSnapshot s) := by simp [execSngCmdSnapshot]
@[simp] theorem execSngForceWrite_stays (k : Nat) (w : W32) (s : State) : Stays s (execSngForceWrite k w s) := by
  simp [execSngForceWrite, apply_ite kept, foldl_kept]
@[simp] theorem execSngLogLoRead_stays (s : State) : Stays s (execSngLogLoRead s) := by
  unfold execSngLogLoRead
  repeat' split
  all_goals simp [kept_mk, kept_eta, kept_rules]
@[simp] theorem execSnapshotTimer_stays (s : State) : Stays s (execSnapshotTimer s) := by simp [execSnapshotTimer]
@[simp] theorem execCleanPeriod_stays (s : State) : Stays s (execCleanPeriod s) := by simp [execCleanPeriod]
@[simp] theorem execNvmErase_stays (s : State) : Stays s (execNvmErase s) := by simp [execNvmErase]
@[simp] theorem execNvmProgram_stays (s : State) : Stays s (execNvmProgram s) := by simp [execNvmProgram]
@[simp] theorem execNvmVerify_stays (s : State) : Stays s (execNvmVerify s) := by simp [execNvmVerify]
@[simp] theorem execNvmProgDataWrite_stays (w : W32) (s : State) : Stays s (execNvmProgDataWrite w s) := by
  simp [execNvmProgDataWrite, kept_mk, kept_eta, kept_rules]
@[simp] theorem execBstRun_stays (cls target : Nat) (s : State) : Stays s (execBstRun cls target s) := by
  simp [execBstRun, kept_mk, kept_eta, kept_rules]
@[simp] theorem execBstRequestDrop_stays (s : State) : Stays s (execBstRequestDrop s) := by
  unfold execBstRequestDrop
  split <;> simp [kept_mk, kept_eta, kept_rules]
@[simp] theorem execMemSliceTest_stays (s : State) : Stays s (execMemSliceTest s) := by
  simp [execMemSliceTest, kept_mk, kept_eta, kept_rules]
@[simp] theorem execMemSliceDone_stays (oneSym twoSym : Bool) (s : State) : Stays s (execMemSliceDone oneSym twoSym s) := by
  unfold execMemSliceDone; dsimp only
  repeat' split
  all_goals simp [kept_mk, kept_eta, kept_rules]
@[simp] theorem execTileTestOverdue_stays (z : Nat) (s : State) : Stays s (execTileTestOverdue z s) := by simp [execTileTestOverdue]
@[simp] theorem execUnoccupiedAccess_stays (write : Bool) (o : Nat) (s : State) : Stays s (execUnoccupiedAccess write o s) := by
  simp [execUnoccupiedAccess, apply_ite kept]
@[simp] theorem execRpTimeout_stays (s : State) : Stays s (execRpTimeout s) := by simp [execRpTimeout, kept_mk, kept_eta, kept_rules]
@[simp] theorem execPage_stays (write : Option Nat) (s : State) : Stays s (execPage write s) := by
  unfold execPage
  split <;> simp [apply_ite kept, kept_mk, kept_eta, kept_rules]
@[simp] theorem execClearFaults_stays (s : State) : Stays s (execClearFaults s) := by simp [execClearFaults, kept_mk, kept_eta, kept_rules]
@[simp] theorem execCapability_stays (s : State) : Stays s (execCapability s) := by simp [execCapability]
@[simp] theorem execVoutMode_stays (s : State) : Stays s (execVoutMode s) := by simp [execVoutMode]
@[simp] theorem execStatusByte_stays (s : State) : Stays s (execStatusByte s) := by simp [execStatusByte]
@[simp] theorem execStatusWord_stays (s : State) : Stays s (execStatusWord s) := by simp [execStatusWord]
@[simp] theorem execWriteProtect_stays (write : Option Nat) (s : State) : Stays s (execWriteProtect write s) := by
  unfold execWriteProtect
  split <;> simp [apply_ite kept, kept_mk, kept_eta, kept_rules]
@[simp] theorem execStatusTemperature_stays (s : State) : Stays s (execStatusTemperature s) := by simp [execStatusTemperature]
@[simp] theorem execStatusCml_stays (s : State) : Stays s (execStatusCml s) := by simp [execStatusCml]
@[simp] theorem execStatusMfrSpecific_stays (s : State) : Stays s (execStatusMfrSpecific s) := by simp [execStatusMfrSpecific]
@[simp] theorem execReadVin_stays (s : State) : Stays s (execReadVin s) := by simp [execReadVin]
@[simp] theorem execReadIin_stays (s : State) : Stays s (execReadIin s) := by simp [execReadIin]
@[simp] theorem execMfrPowerCap_stays (write : Option Nat) (s : State) : Stays s (execMfrPowerCap write s) := by
  unfold execMfrPowerCap
  split <;> simp [apply_ite kept]
@[simp] theorem execReadVout_stays (s : State) : Stays s (execReadVout s) := by simp [execReadVout]
@[simp] theorem execReadIout_stays (s : State) : Stays s (execReadIout s) := by simp [execReadIout]
@[simp] theorem execReadTemperature1_stays (s : State) : Stays s (execReadTemperature1 s) := by simp [execReadTemperature1]
@[simp] theorem execReadTemperature2_stays (s : State) : Stays s (execReadTemperature2 s) := by simp [execReadTemperature2]
@[simp] theorem execReadPin_stays (s : State) : Stays s (execReadPin s) := by simp [execReadPin]
@[simp] theorem execMfrEnergyCap_stays (write : Option Nat) (s : State) : Stays s (execMfrEnergyCap write s) := by
  unfold execMfrEnergyCap
  split <;> simp [apply_ite kept]
@[simp] theorem execPmbusRevision_stays (s : State) : Stays s (execPmbusRevision s) := by simp [execPmbusRevision]
@[simp] theorem execMfrId_stays (s : State) : Stays s (execMfrId s) := by simp [execMfrId]
@[simp] theorem execMfrModel_stays (s : State) : Stays s (execMfrModel s) := by simp [execMfrModel]
@[simp] theorem execMfrRevision_stays (s : State) : Stays s (execMfrRevision s) := by simp [execMfrRevision]
@[simp] theorem execMfrCapEff_stays (s : State) : Stays s (execMfrCapEff s) := by simp [execMfrCapEff]
@[simp] theorem execMfrCapLimits_stays (s : State) : Stays s (execMfrCapLimits s) := by simp [execMfrCapLimits]
@[simp] theorem execMfrReadEnergy_stays (s : State) : Stays s (execMfrReadEnergy s) := by simp [execMfrReadEnergy]
@[simp] theorem execMfrBlk_stays (s : State) : Stays s (execMfrBlk s) := by simp [execMfrBlk]
@[simp] theorem execMfrSnag_stays (s : State) : Stays s (execMfrSnag s) := by simp [execMfrSnag]
@[simp] theorem execPmbusInvalid_stays (write : Bool) (bit : Nat) (s : State) : Stays s (execPmbusInvalid write bit s) := by
  simp [execPmbusInvalid]
@[simp] theorem execSmbusTimeout_stays (s : State) : Stays s (execSmbusTimeout s) := by
  simp [execSmbusTimeout, kept_mk, kept_eta, kept_rules]
@[simp] theorem execAlertResponse_stays (s : State) : Stays s (execAlertResponse s) := by simp [execAlertResponse]
@[simp] theorem execExtest_stays (pins : List Bool) (s : State) : Stays s (execExtest pins s) := by
  simp [execExtest, kept_mk, kept_eta, kept_rules]
@[simp] theorem execSamplePreload_stays (pins : List Bool) (s : State) : Stays s (execSamplePreload pins s) := by simp [execSamplePreload]
@[simp] theorem execIdcode_stays (s : State) : Stays s (execIdcode s) := by simp [execIdcode, kept_mk, kept_eta, kept_rules]
@[simp] theorem execHighz_stays (s : State) : Stays s (execHighz s) := by simp [execHighz, kept_mk, kept_eta, kept_rules]
@[simp] theorem execBypass_stays (s : State) : Stays s (execBypass s) := by simp [execBypass]
@[simp] theorem execTapReset_stays (s : State) : Stays s (execTapReset s) := by simp [execTapReset]
@[simp] theorem execRefclkReturn_stays (s : State) : Stays s (execRefclkReturn s) := by
  simp [execRefclkReturn, kept_mk, kept_eta, kept_rules]
@[simp] theorem execVsetInSample_stays (mvs : List Nat) (periods : List (Nat × Nat)) (s : State) :
    Stays s (execVsetInSample mvs periods s) := by
  simp [execVsetInSample, kept_mk, kept_eta, kept_rules]
@[simp] theorem execTileSwitchingCycle_stays (z t ph : Nat) (c : CycleInput) (s : State) : Stays s (execTileSwitchingCycle z t ph c s) := by
  simp [execTileSwitchingCycle]
@[simp] theorem execMsfChannelCycle_stays (k : Nat) (c : ChanInput) (s : State) : Stays s (execMsfChannelCycle k c s) := by
  simp [execMsfChannelCycle, kept_mk, kept_eta, kept_rules]
@[simp] theorem execTaintExcursionStart_stays (z t fine : Nat) (s : State) : Stays s (execTaintExcursionStart z t fine s) := by
  simp [execTaintExcursionStart]

/-- A run given up gives back settings, copies and the batch of the log, none of them kept here (R39). -/
@[simp] theorem dropRun_kept (s : State) (task : Task) : kept (dropRun s task) = kept s := by
  cases task <;> simp [dropRun, kept_mk, kept_eta, kept_rules]
@[simp] theorem execTaskDeadlineMiss_stays (pair : Nat) (task : Task) (s : State) : Stays s (execTaskDeadlineMiss pair task s) := by
  simp [execTaskDeadlineMiss, apply_ite kept, kept_mk, kept_eta, kept_rules]
@[simp] theorem execCxLathFrameRx_stays (cxb : Bool) (kind : Nat) (frame : BitVec 144) (s : State) :
    Stays s (execCxLathFrameRx cxb kind frame s) := by
  unfold execCxLathFrameRx
  split
  · rfl
  · refine (foldl_kept _ (fun t y => ?_) _ _).trans (inject_kept s _ _)
    simp [apply_ite kept, kept_mk, kept_eta, kept_rules]
@[simp] theorem execLathTransferRx_stays (rx : Nat) (net : Option Nat) (kind : Nat) (header : BitVec 44) (word : BitVec 80)
    (waiting : List (Nat × Bool)) (s : State) : Stays s (execLathTransferRx rx net kind header word waiting s) := by
  unfold execLathTransferRx
  split
  · rfl
  · split
    · rfl
    · simp [foldl_kept, kept_mk, kept_eta, kept_rules]
@[simp] theorem execGroupProposalRx_stays (src g code gb decided : Nat) (emergency : Bool) (s : State) :
    Stays s (execGroupProposalRx src g code gb decided emergency s) := by
  simp [execGroupProposalRx, apply_ite kept, kept_mk, kept_eta, kept_rules]
@[simp] theorem execOperation_stays (write : Option Nat) (pecOk : Option Bool) (s : State) : Stays s (execOperation write pecOk s) := by
  unfold execOperation
  split <;> simp [apply_ite kept]
@[simp] theorem execStretchAckCheck_stays (z : Nat) (ack : Bool) (s : State) : Stays s (execStretchAckCheck z ack s) := by
  unfold execStretchAckCheck
  split
  · rfl
  · exact (foldl_kept _ (fun s _ => note_kept s 0x16 z none) _ _).trans (modZone_kept s z _)

end Sys2Proof.Machine
end

section
/-!
Every command answers, keeps the queue, and keeps READY safe: the ones that move READY, the condition, a held pair, a fuse or a flash byte by
what they make of it, all others by what they leave alone. The statements O3 and O5.
-/
namespace Sys2Proof.Machine

/-! ## READY in a safe place (R55, R402) -/

/-- READY high implies the run condition, a rise in this start, no INSTANCE-SAFE pair held and no HALT (R55, R402, R409). -/
def Kept.Safe (k : Kept) : Prop :=
  k.ready = true → k.cond = .run ∧ k.readyEver = true ∧ (k.heldCls.any (· = .instSafe) || k.haltAt.isSome) = false
theorem instSafeOrWorse_eq_kept (s : State) :
    instSafeOrWorse s = ((kept s).heldCls.any (· = .instSafe) || (kept s).haltAt.isSome) := by
  simp [instSafeOrWorse, instSafeHeld, halted, kept, List.any_map, Function.comp_def]
/-- The queue stays, and READY stays in its safe place. -/
def Steady (k k' : Kept) : Prop := k'.pending = k.pending ∧ (k.Safe → k'.Safe)
@[simp] theorem Steady.refl (k : Kept) : Steady k k := ⟨rfl, id⟩
theorem Steady.of_eq {k k' : Kept} (h : k' = k) : Steady k k' := h ▸ Steady.refl k
theorem Steady.trans {a b c : Kept} (h : Steady a b) (h' : Steady b c) : Steady a c := ⟨h'.1.trans h.1, fun hs => h'.2 (h.2 hs)⟩
/-- Where READY is low it is in a safe place. -/
theorem Steady.of_low {k k' : Kept} (hq : k'.pending = k.pending) (hr : k'.ready = false) : Steady k k' :=
  ⟨hq, fun _ h => absurd h (by simp [hr])⟩
/-- READY, its rise and the condition as they were, and no pair of INSTANCE-SAFE or HALT more. -/
theorem Steady.of_held {k k' : Kept} (hq : k'.pending = k.pending) (hr : k'.ready = k.ready) (hc : k'.cond = k.cond)
    (he : k'.readyEver = k.readyEver) (hh : k'.haltAt = k.haltAt) (hl : ∀ c ∈ k'.heldCls, c = .instSafe → c ∈ k.heldCls) : Steady k k' := by
  refine ⟨hq, fun hs h => ?_⟩
  obtain ⟨hrun, hever, hnone⟩ := hs (hr ▸ h)
  refine ⟨hc.trans hrun, he.trans hever, ?_⟩
  simp only [Bool.or_eq_false_iff, List.any_eq_false, decide_eq_true_eq] at hnone ⊢
  exact ⟨fun c hcl hi => hnone.1 c (hl c hcl hi) hi, hh ▸ hnone.2⟩
/-- Flash bytes, fuses and the count move nothing of this. -/
theorem Steady.frame {k k' : Kept} (h : { k' with flash := k.flash, lcCells := k.lcCells, words := k.words, count := k.count } = k) :
    Steady k k' := by
  have hf {β : Type} (f : Kept → β) := congrArg f h
  exact .of_held (hf Kept.pending) (hf Kept.ready) (hf Kept.cond) (hf Kept.readyEver) (hf Kept.haltAt) fun c hc _ => hf Kept.heldCls ▸ hc

/-- The command answers a next state, steadily. -/
def Answers (s : State) (o : Out) : Prop := match o with
  | .next t => Steady (kept s) (kept t)
  | _ => False
@[simp] theorem answers_next (s t : State) : Answers s (.next t) ↔ Steady (kept s) (kept t) := Iff.rfl
theorem Stays.answers {s : State} {o : Out} (h : Stays s o) : Answers s o := by
  cases o with
  | next t => exact Steady.of_eq h
  | fault _ => exact h
  | refused _ => exact h
theorem answers_ite {s : State} {c : Prop} [Decidable c] {a b : Out} (ha : c → Answers s a) (hb : ¬ c → Answers s b) :
    Answers s (if c then a else b) := by
  split
  · next h => exact ha h
  · next h => exact hb h
theorem steady_ite {k : Kept} {c : Prop} [Decidable c] {a b : State} (ha : c → Steady k (kept a)) (hb : ¬ c → Steady k (kept b)) :
    Steady k (kept (if c then a else b)) := by
  split
  · next h => exact ha h
  · next h => exact hb h
theorem Answers.outState {s : State} {o : Out} (h : Answers s o) : Steady (kept s) (kept (outState s o)) := by
  cases o with
  | next t => exact h
  | fault _ => exact h.elim
  | refused _ => exact h.elim

/-! ## Operations that lower READY, move a held pair, or write flash and fuses -/

theorem enterSafe_steady (s : State) (code : Nat) : Steady (kept s) (kept (enterSafe s code)) := .of_low rfl rfl
theorem blank_steady (s : State) : Steady (kept s) (kept (blank s)) := .of_low rfl rfl
theorem beginStart_steady (s : State) : Steady (kept s) (kept (beginStart s)) := .of_low rfl rfl
theorem readyFall_eq_kept (s : State) : kept (readyFall s) = { kept s with ready := false } := rfl
theorem setLog_steady (s : State) (h : Header) (n : Nvm) (m : List Host.Cell) : Steady (kept s) (kept (setLog s n h m)) := .frame rfl
theorem applyFlag_steady (s : State) (h : Header) : Steady (kept s) (kept (applyFlag s h)) := by
  unfold applyFlag
  split
  · exact .frame rfl
  · exact .refl _
/-- The clear of a log region writes flash bytes only (R104, R124). -/
theorem logClear_answers (s : State) (r : Nat) : Answers s (logClear s r) := by
  unfold logClear
  refine answers_ite (fun _ => .refl _) fun _ => answers_ite (fun _ => .of_eq (note_kept s _ _ _)) fun _ => ?_
  split
  · exact setLog_steady s _ _ _
  · exact .refl _
/-- READY rises again in the run condition alone (R406). -/
theorem readyAgain_steady {s : State} (hc : s.su.cond = .run) : Steady (kept s) (kept (readyAgain s)) := by
  unfold readyAgain
  refine steady_ite (fun h => ⟨rfl, fun _ _ => ?_⟩) fun _ => .refl _
  simp only [sinceReady, Bool.and_eq_true, Bool.not_eq_true', instSafeOrWorse_eq_kept] at h
  exact ⟨hc, h.1.1, h.2⟩
/-- READY rises first in the run condition with no INSTANCE-SAFE or HALT in force (R102). -/
theorem readyRise_steady {s : State} (hc : s.su.cond = .run) (hs : instSafeOrWorse s = false) :
    Steady (kept s) (kept (readyRise s)) := by
  have hk : kept (readyRise s) = { kept s with readyEver := true, ready := true } := by
    simp [readyRise, kept_mk, kept_rules]
  rw [hk]
  exact ⟨rfl, fun _ _ => ⟨hc, rfl, instSafeOrWorse_eq_kept s ▸ hs⟩⟩
/-- Step 7 begins, or its start ends in SAFE (R422). -/
theorem beginStep7_steady (s : State) : Steady (kept s) (kept (beginStep7 s)) := by
  unfold beginStep7
  dsimp only
  split
  · exact .of_low (by simp [enterSafe, kept_mk, kept_rules]) rfl
  · exact .of_eq (by simp [kept_mk, kept_eta, kept_rules])

/-! ## Raises and recoveries (R402, R404, R409) -/

/-- INSTANCE-SAFE lowers READY in the run condition; elsewhere READY is low already (R96, R402). -/
theorem actInstSafe_low {s : State} (hc : s.pins.ready = true → s.su.cond = .run) : (actInstSafe s).pins.ready = false := by
  unfold actInstSafe
  split
  · next h =>
    cases hr : s.pins.ready
    · rfl
    · simp [running, hc hr] at h
  · have hfall : ((List.range s.zones.length).foldl zoneToSafe (abandonAll (readyFall s))).pins.ready = false :=
      congrArg Kept.ready ((foldl_kept _ zoneToSafe_kept _ _).trans (abandonAll_kept _))
    dsimp only
    split <;> exact hfall
theorem actInstSafe_pending (s : State) : (kept (actInstSafe s)).pending = (kept s).pending := by
  simp [actInstSafe, apply_ite kept, apply_ite Kept.pending, foldl_kept, kept_mk, readyFall_eq_kept, kept_rules]
/-- HALT lowers READY, and a later one leaves all as the first did (R409). -/
theorem actHalt_kept (s : State) (r : FaultRep) :
    kept (actHalt s r) = kept s ∧ s.snag.haltAt.isSome = true ∨
      (kept (actHalt s r)).pending = (kept s).pending ∧ (kept (actHalt s r)).ready = false := by
  have hkept := takeCritical_kept s r
  unfold actHalt
  dsimp only
  split
  · next h => exact .inl ⟨hkept, congrArg (fun k => k.haltAt.isSome) hkept ▸ h⟩
  · refine .inr ⟨?_, ?_⟩ <;> simp [kept_mk, readyFall_eq_kept, hkept, kept_rules]

/-- What a raise has done before its action: the pair is held and logged (R402, R407, R412). -/
def holdPair (s : State) (r : FaultRep) : State :=
  let old := heldOf s r.code r.unit
  let was := match old with
    | some h => h.latched
    | none => false
  let latch := was || r.latch || s.snag.cfg.latchN ≤ recoveriesIn s r.code r.unit r.stamp
  let h : Held := { code := r.code, unit := r.unit, cls := r.cls, l := max r.stamp r.l, latched := latch, preReady := !sinceReady s || (old.any fun h => h.preReady)
                    forced := r.forced }
  let s0 := { s with snag := { s.snag with
    held := h :: s.snag.held.filter fun x => !(x.code = r.code && x.unit = r.unit)
    raised := if sinceReady s then satInc 0xFFFF s.snag.raised else s.snag.raised } }
  let s1 := pmbLatch (alertBit s0 r.cls r.stamp) r.code r.unit r.stamp
  let s2 := logBoth s1 r.code r.unit r.cls r.forced false false r.stamp r.detail
  if latch && !was then takeSnapshot (logBoth s2 r.code r.unit r.cls r.forced true false r.stamp r.detail) else s2
theorem raise_eq (s : State) (r : FaultRep) : raise s r = act (holdPair s r) r (!zoneSafeHeld s r.unit) := rfl
/-- The class of the report joins those of the pairs held, less those of its own pair. -/
theorem holdPair_kept (s : State) (r : FaultRep) : kept (holdPair s r) =
    { kept s with heldCls := r.cls :: (s.snag.held.filter fun x => !(x.code = r.code && x.unit = r.unit)).map (·.cls) } := by
  simp only [holdPair, apply_ite kept, takeSnapshot_kept, logBoth_kept, pmbLatch_kept, alertBit_kept, ite_self]
  rfl
/-- Before its action, a raise of a tile short or switch failure enters the tile's summary (R415). -/
def actTile (s : State) (r : FaultRep) : State :=
  if r.forced then s else if r.code = 0x20 then tileIso s r.unit 1 else if r.code = 0x21 then tileIso s r.unit 2 else s
@[simp] theorem actTile_kept (s : State) (r : FaultRep) : kept (actTile s r) = kept s := by
  simp only [actTile, apply_ite kept, tileIso_kept, ite_self]
theorem act_eq (s : State) (r : FaultRep) (first : Bool) : act s r first = match r.cls with
    | .note | .degrade => actTile s r
    | .zoneSafe => actZoneSafe (actTile s r) r.unit (first && !r.forced)
    | .instSafe => actInstSafe (actTile s r)
    | .halt => actHalt (actTile s r) r := rfl
/-- The actions below INSTANCE-SAFE keep READY, the condition and the pairs. -/
theorem act_kept_of_below {s : State} {r : FaultRep} (first : Bool) (hi : r.cls ≠ .instSafe) (hh : r.cls ≠ .halt) :
    kept (act s r first) = kept s := by
  rw [act_eq]
  cases hc : r.cls with
  | note => exact actTile_kept s r
  | degrade => exact actTile_kept s r
  | zoneSafe => exact (actZoneSafe_kept _ _ _).trans (actTile_kept s r)
  | instSafe => exact absurd hc hi
  | halt => exact absurd hc hh
/-- After the actions of INSTANCE-SAFE and HALT READY is low, where before them it was high only in the run condition without a HALT. -/
theorem act_low {s : State} {r : FaultRep} (first : Bool) (hc : r.cls = .instSafe ∨ r.cls = .halt) (hs : (kept s).ready = true →
    (kept s).cond = .run ∧ (kept s).haltAt = none) : (kept (act s r first)).ready = false := by
  rw [← actTile_kept s r] at hs
  rw [act_eq]
  rcases hc with hc | hc <;> rw [hc]
  · exact actInstSafe_low fun hr => (hs hr).1
  · rcases actHalt_kept (actTile s r) r with ⟨heq, hhalt⟩ | hlow
    · refine (congrArg Kept.ready heq).trans ?_
      cases hr : (kept (actTile s r)).ready
      · rfl
      · have hnone : (actTile s r).snag.haltAt = none := (hs hr).2
        simp [hnone] at hhalt
    · exact hlow.2
theorem act_pending (s : State) (r : FaultRep) (first : Bool) : (kept (act s r first)).pending = (kept s).pending := by
  by_cases hi : r.cls = .instSafe
  · rw [act_eq, hi, ← actTile_kept s r]; exact actInstSafe_pending _
  · by_cases hh : r.cls = .halt
    · rw [act_eq, hh, ← actTile_kept s r]
      rcases actHalt_kept (actTile s r) r with ⟨heq, -⟩ | ⟨hq, -⟩
      · exact congrArg Kept.pending heq
      · exact hq
    · rw [act_kept_of_below first hi hh]
/-- A raise keeps READY safe: below INSTANCE-SAFE no pair of that class joins, and from there on READY is low (R402, R409). -/
theorem raise_steady (s : State) (r : FaultRep) : Steady (kept s) (kept (raise s r)) := by
  have hk := holdPair_kept s r
  rw [raise_eq]
  by_cases hc : r.cls = .instSafe ∨ r.cls = .halt
  · refine ⟨(act_pending _ _ _).trans (by rw [hk]), fun hs h => ?_⟩
    have hlow := act_low (s := holdPair s r) (!zoneSafeHeld s r.unit) hc fun hr => by
      rw [hk] at hr ⊢
      obtain ⟨hrun, -, hnone⟩ := hs hr
      simp only [Bool.or_eq_false_iff, Option.isSome_eq_false_iff, Option.isNone_iff_eq_none] at hnone
      exact ⟨hrun, hnone.2⟩
    exact absurd h (by simp [hlow])
  · rw [not_or] at hc
    rw [act_kept_of_below _ hc.1 hc.2, hk]
    refine .of_held rfl rfl rfl rfl rfl fun c hcl hi => ?_
    rcases List.mem_cons.1 hcl with h | h
    · exact absurd (h.symm.trans hi) hc.1
    · obtain ⟨x, hx, hxc⟩ := List.mem_map.1 h
      exact List.mem_map.2 ⟨x, (List.mem_filter.1 hx).1, hxc⟩
/-- A report within the hold of its pair only moves the pair's last assertion (R404). -/
theorem decideReport_steady (s : State) (r : FaultRep) : Steady (kept s) (kept (decideReport s r)) := by
  unfold decideReport
  extract_lets n0 s0 held
  have h0 : kept s0 = kept s := rfl
  have hraise : Steady (kept s) (kept (raise s0 r)) := h0 ▸ raise_steady s0 r
  refine steady_ite (fun _ => .of_eq (takeNote_kept s0 r)) fun _ => ?_
  split
  · next h _ =>
    refine steady_ite (fun _ => hraise) fun _ => ?_
    rw [ramLog_kept]
    refine .of_held rfl rfl rfl rfl rfl fun c hc _ => ?_
    obtain ⟨y, hy, rfl⟩ := List.mem_map.1 hc
    obtain ⟨x, hx, rfl⟩ := List.mem_map.1 hy
    refine List.mem_map.2 ⟨x, hx, ?_⟩
    split <;> rfl
  · exact hraise
/-- A recovery takes a pair from those held (R404). -/
theorem recoverPair_steady (s : State) (h : Held) : Steady (kept s) (kept (recoverPair s h)) := by
  have hk : kept (recoverPair s h) =
      { kept s with heldCls := (s.snag.held.filter fun x => !(x.code = h.code && x.unit = h.unit)).map (·.cls) } := by
    simp only [recoverPair, apply_ite kept, releaseZones_kept, logBoth_kept, ite_self]
    rfl
  rw [hk]
  refine .of_held rfl rfl rfl rfl rfl fun c hc _ => ?_
  obtain ⟨x, hx, hxc⟩ := List.mem_map.1 hc
  exact List.mem_map.2 ⟨x, (List.mem_filter.1 hx).1, hxc⟩

/-! ## The register port (R17, R70) -/

theorem writeField_kept {s t : State} {o : Nat} {w : W32} (h : writeField s o w = some t) : kept t = kept s := by
  have hall : (writeField s o w).elim True fun t => kept t = kept s := by
    simp [writeField, apply_ite (fun x : Option State => x.elim True fun t => kept t = kept s), kept_mk, kept_eta, kept_rules]
  rwa [h] at hall
@[simp] theorem writePage_kept (s : State) (z o : Nat) (w : W32) : kept (writePage s z o w) = kept s := by
  simp [writePage, apply_ite kept, outState_kept]
/-- The clears of the log regions a word names, one after the other. -/
theorem logClears_steady (s : State) (a b c : Bool) :
    let s1 := if a then outState s (execLogClearFh s) else s
    let s2 := if b then outState s1 (execLogClearShut s1) else s1
    Steady (kept s) (kept (if c then outState s2 (execLogClearCnt s2) else s2)) := by
  have hstep (x : State) (d : Bool) (r : Nat) : Steady (kept x) (kept (if d then outState x (logClear x r) else x)) :=
    steady_ite (fun _ => (logClear_answers x r).outState) fun _ => .refl _
  exact ((hstep s a 1).trans (hstep _ b 2)).trans (hstep _ c 3)
theorem writeCmd_steady (s : State) (o : Nat) (w : W32) : Steady (kept s) (kept (writeCmd s o w)) := by
  by_cases ho : o = 0x70014
  · subst ho
    exact steady_ite (fun _ => .of_eq (note_kept _ _ _ _)) fun _ => logClears_steady s _ _ _
  · refine .of_eq ?_
    simp [writeCmd, ho, apply_ite kept, outState_kept, kept_mk, kept_eta, kept_rules]
theorem writeOccupied_steady (s : State) (o : Nat) (w : W32) : Steady (kept s) (kept (writeOccupied s o w)) := by
  cases h : writeField s o w with
  | some t => rw [writeOccupied_field h]; exact .of_eq (writeField_kept h)
  | none =>
    simp only [writeOccupied, h]
    iterate 8 refine steady_ite (fun _ => .of_eq (by simp [outState_kept])) fun _ => ?_
    split
    · exact .of_eq (by simp [outState_kept])
    · exact .of_eq (by simp)
    · exact .of_eq (by simp [outState_kept])
    · exact writeCmd_steady s o w
theorem regWrite_steady (s : State) (o : Nat) (w : W32) : Steady (kept s) (kept (regWrite s o w)) :=
  steady_ite (fun _ => .refl _) fun _ => steady_ite (fun _ => .of_eq (by simp [apply_ite kept])) fun _ => writeOccupied_steady s o w
@[simp] theorem regRead_kept (s : State) (o : Nat) : kept (regRead s o) = kept s := by
  unfold regRead
  split
  · rfl
  · split
    · simp
    · split <;> simp [apply_ite kept, outState_kept]
@[simp] theorem userRead_kept (s : State) (q n : Nat) : kept (userRead s q n) = kept s := by
  simp [userRead, apply_ite kept, outState_kept]
theorem tapAccess_steady (s : State) (write space : Bool) (o : Nat) (w : W32) :
    Steady (kept s) (kept (tapAccess s write space o w)) :=
  steady_ite (fun _ => .of_eq (by simp [apply_ite kept, outState_kept])) fun _ =>
    steady_ite (fun _ => regWrite_steady s o w) fun _ => .of_eq (regRead_kept s o)

/-! ## The commands that move READY, the condition, a held pair, a flash byte, a fuse or the count -/

theorem atStep_run {s : State} {n k : Nat} (h : atStep s n k = true) : s.su.cond = .run := by
  simp only [atStep, running, Bool.and_eq_true, decide_eq_true_eq] at h
  exact h.1.1.1
theorem answers_tapOn {s : State} {o : Out} (h : Answers s o) : Answers s (tapOn s o) :=
  answers_ite (fun _ => .refl _) fun _ => h

theorem execPowerOnResetRelease_answers (cascId : Nat) (cascMaster : Bool) (s : State) :
    Answers s (execPowerOnResetRelease cascId cascMaster s) := by
  refine answers_ite (fun _ => .refl _) fun _ => ?_
  split
  · exact .of_low rfl rfl
  · exact .of_low rfl rfl
theorem execVbiasLoss_answers (s : State) : Answers s (execVbiasLoss s) := .of_low rfl rfl
theorem execResetNFall_answers (low : Nat) (s : State) : Answers s (execResetNFall low s) :=
  answers_ite (fun _ => .refl _) fun _ => .of_low rfl rfl
theorem execResetNRise_answers (s : State) : Answers s (execResetNRise s) :=
  steady_ite (fun _ => .of_low rfl rfl) fun _ => .refl _
theorem execFuseLoadDone_answers (r : FuseRead) (s : State) : Answers s (execFuseLoadDone r s) :=
  answers_ite (fun _ => .refl _) fun _ => steady_ite (fun _ => .of_low rfl rfl) fun _ =>
    steady_ite (fun _ => .of_low rfl rfl) fun _ => .of_eq (step2Done_kept _)
theorem execTimebaseLock_answers (locked : Bool) (s : State) : Answers s (execTimebaseLock locked s) :=
  answers_ite (fun _ => .refl _) fun _ => answers_ite (fun _ => enterSafe_steady s _) fun _ =>
    .frame (by simp [kept_mk, kept_eta, kept_rules])
theorem execFlashDiscoveryDone_answers (d : Discovery) (s : State) : Answers s (execFlashDiscoveryDone d s) := by
  refine answers_ite (fun _ => .refl _) fun _ => answers_ite (fun _ => enterSafe_steady s _) fun _ => ?_
  refine answers_ite (fun _ => .of_low rfl rfl) fun _ => answers_ite (fun _ => .of_low rfl rfl) fun _ => ?_
  exact .frame (by simp [apply_ite kept, kept_mk, kept_eta, kept_rules])
theorem execImageCheckDone_answers (s : State) : Answers s (execImageCheckDone s) := by
  unfold execImageCheckDone
  split
  · next h _ =>
    refine answers_ite (fun _ => .refl _) fun _ => answers_ite (fun _ => ?_) fun _ => ?_
    · exact (applyFlag_steady s h).trans (.of_eq (by simp))
    · exact .of_low (by simp [enterSafe, apply_ite State.pending, kept]) rfl
  · exact .refl _
theorem execLogScanDone_answers (ok : Bool) (s : State) : Answers s (execLogScanDone ok s) := by
  refine answers_ite (fun _ => .refl _) fun _ => ?_
  split
  · next h _ => exact .frame (by simp [apply_ite kept, kept_mk, kept_eta, kept_rules])
  · exact .of_eq (by simp)
theorem execMsfSettleEnd_answers (s : State) : Answers s (execMsfSettleEnd s) := by
  refine answers_ite (fun _ => .refl _) fun _ => ?_
  rw [answers_next, ← settleEnd_kept s]
  exact steady_ite (fun _ => beginStep7_steady _) fun _ => .refl _
theorem execStartupBistClassDone_answers (r : BistResult) (s : State) : Answers s (execStartupBistClassDone r s) := by
  unfold execStartupBistClassDone
  dsimp only
  refine answers_ite (fun _ => answers_ite (fun _ => answers_ite (fun _ => .refl _) fun _ => ?_) fun _ => ?_) fun _ => ?_
  · exact .of_eq (by simp [kept_mk, kept_eta, kept_rules])
  · refine steady_ite (fun _ => ?_) fun _ => ?_
    · exact .of_low (by simp [enterSafe, classOutcome_kept, kept_mk, kept_rules]) rfl
    · exact .of_eq (by simp [classOutcome_kept, kept_mk, kept_eta, kept_rules])
  · split
    · exact Stays.answers (by simp [kept_mk, kept_eta, kept_rules])
    · exact .refl _
theorem execZoneStageDone_answers (s : State) : Answers s (execZoneStageDone s) := by
  refine answers_ite (fun _ => .refl _) fun hact => ?_
  have hrun : s.su.cond = .run := by
    simp only [running, Bool.or_eq_true, Bool.not_eq_true', not_or] at hact
    simp only [Bool.and_eq_true, decide_eq_true_eq, Bool.not_eq_false] at hact
    exact hact.1.1.1
  split
  · exact .of_eq (by simp)
  · refine answers_ite (fun h => ?_) fun _ => .refl _
    simp only [Bool.and_eq_true, Bool.not_eq_true'] at h
    exact readyRise_steady hrun h.2
theorem execSampleInstant_answers (i : SampleInput) (s : State) : Answers s (execSampleInstant i s) := by
  refine answers_ite (fun _ => .refl _) fun hact => ?_
  have hrun : s.su.cond = .run := by
    simp only [running, Bool.or_eq_true, Bool.not_eq_true', not_or] at hact
    simpa using hact.1.1.1
  rw [answers_next, thrSample_kept]
  show Steady (kept s) (kept (if !s.su.grid then s else sampleFloats i s))
  refine steady_ite (fun _ => .refl _) fun _ => ?_
  refine (readyAgain_steady hrun).trans (.of_eq ?_)
  simp [sampleFloats, apply_ite kept]
theorem execTimeAnswerRx_answers (t1 t2 t3 t4 : Int) (s : State) : Answers s (execTimeAnswerRx t1 t2 t3 t4 s) := by
  refine answers_ite (fun _ => .refl _) fun _ => answers_ite (fun _ => ?_) fun _ => answers_ite (fun _ => .refl _) fun _ => .refl _
  have hstep (c : Csc) : Steady (kept s) (kept { s with tb := { s.tb with count := ((s.tb.count : Int) + thetaOf t1 t2 t3 t4).toNat }, csc := c }) :=
    .frame rfl
  exact steady_ite (fun _ => (hstep _).trans (.of_eq (formDone_kept _))) fun _ => hstep _
theorem execFaultReport_answers (s : State) : Answers s (execFaultReport s) := by
  unfold execFaultReport
  split
  · next r rest _ => exact answers_ite (fun _ => decideReport_steady { s with snag := { s.snag with inbox := rest } } r) fun _ => .refl _
  · exact .refl _
theorem execFaultRecovery_answers (code unit : Nat) (s : State) : Answers s (execFaultRecovery code unit s) := by
  unfold execFaultRecovery
  split
  · next h _ => exact answers_ite (fun _ => recoverPair_steady s h) fun _ => .refl _
  · exact .refl _
theorem execLogWriteDone_answers (ok : Bool) (s : State) : Answers s (execLogWriteDone ok s) := by
  refine answers_ite (fun _ => .refl _) fun _ => ?_
  split
  · exact steady_ite (fun _ => setLog_steady _ _ _ _) fun _ => .frame rfl
  · exact .refl _
theorem execNvmCommandDone_answers (flashError : Bool) (s : State) : Answers s (execNvmCommandDone flashError s) := by
  unfold execNvmCommandDone
  dsimp only
  split
  · exact .frame rfl
  · exact .frame rfl
  · exact .frame rfl
  · exact .refl _
theorem execStartupStepTimeout_answers (s : State) : Answers s (execStartupStepTimeout s) := by
  refine answers_ite (fun _ => .refl _) fun _ => ?_
  split
  · exact enterSafe_steady s _
  · exact execLogScanDone_answers false s
  · exact enterSafe_steady s _
  · exact answers_ite (fun _ => .refl _) fun _ => .refl _
  · exact answers_ite (fun _ => .refl _) fun _ => .refl _
  · exact answers_ite (fun _ => .refl _) fun _ => enterSafe_steady s _
  · exact .refl _
theorem execRegisterWrite_answers (o : Nat) (w : W32) (s : State) : Answers s (execRegisterWrite o w s) := regWrite_steady s o w
theorem execRpAccess_answers (write space : Bool) (addr data : W32) (s : State) : Answers s (execRpAccess write space addr data s) := by
  refine answers_tapOn (answers_ite (fun _ => ?_) fun _ => .of_eq (tapSelect_kept s _ _))
  exact (Steady.of_eq (tapSelect_kept s 0x10 true)).trans (tapAccess_steady _ _ _ _ _)
theorem execFuseProg_answers (addr : W32) (data : BitVec 128) (s : State) : Answers s (execFuseProg addr data s) :=
  answers_tapOn (answers_ite (fun _ => .frame rfl) fun _ => .refl _)
theorem execFuseProvision_answers (s : State) : Answers s (execFuseProvision s) :=
  answers_tapOn (answers_ite (fun _ => steady_ite (fun _ => .frame rfl) fun _ => .refl _) fun _ => .refl _)

/-! ## O3 and O5 -/

/-- The commands that may move READY, the condition, a held pair, a flash byte, a fuse or the count. -/
def Instr.moves : Instr → Bool
  | .powerOnResetRelease _ _ | .vbiasLoss | .resetNFall _ | .resetNRise | .fuseLoadDone _ | .timebaseLock _ | .flashDiscoveryDone _
  | .imageCheckDone | .logScanDone _ | .msfSettleEnd | .startupBistClassDone _ | .zoneStageDone | .sampleInstant _ | .timeAnswerRx _ _ _ _
  | .faultReport | .faultRecovery _ _ | .logClearFh | .logClearShut | .logClearCnt | .logWriteDone _ | .nvmCommandDone _
  | .startupStepTimeout | .registerWrite _ _ | .rpAccess _ _ _ _ | .fuseProg _ _ | .fuseProvision => true
  | _ => false
/-- Every other command leaves all of `kept` alone. -/
theorem exec_stays (c : Instr) (h : Instr.moves c = false) (s : State) : Stays s (exec c s) := by
  cases c with
  | powerOnResetRelease | vbiasLoss | resetNFall | resetNRise | fuseLoadDone | timebaseLock | flashDiscoveryDone | imageCheckDone
  | logScanDone | msfSettleEnd | startupBistClassDone | zoneStageDone | sampleInstant | timeAnswerRx | faultReport | faultRecovery
  | logClearFh | logClearShut | logClearCnt | logWriteDone | nvmCommandDone | startupStepTimeout | registerWrite | rpAccess
  | fuseProg | fuseProvision => cases h
  | _ => simp [exec]
/-- Every command answers a next state, keeps the queue, and keeps READY safe (R50, R55). -/
theorem exec_answers (c : Instr) (s : State) : Answers s (exec c s) := by
  cases h : Instr.moves c with
  | false => exact (exec_stays c h s).answers
  | true =>
    cases c with
    | powerOnResetRelease id m => exact execPowerOnResetRelease_answers id m s
    | vbiasLoss => exact execVbiasLoss_answers s
    | resetNFall low => exact execResetNFall_answers low s
    | resetNRise => exact execResetNRise_answers s
    | fuseLoadDone r => exact execFuseLoadDone_answers r s
    | timebaseLock l => exact execTimebaseLock_answers l s
    | flashDiscoveryDone d => exact execFlashDiscoveryDone_answers d s
    | imageCheckDone => exact execImageCheckDone_answers s
    | logScanDone ok => exact execLogScanDone_answers ok s
    | msfSettleEnd => exact execMsfSettleEnd_answers s
    | startupBistClassDone r => exact execStartupBistClassDone_answers r s
    | zoneStageDone => exact execZoneStageDone_answers s
    | sampleInstant i => exact execSampleInstant_answers i s
    | timeAnswerRx t1 t2 t3 t4 => exact execTimeAnswerRx_answers t1 t2 t3 t4 s
    | faultReport => exact execFaultReport_answers s
    | faultRecovery code unit => exact execFaultRecovery_answers code unit s
    | logClearFh => exact logClear_answers s 1
    | logClearShut => exact logClear_answers s 2
    | logClearCnt => exact logClear_answers s 3
    | logWriteDone ok => exact execLogWriteDone_answers ok s
    | nvmCommandDone e => exact execNvmCommandDone_answers e s
    | startupStepTimeout => exact execStartupStepTimeout_answers s
    | registerWrite o w => exact execRegisterWrite_answers o w s
    | rpAccess w sp a d => exact execRpAccess_answers w sp a d s
    | fuseProg a d => exact execFuseProg_answers a d s
    | fuseProvision => exact execFuseProvision_answers s
    | _ => cases h
/-- A step is steady: a tick moves the count alone, and a command is carried out on the rest of the queue. -/
theorem kept_safe_step {s t : State} (h : step s = .next t) (hs : (kept s).Safe) : (kept t).Safe := by
  unfold step at h
  split at h
  · cases h
    unfold tick
    split
    · exact hs
    · exact hs
  · next c rest _ =>
    have hans := exec_answers c { s with pending := rest }
    rw [h] at hans
    exact hans.2 hs

/-- Settles O3: every command, quiet or not, answers and keeps the queue. -/
theorem everyCommandAnswersAndLeavesQueue : Obligations.EveryCommandAnswersAndLeavesQueue := by
  unfold Obligations.EveryCommandAnswersAndLeavesQueue
  intro c s
  have hans := exec_answers c s
  cases h : exec c s with
  | next t => rw [h] at hans; exact ⟨t, rfl, hans.1⟩
  | fault r => rw [h] at hans; exact hans.elim
  | refused r => rw [h] at hans; exact hans.elim
/-- Settles O5: ready-safe is `Kept.Safe`, which every step keeps. -/
theorem readyKeptSafeByEveryStep : Obligations.ReadyKeptSafeByEveryStep := by
  unfold Obligations.ReadyKeptSafeByEveryStep
  intro s t hs hstep
  rw [instSafeOrWorse_eq_kept] at hs ⊢
  exact kept_safe_step hstep hs

end Sys2Proof.Machine
end

section
/-!
A report at the Snag unit: where it goes, the pair it holds, its log entries, and the action of each class. The statement O50.
-/
namespace Sys2Proof.Machine

/-! ## Log entries and latches (R412 to R414, R444) -/

/-- From s to t only the Snag unit's logs and latches, the log queue and the PMBus latches move; no pair, HALT or waiting report is lost. -/
structure LogsOnly (s t : State) : Prop where
  frame : { t with snag := s.snag, nvm := s.nvm, pmb := s.pmb } = s
  held : t.snag.held = s.snag.held
  haltAt : t.snag.haltAt = s.snag.haltAt
  haltStep : t.snag.haltStep = s.snag.haltStep
  inbox : ∀ x ∈ s.snag.inbox, x ∈ t.snag.inbox
theorem LogsOnly.refl (s : State) : LogsOnly s s := ⟨rfl, rfl, rfl, rfl, fun _ h => h⟩
theorem LogsOnly.trans {s t u : State} (h : LogsOnly s t) (h' : LogsOnly t u) : LogsOnly s u where
  frame := (congrArg (fun x : State => { x with snag := s.snag, nvm := s.nvm, pmb := s.pmb }) h'.frame).trans h.frame
  held := h'.held.trans h.held
  haltAt := h'.haltAt.trans h.haltAt
  haltStep := h'.haltStep.trans h.haltStep
  inbox := fun x hx => h'.inbox x (h.inbox x hx)
theorem logsOnly_ite {s a b : State} {c : Prop} [Decidable c] (ha : LogsOnly s a) (hb : LogsOnly s b) : LogsOnly s (if c then a else b) := by
  split
  · exact ha
  · exact hb
theorem foldOne_logsOnly (s : State) (n : Nvm) : LogsOnly s (foldOne { s with nvm := n }) :=
  logsOnly_ite ⟨rfl, rfl, rfl, rfl, fun x hx => mem_insRep_of_mem _ x _ hx⟩ ⟨rfl, rfl, rfl, rfl, fun _ h => h⟩
theorem logFh_logsOnly (s : State) (r : FhRec) : LogsOnly s (logFh s r) :=
  logsOnly_ite (.refl s) (logsOnly_ite (foldOne_logsOnly s _) ⟨rfl, rfl, rfl, rfl, fun _ h => h⟩)
theorem logOther_logsOnly (s : State) (r : LogRec) : LogsOnly s (logOther s r) :=
  logsOnly_ite (.refl s) (logsOnly_ite (foldOne_logsOnly s s.nvm) ⟨rfl, rfl, rfl, rfl, fun _ h => h⟩)
theorem takeSnapshot_logsOnly (s : State) : LogsOnly s (takeSnapshot s) :=
  (logOther_logsOnly s _).trans ⟨rfl, rfl, rfl, rfl, fun _ h => h⟩
theorem ramLog_logsOnly (s : State) (e : LogEnt) : LogsOnly s (ramLog s e) :=
  logsOnly_ite ⟨rfl, rfl, rfl, rfl, fun _ h => h⟩ ⟨rfl, rfl, rfl, rfl, fun _ h => h⟩
theorem ramLog_of_room {s : State} (h : s.snag.log.length < 256) (e : LogEnt) :
    ramLog s e = { s with snag := { s.snag with log := s.snag.log ++ [e] } } := if_pos h
theorem ramLog_full {s : State} (h : 256 ≤ s.snag.log.length) (e : LogEnt) : ramLog s e = { s with snag := { s.snag with ovfSeen := true } } :=
  if_neg (Nat.not_lt.2 h)
theorem logBoth_logsOnly (s : State) (code unit : Nat) (cls : Cls) (forced latched recov : Bool) (stamp : Nat) (detail : W32) :
    LogsOnly s (logBoth s code unit cls forced latched recov stamp detail) :=
  (ramLog_logsOnly s _).trans (logFh_logsOnly _ _)
theorem alertBit_logsOnly (s : State) (cls : Cls) (stamp : Nat) : LogsOnly s (alertBit s cls stamp) :=
  logsOnly_ite (.refl s) ⟨rfl, rfl, rfl, rfl, fun _ h => h⟩
theorem pmbLatch_logsOnly (s : State) (code unit stamp : Nat) : LogsOnly s (pmbLatch s code unit stamp) := by
  have hlatch (p : Pmb) : LogsOnly s { s with pmb := p } := ⟨rfl, rfl, rfl, rfl, fun _ h => h⟩
  exact logsOnly_ite (.refl s) (logsOnly_ite (hlatch _) (logsOnly_ite (hlatch _) (logsOnly_ite (hlatch _) (.refl s))))
/-- The latches of the PMBus are all that a raise's source moves of them (R444). -/
theorem pmbLatch_eq (s : State) (code unit stamp : Nat) : ∃ p, pmbLatch s code unit stamp = { s with pmb := p } := by
  unfold pmbLatch
  repeat' split
  all_goals exact ⟨_, rfl⟩

/-! ## Where a report goes (R399, R402, R404) -/

/-- The report at the head of the inbox is taken. -/
theorem exec_faultReport {s : State} {r : FaultRep} {rest : List FaultRep} (hc : s.su.cond = .run) (hin : s.snag.inbox = r :: rest) :
    exec .faultReport s = .next (decideReport { s with snag := { s.snag with inbox := rest } } r) := by
  show execFaultReport s = _
  simp [execFaultReport, hin, alive, hc]
/-- The source's latest report is shown (R412). -/
def showLatest (s : State) (r : FaultRep) : State :=
  { s with snag := { s.snag with latest := (r.code, clsCode r.cls, r.unit) :: s.snag.latest.filter fun x => x.1 ≠ r.code } }
theorem decideReport_note {r : FaultRep} (h : r.cls = .note) (s : State) : decideReport s r = takeNote (showLatest s r) r := if_pos h
theorem decideReport_raise {s : State} {r : FaultRep} (h : r.cls ≠ .note) (hn : heldOf s r.code r.unit = none) :
    decideReport s r = raise (showLatest s r) r := by
  simp only [decideReport, if_neg h, hn]; rfl
theorem decideReport_again {s : State} {r : FaultRep} {h : Held} (hcls : r.cls ≠ .note) (hh : heldOf s r.code r.unit = some h)
    (hle : clsCode r.cls ≤ clsCode h.cls) : decideReport s r =
      ramLog { s with snag := { s.snag with
        held := s.snag.held.map fun x => if x.code = r.code && x.unit = r.unit then { x with l := max x.l (max r.stamp r.l) } else x } }
        { forced := r.forced, latched := false, recov := false, cls := clsCode r.cls, code := r.code, unit := r.unit, stamp := r.stamp } := by
  simp only [decideReport, if_neg hcls, hh, if_neg (Nat.not_lt.2 hle)]

/-! ## The pair a raise holds -/

/-- The pair a raise holds (R402, R404, R407). -/
def pairOf (s : State) (r : FaultRep) : Held :=
  let old := heldOf s r.code r.unit
  { code := r.code, unit := r.unit, cls := r.cls, l := max r.stamp r.l
    latched := (match old with
      | some h => h.latched
      | none => false) || r.latch || s.snag.cfg.latchN ≤ recoveriesIn s r.code r.unit r.stamp
    preReady := !sinceReady s || (old.any fun h => h.preReady), forced := r.forced }
/-- The pair joins those held, in place of what its source and unit held, and the raise is counted since READY (R402, R412). -/
def withPair (s : State) (r : FaultRep) : State :=
  { s with snag := { s.snag with
    held := pairOf s r :: s.snag.held.filter fun x => !(x.code = r.code && x.unit = r.unit)
    raised := if sinceReady s then satInc 0xFFFF s.snag.raised else s.snag.raised } }
/-- Beyond its pair a raise leaves latches and log entries before its action. -/
theorem holdPair_logsOnly (s : State) (r : FaultRep) : LogsOnly (withPair s r) (holdPair s r) := by
  have hlogs := ((alertBit_logsOnly (withPair s r) r.cls r.stamp).trans (pmbLatch_logsOnly _ r.code r.unit r.stamp)).trans
    (logBoth_logsOnly _ r.code r.unit r.cls r.forced false false r.stamp r.detail)
  exact logsOnly_ite (hlogs.trans ((logBoth_logsOnly _ _ _ _ _ _ _ _ _).trans (takeSnapshot_logsOnly _))) hlogs
theorem holdPair_frame (s : State) (r : FaultRep) : { holdPair s r with snag := s.snag, pmb := s.pmb, nvm := s.nvm } = s :=
  congrArg (fun x : State => { x with snag := s.snag }) (holdPair_logsOnly s r).frame
theorem pairOf_mem_holdPair (s : State) (r : FaultRep) : pairOf s r ∈ (holdPair s r).snag.held :=
  (holdPair_logsOnly s r).held ▸ List.mem_cons_self

/-! ## Actions on all zones (R402, R409, R432) -/

/-- What the end of tests and a tile's summary leave alone: the parts of the block an action speaks of, the pairs, HALT, and ZONE_READY. -/
structure Around where
  tb : TimeBase
  su : StartUp
  pins : Pins
  fus : Fuses
  msf : Msf
  held : List Held
  haltAt : Option Nat
  haltStep : Nat
  readys : List Bool
/-- What a state holds of them. -/
def around (s : State) : Around :=
  ⟨s.tb, s.su, s.pins, s.fus, s.msf, s.snag.held, s.snag.haltAt, s.snag.haltStep, s.zones.map (·.ready)⟩
theorem foldl_around {α : Type} (f : State → α → State) (h : ∀ s x, around (f s x) = around s) (l : List α) (s : State) :
    around (l.foldl f s) = around s := by
  induction l generalizing s with
  | nil => rfl
  | cons x xs ih => rw [List.foldl_cons, ih, h]
theorem LogsOnly.around {s t : State} (h : LogsOnly s t) : around t = around s := by
  have hf {β : Type} (f : State → β) := congrArg f h.frame
  have hz : t.zones = s.zones := hf State.zones
  simp only [Machine.around, h.held, h.haltAt, h.haltStep, hz, show t.tb = s.tb from hf State.tb, show t.su = s.su from hf State.su,
    show t.pins = s.pins from hf State.pins, show t.fus = s.fus from hf State.fus, show t.msf = s.msf from hf State.msf]
/-- A change of a zone that leaves ZONE_READY. -/
theorem modZone_around {f : Zone → Zone} (hf : ∀ zn, (f zn).ready = zn.ready) (s : State) (z : Nat) : around (modZone s z f) = around s := by
  have hready : (s.zones.modify z f).map (·.ready) = s.zones.map (·.ready) := by
    refine List.ext_getElem (by simp) fun i h _ => ?_
    simp only [List.getElem_map, List.getElem_modify]
    split
    · exact hf _
    · rfl
  simp only [around, modZone, hready]
theorem modTile_around (s : State) (z t : Nat) (f : Tile → Tile) : around (modTile s z t f) = around s :=
  modZone_around (f := fun zn => zn.modTile t f) (fun _ => rfl) s z
theorem tileIso_around (s : State) (g cause : Nat) : around (tileIso s g cause) = around s := by
  unfold tileIso
  split
  · exact (takeSnapshot_logsOnly _).around.trans (modTile_around _ _ _ _)
  · rfl
theorem actTile_around (s : State) (r : FaultRep) : around (actTile s r) = around s := by
  simp only [actTile, apply_ite around, tileIso_around, ite_self]
theorem abandonTile_around (s : State) (z t : Nat) : around (abandonTile s z t) = around s := by
  unfold abandonTile
  split
  · split
    · rfl
    · exact modTile_around s z t _
  · rfl
/-- The end of every test in progress (R432). -/
theorem abandonAll_around (s : State) : around (abandonAll s) = around s := by
  have htests := foldl_around abandonTests (fun s z => foldl_around _ (fun s t => abandonTile_around s z t) _ s) (List.range s.zones.length) s
  unfold abandonAll
  dsimp only
  split
  · exact htests
  · exact htests
/-- A zone that an action holds for SAFE, unless the power-down has taken it (R175, R402). -/
def Zone.holdSafe (zn : Zone) : Zone := if zn.halted then zn else { zn with snagSafe := true, safeDue := decide (zn.st ≠ .safe) }
theorem zoneToSafe_eq (s : State) (z : Nat) : zoneToSafe s z = modZone s z Zone.holdSafe := rfl
/-- Zone j is held for SAFE, or the power-down has taken it. -/
def heldSafe (s : State) (j : Nat) : Prop := ∀ zn ∈ s.zones[j]?, (zn.halted || (zn.snagSafe && (zn.safeDue || zn.st = .safe))) = true
theorem Zone.holdSafe_held (zn : Zone) :
    (zn.holdSafe.halted || (zn.holdSafe.snagSafe && (zn.holdSafe.safeDue || zn.holdSafe.st = .safe))) = true := by
  unfold Zone.holdSafe
  split
  · next h => simp [h]
  · by_cases hst : zn.st = .safe <;> simp [hst]
theorem zoneToSafe_heldSafe (s : State) (z : Nat) : heldSafe (zoneToSafe s z) z := by
  intro zn hzn
  obtain ⟨x, -, rfl⟩ : ∃ x, s.zones[z]? = some x ∧ x.holdSafe = zn := by simpa [zoneToSafe_eq] using hzn
  exact x.holdSafe_held
theorem zoneToSafe_keeps_heldSafe (s : State) (z j : Nat) (h : heldSafe s j) : heldSafe (zoneToSafe s z) j := by
  by_cases hzj : z = j
  · rw [hzj]; exact zoneToSafe_heldSafe s j
  · intro zn hzn
    exact h zn (by simpa [zoneToSafe_eq, hzj] using hzn)
theorem zoneToSafe_around (s : State) (z : Nat) : around (zoneToSafe s z) = around s := by
  refine modZone_around (fun zn => ?_) s z
  split <;> rfl
/-- Every zone held for SAFE, one after the other. -/
def allToSafe (s : State) : State := (List.range s.zones.length).foldl zoneToSafe s
theorem allToSafe_around (s : State) : around (allToSafe s) = around s := foldl_around _ zoneToSafe_around _ s
theorem allToSafe_held (s : State) :
    ((allToSafe s).zones.all fun zn => zn.halted || (zn.snagSafe && (zn.safeDue || zn.st = .safe))) = true := by
  have hlen : (allToSafe s).zones.length = s.zones.length := by
    simpa [around] using congrArg List.length (congrArg Around.readys (allToSafe_around s))
  refine List.all_eq_true.2 fun zn hzn => ?_
  obtain ⟨j, hj⟩ := List.mem_iff_getElem?.1 hzn
  have hjr : j ∈ List.range s.zones.length := by
    rw [List.mem_range, ← hlen]; exact (List.getElem?_eq_some_iff.1 hj).1
  exact foldl_reaches zoneToSafe_heldSafe zoneToSafe_keeps_heldSafe _ s j (.inl hjr) zn hj
/-- INSTANCE-SAFE in the run condition: READY falls, tests end, every zone is held for SAFE, and a start before READY ends (R96, R402). -/
theorem actInstSafe_of_run {s : State} (hc : s.su.cond = .run) : ∃ su csc,
    actInstSafe s = { allToSafe (abandonAll (readyFall s)) with su := su, csc := csc } ∧ (s.su.readyEver = true → su = s.su) := by
  have hlen : (abandonAll (readyFall s)).zones.length = s.zones.length := by
    simpa [around, readyFall] using congrArg List.length (congrArg Around.readys (abandonAll_around (readyFall s)))
  have hact : actInstSafe s = if sinceReady s || halted s then allToSafe (abandonAll (readyFall s)) else
      { allToSafe (abandonAll (readyFall s)) with
        su := { (allToSafe (abandonAll (readyFall s))).su with stepNo := 0xE, fail := 0x30 }
        csc := { (allToSafe (abandonAll (readyFall s))).csc with forming := false } } := by
    rw [actInstSafe, if_neg (by simp [running, hc]), allToSafe, hlen]
  rw [hact]
  split
  · exact ⟨_, _, rfl, fun _ => congrArg Around.su ((allToSafe_around _).trans (abandonAll_around (readyFall s)))⟩
  · next h => exact ⟨_, _, rfl, fun hr => absurd hr (by simp_all [sinceReady])⟩
theorem readyFall_around (s : State) :
    around (readyFall s) = { around s with pins := { s.pins with ready := false }, readys := s.zones.map fun _ => false } := by
  simp only [around, readyFall, List.map_map]
  rfl
/-- The first HALT: its instant is stamped, READY falls, tests end, and a counters snapshot is logged (R409, R414). -/
theorem actHalt_first {s : State} {r : FaultRep} (hcode : r.code ≠ 0x44) (h : s.snag.haltAt = none) : actHalt s r =
    takeSnapshot (readyFall { abandonAll s with snag := { (abandonAll s).snag with haltAt := some (now s), haltStep := 0 } }) := by
  simp [actHalt, takeCritical, hcode, halted, h]
/-- A later HALT does nothing more (R409). -/
theorem actHalt_later {s : State} {r : FaultRep} (hcode : r.code ≠ 0x44) (h : s.snag.haltAt ≠ none) : actHalt s r = s := by
  simp [actHalt, takeCritical, hcode, halted, Option.isSome_iff_ne_none, h]

/-- A first HALT lowers READY and stamps the instant (R409). -/
theorem actHalt_around {s : State} {r : FaultRep} (hcode : r.code ≠ 0x44) (h : s.snag.haltAt = none) : around (actHalt s r) =
    { around s with
      pins := { s.pins with ready := false }, haltAt := some s.tb.count, haltStep := 0, readys := s.zones.map fun _ => false } := by
  obtain ⟨htb, hsu, hpins, hfus, hmsf, hheld, -, -, hreadys⟩ := Around.mk.inj (abandonAll_around s)
  have hlow : (abandonAll s).zones.map (fun _ => false) = s.zones.map fun _ => false := by
    have := congrArg (List.map fun _ => false) hreadys
    rwa [List.map_map, List.map_map] at this
  rw [actHalt_first hcode h, (takeSnapshot_logsOnly _).around, readyFall_around]
  simp only [around, now, htb, hsu, hpins, hfus, hmsf, hheld, hlow]

/-! ## O50 -/

/-- A NOTE that CLEAR_FAULTS has not overtaken, and that no start-up test makes: latches, the count since READY and a RAM log entry (R402,
R412, R445). -/
theorem takeNote_eq {s : State} {r : FaultRep} (hcode : r.code ≠ 0x61 ∨ s.su.readyEver = true) (hclear : s.pmb.clearAt ≤ r.stamp) :
    ∃ p, takeNote s r = ramLog { s with
      snag := { s.snag with
        alert := s.snag.alert ||| BitVec.ofNat 5 (2 ^ clsCode .note), alertAt := s.snag.alertAt.modify (clsCode .note) (max r.stamp)
        notes := if s.su.readyEver then satInc 0xFFFF s.snag.notes else s.snag.notes }
      pmb := p } { forced := r.forced, latched := false, recov := false, cls := 0, code := r.code, unit := r.unit, stamp := r.stamp } := by
  obtain ⟨p, hp⟩ := pmbLatch_eq (alertBit s .note r.stamp) r.code r.unit r.stamp
  have halert : alertBit s .note r.stamp = { s with snag := { s.snag with
      alert := s.snag.alert ||| BitVec.ofNat 5 (2 ^ clsCode .note), alertAt := s.snag.alertAt.modify (clsCode .note) (max r.stamp) } } :=
    if_neg (Nat.not_lt.2 hclear)
  have hlog : ¬(r.code = 0x61 && !s.su.readyEver) = true := by
    rcases hcode with h | h <;> simp [h]
  refine ⟨p, ?_⟩
  rw [takeNote, hp, halert]
  cases hr : s.su.readyEver <;> simp_all [sinceReady]
/-- The report taken from the inbox, and shown as its source's latest. -/
def taken (s : State) (r : FaultRep) (rest : List FaultRep) : State := showLatest { s with snag := { s.snag with inbox := rest } } r
/-- A raise before its action: the pair held and logged. -/
def raised (s : State) (r : FaultRep) (rest : List FaultRep) : State := holdPair (taken s r rest) r
theorem raised_logsOnly (s : State) (r : FaultRep) (rest : List FaultRep) : LogsOnly (withPair (taken s r rest) r) (raised s r rest) :=
  holdPair_logsOnly _ r
theorem raised_frame (s : State) (r : FaultRep) (rest : List FaultRep) :
    { raised s r rest with snag := s.snag, pmb := s.pmb, nvm := s.nvm } = s :=
  congrArg (fun x : State => { x with snag := s.snag }) (raised_logsOnly s r rest).frame
theorem raised_zones (s : State) (r : FaultRep) (rest : List FaultRep) : (raised s r rest).zones = s.zones := by
  have hf {β : Type} (f : State → β) := congrArg f (raised_frame s r rest)
  exact hf State.zones
theorem raised_pair (s : State) (r : FaultRep) (rest : List FaultRep) :
    ∃ h ∈ (raised s r rest).snag.held, h.code = r.code ∧ h.unit = r.unit ∧ h.cls = r.cls ∧ h.l = max r.stamp r.l :=
  ⟨pairOf (taken s r rest) r, pairOf_mem_holdPair _ r, rfl, rfl, rfl, rfl⟩
theorem raised_around (s : State) (r : FaultRep) (rest : List FaultRep) :
    around (raised s r rest) = { around s with held := (raised s r rest).snag.held } := by
  have h := raised_logsOnly s r rest
  rw [h.around, ← h.held.symm]
  rfl

section
variable {s : State} {r : FaultRep} {rest : List FaultRep} (hc : s.su.cond = .run) (hin : s.snag.inbox = r :: rest)
include hc hin

theorem faultReport_note (hcls : r.cls = .note) (hcode : r.code ≠ 0x61 ∨ s.su.readyEver = true) (hclear : s.pmb.clearAt ≤ r.stamp) :
    ∃ t, exec .faultReport s = .next t ∧ t.snag.inbox = rest ∧ t.snag.held = s.snag.held ∧ t.snag.alert.getLsbD 0 = true ∧
    (s.su.readyEver = true → t.snag.notes = satInc 0xFFFF s.snag.notes) ∧
    (s.snag.log.length < 256 → t.snag.log = s.snag.log ++ [{ forced := r.forced, latched := false, recov := false, cls := 0, code := r.code, unit := r.unit, stamp := r.stamp }]) ∧
    (256 ≤ s.snag.log.length → t.snag.log = s.snag.log ∧ t.snag.ovfSeen = true) ∧ { t with snag := s.snag, pmb := s.pmb } = s := by
  refine ⟨_, exec_faultReport hc hin, ?_⟩
  obtain ⟨p, hp⟩ := takeNote_eq (s := taken s r rest) hcode hclear
  have hbit (a : BitVec 5) : (a ||| BitVec.ofNat 5 (2 ^ clsCode .note)).getLsbD 0 = true := by simp [clsCode]
  rw [decideReport_note hcls, ← taken, hp]
  rcases Nat.lt_or_ge s.snag.log.length 256 with hlog | hlog
  · rw [ramLog_of_room (by exact hlog)]
    exact ⟨rfl, rfl, hbit _, fun h => if_pos h, fun _ => rfl, fun h => absurd hlog (Nat.not_lt.2 h), rfl⟩
  · rw [ramLog_full (by exact hlog)]
    exact ⟨rfl, rfl, hbit _, fun h => if_pos h, fun h => absurd h (Nat.not_lt.2 hlog), fun _ => ⟨rfl, rfl⟩, rfl⟩
/-- A report of a pair not held is a raise: the pair is held and logged, and the action of its class follows (R402). -/
theorem faultReport_raise (hcls : r.cls ≠ .note) (hn : heldOf s r.code r.unit = none) :
    exec .faultReport s = .next (act (raised s r rest) r (!zoneSafeHeld s r.unit)) := by
  rw [exec_faultReport hc hin, decideReport_raise hcls (by exact hn)]; rfl
end

section
variable {r : FaultRep} (s : State) (first : Bool)
theorem actTile_of_other (h20 : r.code ≠ 0x20) (h21 : r.code ≠ 0x21) : actTile s r = s := by simp [actTile, h20, h21]
theorem act_degrade (h : r.cls = .degrade) : act s r first = actTile s r := by rw [act_eq, h]
theorem act_zoneSafe (h : r.cls = .zoneSafe) : act s r first = actZoneSafe (actTile s r) r.unit (first && !r.forced) := by rw [act_eq, h]
theorem act_instSafe (h : r.cls = .instSafe) : act s r first = actInstSafe (actTile s r) := by rw [act_eq, h]
theorem act_halt (h : r.cls = .halt) : act s r first = actHalt (actTile s r) r := by rw [act_eq, h]
end
/-- ZONE-SAFE holds its zone for SAFE, and changes nothing else (R402, R415). -/
theorem actZoneSafe_frame (s : State) (z : Nat) (first : Bool) : { actZoneSafe s z first with zones := s.zones } = s := rfl
theorem zoneD_actZoneSafe_other {s : State} {z i : Nat} (h : i ≠ z) (first : Bool) : zoneD (actZoneSafe s z first) i = zoneD s i := by
  simp [zoneD, actZoneSafe, zoneToSafe_eq, List.getD_eq_getElem?_getD, h.symm]
theorem zoneD_actZoneSafe {s : State} {z : Nat} (hz : z < s.zones.length) (hh : (zoneD s z).halted = false) (first : Bool) :
    (zoneD (actZoneSafe s z first) z).snagSafe = true ∧ (zoneD (actZoneSafe s z first) z).safeDue = decide ((zoneD s z).st ≠ .safe) := by
  have hlen : z < (zoneToSafe s z).zones.length := by simpa [zoneToSafe_eq] using hz
  rw [actZoneSafe, zoneD_modZone hlen, zoneD_zoneToSafe hz hh]
  exact ⟨rfl, rfl⟩

/-- Settles O50: where the report goes, then the action of its class on the state with the pair held. -/
theorem reportsTakeTheActionOfTheirClass : Obligations.ReportsTakeTheActionOfTheirClass := by
  unfold Obligations.ReportsTakeTheActionOfTheirClass
  refine ⟨fun r rest s hc hin hcls hcode hclear => faultReport_note hc hin hcls hcode hclear, fun r rest s hc hin hcls hn h20 h21 => ?degrade,
    fun r rest s hc hin hcls hn hz hhalted h20 h21 => ?zoneSafe, fun r rest s hc hin hcls hn => ?instSafe,
    fun r rest s hc hin hcls hcode hn hhalt => ?halt, fun r rest s hc hin hcls hcode hn hhalt h20 h21 => ?later,
    fun r rest h s hc hin hh hcls hle => ?again, fun s hc hin => ?empty⟩
  case degrade =>
    refine ⟨_, faultReport_raise hc hin (by simp [hcls]) hn, ?_⟩
    rw [act_degrade _ _ hcls, actTile_of_other _ h20 h21]
    refine ⟨raised_pair s r rest, (raised_logsOnly s r rest).inbox, ?_, raised_frame s r rest⟩
    obtain ⟨h, hmem, -, -, hd, -⟩ := raised_pair s r rest
    exact List.any_eq_true.2 ⟨h, hmem, by simp [hd, hcls]⟩
  case zoneSafe =>
    refine ⟨_, faultReport_raise hc hin (by simp [hcls]) hn, ?_⟩
    rw [act_zoneSafe _ _ hcls, actTile_of_other _ h20 h21]
    have hf {β : Type} (f : State → β) := congrArg f (raised_frame s r rest)
    have hzones := raised_zones s r rest
    have hzone (i : Nat) : zoneD (raised s r rest) i = zoneD s i := by rw [zoneD, hzones]; rfl
    obtain ⟨hsafe, hdue⟩ := zoneD_actZoneSafe (s := raised s r rest) (z := r.unit) (hzones ▸ hz) (hzone _ ▸ hhalted)
      (!zoneSafeHeld s r.unit && !r.forced)
    refine ⟨raised_pair s r rest, hsafe, fun hst => ?_, fun i hi => (zoneD_actZoneSafe_other hi _).trans (hzone i), ?_,
      hf State.pins, hf State.msf, hf State.tb, hf State.fus⟩
    · rw [hdue, hzone]; exact decide_eq_true hst
    · simp [actZoneSafe, zoneToSafe_eq, hzones]
  case instSafe =>
    refine ⟨_, faultReport_raise hc hin (by simp [hcls]) hn, ?_⟩
    have haround := (actTile_around (raised s r rest) r).trans (raised_around s r rest)
    have hf {β : Type} (f : Around → β) := congrArg f haround
    obtain ⟨su, csc, heq, hsu⟩ := actInstSafe_of_run (s := actTile (raised s r rest) r)
      ((congrArg (fun k : Around => k.su.cond) haround).trans hc)
    have hall := ((allToSafe_around _).trans (abandonAll_around _)).trans (readyFall_around (actTile (raised s r rest) r))
    obtain ⟨htb, -, hpins, hfus, hmsf, hheld, -, -, hreadys⟩ := Around.mk.inj hall
    rw [act_instSafe _ _ hcls, heq]
    refine ⟨?pair, allToSafe_held _, ?low, hpins.trans (hf fun k => { k.pins with ready := false }), hmsf.trans (hf Around.msf),
      fun hr => (hsu ((hf fun k => k.su.readyEver).trans hr)).trans (hf Around.su), htb.trans (hf Around.tb), hfus.trans (hf Around.fus)⟩
    case pair =>
      obtain ⟨h, hmem, hpair⟩ := raised_pair s r rest
      exact ⟨h, (hheld.trans (hf Around.held)) ▸ hmem, hpair⟩
    case low =>
      have hnone (x : Bool) : x ∈ (actTile (raised s r rest) r).zones.map (fun _ => false) → x = false := by simp
      refine List.all_eq_true.2 fun zn hzn => ?_
      simp [hnone _ (hreadys ▸ List.mem_map_of_mem hzn)]
  case halt =>
    refine ⟨_, faultReport_raise hc hin (by simp [hcls]) hn, ?_⟩
    have hf {β : Type} (f : Around → β) := congrArg f ((actTile_around (raised s r rest) r).trans (raised_around s r rest))
    obtain ⟨htb, -, hpins, hfus, hmsf, hheld, hhaltAt, hstep, hreadys⟩ :=
      Around.mk.inj (actHalt_around (s := actTile (raised s r rest) r) hcode ((hf Around.haltAt).trans hhalt))
    rw [act_halt _ _ hcls]
    refine ⟨?pair, hhaltAt.trans (hf fun k => some k.tb.count), hstep, hpins.trans (hf fun k => { k.pins with ready := false }),
      hmsf.trans (hf Around.msf), ?length, htb.trans (hf Around.tb), hfus.trans (hf Around.fus)⟩
    case pair =>
      obtain ⟨h, hmem, hpair⟩ := raised_pair s r rest
      exact ⟨h, (hheld.trans (hf Around.held)) ▸ hmem, hpair⟩
    case length =>
      have hlen := congrArg List.length (hf Around.readys)
      have hlow := congrArg List.length hreadys
      simp only [List.length_map, around] at hlen hlow
      exact hlow.trans hlen
  case later =>
    refine ⟨_, faultReport_raise hc hin (by simp [hcls]) hn, ?_⟩
    have hf {β : Type} (f : Around → β) := congrArg f (raised_around s r rest)
    have hlater : (raised s r rest).snag.haltAt ≠ none := fun h => hhalt ((hf Around.haltAt).symm.trans h)
    rw [act_halt _ _ hcls, actTile_of_other _ h20 h21, actHalt_later hcode hlater]
    exact ⟨hf Around.haltAt, hf Around.haltStep, hf Around.pins, raised_zones s r rest, hf Around.msf⟩
  case again =>
    refine ⟨_, exec_faultReport hc hin, ?_⟩
    rw [decideReport_again hcls (by exact hh) hle, ramLog]
    split <;> exact ⟨rfl, rfl, rfl⟩
  case empty =>
    show execFaultReport s = _
    simp [execFaultReport, hin]

end Sys2Proof.Machine
end

section
/-!
Resets and starts: what the release of power-on reset, the loss of VBIAS and the edges of RESET_N leave. The statement O9.
-/
namespace Sys2Proof.Machine

/-- A pulse of RESET_N below 100 ns never passes the filter, and one of 1 µs or more always does (R51). -/
theorem passesFilter_short {low : Nat} (h : low < 100) (s : State) : passesFilter s low = false := by
  simp [passesFilter, Nat.not_le.2 h, show ¬1000 ≤ low by omega]
theorem passesFilter_long {low : Nat} (h : 1000 ≤ low) (s : State) : passesFilter s low = true := by
  simp [passesFilter, h]
/-- The released power-on reset samples the straps; with RESET_N high a start begins, with RESET_N low the block stays in reset (R24,
R95). -/
theorem execPowerOnResetRelease_start {s : State} {id : Nat} (hp : s.su.por = true) (hr : s.su.resetN = true) (hid : id < 8) (m : Bool) :
    execPowerOnResetRelease id m s = .next (beginStart { s with su := { s.su with por := false, cascId := id, cascMaster := m } }) := by
  simp [execPowerOnResetRelease, hp, hr, Nat.mod_eq_of_lt hid]
theorem execPowerOnResetRelease_held {s : State} {id : Nat} (hp : s.su.por = true) (hr : s.su.resetN = false) (hid : id < 8) (m : Bool) :
    execPowerOnResetRelease id m s = .next (
      let b := blank { s with su := { s.su with por := false, cascId := id, cascMaster := m } }
      { b with su := { b.su with cond := .inReset } }) := by
  simp [execPowerOnResetRelease, hp, hr, Nat.mod_eq_of_lt hid]
/-- A pulse that passes the filter of a powered block is a reset (R51, R52). -/
theorem execResetNFall_passes {s : State} {low : Nat} (hc : s.su.cond ≠ .unpowered) (hp : passesFilter s low = true) :
    execResetNFall low s = .next { blank s with
      su := { (blank s).su with cond := .inReset, resetN := false }, pins := { (blank s).pins with biasOk := s.pins.biasOk } } := by
  simp [execResetNFall, hp, hc]
/-- A pulse that does not pass changes nothing (R51). -/
theorem execResetNFall_filtered {s : State} {low : Nat} (hp : passesFilter s low = false) : execResetNFall low s = .next s := by
  simp [execResetNFall, hp]
/-- The end of a reset begins the start (R51, R95). -/
theorem execResetNRise_starts {s : State} (hr : s.su.resetN = false) (hp : s.su.por = false) (hc : s.su.cond = .inReset) :
    execResetNRise s = .next (beginStart { s with su := { s.su with resetN := true } }) := by
  simp [execResetNRise, hr, hp, hc]

/-- Settles O9: each row by its equation; what it leaves beside its own fields is the reset state, field by field. -/
theorem resetAndReleaseRows : Obligations.ResetAndReleaseRows := by
  unfold Obligations.ResetAndReleaseRows
  refine ⟨fun id m s hp hr hid => ?start, fun id m s hp hr hid => ?held, fun s => ?vbias, fun low s hc hp => ?fall,
    fun s hr hp hc => ?rise, fun low s => ⟨fun h => passesFilter_short h s, fun h => passesFilter_long h s⟩,
    fun low s hp => execResetNFall_filtered hp⟩
  case start =>
    exact ⟨_, execPowerOnResetRelease_start hp hr hid m, rfl, rfl, rfl, rfl, rfl, rfl, rfl, rfl, rfl, rfl, rfl, rfl, rfl, rfl, rfl⟩
  case held => exact ⟨_, execPowerOnResetRelease_held hp hr hid m, rfl, rfl, rfl, rfl, rfl, rfl, rfl, rfl, rfl, rfl, rfl, rfl, rfl, rfl⟩
  case vbias => exact ⟨_, rfl, rfl, rfl, rfl, rfl, rfl, rfl, rfl, rfl, rfl, rfl, rfl, rfl, rfl⟩
  case fall => exact ⟨_, execResetNFall_passes hc hp, rfl, rfl, rfl, rfl, rfl, rfl, rfl, rfl, rfl, rfl, rfl, rfl, rfl, rfl, rfl⟩
  case rise => exact ⟨_, execResetNRise_starts hr hp hc, rfl, rfl, rfl, rfl, rfl, rfl, rfl, rfl, rfl, rfl, rfl, rfl, rfl, rfl, rfl⟩

end Sys2Proof.Machine
end

section
/-!
Droop, STRETCH_REQ and taint: what a crossing and the zone OR do, the taint intervals of the tiles and their words, their gathering at the
Float, and the taint port. The statements O22, O23 and O24.
-/
namespace Sys2Proof.Machine

/-! ## Zones that may not be there -/

/-- Of a zone that is not there a change changes nothing, and it reads as an empty zone. -/
theorem modZone_of_not_lt {s : State} {z : Nat} (h : ¬z < s.zones.length) (f : Zone → Zone) : modZone s z f = s := by
  rw [modZone, List.modify_eq_self (Nat.not_lt.1 h)]
theorem zoneD_of_not_lt {s : State} {z : Nat} (h : ¬z < s.zones.length) : zoneD s z = {} := by
  simp [zoneD, List.getD_eq_getElem?_getD, Nat.not_lt.1 h]
/-- A change that leaves zone z as it is leaves the state. -/
theorem modZone_of_fixed {s : State} {z : Nat} {f : Zone → Zone} (h : f (zoneD s z) = zoneD s z) : modZone s z f = s := by
  by_cases hz : z < s.zones.length
  · have hmod : s.zones.modify z f = s.zones := by
      refine List.ext_getElem (by simp) fun i hi _ => ?_
      simp only [List.getElem_modify]
      split
      · next heq =>
        subst heq
        simpa [zoneD, List.getD_eq_getElem?_getD, hz] using h
      · rfl
    rw [modZone, hmod]
  · exact modZone_of_not_lt hz f
theorem modZone_frame (s : State) (z : Nat) (f : Zone → Zone) : { modZone s z f with zones := s.zones } = s := rfl
theorem hasTile_iff (s : State) (z t : Nat) : hasTile s z t = true ↔ t < (zoneD s z).tiles.length := by simp [hasTile]

/-! ## Droop (R145, R151, R279) -/

theorem exec_droopCrossing {s : State} {z t : Nat} (ht : t < (zoneD s z).tiles.length) (hsw : (tileD s z t).switching = true)
    (hout : (tileD s z t).droopOut = false) : exec (.droopCrossing z t) s =
      .next (updStretch (modTile s z t fun x => x.droopRise s.tb.count (zoneVmax s z) s.su.readyEver) z) :=
  if_pos (by simp [hasTile, ht, hsw, hout])
theorem exec_droopRelease {s : State} {z t : Nat} (ht : t < (zoneD s z).tiles.length) (hout : (tileD s z t).droopOut = true) :
    exec (.droopRelease z t) s = .next (updStretch (modTile s z t fun x => { x with droopOut := false }) z) :=
  if_pos (by simp [hasTile, ht, hout])
/-- A crossing raises the droop output and the flag of the slot, counts since READY, and is a load step (R145, R151). -/
theorem droopRise_of_not_quiet {x : Tile} (h : x.st ≠ .quiet) (k v : Nat) (since : Bool) :
    x.droopRise k v since =
      { (x.refTo k).loadStep k with droopOut := true, droopSlot := true, droops := if since then satInc 255 x.droops else x.droops } := by
  simp [Tile.droopRise, h]
/-- A tile in QUIET leaves it at the crossing, for REG (R279). -/
theorem droopRise_of_quiet {x : Tile} (h : x.st = .quiet) (hh : x.held = none) (k v : Nat) (since : Bool) :
    (x.droopRise k v since).st = .reg ∧ (x.droopRise k v since).droopOut = true ∧ (x.droopRise k v since).win = none := by
  simp [Tile.droopRise, Tile.leaveQuiet, Tile.quietEnd, Tile.refTo, Tile.loadStep, Tile.setNact, Tile.openAll, h, hh]

/-! ## STRETCH_REQ (R58, R282, R284) -/

/-- Where the zone OR has the level STRETCH_REQ has, nothing changes. -/
theorem Zone.updStretch_same {zn : Zone} (h : zn.stretchOr = zn.sft.req) (k : Nat) (since : Bool) : zn.updStretch k since = zn := by
  simp [Zone.updStretch, h]
/-- An edge of the zone OR is an edge of STRETCH_REQ: stamped, and counted since READY where it rises (R282, R458). -/
theorem Zone.updStretch_edge {zn : Zone} {r : Bool} (hor : zn.stretchOr = r) (hreq : zn.sft.req ≠ r) (k : Nat) (since : Bool) :
    ∃ judge, zn.updStretch k since = { zn with sft := { zn.sft with
      req := r, since := if r then some k else none, edges := ((k, r) :: zn.sft.edges).take 64, judge := judge
      stretches := if r && since then satInc 0xFFFF zn.sft.stretches else zn.sft.stretches } } := by
  subst hor
  exact ⟨_, if_neg (Ne.symm hreq)⟩
theorem zoneD_updStretch {s : State} {z : Nat} (hz : z < s.zones.length) :
    zoneD (updStretch s z) z = (zoneD s z).updStretch s.tb.count s.su.readyEver := zoneD_modZone hz _
theorem exec_stretchTimeout {s : State} {z a : Nat} (hz : z < s.zones.length) (hs : (zoneD s z).sft.since = some a)
    (hr : (zoneD s z).sft.req = true) (hc : zCounts (zoneD s z).st = true) (hdue : a + 10000 ≤ s.tb.count) :
    exec (.stretchTimeout z) s = .next (report s 0x15 z .zoneSafe) := by
  show execStretchTimeout z s = _
  simp [execStretchTimeout, hs, hasZone, hz, hr, hc, now, hdue]

/-! ## STRETCH_ACK (R282, R284) -/

theorem Sft.ackOk_iff (x : Sft) (e : Nat × Bool × Bool) :
    x.ackOk e = true ↔ if e.2.1 then x.ackAt (e.1 + 16) = true else e.2.2 = true ∨ x.ackAt (e.1 + 16) = false := by
  unfold Sft.ackOk
  split <;> simp
theorem Sft.stampAck_same {x : Sft} {ack : Bool} (h : ack = x.ack) (k : Nat) : x.stampAck k ack = x := if_pos h
theorem Sft.stampAck_edge {x : Sft} {ack : Bool} (h : ack ≠ x.ack) (k : Nat) :
    x.stampAck k ack = { x with ack := ack, ackEdges := ((k, ack) :: x.ackEdges).take 64 } := if_neg h
/-- A look at STRETCH_ACK moves its level and its edges only. -/
theorem Sft.stampAck_eq (x : Sft) (k : Nat) (ack : Bool) : ∃ edges, x.stampAck k ack = { x with ack := ack, ackEdges := edges } := by
  by_cases h : ack = x.ack
  · exact ⟨x.ackEdges, by rw [Sft.stampAck_same h, h]⟩
  · exact ⟨_, Sft.stampAck_edge h k⟩
theorem insRep_length (r : FaultRep) (l : List FaultRep) : (insRep r l).length = l.length + 1 := by
  induction l with
  | nil => rfl
  | cons x xs ih => unfold insRep; split <;> simp [ih]
/-- n NOTEs of one source and unit: n reports more, all else as before. -/
theorem notes_eq (n code unit : Nat) (s : State) : ∃ g, (List.range n).foldl (fun s _ => note s code unit) s = { s with snag := g } ∧
    g.inbox.length = s.snag.inbox.length + n ∧
    (0 < n → ∃ r ∈ g.inbox, r.code = code ∧ r.unit = unit ∧ r.cls = .note ∧ r.stamp = s.tb.count) := by
  induction n with
  | zero => exact ⟨s.snag, rfl, rfl, fun h => absurd h (Nat.lt_irrefl 0)⟩
  | succ n ih =>
    obtain ⟨g, hg, hlen, -⟩ := ih
    rw [List.range_succ, List.foldl_append, hg]
    exact ⟨_, rfl, (insRep_length _ _).trans (by rw [hlen]; omega), fun _ => note_mem_inbox { s with snag := g } code unit none⟩
/-- STRETCH_ACK_CHECK: the level is stamped, the edges due are judged, and each late one is a NOTE (R282, R284). -/
theorem exec_stretchAckCheck {s : State} {z : Nat} (hz : z < s.zones.length) (ack : Bool) : exec (.stretchAckCheck z ack) s =
    let r := ((zoneD s z).sft.stampAck s.tb.count ack).judgeDue s.tb.count s.su.readyEver
    .next ((List.range r.2).foldl (fun s _ => note s 0x16 z) (modZone s z fun zn => { zn with sft := r.1 })) :=
  if_neg (by simp [hasZone, hz])

/-! ## Taint intervals and their words (R153, R154, R157) -/

theorem exec_taintExcursionStart {s : State} {z t : Nat} (ht : t < (zoneD s z).tiles.length) (hsw : (tileD s z t).switching = true)
    (hopen : (tileD s z t).taintOpen = none) (f : Nat) : exec (.taintExcursionStart z t f) s =
      .next (modTile s z t fun x => { x with taintOpen := some (s.tb.count, f % 10) }) :=
  if_pos (by simp [hasTile, ht, hsw, hopen])
theorem exec_taintExcursionEnd {s : State} {z t d df : Nat} (h : (tileD s z t).taintOpen = some (d, df)) (f : Nat) :
    exec (.taintExcursionEnd z t f) s = .next (modZone s z fun zn =>
      zn.sendTaint t { start := d, startFine := df, stop := s.tb.count, stopFine := f % 10, tile := t } none) := by
  show execTaintExcursionEnd z t f s = _
  simp only [execTaintExcursionEnd, h]; rfl
theorem exec_taintIntervalSplit {s : State} {z t d df : Nat} (h : (tileD s z t).taintOpen = some (d, df)) (hdue : d + 1024 ≤ s.tb.count) :
    exec (.taintIntervalSplit z t) s = .next (modZone s z fun zn =>
      zn.sendTaint t { start := d, startFine := df, stop := d + 1024, stopFine := df, tile := t } (some (d + 1024, df))) := by
  show execTaintIntervalSplit z t s = _
  simp only [execTaintIntervalSplit, h, if_pos (show d + 1024 ≤ now s from hdue)]
/-- A stamp at most 2^23 − 1 ns old is read back from its 24 bits (R157). -/
theorem extend24_of_recent {k x : Nat} (hle : x ≤ k) (hlt : k < x + 2 ^ 23) : extend24 k (x % 2 ^ 24) = x := by
  have hd : (k + 2 ^ 24 - x % 2 ^ 24 % 2 ^ 24) % 2 ^ 24 = k - x := by omega
  simp only [extend24, hd]
  rw [if_pos (by omega)]
  omega
/-- The fields of a word add up, one by one. -/
theorem foldl_fields (fs : List (Nat × Nat × Nat)) (a : Nat) :
    fs.foldl (fun a f => a + f.1 % 2 ^ f.2.2 * 2 ^ f.2.1) a = a + fields fs := by
  induction fs generalizing a with
  | nil => rfl
  | cons f fs ih =>
    have h0 : fields (f :: fs) = 0 + f.1 % 2 ^ f.2.2 * 2 ^ f.2.1 + fields fs := ih _
    rw [List.foldl_cons, ih, h0, Nat.zero_add, Nat.add_assoc]
theorem fields_nil : fields [] = 0 := rfl
theorem fields_cons (v lo n : Nat) (fs : List (Nat × Nat × Nat)) : fields ((v, lo, n) :: fs) = v % 2 ^ n * 2 ^ lo + fields fs := by
  rw [fields, List.foldl_cons, foldl_fields, Nat.zero_add]
/-- The fields of an interval's word, each within its width (R154). -/
theorem TaintEv.word_toNat {e : TaintEv} (hsf : e.startFine < 16) (hef : e.stopFine < 16) (ht : e.tile < 64) : e.word.toNat =
    e.startFine + e.start % 2 ^ 24 * 16 + e.stopFine * 268435456 + e.stop % 2 ^ 24 * 4294967296 + e.tile * 72057594037927936 := by
  rw [TaintEv.word, BitVec.toNat_ofNat]
  simp only [fields_cons, fields_nil]
  omega
theorem TaintEv.ofWord_word {e : TaintEv} {k : Nat} (hsf : e.startFine < 16) (hef : e.stopFine < 16) (ht : e.tile < 64)
    (hse : e.start ≤ e.stop) (hek : e.stop ≤ k) (hks : k < e.start + 2 ^ 23) : TaintEv.ofWord k e.word = e := by
  have hs := extend24_of_recent (hse.trans hek) hks
  have he := extend24_of_recent hek (hks.trans_le (Nat.add_le_add_right hse _))
  have hslt : e.start % 2 ^ 24 < 2 ^ 24 := Nat.mod_lt _ (by decide)
  have helt : e.stop % 2 ^ 24 < 2 ^ 24 := Nat.mod_lt _ (by decide)
  have hw := word_toNat hsf hef ht
  generalize e.start % 2 ^ 24 = a at hs hslt hw
  generalize e.stop % 2 ^ 24 = b at he helt hw
  have hstart : bitsOf e.word.toNat 4 24 = a := by rw [hw, bitsOf]; omega
  have hstop : bitsOf e.word.toNat 32 24 = b := by rw [hw, bitsOf]; omega
  have hsfine : bitsOf e.word.toNat 0 4 = e.startFine := by rw [hw, bitsOf]; omega
  have hefine : bitsOf e.word.toNat 28 4 = e.stopFine := by rw [hw, bitsOf]; omega
  have htile : bitsOf e.word.toNat 56 6 = e.tile := by rw [hw, bitsOf]; omega
  rw [ofWord, hstart, hstop, hsfine, hefine, htile, hs, he]

/-! ## O22 and O23 -/

/-- Settles O22: each event by its equation, the edges of STRETCH_REQ by the zone OR, and the words by their fields. -/
theorem droopTaintIntervalsAndTheirEvents : Obligations.DroopTaintIntervalsAndTheirEvents := by
  unfold Obligations.DroopTaintIntervalsAndTheirEvents
  refine ⟨fun z t s ht hsw hout => exec_droopCrossing ht hsw hout, fun x k v b hx => ?rise, fun x k v b hx hh => droopRise_of_quiet hx hh k v b,
    fun z t s ht hout => exec_droopRelease ht hout, fun s z h => ?same, fun s z hz hor hreq => ?up, fun s z hz hor hreq => ?down,
    fun z t f s ht hsw hopen => exec_taintExcursionStart ht hsw hopen f, fun z t f d df s h => exec_taintExcursionEnd h f,
    fun z t d df s h hdue => exec_taintIntervalSplit h hdue, fun zn t e r => ⟨rfl, rfl⟩,
    fun e k hsf hef ht hse hek hks => TaintEv.ofWord_word hsf hef ht hse hek hks⟩
  case rise =>
    rw [droopRise_of_not_quiet hx]
    exact ⟨rfl, rfl, rfl, rfl, rfl, rfl⟩
  case same =>
    rw [show updStretch s z = s from modZone_of_fixed (Zone.updStretch_same h _ _)]
    exact ⟨rfl, rfl⟩
  case up =>
    obtain ⟨judge, hjudge⟩ := Zone.updStretch_edge hor (by simp [hreq]) s.tb.count s.su.readyEver
    rw [zoneD_updStretch hz, hjudge]
    exact ⟨rfl, rfl, rfl, rfl, rfl, modZone_frame s z _⟩
  case down =>
    obtain ⟨judge, hjudge⟩ := Zone.updStretch_edge hor (by simp [hreq]) s.tb.count s.su.readyEver
    rw [zoneD_updStretch hz, hjudge]
    exact ⟨rfl, rfl, rfl, modZone_frame s z _⟩
/-- Settles O23: the limit by its equation, and the check by the look at STRETCH_ACK, the judgement and its NOTEs. -/
theorem stretchLimitAndAcknowledgement : Obligations.StretchLimitAndAcknowledgement := by
  unfold Obligations.StretchLimitAndAcknowledgement
  refine ⟨fun z a s hz hs hr hst hdue => exec_stretchTimeout hz hs hr (by rcases hst with h | h | h <;> rw [h] <;> rfl) hdue,
    fun z ack s hz => ?check, fun x e => x.ackOk_iff e, fun x k ack h => Sft.stampAck_same h k, fun x k ack h => ?edge⟩
  case check =>
    obtain ⟨edges, hx⟩ := (zoneD s z).sft.stampAck_eq s.tb.count ack
    obtain ⟨g, hg, hlen, hrep⟩ := notes_eq (((zoneD s z).sft.stampAck s.tb.count ack).judgeDue s.tb.count s.su.readyEver).2 0x16 z
      (modZone s z fun zn => { zn with sft := (((zoneD s z).sft.stampAck s.tb.count ack).judgeDue s.tb.count s.su.readyEver).1 })
    refine ⟨_, (((zoneD s z).sft.stampAck s.tb.count ack).judgeDue s.tb.count s.su.readyEver).2, (exec_stretchAckCheck hz ack).trans (congrArg _ hg), ?_⟩
    have hzone : zoneD { modZone s z fun zn => { zn with
        sft := (((zoneD s z).sft.stampAck s.tb.count ack).judgeDue s.tb.count s.su.readyEver).1 } with snag := g } z =
        { zoneD s z with sft := (((zoneD s z).sft.stampAck s.tb.count ack).judgeDue s.tb.count s.su.readyEver).1 } := zoneD_modZone hz _
    rw [hzone]
    rw [hx] at hlen hrep ⊢
    exact ⟨rfl, rfl, rfl, rfl, rfl, hrep, hlen, rfl⟩
  case edge =>
    rw [Sft.stampAck_edge h]
    exact ⟨rfl, rfl⟩

/-! ## Gathering and the taint port (R67, R68, R294, R295, R297, R303) -/

/-- An event at the Float: one of a tile that no mask holds is counted, any other joins the gathering (R294, R295). -/
theorem exec_taintEventRx_unmapped {s : State} {z : Nat} {w : W64} {r : List W64} (h : (zoneD s z).sft.inflight = w :: r)
    (hm : (zoneD s z).arraysOf (TaintEv.ofWord s.tb.count w).tile = []) : exec (.taintEventRx z) s =
      .next (modZone s z fun _ => { zoneD s z with sft := { (zoneD s z).sft with
        inflight := r, unmapped := satInc 255 (zoneD s z).sft.unmapped } }) := by
  show execTaintEventRx z s = _
  simp [execTaintEventRx, h, now, hm]
theorem exec_taintEventRx_mapped {s : State} {z : Nat} {w : W64} {r : List W64} {e : TaintEv} (h : (zoneD s z).sft.inflight = w :: r)
    (he : e = TaintEv.ofWord s.tb.count w) (hm : (zoneD s z).arraysOf e.tile ≠ []) : exec (.taintEventRx z) s =
      .next (modZone s z fun _ => { zoneD s z with sft := { (zoneD s z).sft with inflight := r } }.gatherAdd s.tb.count
        { cause := 0, arrays := (zoneD s z).arraysOf e.tile, start := e.start, startFine := e.startFine, stop := e.stop, stopFine := e.stopFine }) := by
  subst he
  show execTaintEventRx z s = _
  simp only [execTaintEventRx, h, now, List.isEmpty_iff, if_neg hm]
/-- An interval joins the gathering, which starts with its first one (R295). -/
theorem Zone.gatherAdd_first {zn : Zone} (h : zn.sft.gather = none) (k : Nat) (g : Gathered) :
    zn.gatherAdd k g = { zn with sft := { zn.sft with gather := some (k, [g]) } } := by
  simp [Zone.gatherAdd, h]
theorem Zone.gatherAdd_more {zn : Zone} {a : Nat} {l : List Gathered} (h : zn.sft.gather = some (a, l)) (k : Nat) (g : Gathered) :
    zn.gatherAdd k g = { zn with sft := { zn.sft with gather := some (a, l ++ [g]) } } := by
  simp [Zone.gatherAdd, h]
theorem exec_tntRecordSend {s : State} {r : TntRec} {q : List TntRec} (hr : s.pins.ready = true) (h : s.tnt.queue = r :: q) :
    exec .tntRecordSend s = .next { s with tnt := { s.tnt with
      queue := q, last := some r, overflows := if r.overflow then satInc 0xFFFF s.tnt.overflows else s.tnt.overflows } } := by
  show execTntRecordSend s = _
  simp [execTntRecordSend, h, ready, hr]
theorem exec_taintStrobeEnd {s : State} {z e : Nat} (h : (zoneD s z).sft.strobeEnd = some e) (hdue : e ≤ s.tb.count) :
    exec (.taintStrobeEnd z) s = .next (modZone s z fun zn =>
      { zn with arrays := zn.arrays.map (fun a => { a with taint := false }), sft := { zn.sft with strobeEnd := none } }) := by
  show execTaintStrobeEnd z s = _
  simp only [execTaintStrobeEnd, h, if_pos (show e ≤ now s from hdue)]
/-- Settles O24: each event by its equation; the overflow record's first beat is one number (R297). -/
theorem taintGatheringAndTaintPort : Obligations.TaintGatheringAndTaintPort := by
  unfold Obligations.TaintGatheringAndTaintPort
  refine ⟨fun z w r s h hm => exec_taintEventRx_unmapped h hm, fun z w r e s h he hm hg => ?first, fun z a w r g e s h he hm hg => ?more,
    fun z e s h hdue => exec_taintStrobeEnd h hdue, fun r q s hr h => exec_tntRecordSend hr h, fun zz a af e ef n s hr hlen ho => ?overflow⟩
  case first =>
    rw [exec_taintEventRx_mapped h he hm]
    simp only [Zone.gatherAdd_first (zn := { zoneD s z with sft := { (zoneD s z).sft with inflight := r } }) hg]
  case more =>
    rw [exec_taintEventRx_mapped h he hm]
    simp only [Zone.gatherAdd_more (zn := { zoneD s z with sft := { (zoneD s z).sft with inflight := r } }) hg]
  case overflow =>
    have hb0 : BitVec.ofNat 64 (fields [(2, 0, 4), (3, 4, 2), (2, 6, 2), (0xFF, 16, 8)]) = 0xFF00B2 := by decide
    show execTntOverflowRecord s = _
    simp only [execTntOverflowRecord, ho, ready, hr, decide_eq_true hlen, Bool.and_self, if_true, hb0]

end Sys2Proof.Machine
end

section
/-!
The user window is read-only, and the instructions of the test access port. The statements O53 and O58.
-/
namespace Sys2Proof.Machine

/-! ## The user window (R70, R98) -/

theorem exec_userWindowWrite_since {s : State} (ha : alive s = true) (hr : s.su.readyEver = true) (q o : Nat) :
    exec (.userWindowWrite q o) s = .next (note s 0x01 0) :=
  if_pos (by simp [ha, sinceReady, hr])
theorem exec_userWindowWrite_before {s : State} (hr : s.su.readyEver = false) (q o : Nat) : exec (.userWindowWrite q o) s = .next s :=
  if_neg (by simp [sinceReady, hr])
/-- An offset of a page that holds no counter reads 0 (R70). -/
theorem userWindow_unoccupied {o : Nat} (h : o ∉ [0x00, 0x04, 0x08, 0x0C, 0x10, 0x14, 0x18]) (s : State) (q : Nat) :
    userWindow s q o = 0 := by
  simp only [List.mem_cons, List.not_mem_nil, not_or, or_false] at h
  obtain ⟨-, h4, h8, hc, h10, h14, h18⟩ := h
  simp [userWindow, h4, h8, hc, h10, h14, h18]
theorem userRead_of_ne_zero {s : State} (ha : alive s = true) {o : Nat} (ho : o ≠ 0) (q : Nat) :
    userRead s q o = rpData s (if sinceReady s then userWindow s q o else 0) := by
  simp [userRead, ha, ho]

/-- Settles O53: a write adds its NOTE from READY only, and an offset without a counter reads 0 before and after READY. -/
theorem userWindowIsReadOnly : Obligations.UserWindowIsReadOnly := by
  unfold Obligations.UserWindowIsReadOnly
  refine ⟨fun q o s hc hr => ?since, fun q o s hr => exec_userWindowWrite_before hr q o, fun q o s hc ho => ?read⟩
  case since =>
    exact ⟨_, exec_userWindowWrite_since ((alive_iff s).2 hc) hr q o, note_mem_inbox s 0x01 0 none, rfl⟩
  case read =>
    have h0 : o ≠ 0 := fun h => ho (by simp [h])
    rw [userRead_of_ne_zero ((alive_iff s).2 hc) h0, userWindow_unoccupied ho, ite_self]
    rfl

/-! ## The test access port (R81, R420) -/

section
variable {s : State} (hp : s.su.cond ≠ .unpowered)
include hp

/-- A powered port answers as its instruction says (R50, R81). -/
theorem tapOn_powered (o : Out) : tapOn s o = o := if_neg hp
theorem exec_idcode : exec .idcode s = .next { s with
    tap := { s.tap with ir := 0x02, acts := true, dr := 0x306D3B4F }, pins := { s.pins with highz := false, extest := none } } :=
  tapOn_powered hp _
theorem exec_bypass : exec .bypass s = .next (tapSelect s 0xFF true) := tapOn_powered hp _
theorem exec_tapReset : exec .tapReset s = .next (tapSelect s 0x02 true) := tapOn_powered hp _
theorem exec_samplePreload (p : List Bool) : exec (.samplePreload p) s = .next (tapScan (tapSelect s 0x01 true) p) := tapOn_powered hp _

/-! ### Where test access is permitted (R104) -/

theorem exec_extest (h : testPermitted s = true) (p : List Bool) : exec (.extest p) s =
    .next { tapScan (tapSelect s 0x00 true) p with pins := { s.pins with highz := false, extest := some p } } :=
  (tapOn_powered hp _).trans (if_pos h)
theorem exec_highz (h : testPermitted s = true) : exec .highz s =
    .next { tapSelect s 0x03 true with pins := { s.pins with highz := true, extest := none } } :=
  (tapOn_powered hp _).trans (if_pos h)
/-- A write access is the register port's own write. -/
theorem exec_rpAccess_write (h : testPermitted s = true) (a d : W32) :
    exec (.rpAccess true false a d) s = .next (regWrite (tapSelect s 0x10 true) (rpOffset a) d) :=
  (tapOn_powered hp _).trans (if_pos h)
/-- A read access is the register port's own read, and its data are what the next capture returns. -/
theorem exec_rpAccess_read (h : testPermitted s = true) (a d : W32) : exec (.rpAccess false false a d) s =
    let t := regRead (tapSelect s 0x10 true) (rpOffset a)
    .next { t with tap := { t.tap with dr := t.rp.rdata } } :=
  (tapOn_powered hp _).trans (if_pos h)

/-! ### Elsewhere -/

theorem exec_extest_denied (h : testPermitted s = false) (p : List Bool) : exec (.extest p) s = .next (tapSelect s 0x00 false) :=
  (tapOn_powered hp _).trans (if_neg (by simp [h]))
theorem exec_highz_denied (h : testPermitted s = false) : exec .highz s = .next (tapSelect s 0x03 false) :=
  (tapOn_powered hp _).trans (if_neg (by simp [h]))
theorem exec_rpAccess_denied (h : testPermitted s = false) (w sp : Bool) (a d : W32) :
    exec (.rpAccess w sp a d) s = .next (tapSelect s 0x10 false) :=
  (tapOn_powered hp _).trans (if_neg (by simp [h]))

/-! ### The fuse instructions (R105) -/

theorem exec_fuseProg (h : life s = some .manufacture) (a : W32) (d : BitVec 128) : exec (.fuseProg a d) s =
    .next { tapSelect s 0x20 true with fus := { s.fus with words := fuseOr s.fus.words a.toNat d } } :=
  (tapOn_powered hp _).trans (if_pos h)
theorem exec_fuseProg_denied (h : life s ≠ some .manufacture) (a : W32) (d : BitVec 128) :
    exec (.fuseProg a d) s = .next (tapSelect s 0x20 false) :=
  (tapOn_powered hp _).trans (if_neg h)
theorem exec_fuseProvision (h : life s = some .manufacture) : exec .fuseProvision s = .next { tapSelect s 0x21 true with
    fus := { s.fus with
      lcCells := if provisionable (Config.fuseFields (fuseWord s.fus.words)) then lcBlow s.fus.lcCells 0 else s.fus.lcCells } } := by
  refine ((tapOn_powered hp _).trans (if_pos h)).trans (congrArg Host.Outcome.next ?_)
  show ite (provisionable (Config.fuseFields (fuseWord s.fus.words)) = true) _ _ = _
  split <;> rfl
theorem exec_fuseProvision_denied (h : life s ≠ some .manufacture) : exec .fuseProvision s = .next (tapSelect s 0x21 false) :=
  (tapOn_powered hp _).trans (if_neg h)

end

/-- A word not yet programmed is added; a programmed one takes the 1 bits in addition (R103). -/
theorem fuseOr_new {ws : List (Nat × BitVec 128)} {a : Nat} (h : ∀ x ∈ ws, x.1 ≠ a) (d : BitVec 128) : fuseOr ws a d = (a, d) :: ws :=
  if_neg fun hex => by
    obtain ⟨x, hx, heq⟩ := List.any_eq_true.1 hex
    exact h x hx (of_decide_eq_true heq)
theorem fuseOr_single (a : Nat) (o d : BitVec 128) : fuseOr [(a, o)] a d = [(a, o ||| d)] := by simp [fuseOr]
theorem provisionable_iff (f : FuseFields) : provisionable f = true ↔
    (∃ x ∈ f.keyroot, x ≠ 0) ∧ (f.vmaxLogic ≠ 0 ∨ f.vmaxArray ≠ 0) ∧ (f.vmaxMif ≠ 0 ∨ f.vmaxLink ≠ 0) ∧ f.capCeil ≠ 0 := by
  simp [provisionable, and_assoc]
/-- Life-cycle bit 0 blown: its three cells, and no other. -/
theorem getLsbD_lcBlow_zero (c : BitVec 12) {i : Nat} (hi : i < 12) : (lcBlow c 0).getLsbD i = (decide (i < 3) || c.getLsbD i) := by
  have hcells : ∀ j < 12, (BitVec.ofNat 12 (7 * 2 ^ (3 * 0))).getLsbD j = decide (j < 3) := by decide
  rw [lcBlow, BitVec.getLsbD_or, hcells i hi, Bool.or_comm]

/-- Settles O58: an equation per instruction, where it acts and where it selects bypass. -/
theorem testAccessPortInstructions : Obligations.TestAccessPortInstructions := by
  unfold Obligations.TestAccessPortInstructions
  refine ⟨fun s hp => exec_idcode hp, fun s hp => ⟨exec_bypass hp, exec_tapReset hp⟩, fun p s hp => ?sample, fun p s hp h => ?extest,
    fun s hp h => exec_highz hp h,
    fun p w sp a d s hp h => ⟨exec_extest_denied hp h p, exec_highz_denied hp h, exec_rpAccess_denied hp h w sp a d⟩,
    fun a d s hp h => ⟨_, exec_rpAccess_write hp h a d, rfl⟩, fun a d s hp h => ⟨_, exec_rpAccess_read hp h a d, rfl, rfl, rfl⟩,
    fun a d s hp h hnew => ⟨_, exec_fuseProg hp h a d, fuseOr_new hnew d, rfl, rfl⟩, fun a d o s hp h hw => ?again,
    fun s hp h => exec_fuseProvision hp h, provisionable_iff, fun c i hi => getLsbD_lcBlow_zero c hi,
    fun s hp h => exec_fuseProvision_denied hp h, fun a d s hp h => exec_fuseProg_denied hp h a d⟩
  case sample => exact ⟨_, exec_samplePreload hp p, rfl, by simp [tapScan], rfl, rfl, rfl⟩
  case extest => exact ⟨_, exec_extest hp h p, rfl, rfl, rfl, rfl⟩
  case again => exact ⟨_, exec_fuseProg hp h a d, by simp [hw, fuseOr_single], rfl⟩

end Sys2Proof.Machine
end

section
/-!
The frequency handshake: the pin, what a sample sees of it, and the two grants. The statement O25.
-/
namespace Sys2Proof.Machine

/-! ## The pin (R57, R289) -/

theorem exec_freqReq_rise {s : State} {z c : Nat} (h : (zoneD s z).sft.freqReq = false) (hc : c < 256) : exec (.freqReq z c) s =
    .next (modZone s z fun zn => { zn with sft := { zn.sft with freqReq := true, freqCode := c, freqAt := s.tb.count } }) := by
  refine (if_neg (by simp [h])).trans ?_
  rw [Nat.mod_eq_of_lt hc]
  rfl
theorem exec_freqReq_high {s : State} {z : Nat} (h : (zoneD s z).sft.freqReq = true) (c : Nat) : exec (.freqReq z c) s = .next s :=
  if_pos h
/-- A fall of a high pin: stamped, and the floor follows the granted code. -/
def Zone.freqFall (zn : Zone) (k : Nat) : Zone := { zn with sft := { zn.sft with freqReq := false, freqAt := k, floorG := zn.sft.g } }
theorem Zone.freqFall_sft (zn : Zone) (k : Nat) :
    (zn.freqFall k).sft = { zn.sft with freqReq := false, freqAt := k, floorG := zn.sft.g } := rfl
theorem Zone.freqFall_tiles (zn : Zone) (k : Nat) : (zn.freqFall k).tiles = zn.tiles := rfl
theorem exec_freqReqFall_zone {s : State} {z : Nat} (hz : z < s.zones.length) (h : (zoneD s z).sft.freqReq = true) :
    ∃ t, exec (.freqReqFall z) s = .next t ∧ zoneD t z = (zoneD s z).freqFall s.tb.count ∧ { t with zones := s.zones } = s :=
  ⟨_, rfl, (zoneD_modZone hz _).trans (if_pos h), rfl⟩

/-! ## What a sample sees (R57, R289, R290) -/

namespace Sft
variable {x : Sft} {k : Nat}

theorem freqSeenAt_old (h : x.freqAt + 2 ≤ k) : x.freqSeenAt k = x.freqReq := if_pos h
theorem freqSeenAt_new (h : k < x.freqAt + 2) : x.freqSeenAt k = !x.freqReq := if_neg (Nat.not_le.2 h)
/-- A rise takes the request of a code other than 0. -/
theorem reqAt_rise (hs : x.freqSeenAt k = true) (hb : x.freqSeen = false) (ha : x.freqAck = false) (hc : x.freqCode ≠ 0) (b : Bool) :
    x.reqAt k b = { x with freqSeen := true, pending := some (x.freqCode, k) } := by
  simp [reqAt, hs, hb, ha, hc]
/-- A rise with code 0 is counted since READY, and asks for nothing. -/
theorem reqAt_rise_invalid (hs : x.freqSeenAt k = true) (hb : x.freqSeen = false) (ha : x.freqAck = false) (hc : x.freqCode = 0)
    (b : Bool) : x.reqAt k b = { x with
      freqSeen := true, pending := none, invalid := if b then min 255 (x.invalid + 1) else x.invalid } := by
  simp [reqAt, hs, hb, ha, hc, satInc, satAdd]
/-- A fall withdraws the request and lowers FREQ_ACK. -/
theorem reqAt_fall (hs : x.freqSeenAt k = false) (hb : x.freqSeen = true) (b : Bool) : x.reqAt k b = { x with
    freqSeen := false, pending := none, freqAck := false, floorG := if x.freqAck then x.g else x.floorG } := by
  simp [reqAt, hs, hb]
/-- A sample that sees no change takes nothing in. -/
theorem reqAt_same (h : x.freqSeenAt k = x.freqSeen) (b : Bool) : x.reqAt k b = { x with freqSeen := x.freqSeenAt k } := by
  cases hb : x.freqSeen <;> simp [reqAt, h, hb]

end Sft

/-! ## The two grants (R288 to R291) -/

/-- The handshake with FCEIL formed, which is no part of what a sample sees. -/
def Zone.ceiled (zn : Zone) (v : Nat) : Sft := { zn.sft with fceil := zn.fceilOf v (zn.setpoint v).1 }
/-- A sample that sees no change takes nothing in. -/
theorem Zone.ceiled_reqAt_same {zn : Zone} {k : Nat} (h : zn.sft.freqSeenAt k = zn.sft.freqSeen) (v : Nat) (b : Bool) :
    (zn.ceiled v).reqAt k b = { zn.ceiled v with freqSeen := zn.sft.freqSeenAt k } :=
  Sft.reqAt_same (x := zn.ceiled v) h b
theorem Zone.freqSample_of_reqAt {zn : Zone} {k v : Nat} {b : Bool} {x : Sft} (hx : (zn.ceiled v).reqAt k b = x) (up : Bool) :
    (zn.freqSample k v up b).sft =
      if (x.pending.any fun p => p.1 ≤ x.g && p.2 + 64 ≤ k) && up then
        { x with g := (x.pending.getD (0, 0)).1, freqAck := true, pending := none }
      else x := by
  unfold ceiled at hx
  simp only [freqSample, hx]
  cases x.pending with
  | none => rfl
  | some p => exact apply_ite Zone.sft _ _ _
/-- A pending decrease that is due is acknowledged while ZONE_READY is high. -/
theorem Zone.freqSample_decrease {zn : Zone} {k c kr : Nat} (h : zn.sft.freqSeenAt k = zn.sft.freqSeen)
    (hp : zn.sft.pending = some (c, kr)) (hc : c ≤ zn.sft.g) (hdue : kr + 64 ≤ k) (v : Nat) (b : Bool) :
    (zn.freqSample k v true b).sft =
      { zn.ceiled v with freqSeen := zn.sft.freqSeenAt k, g := c, freqAck := true, pending := none } := by
  rw [freqSample_of_reqAt (ceiled_reqAt_same h v b)]
  simp [ceiled, hp, hc, hdue]
/-- While ZONE_READY is low a sample acknowledges nothing. -/
theorem Zone.freqSample_low {zn : Zone} {k : Nat} (h : zn.sft.freqSeenAt k = zn.sft.freqSeen) (v : Nat) (b : Bool) :
    (zn.freqSample k v false b).sft = { zn.ceiled v with freqSeen := zn.sft.freqSeenAt k } := by
  rw [freqSample_of_reqAt (ceiled_reqAt_same h v b)]
  exact if_neg (by simp)
theorem exec_freqIncreaseGrant {s : State} {z c kr : Nat} (hk : s.tb.count % 64 = 0) (hp : (zoneD s z).sft.pending = some (c, kr))
    (hg : (zoneD s z).sft.g < c) (hdue : kr + 64 ≤ s.tb.count) (hst : (zoneD s z).st = .mist ∨ (zoneD s z).st = .run)
    (hr : (zoneD s z).ready = true) (hf : c ≤ (zoneD s z).sft.fceil) (hw : noWindow (zoneD s z) s.tb.count = true)
    (hq : stretchQuiet (zoneD s z) s.tb.count = true) : exec (.freqIncreaseGrant z) s =
      .next (modZone s z fun zn => { zn with sft := { zn.sft with g := c, floorG := c, freqAck := true, pending := none } }) := by
  show execFreqIncreaseGrant z s = _
  simp [execFreqIncreaseGrant, atSample, now, hp, hk, hg, hdue, hst, hr, hf, hw, hq]
/-- STRETCH_REQ is low and its latest edge, where there is one, is 50 ns old. -/
theorem stretchQuiet_iff (zn : Zone) (g : Nat) :
    stretchQuiet zn g = true ↔ zn.sft.req = false ∧ ∀ e ∈ zn.sft.edges.head?, e.1 + 50 ≤ g := by
  unfold stretchQuiet
  cases zn.sft.edges <;> simp

/-- Settles O25: an equation per edge of the pin, per sight of a sample, and per grant. -/
theorem frequencyHandshake : Obligations.FrequencyHandshake := by
  unfold Obligations.FrequencyHandshake
  refine ⟨fun z c s h hc => exec_freqReq_rise h hc, fun z c s h => exec_freqReq_high h c, fun z s hz h => ?fall,
    fun x k => ⟨Sft.freqSeenAt_old, Sft.freqSeenAt_new⟩, fun x k b hs hb ha hc => Sft.reqAt_rise hs hb ha hc b,
    fun x k b hs hb ha hc => Sft.reqAt_rise_invalid hs hb ha hc b, fun x k b hs hb => ?seenLow, fun x k b h => Sft.reqAt_same h b,
    fun zn k v c kr b h hp hc hdue => ?decrease, fun zn k v b h ha => ?notReady,
    fun z c kr s hk hp hg hdue hst hr hf hw hq => exec_freqIncreaseGrant hk hp hg hdue hst hr hf hw hq, stretchQuiet_iff⟩
  case fall =>
    obtain ⟨t, ht, hzone, hframe⟩ := exec_freqReqFall_zone hz h
    exact ⟨t, ht, by rw [hzone, Zone.freqFall_sft], by rw [hzone, Zone.freqFall_tiles], hframe⟩
  case seenLow =>
    rw [Sft.reqAt_fall hs hb b]
    exact ⟨rfl, rfl, rfl, rfl⟩
  case decrease =>
    rw [Zone.freqSample_decrease h hp hc hdue]
    exact ⟨rfl, rfl, rfl⟩
  case notReady =>
    rw [Zone.freqSample_low h]
    exact ⟨rfl, ha, rfl⟩

end Sys2Proof.Machine
end

section
/-!
Set windows: the request and what a sample sees of it, the schedule and the denial, and a window's start and end. The statement O26.
-/
namespace Sys2Proof.Machine

/-! ## Arrays -/

theorem hasArr_of_lt {s : State} {z a : Nat} (h : a < (zoneD s z).arrays.length) : hasArr s z a = true := decide_eq_true h
/-- A zone with an array is there. -/
theorem lt_zones_of_array {s : State} {z a : Nat} (h : a < (zoneD s z).arrays.length) : z < s.zones.length := by
  by_contra hz
  rw [zoneD_of_not_lt hz] at h
  exact absurd h (Nat.not_lt_zero a)
theorem Zone.modArr_getD {zn : Zone} {a : Nat} (h : a < zn.arrays.length) (f : Arr → Arr) :
    (zn.modArr a f).arrays.getD a {} = f (zn.arrays.getD a {}) := by
  simp [modArr, List.getD_eq_getElem?_getD, h]

/-! ## The request (R57, R268, R270, R271) -/

theorem exec_setReq_rise {s : State} {z a : Nat} (h : (arrD s z a).setReq = false) (dur : Nat) : exec (.setReq z a dur) s =
    .next (modArr s z a fun x => { x with setReq := true, setReqAt := s.tb.count, setDur := dur % 32 }) :=
  if_neg (by simp [h])
theorem exec_setReq_high {s : State} {z a : Nat} (h : (arrD s z a).setReq = true) (dur : Nat) : exec (.setReq z a dur) s = .next s :=
  if_pos h
theorem exec_setReqFall {s : State} {z a : Nat} (h : (arrD s z a).setReq = true) : exec (.setReqFall z a) s =
    .next (modArr s z a fun x => { x with setReq := false, setReqAt := s.tb.count }) :=
  if_pos h

namespace Arr
variable {x : Arr} {k : Nat}

theorem setAt_old (h : x.setReqAt + 2 ≤ k) : x.setAt k = x.setReq := if_pos h
theorem setAt_new (h : k < x.setReqAt + 2) : x.setAt k = !x.setReq := if_neg (Nat.not_le.2 h)
/-- A rise with no grant out and the array idle takes a request. -/
theorem reqAt_rise (hs : x.setAt k = true) (hb : x.setSeen = false) (hg : x.gnt = false) (hi : x.sw = .idle) :
    x.reqAt k = { x with setSeen := true, kr := k, sw := .pending, sched := false, fallen := false } := by
  simp [reqAt, hs, hb, hg, hi]
/-- A fall under a grant is kept for its end. -/
theorem reqAt_fall_granted (hs : x.setAt k = false) (hb : x.setSeen = true) (hg : x.gnt = true) :
    x.reqAt k = { x with setSeen := false, fallen := true } := by
  simp [reqAt, hs, hb, hg]
/-- A fall withdraws an ungranted request. -/
theorem reqAt_fall_withdraws (hs : x.setAt k = false) (hb : x.setSeen = true) (hg : x.gnt = false) (ho : x.sw ≠ .open_) :
    x.reqAt k = { x with setSeen := false, sw := .idle, sched := false, set := if x.watch then x.set else [] } := by
  simp [reqAt, hs, hb, hg, ho]

end Arr

/-! ## Schedule and denial (R269, R272 to R274) -/

/-- A pending, valid request of a zone in RUN gets the window its test gives. -/
theorem winNow_eq_winTest {s : State} {z a k : Nat} (ha : a < (zoneD s z).arrays.length) (hst : (zoneD s z).st = .run)
    (hx : (zoneD s z).exitCnt = none) (hh : s.snag.haltAt = none) (hp : (arrD s z a).sw = .pending) (hs : (arrD s z a).sched = false)
    (hk : (arrD s z a).kr ≤ k) (h0 : (arrD s z a).setDur ≠ 0) (h20 : (arrD s z a).setDur ≤ 20) :
    winNow s z a k = (zoneD s z).winTest (partOf s (zoneD s z)) k a (zoneVmax s z) :=
  if_pos (by simp [hasArr_of_lt ha, hst, hx, halted, hh, hp, hs, hk, h0, h20])
theorem exec_setWindowSchedule {s : State} {z a w g : Nat} {set : List Nat} (hk : s.tb.count % 64 = 0)
    (hlow : ∀ b < a, winNow s z b s.tb.count = none) (h : winNow s z a s.tb.count = some (w, g, set)) :
    exec (.setWindowSchedule z a) s = .next (modArr s z a fun x => { x with sched := true, w, g, set }) := by
  refine (if_pos ?_).trans ?_
  · simpa [atSample, now, hk] using hlow
  · simp only [now, h]
theorem exec_setWaitExpiry {s : State} {z a : Nat} (hk : s.tb.count % 64 = 0) (ha : a < (zoneD s z).arrays.length)
    (hp : (arrD s z a).sw = .pending) (hs : (arrD s z a).sched = false)
    (hdue : (arrD s z a).kr + 10000 * (zoneD s z).cfg.swait ≤ s.tb.count) (hno : winNow s z a s.tb.count = none) :
    exec (.setWaitExpiry z a) s = .next (modZone s z fun zn => zn.deny a s.su.readyEver) :=
  if_pos (by simp [atSample, now, hk, hasArr_of_lt ha, hp, hs, hdue, hno])

theorem Zone.winDur_le_req (zn : Zone) (a k dp dreq : Nat) (set : List Nat) : zn.winDur a k dp dreq set ≤ dreq :=
  (min_le_left _ _).trans (min_le_left _ _)
theorem Zone.winDur_le_twenty (zn : Zone) (a k dp dreq : Nat) (set : List Nat) : zn.winDur a k dp dreq set ≤ 20 :=
  (min_le_right _ _).trans (min_le_right _ _)
/-- What a start that passes the test keeps: the instant, the duration within its bounds, and the set's tiles in REG with room for the
boost. -/
theorem Zone.winTest_some {zn : Zone} {p : Part} {k a v w g : Nat} {set : List Nat} (h : zn.winTest p k a v = some (w, g, set)) :
    w = k + 64 * (zn.pblead + 1) ∧ set = zn.winSet a ∧ set ≠ [] ∧ (zn.arrays.getD a {}).cfg.minLen ≤ g ∧
    (∃ dp, g = zn.winDur a k dp (zn.arrays.getD a {}).setDur set) ∧
    ∀ t ∈ set, (zn.tiles.getD t {}).rep.st = .reg ∧ (zn.law.vz : Int) + zn.so t + (zn.arrays.getD a {}).cfg.pb ≤ v := by
  unfold winTest at h
  extract_lets ar w' set' at h
  split at h
  · exact absurd h (by simp)
  · next dp hdp =>
    extract_lets g' b e at h
    split at h
    · next hc =>
      simp only [Bool.and_eq_true, decide_eq_true_eq, List.all_eq_true] at hc
      obtain ⟨⟨⟨⟨⟨hne, hmin⟩, hreg⟩, -⟩, -⟩, hroom⟩ := hc
      obtain ⟨rfl, rfl, rfl⟩ : w' = w ∧ g' = g ∧ set' = set := by simpa using h
      exact ⟨rfl, rfl, by simpa using hne, hmin, ⟨dp, rfl⟩, fun t ht => ⟨(hreg t ht).1, hroom t ht⟩⟩
    · exact absurd h (by simp)
/-- A denial answers with duration 0 while ZONE_READY is high, and the array is idle (R269). -/
theorem Zone.deny_getD {zn : Zone} {a : Nat} (h : a < zn.arrays.length) (b : Bool) : (zn.deny a b).arrays.getD a {} =
    { zn.arrays.getD a {} with sw := .idle, sched := false, gnt := zn.ready, gntDur := 0, lastDur := 0, fallen := false
                               w := 0, g := 0, set := [] } :=
  modArr_getD h _

/-! ## Start and end of a window (R270, R272, R277) -/

theorem exec_windowStart {s : State} {z a : Nat} (ha : a < (zoneD s z).arrays.length) (hs : (arrD s z a).sched = true)
    (hm : (arrD s z a).sw = .armed) (hw : (arrD s z a).w = s.tb.count) (hr : (arrD s z a).setAt s.tb.count = true) :
    exec (.windowStart z a) s = .next (modZone
      (modZone s z fun zn => { zn with tiles := zn.tiles.map fun x => x.quietAt s.tb.count }) z fun zn => zn.grant a s.su.readyEver) :=
  if_pos (by simp [now, hasArr_of_lt ha, hs, hm, hw, hr])
theorem exec_windowEnd {s : State} {z a : Nat} (ha : a < (zoneD s z).arrays.length) (ho : (arrD s z a).sw = .open_)
    (hdue : (arrD s z a).w + 20 * (arrD s z a).g ≤ s.tb.count) : exec (.windowEnd z a) s = .next (modArr
      (modZone s z fun zn => { zn with tiles := zn.tiles.map fun x => x.windowOver s.tb.count (zoneVmax s z) }) z a
      fun x => { x with sw := .idle }) :=
  if_pos (by simp [now, hasArr_of_lt ha, ho, hdue])
theorem Zone.grant_getD {zn : Zone} {a : Nat} (h : a < zn.arrays.length) (b : Bool) : (zn.grant a b).arrays.getD a {} =
    let x := zn.arrays.getD a {}
    { x with sw := .open_, sched := false, watch := true, gnt := zn.ready, gntDur := if zn.ready then x.g else 0, lastDur := x.g } :=
  modArr_getD h _

/-- An armed tile enters QUIET at its window's start; every other tile is left. -/
theorem Tile.quietAt_armed {x : Tile} {k e : Nat} (hst : x.st = .reg) (hw : x.win = some { w := k, e }) :
    x.quietAt k = { (x.refTo k).openAll with st := .quiet } := if_pos (by simp [hst, hw])
theorem Tile.quietAt_other {x : Tile} {k : Nat} (h : x.st ≠ .reg ∨ ∀ y ∈ x.win, y.w ≠ k) : x.quietAt k = x := by
  refine if_neg fun hc => ?_
  simp only [Bool.and_eq_true, decide_eq_true_eq, Option.any_eq_true] at hc
  obtain ⟨hst, y, hy, hw⟩ := hc
  exact h.elim (fun h => h hst) fun h => h y hy hw

/-- The NPH and SHED fields move the phases and their shed only. -/
theorem Tile.phaseOp_eq (t : Tile) (n sh k : Nat) : ∃ nact phRun low armed watch,
    t.phaseOp n sh k = { t with nact, phRun, low, armed, watch } := by
  unfold phaseOp
  dsimp only
  split
  · exact ⟨_, _, _, _, _, rfl⟩
  split
  · exact ⟨_, _, _, _, _, rfl⟩
  split
  · split
    · split <;> exact ⟨_, _, _, _, _, rfl⟩
    · exact ⟨_, _, _, _, _, rfl⟩
  split <;> exact ⟨_, _, _, _, _, rfl⟩
/-- The fields of a command change neither the state nor the window of a tile. -/
theorem Tile.applyFields_keeps_window (t : Tile) (c : Cmd) (k v : Nat) :
    (t.applyFields c k v).st = t.st ∧ (t.applyFields c k v).win = t.win ∧ (t.applyFields c k v).boosted = t.boosted := by
  obtain ⟨nact, phRun, low, armed, watch, h⟩ := t.phaseOp_eq c.nph c.shed k
  rw [applyFields, h]
  exact ⟨rfl, rfl, rfl⟩
theorem Tile.quietEnd_quiet {x : Tile} (h : x.st = .quiet) :
    x.quietEnd = { x.openAll with st := .reg, win := none, boost := 0, boosted := false } := by
  rw [quietEnd, if_pos h]
/-- A tile that leaves QUIET is in REG, in no window and without boost, whatever it held. -/
theorem Tile.leaveQuiet_quiet {x : Tile} (h : x.st = .quiet) (k v : Nat) :
    (x.leaveQuiet k v).st = .reg ∧ (x.leaveQuiet k v).win = none ∧ (x.leaveQuiet k v).boosted = false := by
  have hq := quietEnd_quiet (x := x.refTo k) h
  unfold leaveQuiet
  rw [hq]
  cases x.held with
  | none => exact ⟨rfl, rfl, rfl⟩
  | some c => exact applyFields_keeps_window _ c k v
theorem Tile.windowOver_due {x : Tile} {k w e : Nat} (hw : x.win = some { w, e }) (hdue : e ≤ k) (v : Nat) :
    x.windowOver k v = x.leaveQuiet k v := if_pos (by simp [hw, hdue])

/-- Settles O26: an equation per edge of the pin and per sight of it, the test's own conditions, and the state each tile is left in. -/
theorem setWindowRequestGrantAndEnd : Obligations.SetWindowRequestGrantAndEnd := by
  unfold Obligations.SetWindowRequestGrantAndEnd
  refine ⟨fun z a dur s h => exec_setReq_rise h dur, fun z a dur s h => exec_setReq_high h dur, fun z a s h => exec_setReqFall h,
    fun x k => ⟨Arr.setAt_old, Arr.setAt_new⟩, fun x k hs hb hg hi => Arr.reqAt_rise hs hb hg hi,
    fun x k hs hb hg => Arr.reqAt_fall_granted hs hb hg, fun x k hs hb hg ho => ?withdrawn,
    fun z a w g set s hk ha hst hx hh hp hs hkr h0 h20 hlow h =>
      exec_setWindowSchedule hk hlow ((winNow_eq_winTest ha hst hx hh hp hs hkr h0 h20).trans h),
    fun zn p k a v w g set h => ?test, fun z a s hk ha hp hs hdue hno => exec_setWaitExpiry hk ha hp hs hdue hno,
    fun zn a b ha => ?denied, fun z a s ha hs hm hw hr => ?start, fun x k e hst hw => ?armed, fun x k h => Tile.quietAt_other h,
    fun z a s ha ho hdue => exec_windowEnd ha ho hdue, fun x k v w e hw hdue hq => ?ends⟩
  case withdrawn =>
    rw [Arr.reqAt_fall_withdraws hs hb hg ho]
    exact ⟨rfl, rfl, rfl⟩
  case test =>
    obtain ⟨hw, hset, hne, hmin, ⟨dp, hg⟩, htiles⟩ := Zone.winTest_some h
    exact ⟨hw, hset, hne, hmin, hg ▸ zn.winDur_le_twenty .., hg ▸ zn.winDur_le_req .., htiles⟩
  case denied =>
    rw [Zone.deny_getD ha]
    exact ⟨rfl, rfl, rfl, rfl, rfl, by simp [Zone.deny], rfl⟩
  case start =>
    have hz := lt_zones_of_array ha
    refine ⟨_, exec_windowStart ha hs hm hw hr, ?_⟩
    generalize ht : modZone (modZone s z _) z _ = t
    have hzone : zoneD t z = Zone.grant { zoneD s z with tiles := (zoneD s z).tiles.map fun x => x.quietAt s.tb.count } a s.su.readyEver := by
      rw [← ht, zoneD_modZone (by simpa [modZone] using hz), zoneD_modZone hz]
    have harr := Zone.grant_getD (zn := { zoneD s z with tiles := (zoneD s z).tiles.map fun x => x.quietAt s.tb.count }) ha s.su.readyEver
    rw [arrD, hzone, harr]
    exact ⟨rfl, rfl, rfl, rfl, rfl, rfl, ht ▸ rfl⟩
  case armed =>
    rw [Tile.quietAt_armed hst hw]
    exact ⟨rfl, by simp [Tile.openAll], by simp [Tile.openAll]⟩
  case ends =>
    rw [Tile.windowOver_due hw hdue]
    exact Tile.leaveQuiet_quiet hq k v

end Sys2Proof.Machine
end

section
/-!
The naming records of the forecast port: the record kept, the claim, the step mark, and a full queue. The statement O36.
-/
namespace Sys2Proof.Machine

/-- What no naming record changes: the zones, the module stage, the pins, the time, the caps. -/
def offPort (s : State) : List Zone × Msf × Pins × Nat × Caps := (s.zones, s.msf, s.pins, s.tb.count, s.caps)

/-! ## The step mark (R246) -/

theorem markRecord_ignored {s : State} {p lead : Nat} {r : NamingRec}
    (h : r.replay = true ∨ 4 ≤ (partD s p).marks.length ∨ ∃ l, (partD s p).latestMark = some l ∧ s.tb.count + lead ≤ l) :
    markRecord s p r lead = note { s with pcx := s.pcx.seen 5 } 0x0C 0 := by
  refine if_pos ?_
  rcases h with h | h | ⟨l, hl, hle⟩
  · simp [h]
  · simp [h]
  · simp [hl, now, hle]
theorem markRecord_marks {s : State} {p lead : Nat} {r : NamingRec} (hr : r.replay = false) (hm : (partD s p).marks.length < 4)
    (hl : ∀ l, (partD s p).latestMark = some l → l < s.tb.count + lead) : markRecord s p r lead =
      modPart s p fun x => { x with marks := x.marks ++ [{ at_ := s.tb.count + lead, src := r }], latestMark := some (s.tb.count + lead) } := by
  refine if_neg ?_
  cases h : (partD s p).latestMark with
  | none => simp [hr, hm]
  | some l => simp [hr, hm, now, Nat.not_le.2 (hl l h)]
/-- A mark is taken, or ignored with a NOTE. -/
theorem markRecord_cases (s : State) (p : Nat) (r : NamingRec) (lead : Nat) :
    markRecord s p r lead = note { s with pcx := s.pcx.seen 5 } 0x0C 0 ∨ markRecord s p r lead = modPart s p fun x =>
      { x with marks := x.marks ++ [{ at_ := s.tb.count + lead, src := r }], latestMark := some (s.tb.count + lead) } := by
  unfold markRecord
  extract_lets pt m stale
  exact (em _).imp (fun h => if_pos h) fun h => if_neg h
theorem markRecord_offPort (s : State) (p : Nat) (r : NamingRec) (lead : Nat) : offPort (markRecord s p r lead) = offPort s := by
  rcases markRecord_cases s p r lead with h | h <;> rw [h] <;> rfl
theorem markRecord_claims (s : State) (p : Nat) (r : NamingRec) (lead : Nat) : (markRecord s p r lead).pcx.claims = s.pcx.claims := by
  rcases markRecord_cases s p r lead with h | h <;> rw [h] <;> rfl
theorem markRecord_parts_length (s : State) (p : Nat) (r : NamingRec) (lead : Nat) :
    (markRecord s p r lead).tb.parts.length = s.tb.parts.length := by
  rcases markRecord_cases s p r lead with h | h <;> rw [h]
  · rfl
  · exact List.length_modify ..
theorem markRecord_recs {s : State} {p : Nat} (hp : p < s.tb.parts.length) (r : NamingRec) (lead : Nat) :
    (partD (markRecord s p r lead) p).recs = (partD s p).recs := by
  rcases markRecord_cases s p r lead with h | h <;> rw [h]
  · rfl
  · rw [partD_modPart hp]

/-! ## The claim (R249) -/

/-- A naming record changes the store of contexts; only a lease refused is reported, and a STEP asks for none. -/
theorem claimRecord_eq (s : State) (submit : Bool) (r : NamingRec) (rsv len : Nat) :
    ∃ x g, claimRecord s submit r rsv len = { s with pcx := x, snag := g } ∧ (submit = false → g = s.snag) := by
  unfold claimRecord
  extract_lets x k full want s1 l s2
  have hs2 : ∃ y g, s2 = { s with pcx := y, snag := g } ∧ (submit = false → g = s.snag) := by
    by_cases hw : want = true
    · have hsub : submit ≠ false := fun h => by simp [want, h] at hw
      by_cases hc : (decide full || !r.hasCtx) = true
      · exact ⟨_, _, (if_neg (by simp [hw])).trans (if_pos hc), fun h => absurd h hsub⟩
      · exact ⟨_, s.snag, (if_neg (by simp [hw])).trans (if_neg hc), fun _ => rfl⟩
    · exact ⟨x, s.snag, if_pos (by simp [hw]), fun _ => rfl⟩
  obtain ⟨y, g, hs2, hg⟩ := hs2
  rw [hs2]
  split
  · exact ⟨_, g, rfl, hg⟩
  split <;> exact ⟨_, g, rfl, hg⟩
/-- A submission drops the earlier claims of its queue and SID, and claims its generation where one stands and there is room. -/
theorem claimRecord_claims (s : State) (r : NamingRec) (rsv len : Nat) :
    let old := s.pcx.claims.filter fun c => !(c.queue = r.queue && c.sid = r.sid)
    ∃ e, (claimRecord s true r rsv len).pcx.claims =
      if r.hasCtx = true ∧ old.length < 1024 then { queue := r.queue, sid := r.sid, pcx := r.pcx, gen := r.gen, expiry := e } :: old
      else old := by
  intro old
  unfold claimRecord
  extract_lets x k full want s1 l s2
  have hs2 : s2.pcx.claims = old := by
    by_cases hw : want = true
    · by_cases hc : (decide full || !r.hasCtx) = true
      · exact congrArg (fun t : State => t.pcx.claims) ((if_neg (by simp [hw])).trans (if_pos hc))
      · exact congrArg (fun t : State => t.pcx.claims) ((if_neg (by simp [hw])).trans (if_neg hc))
    · exact congrArg (fun t : State => t.pcx.claims) (if_pos (by simp [hw]))
  have hfull : full ↔ ¬old.length < 1024 := Nat.not_lt.symm
  refine ⟨s2.pcx.claimExpiry r.queue r.sid k, ?_⟩
  rw [← hs2]
  by_cases hctx : r.hasCtx = true
  · by_cases hf : full
    · rw [if_neg (by simp [hctx]), if_pos hf, if_neg (fun h => hfull.1 hf (hs2 ▸ h.2))]
      rfl
    · rw [if_neg (by simp [hctx]), if_neg hf, if_pos ⟨hctx, by rw [hs2]; by_contra h; exact hf (hfull.2 h)⟩]
  · rw [if_pos (by simp [hctx]), if_neg (fun h => hctx h.1)]

/-! ## A record accepted (R61, R243, R248) -/

/-- The record a partition keeps of the beats. -/
def namingRec (s : State) (b0 b1 : W64) : NamingRec :=
  let g := s.pcx.resolve (bitsOf b0.toNat 16 12) (bitsOf b0.toNat 32 16)
  { at_ := now s, queue := beatQueue b0, pcx := bitsOf b0.toNat 16 12, gen := bitsOf b0.toNat 32 16, sid := beatSid b0
    opclass := bitsOf b0.toNat 28 4, key := w32 (bitsOf b1.toNat 32 32), replay := b1.toNat.testBit 1, hasCtx := g.isSome
    fetchedAt := if g.isSome then none else some (now s), ctx := (g.map (·.words)).getD [] }
/-- The record's mark, where it asks for one. -/
def markIf (s : State) (mark : Bool) (b0 b1 : W64) : State :=
  if mark then markRecord s (beatPart b0) (namingRec s b0 b1) (bitsOf b1.toNat 2 16) else s
/-- A record whose generation the directory does not hold is counted, and a NOTE. -/
def noteMissing (s : State) (missing : Bool) : State :=
  if missing then note { s with pcx := { s.pcx with genMiss := satInc 0xFFFF s.pcx.genMiss }.seen 2 } 0x0C 0 else s
/-- The record kept first. -/
def keepRec (s : State) (p : Nat) (r : NamingRec) : State :=
  modPart s p fun z => { z with recs := (r :: z.recs).take 256, replayInStep := z.replayInStep || r.replay }

/-- The state in which an accepted record claims: marked, counted where its generation is missing, and kept. -/
def recordKept (s : State) (submit missing : Bool) (b0 b1 : W64) : State :=
  keepRec (noteMissing (markIf s (!submit || b1.toNat.testBit 0) b0 b1) missing) (beatPart b0) (namingRec s b0 b1)

/-- With room in the queue a record is kept, and then claims. -/
theorem acceptNaming_room {s : State} (hroom : fcpQueued s < 64) (submit : Bool) (b0 b1 : W64) (b2 : Option W64) :
    ∃ missing rsv len, acceptNaming s submit b0 b1 b2 =
      claimRecord (recordKept s submit missing b0 b1) submit (namingRec s b0 b1) rsv len := by
  refine ⟨(s.pcx.resolve (bitsOf b0.toNat 16 12) (bitsOf b0.toNat 32 16)).isNone && bitsOf b0.toNat 16 12 ≠ 4095,
    bitsOf ((b2.map (·.toNat)).getD 0) 0 16, bitsOf ((b2.map (·.toNat)).getD 0) 16 12, ?_⟩
  unfold acceptNaming
  simp only [if_neg (Nat.not_le.2 hroom)]
  rfl

theorem noteMissing_cases (s : State) (b : Bool) : noteMissing s b = s ∨
    noteMissing s b = note { s with pcx := { s.pcx with genMiss := satInc 0xFFFF s.pcx.genMiss }.seen 2 } 0x0C 0 := by
  cases b
  · exact .inl rfl
  · exact .inr rfl
theorem noteMissing_tb (s : State) (b : Bool) : (noteMissing s b).tb = s.tb := by
  rcases noteMissing_cases s b with h | h
  · rw [h]
  · rw [h]; rfl
theorem noteMissing_offPort (s : State) (b : Bool) : offPort (noteMissing s b) = offPort s := by
  rcases noteMissing_cases s b with h | h
  · rw [h]
  · rw [h]; rfl
theorem noteMissing_claims (s : State) (b : Bool) : (noteMissing s b).pcx.claims = s.pcx.claims := by
  rcases noteMissing_cases s b with h | h
  · rw [h]
  · rw [h]; rfl
theorem Reported.noteMissing {s : State} {code unit k : Nat} {cls : Cls} (h : Reported s code unit cls k) (b : Bool) :
    Reported (noteMissing s b) code unit cls k := by
  rcases noteMissing_cases s b with hb | hb <;> rw [hb]
  · exact h
  · exact Reported.report (s := { s with pcx := { s.pcx with genMiss := satInc 0xFFFF s.pcx.genMiss }.seen 2 }) h ..
theorem markIf_offPort (s : State) (m : Bool) (b0 b1 : W64) : offPort (markIf s m b0 b1) = offPort s := by
  cases m
  · rfl
  · exact markRecord_offPort ..
theorem markIf_claims (s : State) (m : Bool) (b0 b1 : W64) : (markIf s m b0 b1).pcx.claims = s.pcx.claims := by
  cases m
  · rfl
  · exact markRecord_claims ..
theorem markIf_parts_length (s : State) (m : Bool) (b0 b1 : W64) : (markIf s m b0 b1).tb.parts.length = s.tb.parts.length := by
  cases m
  · rfl
  · exact markRecord_parts_length ..
theorem markIf_recs {s : State} {b0 : W64} (hp : beatPart b0 < s.tb.parts.length) (m : Bool) (b1 : W64) :
    (partD (markIf s m b0 b1) (beatPart b0)).recs = (partD s (beatPart b0)).recs := by
  cases m
  · rfl
  · exact markRecord_recs hp ..

section
variable {s : State} (hroom : fcpQueued s < 64)
include hroom

theorem acceptNaming_offPort (submit : Bool) (b0 b1 : W64) (b2 : Option W64) : offPort (acceptNaming s submit b0 b1 b2) = offPort s := by
  obtain ⟨missing, rsv, len, h⟩ := acceptNaming_room hroom submit b0 b1 b2
  obtain ⟨x, g, hclaim, -⟩ := claimRecord_eq (recordKept s submit missing b0 b1) submit (namingRec s b0 b1) rsv len
  rw [h, hclaim]
  exact (noteMissing_offPort _ _).trans (markIf_offPort _ _ _ _)
/-- The partition of beat 0 keeps the record first; its marks are those the record left. -/
theorem partD_acceptNaming {b0 : W64} (hp : beatPart b0 < s.tb.parts.length) (submit : Bool) (b1 : W64) (b2 : Option W64) :
    let p := partD (markIf s (!submit || b1.toNat.testBit 0) b0 b1) (beatPart b0)
    partD (acceptNaming s submit b0 b1 b2) (beatPart b0) = { p with
      recs := (namingRec s b0 b1 :: p.recs).take 256, replayInStep := p.replayInStep || (namingRec s b0 b1).replay } := by
  obtain ⟨missing, rsv, len, h⟩ := acceptNaming_room hroom submit b0 b1 b2
  obtain ⟨x, g, hclaim, -⟩ := claimRecord_eq (recordKept s submit missing b0 b1) submit (namingRec s b0 b1) rsv len
  rw [h, hclaim]
  refine (partD_modPart ?_ _).trans ?_
  · rwa [noteMissing_tb, markIf_parts_length]
  · rw [partD, noteMissing_tb]
    rfl
theorem acceptNaming_recs {b0 : W64} (hp : beatPart b0 < s.tb.parts.length) (submit : Bool) (b1 : W64) (b2 : Option W64) :
    (partD (acceptNaming s submit b0 b1 b2) (beatPart b0)).recs = namingRec s b0 b1 :: (partD s (beatPart b0)).recs.take 255 := by
  rw [partD_acceptNaming hroom hp, markIf_recs hp]
  rfl
theorem acceptNaming_no_mark {b0 b1 : W64} (hp : beatPart b0 < s.tb.parts.length) (h : b1.getLsbD 0 = false) (b2 : Option W64) :
    (partD (acceptNaming s true b0 b1 b2) (beatPart b0)).marks = (partD s (beatPart b0)).marks := by
  rw [partD_acceptNaming hroom hp, show b1.toNat.testBit 0 = false from h]
  rfl
/-- The claims after a submission: the earlier ones but those of its queue and SID, and its own where it names a context with room. -/
theorem acceptNaming_claims (b0 b1 : W64) (b2 : Option W64) :
    let r := namingRec s b0 b1
    let old := s.pcx.claims.filter fun c => !(c.queue = r.queue && c.sid = r.sid)
    ∃ e, (acceptNaming s true b0 b1 b2).pcx.claims =
      if r.hasCtx = true ∧ old.length < 1024 then { queue := r.queue, sid := r.sid, pcx := r.pcx, gen := r.gen, expiry := e } :: old
      else old := by
  obtain ⟨missing, rsv, len, h⟩ := acceptNaming_room hroom true b0 b1 b2
  have hkeep : (recordKept s true missing b0 b1).pcx.claims = s.pcx.claims :=
    (noteMissing_claims _ _).trans (markIf_claims _ _ _ _)
  have hclaims := claimRecord_claims (recordKept s true missing b0 b1) (namingRec s b0 b1) rsv len
  rw [hkeep] at hclaims
  rw [h]
  exact hclaims
theorem acceptNaming_claims_from (b0 b1 : W64) (b2 : Option W64) : ∀ c ∈ (acceptNaming s true b0 b1 b2).pcx.claims,
    (c ∈ s.pcx.claims ∧ ¬(c.queue = beatQueue b0 ∧ c.sid = beatSid b0)) ∨
      (c.queue = beatQueue b0 ∧ c.sid = beatSid b0 ∧ c.pcx = bitsOf b0.toNat 16 12 ∧ c.gen = bitsOf b0.toNat 32 16) := by
  obtain ⟨e, he⟩ := acceptNaming_claims hroom b0 b1 b2
  have hold : ∀ c ∈ s.pcx.claims.filter (fun c => !(c.queue = beatQueue b0 && c.sid = beatSid b0)),
      c ∈ s.pcx.claims ∧ ¬(c.queue = beatQueue b0 ∧ c.sid = beatSid b0) := fun c hc => by simpa [imp_iff_not_or] using hc
  intro c hc
  rw [he] at hc
  split at hc
  · rcases List.mem_cons.1 hc with rfl | hc
    · exact .inr ⟨rfl, rfl, rfl, rfl⟩
    · exact .inl (hold c hc)
  · exact .inl (hold c hc)
theorem acceptNaming_claim_made {b0 : W64} (hg : (s.pcx.resolve (bitsOf b0.toNat 16 12) (bitsOf b0.toNat 32 16)).isSome = true)
    (hlen : s.pcx.claims.length < 1024) (b1 : W64) (b2 : Option W64) : ∃ c ∈ (acceptNaming s true b0 b1 b2).pcx.claims,
      c.queue = beatQueue b0 ∧ c.sid = beatSid b0 ∧ c.pcx = bitsOf b0.toNat 16 12 ∧ c.gen = bitsOf b0.toNat 32 16 := by
  obtain ⟨e, he⟩ := acceptNaming_claims hroom b0 b1 b2
  rw [he, if_pos ⟨hg, (List.length_filter_le _ _).trans_lt hlen⟩]
  exact ⟨_, List.mem_cons_self, rfl, rfl, rfl, rfl⟩

/-! ## The mark of a STEP (R246) -/

theorem acceptNaming_step_marks {b0 b1 : W64} (hp : beatPart b0 < s.tb.parts.length) (hr : b1.getLsbD 1 = false)
    (hl : ∀ l, (partD s (beatPart b0)).latestMark = some l → l < s.tb.count + bitsOf b1.toNat 2 16)
    (hm : (partD s (beatPart b0)).marks.length < 4) :
    let t := acceptNaming s false b0 b1 none
    (partD t (beatPart b0)).latestMark = some (s.tb.count + bitsOf b1.toNat 2 16) ∧
      (partD t (beatPart b0)).marks.length = (partD s (beatPart b0)).marks.length + 1 := by
  intro t
  have hmark : markIf s (!false || b1.toNat.testBit 0) b0 b1 = _ := markRecord_marks (r := namingRec s b0 b1) hr hm hl
  rw [show t = acceptNaming s false b0 b1 none from rfl, partD_acceptNaming hroom hp, hmark, partD_modPart hp]
  exact ⟨rfl, List.length_append⟩
theorem acceptNaming_step_ignored {b0 b1 : W64} (hp : beatPart b0 < s.tb.parts.length)
    (h : b1.getLsbD 1 = true ∨ 4 ≤ (partD s (beatPart b0)).marks.length ∨
      ∃ l, (partD s (beatPart b0)).latestMark = some l ∧ s.tb.count + bitsOf b1.toNat 2 16 ≤ l) :
    let t := acceptNaming s false b0 b1 none
    (partD t (beatPart b0)).marks = (partD s (beatPart b0)).marks ∧ Reported t 0x0C 0 .note s.tb.count := by
  intro t
  have hmark : markIf s (!false || b1.toNat.testBit 0) b0 b1 = note { s with pcx := s.pcx.seen 5 } 0x0C 0 :=
    markRecord_ignored (r := namingRec s b0 b1) h
  constructor
  · rw [show t = acceptNaming s false b0 b1 none from rfl, partD_acceptNaming hroom hp, hmark]
    rfl
  · obtain ⟨missing, rsv, len, ht⟩ := acceptNaming_room hroom false b0 b1 none
    obtain ⟨x, g, hclaim, hg⟩ := claimRecord_eq (recordKept s false missing b0 b1) false (namingRec s b0 b1) rsv len
    have hnote : Reported (noteMissing (markIf s (!false || b1.toNat.testBit 0) b0 b1) missing) 0x0C 0 .note s.tb.count := by
      rw [hmark]
      exact Reported.noteMissing (note_mem_inbox { s with pcx := s.pcx.seen 5 } 0x0C 0 none) missing
    rw [show t = acceptNaming s false b0 b1 none from rfl, ht, hclaim, hg rfl]
    exact hnote

end

/-- With 64 records waiting a submission without MARK is lost, counted, and a NOTE (R61). -/
theorem acceptNaming_full {s : State} (hfull : 64 ≤ fcpQueued s) {b1 : W64} (h : b1.getLsbD 0 = false) (b0 : W64) (b2 : Option W64) :
    acceptNaming s true b0 b1 b2 = fcpLost s := by
  have hb : b1.toNat.testBit 0 = false := h
  unfold acceptNaming
  simp [hfull, hb]

/-- The loss is reported. -/
theorem reported_fcpLost (s : State) : Reported (fcpLost s) 0x0C 0 .note s.tb.count :=
  note_mem_inbox { s with pcx := { s.pcx with fcpLost := satInc 0xFFFF s.pcx.fcpLost }.seen 1 } 0x0C 0 none

/-! ## The commands -/

theorem exec_submitPp {s : State} (h : s.pins.ready = true) (b0 b1 : W64) (b2 : Option W64) :
    exec (.submitPp b0 b1 b2) s = .next (acceptNaming s true b0 b1 b2) := congrArg Host.Outcome.next (if_pos h)
theorem exec_submitCb {s : State} (h : s.pins.ready = true) (b0 b1 : W64) (b2 : Option W64) :
    exec (.submitCb b0 b1 b2) s = .next (acceptNaming s true b0 b1 b2) := congrArg Host.Outcome.next (if_pos h)
theorem exec_step {s : State} (h : s.pins.ready = true) (b0 b1 : W64) :
    exec (.step b0 b1) s = .next (acceptNaming s false b0 b1 none) := congrArg Host.Outcome.next (if_pos h)
theorem exec_naming_low {s : State} (h : s.pins.ready = false) (b0 b1 : W64) (b2 : Option W64) :
    exec (.submitPp b0 b1 b2) s = .next s ∧ exec (.submitCb b0 b1 b2) s = .next s ∧ exec (.step b0 b1) s = .next s := by
  have hlow : ¬ready s = true := by simp [ready, h]
  exact ⟨congrArg Host.Outcome.next (if_neg hlow), congrArg Host.Outcome.next (if_neg hlow), congrArg Host.Outcome.next (if_neg hlow)⟩

/-- What `offPort` keeps, part by part. -/
theorem offPort_eq_iff (s t : State) : offPort t = offPort s ↔
    t.zones = s.zones ∧ t.msf = s.msf ∧ t.pins = s.pins ∧ t.tb.count = s.tb.count ∧ t.caps = s.caps := by
  simp only [offPort, Prod.mk.injEq]

/-- Settles O36: a submission and a STEP by what an accepted record leaves, a full queue by the loss, and READY low by nothing. -/
theorem forecastPortNamingRecords : Obligations.ForecastPortNamingRecords := by
  unfold Obligations.ForecastPortNamingRecords
  refine ⟨?pp, ?cb, ?step, fun b0 b1 s hr hp hfull hm => ?lostPp, fun b0 b1 s hr hp hfull hm => ?lostCb,
    fun b0 b1 b2 s hr => exec_naming_low hr b0 b1 b2⟩
  case pp =>
    rintro b0 b1 b2 _ _ _ _ _ s rfl rfl rfl rfl rfl hr hroom hp
    exact ⟨_, _, _, exec_submitPp hr b0 b1 b2, acceptNaming_recs hroom hp true b1 b2, rfl, rfl, rfl, rfl, rfl, rfl, rfl,
      acceptNaming_claims_from hroom b0 b1 b2, fun hg hlen => acceptNaming_claim_made hroom hg hlen b1 b2,
      fun hm => acceptNaming_no_mark hroom hp hm b2, (offPort_eq_iff _ _).1 (acceptNaming_offPort hroom true b0 b1 b2)⟩
  case cb =>
    rintro b0 b1 b2 _ _ _ _ _ s rfl rfl rfl rfl rfl hr hroom hp
    exact ⟨_, _, _, exec_submitCb hr b0 b1 b2, acceptNaming_recs hroom hp true b1 b2, rfl, rfl, rfl, rfl, rfl, rfl, rfl,
      acceptNaming_claims_from hroom b0 b1 b2, fun hg hlen => acceptNaming_claim_made hroom hg hlen b1 b2,
      fun hm => acceptNaming_no_mark hroom hp hm b2, (offPort_eq_iff _ _).1 (acceptNaming_offPort hroom true b0 b1 b2)⟩
  case step =>
    rintro b0 b1 _ _ _ _ _ s rfl rfl rfl rfl rfl hr hroom hp
    refine ⟨_, _, _, exec_step hr b0 b1, acceptNaming_recs hroom hp false b1 none, rfl, rfl, rfl, rfl, rfl, rfl, rfl,
      fun hrep hl hm => acceptNaming_step_marks hroom hp hrep hl hm, fun h => ?_,
      (offPort_eq_iff _ _).1 (acceptNaming_offPort hroom false b0 b1 none)⟩
    obtain ⟨hmarks, y, hy, hcode, -, hcls, hstamp⟩ := acceptNaming_step_ignored hroom hp h
    exact ⟨hmarks, y, hy, hcode, hcls, hstamp⟩
  case lostPp =>
    obtain ⟨y, hy, hcode, -, hcls, hstamp⟩ := reported_fcpLost s
    exact ⟨_, (exec_submitPp hr b0 b1 none).trans (congrArg _ (acceptNaming_full hfull hm b0 none)), rfl, rfl, rfl, y, hy, hcode, hcls, hstamp⟩
  case lostCb =>
    obtain ⟨y, hy, hcode, -, hcls, hstamp⟩ := reported_fcpLost s
    exact ⟨_, (exec_submitCb hr b0 b1 none).trans (congrArg _ (acceptNaming_full hfull hm b0 none)), rfl, rfl, rfl, y, hy, hcode, hcls, hstamp⟩

end Sys2Proof.Machine
end

section
/-!
Writes of the caps and of the collective groups, proposals and boundaries of a group, and reads of the energy counters. The statement O42.
-/
namespace Sys2Proof.Machine

/-! ## Fields of a word written -/

theorem fld_zero_sixteen (w : W32) : fld w 0 16 = w.toNat % 2 ^ 16 := by simp [fld, bitsOf]
theorem fld_sixteen_sixteen (w : W32) : fld w 16 16 = w.toNat / 2 ^ 16 :=
  Nat.mod_eq_of_lt (Nat.div_lt_of_lt_mul (by simpa using w.isLt))
theorem fld_bit (w : W32) (i : Nat) : decide (fld w i 1 = 1) = w.getLsbD i := (Nat.testBit_eq_decide_div_mod_eq ..).symm
theorem ofNat_fld_zero_sixteen (w : W32) : BitVec.ofNat 16 (fld w 0 16) = w.setWidth 16 :=
  BitVec.eq_of_toNat_eq (by simp [fld_zero_sixteen])

/-! ## CAP_SW (R304, R305) -/

theorem exec_capSwWrite {s : State} (ha : alive s = true) (hr : s.su.readyEver = true) (w : W32) :
    exec (.capSwWrite w) s = .next (setCapSw s (some (w.toNat % 2 ^ 16)) (some (w.toNat / 2 ^ 16))) := by
  refine (if_pos (by simp [ha, sinceReady, hr])).trans ?_
  rw [fld_zero_sixteen, fld_sixteen_sixteen]
/-- A write of both caps saturates them, and leaves what is in force. -/
theorem setCapSw_eq (s : State) (p e : Nat) : ∃ g a b, setCapSw s (some p) (some e) = { s with snag := g, caps := { s.caps with
    swPowerIn := a, swEnergyIn := b, swPower := capSet s.caps.cfg p, swEnergy := capSet s.caps.cfg e, swAt := some s.tb.count } } := by
  by_cases hsat : (capSaturates s.caps.cfg (some p) || capSaturates s.caps.cfg (some e)) = true
  · exact ⟨(note s 0x01 0).snag, _, _, by unfold setCapSw; simp only [if_pos hsat]; rfl⟩
  · exact ⟨s.snag, _, _, by unfold setCapSw; simp only [if_neg hsat]; rfl⟩
theorem capSet_bounds {c : CapCfg} (h : c.floor ≤ c.ceil) (x : Nat) :
    c.floor ≤ capSet c x ∧ capSet c x ≤ c.ceil ∧ (c.floor ≤ x → x ≤ c.ceil → capSet c x = x) := by
  unfold capSet clampN
  split
  · omega
  · split <;> omega

/-! ## Writes of a group (R322) -/

section
variable {s : State} {g : Nat} (ha : alive s = true) (hr : s.su.readyEver = true) (hg : g < 16)
include ha hr hg

/-- A write that puts no partition into a second enabled group waits for the group's boundary. -/
theorem exec_capGroupWrite {w : W32} (h : w.getLsbD 31 = false ∨ ∀ h < 16, h ≠ g → (s.caps.groups.getD h {}).claims (w.setWidth 16) = false) :
    exec (.capGroupWrite g w) s = .next { s with caps := { s.caps with groups := s.caps.groups.modify g fun x =>
      { (if atGroup x.gbLen s.tb.count then x.due s.tb.count else x) with
        newEn := w.getLsbD 31, newLen := w.toNat / 2 ^ 16 % 2 ^ 8, newMembers := w.setWidth 16, newAt := s.tb.count } } } := by
  refine (if_neg (by simp [ha, sinceReady, hr, hg])).trans ?_
  simp only [fld_bit, ofNat_fld_zero_sixteen]
  refine (if_neg fun hc => ?_).trans rfl
  simp only [Bool.and_eq_true, List.any_eq_true, List.mem_range, decide_eq_true_eq] at hc
  obtain ⟨hen, i, hi, hne, hclaims⟩ := hc
  rcases h with h | h
  · exact Bool.false_ne_true (h.symm.trans hen)
  · exact Bool.false_ne_true ((h i hi hne).symm.trans hclaims)
theorem exec_capGroupWrite_refused {w : W32} {h : Nat} (hh : h < 16) (hne : h ≠ g) (hen : w.getLsbD 31 = true)
    (hclaims : (s.caps.groups.getD h {}).claims (w.setWidth 16) = true) :
    exec (.capGroupWrite g w) s = .next (note { s with caps := s.caps.seen 6 } 0x3A 0) := by
  refine (if_neg (by simp [ha, sinceReady, hr, hg])).trans ?_
  simp only [fld_bit, ofNat_fld_zero_sixteen]
  refine if_pos ?_
  simp only [Bool.and_eq_true, List.any_eq_true, List.mem_range, decide_eq_true_eq]
  exact ⟨hen, h, hh, hne, hclaims⟩

end

theorem getD_modify_same {α : Type} {l : List α} {i : Nat} (h : i < l.length) (f : α → α) (d : α) :
    (l.modify i f).getD i d = f (l.getD i d) := by
  simp [List.getD_eq_getElem?_getD, h]
theorem getD_modify_other {α : Type} (l : List α) {i j : Nat} (h : j ≠ i) (f : α → α) (d : α) : (l.modify i f).getD j d = l.getD j d := by
  simp [List.getD_eq_getElem?_getD, h.symm]

theorem getD_set_same {α : Type} {l : List α} {i : Nat} (h : i < l.length) (x d : α) : (l.set i x).getD i d = x := by
  simp [List.getD_eq_getElem?_getD, h]

/-! ## Proposals and boundaries of a group (R322 to R324) -/

/-- A proposal moves the proposals of the group only, and is then the latest of its sender. -/
theorem Group.propose_eq (x : Group) (inst code k : Nat) : ∃ ps, x.propose inst code k = { x with props := ps } ∧
    ∃ p, (ps.find? fun p => p.1 = inst) = some p ∧ p.2.1 = code := by
  have hnew : ∃ p, (((inst, code, k) :: x.props).take 128).find? (fun p => p.1 = inst) = some p ∧ p.2.1 = code :=
    ⟨(inst, code, k), by simp, rfl⟩
  unfold propose
  cases hp : x.props.find? fun p => p.1 = inst with
  | none => exact ⟨_, rfl, hnew⟩
  | some p =>
    dsimp only
    split
    · next hc => exact ⟨x.props, rfl, p, hp, hc⟩
    · exact ⟨_, rfl, hnew⟩
/-- The group a proposal with its own GB_LEN leaves: an emergency lowers its code. -/
def Group.heard (x : Group) (i c d : Nat) (e : Bool) : Group :=
  let y := x.propose i c d
  if e then { y with code := min y.code c } else y
theorem Group.heard_code (x : Group) (i c d : Nat) (e : Bool) : (x.heard i c d e).code = if e then min x.code c else x.code := by
  obtain ⟨ps, h, -⟩ := x.propose_eq i c d
  rw [heard, h]
  cases e <;> rfl
theorem Group.heard_en (x : Group) (i c d : Nat) (e : Bool) : (x.heard i c d e).en = x.en := by
  obtain ⟨ps, h, -⟩ := x.propose_eq i c d
  rw [heard, h]
  cases e <;> rfl
theorem Group.heard_latest (x : Group) (i c d : Nat) (e : Bool) :
    ∃ p, ((x.heard i c d e).props.find? fun p => p.1 = i) = some p ∧ p.2.1 = c := by
  obtain ⟨ps, h, hp⟩ := x.propose_eq i c d
  rw [heard, h]
  cases e <;> exact hp

/-- The group a boundary leaves: what waits has taken effect, and pair 0 has set the code. -/
def atBoundary (s : State) (x : Group) : Group :=
  let y := x.due s.tb.count
  { y with code := if y.en then groupCode s y s.tb.count else 15 }

section
variable {s : State} {g : Nat} (hc : s.su.cond = .run) (hg : g < 16)
include hc hg

theorem exec_groupProposalRx (hen : (s.caps.groups.getD g {}).en = true) {gb c : Nat} (hlen : gbLen gb = gbLen (s.caps.groups.getD g {}).gbLen)
    (hcode : c < 16) (i d : Nat) (e : Bool) : exec (.groupProposalRx i g c gb d e) s =
      let t : State := { s with caps := { s.caps with groups := s.caps.groups.modify g fun x => x.heard i c d e } }
      .next (if e && s.cores.run0 && s.su.grid then formLimits t else t) := by
  refine (if_neg (by simpa [running, hc, hg] using hen)).trans ((if_neg (by simpa using hlen)).trans ?_)
  rw [Nat.mod_eq_of_lt hcode]
  rfl
theorem exec_groupProposalRx_other_length (hen : (s.caps.groups.getD g {}).en = true) {gb : Nat}
    (hlen : gbLen gb ≠ gbLen (s.caps.groups.getD g {}).gbLen) (i c d : Nat) (e : Bool) : exec (.groupProposalRx i g c gb d e) s =
      .next (note { s with caps := { s.caps.seen 6 with groups := s.caps.groups.modify g fun x => { x with disable := true } } } 0x3A 0) :=
  (if_neg (by simpa [running, hc, hg] using hen)).trans (if_pos hlen)
/-- At a boundary what waits takes effect, and pair 0 sets the code. -/
theorem exec_groupBoundary (h0 : s.cores.run0 = true) (hb : s.tb.count % (10000 * gbLen (s.caps.groups.getD g {}).gbLen) = 0) :
    exec (.groupBoundary g) s =
      let t : State := { s with caps := { s.caps with groups := s.caps.groups.set g (atBoundary s (s.caps.groups.getD g {})) } }
      .next (if s.su.grid then formLimits t else t) :=
  if_neg (by simpa [running, hc, hg, h0, atGroup, now] using hb)

end

theorem Group.due_disable {x : Group} (h : x.disable = true) (b : Nat) :
    x.due b = { x with en := false, newEn := false, disable := false, props := [], code := 15, emg := false } := if_pos h
theorem Group.due_written {x : Group} {b : Nat} (hd : x.disable = false) (h : x.newAt < b) : x.due b = { x with
    en := x.newEn, gbLen := x.newLen, members := x.newMembers, props := if x.newEn then x.props else [], emg := x.newEn && x.emg } :=
  (if_neg (by simp [hd])).trans (if_neg (Nat.not_le.2 h))
/-- A group code is the lowest of proposals, and at most 15. -/
theorem groupCode_le (s : State) (x : Group) (b : Nat) : groupCode s x b ≤ 15 := by
  unfold groupCode
  refine List.foldlRecOn (motive := (· ≤ 15)) _ _ le_rfl fun m hm i _ => ?_
  split
  · exact hm
  · split
    · exact (min_le_left _ _).trans hm
    · exact hm
theorem atBoundary_written {s : State} {x : Group} (hd : x.disable = false) (h : x.newAt < s.tb.count) : ∃ code ps emg,
    atBoundary s x = { x with en := x.newEn, gbLen := x.newLen, members := x.newMembers, code := code, props := ps, emg := emg } ∧
      code ≤ 15 ∧ (x.newEn = false → code = 15) := by
  rw [atBoundary, Group.due_written hd h]
  refine ⟨_, _, _, rfl, ?_, fun hoff => if_neg (by simp [hoff])⟩
  split
  · exact groupCode_le ..
  · exact le_rfl
theorem atBoundary_disable {s : State} {x : Group} (h : x.disable = true) :
    atBoundary s x = { x with en := false, newEn := false, disable := false, props := [], code := 15, emg := false } := by
  rw [atBoundary, Group.due_disable h]
  rfl
/-- Limit updates, formed or not, leave the groups and all but the zones, the reports and the caps as they are. -/
theorem formLimits_if (b : Bool) (s : State) : ∃ zs n out,
    (if b then formLimits s else s) = { s with zones := zs, snag := n, caps := { s.caps with out := out } } := by
  cases b with
  | false => exact ⟨s.zones, s.snag, s.caps.out, rfl⟩
  | true =>
    obtain ⟨zs, n, out, h, -⟩ := formLimits_eq s
    exact ⟨zs, n, out, h⟩

theorem formLimits_if_groups (b : Bool) (s : State) : (if b then formLimits s else s).caps.groups = s.caps.groups := by
  obtain ⟨zs, n, out, h⟩ := formLimits_if b s
  rw [h]

/-! ## Reads of the energy counters (R326, R327) -/

/-- A queue's counters with the copies its page takes. -/
def QCtr.paged (x : QCtr) (stamp : Nat) : QCtr := { x with
  pageHi := w32 (x.energy.nj / 2 ^ 32), pageStamp := stamp, pageSpill := x.spill.nj }

section
variable {s : State} (ha : alive s = true) (hr : s.su.readyEver = true)
include ha hr

theorem exec_nrgLoRead_inst : exec (.nrgLoRead 0x8100) s =
    .next (rpData { s with nrg := { s.nrg with inst := s.nrg.inst.copy s.nrg.stamp } } (w32 s.nrg.inst.nj)) := by
  show execNrgLoRead 0x8100 s = _
  simp [execNrgLoRead, ha, sinceReady, hr]
theorem exec_nrgLoRead_part {p : Nat} (hp : p < 16) : exec (.nrgLoRead (0x8200 + 8 * p)) s =
    .next (rpData { s with nrg := { s.nrg with parts := s.nrg.parts.modify p fun c => c.copy s.nrg.stamp } } (w32 (s.nrg.parts.getD p {}).nj)) := by
  have hpart : 0x8200 ≤ 0x8200 + 8 * p ∧ 0x8200 + 8 * p < 0x8280 ∧ (0x8200 + 8 * p) % 8 = 0 := by omega
  have hindex : (0x8200 + 8 * p - 0x8200) / 8 = p := by omega
  show execNrgLoRead (0x8200 + 8 * p) s = _
  rw [execNrgLoRead, if_neg (by simp [ha]), if_neg (by simp [sinceReady, hr])]
  dsimp only
  rw [if_neg (by omega), if_neg (by omega), if_neg (by omega), if_pos (by simpa using hpart), hindex]
theorem exec_userWindowEnergyRead {q : Nat} (hq : q < 256) : exec (.userWindowEnergyRead q) s =
    .next (rpData { s with nrg := s.nrg.putQ ((s.nrg.q q).paged s.nrg.stamp) } (w32 (s.nrg.q q).energy.nj)) :=
  (if_neg (by simp [ha])).trans (if_neg (by simp [sinceReady, hr, hq]))

end

/-- A queue's counters carry its number, and read back as they were put. -/
theorem Nrg.q_q (n : Nrg) (q : Nat) : (n.q q).q = q := by
  unfold Nrg.q
  cases h : n.queues.find? fun x => x.q = q with
  | none => rfl
  | some x => simpa using List.find?_some h
theorem Nrg.q_putQ {x : QCtr} {q : Nat} (h : x.q = q) (n : Nrg) : (n.putQ x).q q = x := by
  simp [Nrg.q, putQ, h]

/-- Settles O42: an equation per command; a group after it by the group's own lemmas, and a counter's copies by the read. -/
theorem capWritesGroupsAndEnergyReads : Obligations.CapWritesGroupsAndEnergyReads := by
  unfold Obligations.CapWritesGroupsAndEnergyReads
  refine ⟨fun w s hc hr => ?capSw, fun c x h => capSet_bounds h x, fun g w s hc hr hg hlen h => ?write,
    fun g h w s hc hr hg hh hne hen hclaims => ?refused, fun i g c gb d e s hc hg hlen hen hgb hcode => ?heard,
    fun i g c gb d e s hc hg hlen hen hgb => ?otherLength, fun g s hc hg hlen h0 hb hdis hnew => ?written,
    fun g s hc hg hlen h0 hb hdis => ?disabled, fun s hc hr => exec_nrgLoRead_inst ((alive_iff s).2 hc) hr,
    fun p s hc hr hp => ⟨_, exec_nrgLoRead_part ((alive_iff s).2 hc) hr hp, rfl, rfl, rfl⟩, fun q s hc hr hq => ?page,
    fun q o s hc hr => exec_userWindowWrite_since ((alive_iff s).2 hc) hr q o, fun q o s hr => exec_userWindowWrite_before hr q o⟩
  case capSw =>
    obtain ⟨g, a, b, h⟩ := setCapSw_eq s (w.toNat % 2 ^ 16) (w.toNat / 2 ^ 16)
    exact ⟨_, (exec_capSwWrite ((alive_iff s).2 hc) hr w).trans (congrArg _ h), rfl, rfl, rfl, rfl, rfl⟩
  case write =>
    refine ⟨_, exec_capGroupWrite ((alive_iff s).2 hc) hr hg h, ?_⟩
    dsimp only
    rw [getD_modify_same hlen]
    refine ⟨rfl, rfl, rfl, rfl, fun hb => ?_, fun j hj => getD_modify_other _ hj _ _, rfl⟩
    rw [if_neg (by simpa [atGroup] using hb)]
    exact ⟨rfl, rfl, rfl⟩
  case refused =>
    exact ⟨_, exec_capGroupWrite_refused ((alive_iff s).2 hc) hr hg hh hne hen hclaims, rfl,
      note_mem_inbox { s with caps := s.caps.seen 6 } 0x3A 0 none, rfl⟩
  case heard =>
    refine ⟨_, exec_groupProposalRx hc hg hen hgb hcode i d e, ?_, ?_, ?_, ?_, ?_⟩
    · rw [formLimits_if_groups, getD_modify_same hlen, Group.heard_code]
    · rw [formLimits_if_groups, getD_modify_same hlen]
      exact Group.heard_latest ..
    · rw [formLimits_if_groups, getD_modify_same hlen, Group.heard_en, hen]
    · rintro rfl
      rfl
    · obtain ⟨zs, n, out, hform⟩ := formLimits_if (e && s.cores.run0 && s.su.grid)
        { s with caps := { s.caps with groups := s.caps.groups.modify g fun x => x.heard i c d e } }
      rw [hform]
  case otherLength =>
    refine ⟨_, exec_groupProposalRx_other_length hc hg hen hgb i c d e, ?_, ?_,
      note_mem_inbox { s with caps := { s.caps.seen 6 with groups := s.caps.groups.modify g fun x => { x with disable := true } } } 0x3A 0 none⟩
    all_goals
      rw [note_caps]
      dsimp only
      rw [getD_modify_same hlen]
  case written =>
    obtain ⟨zs, n, out, hform⟩ := formLimits_if s.su.grid
      { s with caps := { s.caps with groups := s.caps.groups.set g (atBoundary s (s.caps.groups.getD g {})) } }
    obtain ⟨code, ps, emg, hgroup, hle, hoff⟩ := atBoundary_written hdis hnew
    refine ⟨_, (exec_groupBoundary hc hg h0 hb).trans (congrArg _ hform), ?_⟩
    dsimp only
    rw [getD_set_same hlen, hgroup]
    exact ⟨rfl, rfl, rfl, hoff, hle, rfl⟩
  case disabled =>
    obtain ⟨zs, n, out, hform⟩ := formLimits_if s.su.grid
      { s with caps := { s.caps with groups := s.caps.groups.set g (atBoundary s (s.caps.groups.getD g {})) } }
    refine ⟨_, (exec_groupBoundary hc hg h0 hb).trans (congrArg _ hform), ?_⟩
    dsimp only
    rw [getD_set_same hlen, atBoundary_disable hdis]
    exact ⟨rfl, rfl, rfl, rfl⟩
  case page =>
    have hput : (s.nrg.putQ ((s.nrg.q q).paged s.nrg.stamp)).q q = (s.nrg.q q).paged s.nrg.stamp :=
      Nrg.q_putQ (x := (s.nrg.q q).paged s.nrg.stamp) (s.nrg.q_q q) _
    exact ⟨_, exec_userWindowEnergyRead ((alive_iff s).2 hc) hr hq, rfl, congrArg QCtr.pageHi hput, congrArg QCtr.pageStamp hput,
      congrArg QCtr.pageSpill hput, (congrArg QCtr.energy hput :), rfl, rfl⟩

end Sys2Proof.Machine
end

section
/-!
What lasts in the flash and in the fuses: over every command the flash keeps its canonical form, and no blown cell or fuse bit is lost
(03 R103, R121). The statements O4 and O6.
-/
namespace Sys2Proof.Machine

/-! ## The log area is written by erases and programs alone (R123, R124) -/

theorem foldl_wf {α : Type} {f : List Host.Cell → α → List Host.Cell} (hf : ∀ m x, Memory.wf m = true → Memory.wf (f m x) = true)
    (l : List α) {m : List Host.Cell} (h : Memory.wf m = true) : Memory.wf (l.foldl f m) = true := by
  induction l generalizing m with
  | nil => exact h
  | cons x xs ih => exact ih (hf m x h)
theorem renew_wf {m : List Host.Cell} (h : Memory.wf m = true) (hd : Header) (r i seq erases : Nat) :
    Memory.wf (renew m hd r i seq erases) = true :=
  flashProgram_wf (flashErase_wf h _) _ _
theorem openNext_wf {m : List Host.Cell} (h : Memory.wf m = true) (hd : Header) (r : Nat) : Memory.wf (openNext m hd r) = true := by
  unfold openNext
  split
  · split
    · exact h
    · exact renew_wf h _ _ _ _ _
  · exact h
theorem append_wf {m : List Host.Cell} (h : Memory.wf m = true) (hd : Header) (r : Nat) (payload : List Nat) :
    Memory.wf (append m hd r payload) = true := by
  unfold append
  dsimp only
  split
  · exact openNext_wf (flashProgram_wf (openNext_wf h _ _) _ _) _ _
  · exact openNext_wf h _ _
theorem clearRegion_wf {m : List Host.Cell} (h : Memory.wf m = true) (hd : Header) (r : Nat) : Memory.wf (clearRegion m hd r) = true :=
  foldl_wf (fun _ _ hx => renew_wf hx _ _ _ _ _) _ h
theorem scannedFlash_wf {s : State} (h : Memory.wf s.nvm.flash = true) (hd : Header) : Memory.wf (scannedFlash s hd) = true := by
  unfold scannedFlash
  split
  · refine foldl_wf (fun m r hm => ?_) _ h
    unfold initRegion
    split
    · exact hm
    · exact renew_wf hm _ _ _ _ _
  · exact h
/-- What a log write or its failure leaves to write next holds the flash of before. -/
theorem nextRecord_flash {s : State} {r : Nat} {payload : List Nat} {done failed : Nvm} (h : nextRecord s = some (r, payload, done, failed)) :
    failed.flash = s.nvm.flash := by
  unfold nextRecord at h
  dsimp only at h
  split at h
  · cases h; rfl
  · cases h; rfl
  · cases h; rfl
  · obtain ⟨f, -, hf⟩ := Option.map_eq_some_iff.1 h
    cases hf; rfl

/-! ## The life-cycle bits (R103) -/

/-- A life-cycle bit by the majority of its three cells. -/
theorem lcMajority_eq (c : BitVec 12) (i : Nat) : lcMajority c i = (c.getLsbD (3 * i) && c.getLsbD (3 * i + 1) ||
    c.getLsbD (3 * i) && c.getLsbD (3 * i + 2) || c.getLsbD (3 * i + 1) && c.getLsbD (3 * i + 2)) := by
  unfold lcMajority
  cases c.getLsbD (3 * i) <;> cases c.getLsbD (3 * i + 1) <;> cases c.getLsbD (3 * i + 2) <;> rfl
/-- The bits read are the four majorities. -/
theorem getLsbD_lcRead (c : BitVec 12) {i : Nat} (hi : i < 4) : (lcRead c).getLsbD i = lcMajority c i := by
  have hbits (b0 b1 b2 b3 : Bool) : ∀ i < 4, (BitVec.ofNat 4 (ofBits ((List.range 4).filter fun i => [b0, b1, b2, b3].getD i false))).getLsbD i =
      [b0, b1, b2, b3].getD i false := by
    cases b0 <;> cases b1 <;> cases b2 <;> cases b3 <;> decide
  have hfilter : (List.range 4).filter (fun i => lcMajority c i) =
      (List.range 4).filter fun i => [lcMajority c 0, lcMajority c 1, lcMajority c 2, lcMajority c 3].getD i false := by
    refine List.filter_congr fun j hj => ?_
    have hj : j < 4 := List.mem_range.1 hj
    interval_cases j <;> rfl
  rw [lcRead, hfilter, hbits _ _ _ _ i hi]
  interval_cases i <;> rfl
/-- The four coded values. -/
theorem lcOf_eq_some_iff (r : BitVec 4) : (lcOf r = some .manufacture ↔ r = 0) ∧ (lcOf r = some .provisioned ↔ r = 1) ∧
    (lcOf r = some .deployed ↔ r = 3) ∧ (lcOf r = some .returned ↔ r = 7) := by
  revert r; decide
/-- More blown cells read as more majority bits. -/
theorem lcRead_mono {c d : BitVec 12} (h : d &&& c = c) : lcRead d &&& lcRead c = lcRead c := by
  have hcell (j : Nat) : (d.getLsbD j && c.getLsbD j) = c.getLsbD j := by rw [← BitVec.getLsbD_and, h]
  refine BitVec.eq_of_getLsbD_eq fun i hi => ?_
  rw [BitVec.getLsbD_and, getLsbD_lcRead d hi, getLsbD_lcRead c hi, lcMajority_eq, lcMajority_eq, ← hcell (3 * i), ← hcell (3 * i + 1),
    ← hcell (3 * i + 2)]
  cases d.getLsbD (3 * i) <;> cases d.getLsbD (3 * i + 1) <;> cases d.getLsbD (3 * i + 2) <;> simp
/-- Of two coded values the one with more bits is the later state. -/
theorem lcCode_mono {q r : BitVec 4} (h : r &&& q = q) : ∀ a ∈ lcOf q, ∀ b ∈ lcOf r, lcCode a ≤ lcCode b := by
  intro a ha b hb
  have hq := lcOf_eq_some_iff q
  have hr := lcOf_eq_some_iff r
  rw [Option.mem_def] at ha hb
  cases a <;> cases b <;> simp_all [lcCode]
/-- A blow of a life-cycle bit loses no blown cell. -/
theorem lcBlow_keeps (c : BitVec 12) (i : Nat) : lcBlow c i &&& c = c := by
  refine BitVec.eq_of_getLsbD_eq fun j hj => ?_
  cases h : c.getLsbD j <;> simp [lcBlow, h]
/-- A flag blows cells and loses none (R106). -/
theorem lcBlowTo_keeps (c : BitVec 12) (i : Nat) : lcBlowTo c i &&& c = c := by
  unfold lcBlowTo
  split
  · calc lcBlow (lcBlow c 1) 2 &&& c = lcBlow (lcBlow c 1) 2 &&& (lcBlow c 1 &&& c) := by rw [lcBlow_keeps c 1]
      _ = (lcBlow (lcBlow c 1) 2 &&& lcBlow c 1) &&& c := (BitVec.and_assoc ..).symm
      _ = c := by rw [lcBlow_keeps, lcBlow_keeps]
  · exact lcBlow_keeps c i
/-- A programmed word keeps every bit the array had. -/
theorem fuseOr_keeps (ws : List (Nat × BitVec 128)) (a : Nat) (d : BitVec 128) :
    ∀ x ∈ ws, ∃ y ∈ fuseOr ws a d, y.1 = x.1 ∧ y.2 &&& x.2 = x.2 := by
  intro x hx
  unfold fuseOr
  split
  · refine ⟨_, List.mem_map_of_mem hx, ?_⟩
    split
    · next h =>
      refine ⟨h.symm, BitVec.eq_of_getLsbD_eq fun j hj => ?_⟩
      cases hb : x.2.getLsbD j <;> simp [hb]
    · exact ⟨rfl, BitVec.and_self⟩
  · exact ⟨x, List.mem_cons_of_mem _ hx, rfl, BitVec.and_self⟩

/-! ## What lasts over a command -/

/-- The flash keeps its canonical form, and no cell and no bit of a fuse word that was blown is lost (R103, R121). -/
structure Lasts (k k' : Kept) : Prop where
  /-- the flash is in its form if it was -/
  flash : Memory.wf k.flash = true → Memory.wf k'.flash = true
  /-- blown cells stay blown -/
  cells : k'.lcCells &&& k.lcCells = k.lcCells
  /-- blown bits stay blown -/
  words : ∀ x ∈ k.words, ∃ y ∈ k'.words, y.1 = x.1 ∧ y.2 &&& x.2 = x.2

namespace Lasts
/-- Where none of the three moves. -/
theorem of_same {k k' : Kept} (hf : k'.flash = k.flash) (hc : k'.lcCells = k.lcCells) (hw : k'.words = k.words) : Lasts k k' where
  flash h := hf ▸ h
  cells := by rw [hc]; exact BitVec.and_self
  words x hx := ⟨x, hw ▸ hx, rfl, BitVec.and_self⟩
theorem refl (k : Kept) : Lasts k k := of_same rfl rfl rfl
theorem of_eq {k k' : Kept} (h : k' = k) : Lasts k k' := h ▸ refl k
/-- Where the flash bytes alone move. -/
theorem of_flash {k k' : Kept} (hf : Memory.wf k.flash = true → Memory.wf k'.flash = true) (hc : k'.lcCells = k.lcCells)
    (hw : k'.words = k.words) : Lasts k k' :=
  { of_same (k := { k with flash := [] }) (k' := { k' with flash := [] }) rfl hc hw with flash := hf }
theorem trans {a b c : Kept} (h : Lasts a b) (h' : Lasts b c) : Lasts a c where
  flash hf := h'.flash (h.flash hf)
  cells := by rw [← h.cells, ← BitVec.and_assoc, h'.cells]
  words x hx := by
    obtain ⟨y, hy, hyx, hyb⟩ := h.words x hx
    obtain ⟨w, hw, hwy, hwb⟩ := h'.words y hy
    exact ⟨w, hw, hwy.trans hyx, by rw [← hyb, ← BitVec.and_assoc, hwb]⟩
end Lasts

/-- What a command answers lasts. -/
def LastsOut (s : State) (o : Out) : Prop := match o with
  | .next t => Lasts (kept s) (kept t)
  | _ => True
theorem lastsOut_next (s t : State) : LastsOut s (.next t) ↔ Lasts (kept s) (kept t) := Iff.rfl
theorem Stays.lasts {s : State} {o : Out} (h : Stays s o) : LastsOut s o := by
  cases o with
  | next t => exact .of_eq h
  | fault _ => trivial
  | refused _ => trivial
theorem lastsOut_ite {s : State} {c : Prop} [Decidable c] {a b : Out} (ha : c → LastsOut s a) (hb : ¬ c → LastsOut s b) :
    LastsOut s (if c then a else b) := by
  split
  · next h => exact ha h
  · next h => exact hb h
theorem lasts_ite {k : Kept} {c : Prop} [Decidable c] {a b : State} (ha : c → Lasts k (kept a)) (hb : ¬ c → Lasts k (kept b)) :
    Lasts k (kept (if c then a else b)) := by
  split
  · next h => exact ha h
  · next h => exact hb h
theorem LastsOut.outState {s : State} {o : Out} (h : LastsOut s o) : Lasts (kept s) (kept (outState s o)) := by
  cases o with
  | next t => exact h
  | fault _ => exact .refl _
  | refused _ => exact .refl _
theorem lastsOut_tapOn {s : State} {o : Out} (h : LastsOut s o) : LastsOut s (tapOn s o) :=
  lastsOut_ite (fun _ => .refl _) fun _ => h

/-! ## Operations that move one of the parts of `Kept` -/

theorem enterSafe_lasts (s : State) (code : Nat) : Lasts (kept s) (kept (enterSafe s code)) := .of_same rfl rfl rfl
theorem setLog_lasts {s : State} (n : Nvm) (h : Header) {m : List Host.Cell} (hm : Memory.wf s.nvm.flash = true → Memory.wf m = true) :
    Lasts (kept s) (kept (setLog s n h m)) :=
  .of_flash hm rfl rfl
theorem applyFlag_lasts (s : State) (h : Header) : Lasts (kept s) (kept (applyFlag s h)) := by
  unfold applyFlag
  split
  · next i _ => exact { Lasts.refl (kept s) with cells := lcBlowTo_keeps _ i }
  · exact .refl _
theorem logClear_lasts (s : State) (r : Nat) : LastsOut s (logClear s r) := by
  unfold logClear
  refine lastsOut_ite (fun _ => .refl _) fun _ => lastsOut_ite (fun _ => .of_eq (note_kept s _ _ _)) fun _ => ?_
  split
  · exact setLog_lasts _ _ fun hm => clearRegion_wf hm _ _
  · exact .refl _
theorem beginStep7_lasts (s : State) : Lasts (kept s) (kept (beginStep7 s)) := by
  unfold beginStep7
  dsimp only
  split
  · exact (Lasts.of_eq (by simp [kept_mk, kept_eta, kept_rules])).trans (enterSafe_lasts _ _)
  · exact .of_eq (by simp [kept_mk, kept_eta, kept_rules])
theorem readyRise_lasts (s : State) : Lasts (kept s) (kept (readyRise s)) :=
  .of_same (by simp [readyRise, kept_mk, kept_rules]) (by simp [readyRise, kept_mk, kept_rules]) (by simp [readyRise, kept_mk, kept_rules])

/-! ## Raises and recoveries (R402, R404, R409) -/

theorem readyFall_lasts (s : State) : Lasts (kept s) (kept (readyFall s)) := .of_same rfl rfl rfl
theorem actInstSafe_lasts (s : State) : Lasts (kept s) (kept (actInstSafe s)) := by
  refine lasts_ite (fun _ => .refl _) fun _ => ?_
  have hstop := (readyFall_lasts s).trans (.of_eq ((foldl_kept _ zoneToSafe_kept (List.range s.zones.length) _).trans (abandonAll_kept _)))
  exact lasts_ite (fun _ => hstop) fun _ => hstop.trans (.of_same rfl rfl rfl)
theorem actHalt_lasts (s : State) (r : FaultRep) : Lasts (kept s) (kept (actHalt s r)) := by
  have htaken : Lasts (kept s) (kept (takeCritical s r)) := .of_eq (takeCritical_kept s r)
  refine htaken.trans (lasts_ite (fun _ => .refl _) fun _ => ?_)
  rw [takeSnapshot_kept]
  exact (Lasts.of_eq (abandonAll_kept _)).trans (.of_same rfl rfl rfl)
theorem act_lasts (s : State) (r : FaultRep) (first : Bool) : Lasts (kept s) (kept (act s r first)) := by
  refine (Lasts.of_eq (actTile_kept s r)).trans ?_
  rw [act_eq]
  cases r.cls with
  | note => exact .refl _
  | degrade => exact .refl _
  | zoneSafe => exact .of_eq (actZoneSafe_kept _ _ _)
  | instSafe => exact actInstSafe_lasts _
  | halt => exact actHalt_lasts _ _
theorem raise_lasts (s : State) (r : FaultRep) : Lasts (kept s) (kept (raise s r)) := by
  have hheld : Lasts (kept s) (kept (holdPair s r)) := by rw [holdPair_kept]; exact .of_same rfl rfl rfl
  exact hheld.trans (act_lasts _ _ _)
theorem decideReport_lasts (s : State) (r : FaultRep) : Lasts (kept s) (kept (decideReport s r)) := by
  unfold decideReport
  extract_lets n0 s0 held
  have hraise : Lasts (kept s) (kept (raise s0 r)) := raise_lasts s0 r
  refine lasts_ite (fun _ => .of_eq (takeNote_kept s0 r)) fun _ => ?_
  split
  · refine lasts_ite (fun _ => hraise) fun _ => ?_
    rw [ramLog_kept]
    exact .of_same rfl rfl rfl
  · exact hraise
theorem recoverPair_lasts (s : State) (h : Held) : Lasts (kept s) (kept (recoverPair s h)) := by
  simp only [recoverPair, apply_ite kept, releaseZones_kept, logBoth_kept, ite_self]
  exact .of_same rfl rfl rfl

/-! ## The register port and the commands that move one of the parts of `Kept` -/

theorem writeCmd_lasts (s : State) (o : Nat) (w : W32) : Lasts (kept s) (kept (writeCmd s o w)) := by
  have hstep (x : State) (d : Bool) (r : Nat) : Lasts (kept x) (kept (if d then outState x (logClear x r) else x)) :=
    lasts_ite (fun _ => (logClear_lasts x r).outState) fun _ => .refl _
  by_cases ho : o = 0x70014
  · subst ho
    exact lasts_ite (fun _ => .of_eq (note_kept _ _ _ _)) fun _ => ((hstep s _ 1).trans (hstep _ _ 2)).trans (hstep _ _ 3)
  · refine .of_eq ?_
    simp [writeCmd, ho, apply_ite kept, outState_kept, kept_mk, kept_eta, kept_rules]
theorem writeOccupied_lasts (s : State) (o : Nat) (w : W32) : Lasts (kept s) (kept (writeOccupied s o w)) := by
  cases h : writeField s o w with
  | some t => rw [writeOccupied_field h]; exact .of_eq (writeField_kept h)
  | none =>
    simp only [writeOccupied, h]
    iterate 8 refine lasts_ite (fun _ => .of_eq (by simp [outState_kept])) fun _ => ?_
    split
    · exact .of_eq (by simp [outState_kept])
    · exact .of_eq (by simp)
    · exact .of_eq (by simp [outState_kept])
    · exact writeCmd_lasts s o w
theorem regWrite_lasts (s : State) (o : Nat) (w : W32) : Lasts (kept s) (kept (regWrite s o w)) :=
  lasts_ite (fun _ => .refl _) fun _ => lasts_ite (fun _ => .of_eq (by simp [apply_ite kept])) fun _ => writeOccupied_lasts s o w
theorem execRpAccess_lasts (write space : Bool) (addr data : W32) (s : State) : LastsOut s (execRpAccess write space addr data s) := by
  refine lastsOut_tapOn (lastsOut_ite (fun _ => ?_) fun _ => .of_eq (tapSelect_kept s _ _))
  exact (Lasts.of_eq (tapSelect_kept s 0x10 true)).trans <|
    lasts_ite (fun _ => .of_eq (by simp [apply_ite kept, outState_kept])) fun _ =>
      lasts_ite (fun _ => regWrite_lasts _ _ _) fun _ => .of_eq (regRead_kept _ _)
theorem execPowerOnResetRelease_lasts (cascId : Nat) (cascMaster : Bool) (s : State) :
    LastsOut s (execPowerOnResetRelease cascId cascMaster s) := by
  refine lastsOut_ite (fun _ => .refl _) fun _ => ?_
  split
  · exact .of_same rfl rfl rfl
  · exact .of_same rfl rfl rfl
theorem execFuseLoadDone_lasts (r : FuseRead) (s : State) : LastsOut s (execFuseLoadDone r s) :=
  lastsOut_ite (fun _ => .refl _) fun _ => lasts_ite (fun _ => .of_same rfl rfl rfl) fun _ =>
    lasts_ite (fun _ => .of_same rfl rfl rfl) fun _ => .of_eq (step2Done_kept _)
theorem execTimebaseLock_lasts (locked : Bool) (s : State) : LastsOut s (execTimebaseLock locked s) :=
  lastsOut_ite (fun _ => .refl _) fun _ => lastsOut_ite (fun _ => enterSafe_lasts s _) fun _ => by
    rw [lastsOut_next, step2Done_kept]; exact .of_same rfl rfl rfl
theorem execFlashDiscoveryDone_lasts (d : Discovery) (s : State) : LastsOut s (execFlashDiscoveryDone d s) := by
  refine lastsOut_ite (fun _ => .refl _) fun _ => lastsOut_ite (fun _ => enterSafe_lasts s _) fun _ => ?_
  refine lastsOut_ite (fun _ => .of_same rfl rfl rfl) fun _ => lastsOut_ite (fun _ => .of_same rfl rfl rfl) fun _ => ?_
  rw [lastsOut_next, toStep_kept]
  exact lasts_ite (fun _ => .of_same rfl rfl rfl) fun _ => .of_same rfl rfl rfl
theorem execImageCheckDone_lasts (s : State) : LastsOut s (execImageCheckDone s) := by
  unfold execImageCheckDone
  split
  · next h _ =>
    refine lastsOut_ite (fun _ => .refl _) fun _ => lastsOut_ite (fun _ => ?_) fun _ => ?_
    · exact (applyFlag_lasts s h).trans (.of_eq (by simp))
    · refine .trans ?_ (enterSafe_lasts _ _)
      exact lasts_ite (fun _ => .of_same rfl rfl rfl) fun _ => .refl _
  · exact .refl _
theorem execLogScanDone_lasts (ok : Bool) (s : State) : LastsOut s (execLogScanDone ok s) := by
  refine lastsOut_ite (fun _ => .refl _) fun _ => ?_
  split
  · next h _ =>
    have hscan (n : Nvm) (hn : n.flash = scannedFlash s h) : Lasts (kept s) (kept { s with nvm := n }) :=
      .of_flash (fun hm => (congrArg Memory.wf hn).trans (scannedFlash_wf hm h)) rfl rfl
    refine .trans ?_ (.of_eq (toStep_kept _ _ _))
    simp only [apply_ite kept, note_kept, ite_self, takeHistory_kept]
    exact hscan _ rfl
  · exact .of_eq (by simp)
theorem execMsfSettleEnd_lasts (s : State) : LastsOut s (execMsfSettleEnd s) := by
  refine lastsOut_ite (fun _ => .refl _) fun _ => ?_
  rw [lastsOut_next, ← settleEnd_kept s]
  exact lasts_ite (fun _ => beginStep7_lasts _) fun _ => .refl _
theorem execStartupBistClassDone_lasts (r : BistResult) (s : State) : LastsOut s (execStartupBistClassDone r s) := by
  unfold execStartupBistClassDone
  dsimp only
  refine lastsOut_ite (fun _ => lastsOut_ite (fun _ => lastsOut_ite (fun _ => .refl _) fun _ => ?_) fun _ => ?_) fun _ => ?_
  · exact .of_eq (by simp [kept_mk, kept_eta, kept_rules])
  · refine lasts_ite (fun _ => ?_) fun _ => ?_
    · exact (Lasts.of_eq (by simp [classOutcome_kept])).trans (enterSafe_lasts _ _)
    · exact .of_eq (by simp [classOutcome_kept, kept_mk, kept_eta, kept_rules])
  · split
    · exact Stays.lasts (by simp [kept_mk, kept_eta, kept_rules])
    · exact .refl _
theorem execZoneStageDone_lasts (s : State) : LastsOut s (execZoneStageDone s) := by
  refine lastsOut_ite (fun _ => .refl _) fun _ => ?_
  split
  · exact .of_eq (by simp)
  · exact lastsOut_ite (fun _ => readyRise_lasts s) fun _ => .refl _
theorem execSampleInstant_lasts (i : SampleInput) (s : State) : LastsOut s (execSampleInstant i s) := by
  refine lastsOut_ite (fun _ => .refl _) fun _ => ?_
  rw [lastsOut_next, thrSample_kept]
  show Lasts (kept s) (kept (if !s.su.grid then s else sampleFloats i s))
  refine lasts_ite (fun _ => .refl _) fun _ => ?_
  have hready : Lasts (kept s) (kept (readyAgain s)) := lasts_ite (fun _ => .of_same rfl rfl rfl) fun _ => .refl _
  exact hready.trans (.of_eq (by simp [sampleFloats, apply_ite kept]))
theorem execTimeAnswerRx_lasts (t1 t2 t3 t4 : Int) (s : State) : LastsOut s (execTimeAnswerRx t1 t2 t3 t4 s) := by
  refine lastsOut_ite (fun _ => .refl _) fun _ => lastsOut_ite (fun _ => ?_) fun _ => lastsOut_ite (fun _ => .refl _) fun _ => .refl _
  exact lasts_ite (fun _ => by rw [formDone_kept]; exact .of_same rfl rfl rfl) fun _ => .of_same rfl rfl rfl
theorem execFaultReport_lasts (s : State) : LastsOut s (execFaultReport s) := by
  unfold execFaultReport
  split
  · next r rest _ => exact lastsOut_ite (fun _ => decideReport_lasts { s with snag := { s.snag with inbox := rest } } r) fun _ => .refl _
  · exact .refl _
theorem execFaultRecovery_lasts (code unit : Nat) (s : State) : LastsOut s (execFaultRecovery code unit s) := by
  unfold execFaultRecovery
  split
  · next h _ => exact lastsOut_ite (fun _ => recoverPair_lasts s h) fun _ => .refl _
  · exact .refl _
theorem execLogWriteDone_lasts (ok : Bool) (s : State) : LastsOut s (execLogWriteDone ok s) := by
  refine lastsOut_ite (fun _ => .refl _) fun _ => ?_
  split
  · next r payload done failed _ hnext =>
    refine lasts_ite (fun _ => setLog_lasts _ _ fun hm => append_wf hm _ _ _) fun _ => ?_
    exact .of_same (nextRecord_flash hnext) rfl rfl
  · exact .refl _
/-- An erase, a program or a verify completes, or fails and leaves the bytes (R121, R122). -/
theorem execNvmCommandDone_lasts (flashError : Bool) (s : State) : LastsOut s (execNvmCommandDone flashError s) := by
  unfold execNvmCommandDone
  dsimp only
  split
  · exact .of_flash (fun hm => by cases flashError <;> [exact flashErase_wf hm _; exact hm]) rfl rfl
  · exact .of_flash (fun hm => by cases flashError <;> [exact flashProgram_wf hm _ _; exact hm]) rfl rfl
  · exact .of_same (by simp [kept, verifyDone, apply_ite Nvm.flash]) rfl rfl
  · exact .refl _
theorem execStartupStepTimeout_lasts (s : State) : LastsOut s (execStartupStepTimeout s) := by
  refine lastsOut_ite (fun _ => .refl _) fun _ => ?_
  split
  · exact enterSafe_lasts s _
  · exact execLogScanDone_lasts false s
  · exact enterSafe_lasts s _
  · exact lastsOut_ite (fun _ => .refl _) fun _ => .refl _
  · exact lastsOut_ite (fun _ => .refl _) fun _ => .refl _
  · exact lastsOut_ite (fun _ => .refl _) fun _ => enterSafe_lasts s _
  · exact .refl _
theorem execFuseProg_lasts (addr : W32) (data : BitVec 128) (s : State) : LastsOut s (execFuseProg addr data s) :=
  lastsOut_tapOn (lastsOut_ite (fun _ => { Lasts.refl (kept s) with words := fuseOr_keeps _ _ _ }) fun _ => .refl _)
theorem execFuseProvision_lasts (s : State) : LastsOut s (execFuseProvision s) :=
  lastsOut_tapOn (lastsOut_ite (fun _ => lasts_ite (fun _ => { Lasts.refl (kept s) with cells := lcBlow_keeps _ _ }) fun _ => .refl _)
    fun _ => .refl _)

/-! ## O4 and O6 -/

theorem exec_lasts (c : Instr) (s : State) : LastsOut s (exec c s) := by
  cases h : Instr.moves c with
  | false => exact (exec_stays c h s).lasts
  | true =>
    cases c with
    | powerOnResetRelease id m => exact execPowerOnResetRelease_lasts id m s
    | vbiasLoss => exact .of_same rfl rfl rfl
    | resetNFall low => exact lastsOut_ite (fun _ => .refl _) fun _ => .of_same rfl rfl rfl
    | resetNRise => exact lasts_ite (fun _ => .of_same rfl rfl rfl) fun _ => .refl _
    | fuseLoadDone r => exact execFuseLoadDone_lasts r s
    | timebaseLock l => exact execTimebaseLock_lasts l s
    | flashDiscoveryDone d => exact execFlashDiscoveryDone_lasts d s
    | imageCheckDone => exact execImageCheckDone_lasts s
    | logScanDone ok => exact execLogScanDone_lasts ok s
    | msfSettleEnd => exact execMsfSettleEnd_lasts s
    | startupBistClassDone r => exact execStartupBistClassDone_lasts r s
    | zoneStageDone => exact execZoneStageDone_lasts s
    | sampleInstant i => exact execSampleInstant_lasts i s
    | timeAnswerRx t1 t2 t3 t4 => exact execTimeAnswerRx_lasts t1 t2 t3 t4 s
    | faultReport => exact execFaultReport_lasts s
    | faultRecovery code unit => exact execFaultRecovery_lasts code unit s
    | logClearFh => exact logClear_lasts s 1
    | logClearShut => exact logClear_lasts s 2
    | logClearCnt => exact logClear_lasts s 3
    | logWriteDone ok => exact execLogWriteDone_lasts ok s
    | nvmCommandDone e => exact execNvmCommandDone_lasts e s
    | startupStepTimeout => exact execStartupStepTimeout_lasts s
    | registerWrite o w => exact regWrite_lasts s o w
    | rpAccess w sp a d => exact execRpAccess_lasts w sp a d s
    | fuseProg a d => exact execFuseProg_lasts a d s
    | fuseProvision => exact execFuseProvision_lasts s
    | _ => cases h
/-- A step lasts: a tick moves neither flash nor fuse, and a command is carried out on the rest of the queue. -/
theorem step_lasts {s t : State} (h : step s = .next t) : Lasts (kept s) (kept t) := by
  unfold step at h
  split at h
  · cases h
    exact lasts_ite (fun _ => .refl _) fun _ => .of_same rfl rfl rfl
  · next c rest _ =>
    have hout := exec_lasts c { s with pending := rest }
    rw [h, lastsOut_next] at hout
    have hqueue : Lasts (kept s) (kept { s with pending := rest }) := .of_same rfl rfl rfl
    exact hqueue.trans hout

/-- Settles O4: the form is one part of what lasts over a step. -/
theorem flashFormKeptByEveryStep : Obligations.FlashFormKeptByEveryStep := by
  unfold Obligations.FlashFormKeptByEveryStep
  intro s t hwf hstep
  exact (step_lasts hstep).flash hwf

/-! ## The fuse read of step 2 (R103, R107) -/

theorem atStep_of {s : State} {n k : Nat} (hc : s.su.cond = .run) (hn : s.su.stepNo = n) (hk : s.su.sub = k) (hh : s.snag.haltAt = none) :
    atStep s n k = true := by
  simp [atStep, running, halted, hc, hn, hk, hh]
/-- The fuses as a read of step 2 leaves them: the shadow with the fields of the words read (R95, R107). -/
def fusesRead (s : State) (r : FuseRead) : Fuses := { s.fus with
  loaded := true, uncorrectable := fuseBad s.fus.words r, corrected := min 255 (fuseFixed s.fus.words r), lcRaw := lcRead s.fus.lcCells
  shadow := Config.fuseFields (fuseShadow s.fus.words r) }
/-- FUSE_LOAD_DONE in step 2: an uncorrectable word comes before a value that codes no state (R103, R107). -/
theorem exec_fuseLoadDone {s : State} (ha : atStep s 2 0 = true) (hf : s.su.fusesDone = false) (r : FuseRead) :
    exec (.fuseLoadDone r) s = .next (if fuseBad s.fus.words r then enterSafe { s with fus := fusesRead s r } 0x01
      else if lcOf (lcRead s.fus.lcCells) = none then enterSafe { s with fus := fusesRead s r } 0x02
      else step2Done { s with fus := fusesRead s r, su := { s.su with fusesDone := true } }) := by
  show execFuseLoadDone r s = _
  unfold execFuseLoadDone
  rw [if_neg (by simp [ha, hf])]
  simp only [Option.isNone_iff_eq_none]
  rfl

/-- Settles O6: a step loses no blown cell, so the majorities and the coded state only go up. -/
theorem lifeCycleNeverGoesBack : Obligations.LifeCycleNeverGoesBack := by
  unfold Obligations.LifeCycleNeverGoesBack
  refine ⟨fun c i hi => ?majority, lcOf_eq_some_iff, fun r s hc hn hk hh hf hbad hlc => ?uncoded, fun s t hstep => ?step⟩
  case majority => rw [getLsbD_lcRead c hi, lcMajority_eq]
  case uncoded =>
    refine ⟨_, exec_fuseLoadDone (atStep_of hc hn hk hh) hf r, ?_⟩
    rw [if_neg (by simp [hbad]), if_pos hlc]
    exact ⟨rfl, rfl, rfl⟩
  case step =>
    have hlast := step_lasts hstep
    have hread := lcRead_mono hlast.cells
    exact ⟨hlast.cells, hread, lcCode_mono hread, hlast.words⟩

end Sys2Proof.Machine
end

section
/-!
Step 2 and step 5 of a start: the fuse read and the time-base lock, self-calibration and the thermal wait (03 R95 to R100). The statements
O10 and O12.
-/
namespace Sys2Proof.Machine

/-! ## Step 2 (R95, R103, R107) -/

/-- TIMEBASE_LOCK in step 2 (R41, R95). -/
theorem exec_timebaseLock {s : State} (ha : atStep s 2 0 = true) (hl : s.su.lockDone = false) (locked : Bool) :
    exec (.timebaseLock locked) s = .next (if locked then
      step2Done { s with tb := { s.tb with count := 0, running := true, lock := true }, su := { s.su with lockDone := true } }
      else enterSafe s 0x04) := by
  show execTimebaseLock locked s = _
  unfold execTimebaseLock
  rw [if_neg (by simp [ha, hl])]
  cases locked <;> rfl
/-- Step 3 follows once both the fuses and the lock are there; nothing else moves (R95). -/
theorem step2Done_eq (s : State) : step2Done s = { s with su := (step2Done s).su } ∧ (step2Done s).su.cond = s.su.cond ∧
    (step2Done s).su.stepNo = if s.su.fusesDone && s.su.lockDone then 3 else s.su.stepNo := by
  unfold step2Done
  split
  · exact ⟨rfl, rfl, rfl⟩
  · exact ⟨rfl, rfl, rfl⟩

/-- Settles O10: the bits and codes as in O6, the two rows by their equations. -/
theorem lifeCycleReadAtStepTwo : Obligations.LifeCycleReadAtStepTwo := by
  unfold Obligations.LifeCycleReadAtStepTwo
  refine ⟨fun c i hi => ?majority, lcOf_eq_some_iff, fun r s hc hn hk hh hf hbad => ?bad, fun r s hc hn hk hh hf hbad hlc => ?uncoded,
    fun r s hc hn hk hh hf hbad hlc => ?good, fun s hc hn hk hh hl => ?lock, fun s hc hn hk hh hl => ?noLock⟩
  case majority => rw [getLsbD_lcRead c hi, lcMajority_eq]
  case bad =>
    refine ⟨_, exec_fuseLoadDone (atStep_of hc hn hk hh) hf r, ?_⟩
    rw [if_pos hbad]
    exact ⟨rfl, rfl, rfl, rfl, rfl⟩
  case uncoded =>
    refine ⟨_, exec_fuseLoadDone (atStep_of hc hn hk hh) hf r, ?_⟩
    rw [if_neg (by simp [hbad]), if_pos hlc]
    exact ⟨rfl, rfl, rfl, rfl, rfl⟩
  case good =>
    refine ⟨_, exec_fuseLoadDone (atStep_of hc hn hk hh) hf r, ?_⟩
    rw [if_neg (by simp [hbad]), if_neg hlc]
    obtain ⟨heq, hcond, hstep⟩ := step2Done_eq { s with fus := fusesRead s r, su := { s.su with fusesDone := true } }
    rw [heq]
    exact ⟨rfl, rfl, rfl, rfl, hbad, hcond.trans hc, by simpa [hn] using hstep, rfl⟩
  case lock =>
    refine ⟨_, exec_timebaseLock (atStep_of hc hn hk hh) hl true, ?_⟩
    rw [if_pos rfl]
    obtain ⟨heq, hcond, hstep⟩ := step2Done_eq
      { s with tb := { s.tb with count := 0, running := true, lock := true }, su := { s.su with lockDone := true } }
    rw [heq]
    exact ⟨rfl, rfl, rfl, hcond.trans hc, by simpa [hn] using hstep, rfl⟩
  case noLock =>
    refine ⟨_, exec_timebaseLock (atStep_of hc hn hk hh) hl false, ?_⟩
    exact ⟨rfl, rfl, rfl, rfl, rfl⟩

/-! ## Step 5 (R99, R100, R362) -/

/-- Choosing the next slot keeps the factors and whether the converter runs (R361). -/
theorem nextSlot_factors (s : State) (prev : Conv) (start : Nat) : (nextSlot s prev start).run = s.tcv.run ∧
    (nextSlot s prev start).calDone = s.tcv.calDone ∧ (nextSlot s prev start).ofsA = s.tcv.ofsA ∧ (nextSlot s prev start).gainA = s.tcv.gainA ∧
    (nextSlot s prev start).ofsB = s.tcv.ofsB ∧ (nextSlot s prev start).gainB = s.tcv.gainB := by
  unfold nextSlot
  dsimp only
  repeat' split
  all_goals exact ⟨rfl, rfl, rfl, rfl, rfl, rfl⟩
/-- The converter starts with the factors it has stored (R361, R362). -/
theorem tcvStart_eq (s : State) : ∃ v, tcvStart s = { s with tcv := v } ∧ v.run = true ∧ v.calDone = s.tcv.calDone ∧ v.ofsA = s.tcv.ofsA ∧
    v.gainA = s.tcv.gainA ∧ v.ofsB = s.tcv.ofsB ∧ v.gainB = s.tcv.gainB := by
  refine ⟨_, rfl, ?_⟩
  obtain ⟨hrun, hdone, hoA, hgA, hoB, hgB⟩ := nextSlot_factors { s with tcv := { s.tcv with
    run := true, calAt := none, slot := 0, aborted := none, rideB := false, running := false, capture := none
    aAt := some (now s), bAt := some (now s) } } { ch := 17, method := 3 } (now s)
  exact ⟨hrun, hdone, hoA, hgA, hoB, hgB⟩
/-- TCV_SELF_CAL_DONE in step 5, with the thermal wait still to decide (R99, R362). -/
theorem exec_tcvSelfCalDone {s : State} {c0 : Nat} (ha : atStep s 5 0 = true) (hcal : s.tcv.calAt = some c0) (hdue : c0 + 19200000 ≤ s.tb.count)
    (hr : s.su.readyEver = false) (hw : s.su.waitThermal = false) (a b : CalSpans) : exec (.tcvSelfCalDone a b) s = .next
      (if calOk (calOf s.tcv.calChop a) && calOk (calOf s.tcv.calChop b) then
        thermalGate (tcvStart { s with tcv := storeCal s.tcv (calOf s.tcv.calChop a) (calOf s.tcv.calChop b) })
      else report { s with tcv := { s.tcv with calAt := none } } 0x49 0 .instSafe) := by
  have halive : alive s = true := alive_of_run (atStep_run ha)
  have hdue : ¬ now s < c0 + 19200000 := Nat.not_lt.2 hdue
  show execTcvSelfCalDone a b s = _
  simp only [execTcvSelfCalDone, hcal]
  rw [if_neg (by simp [halive, hdue]), if_neg (by simp [sinceReady, hr]), if_neg (by simp [ha, hw])]
  exact (apply_ite Host.Outcome.next _ _ _).symm
/-- With no CRITICAL shutdown on record the thermal gate is open (R99). -/
theorem thermalGate_open (s : State) (h : s.thm.lastShut = none) : thermalGate s = beginStep6 s := by
  simp [thermalGate, h]
theorem thermalGate_waits (s : State) {r : ShutRecord} (h : s.thm.lastShut = some r) (ht : r.type = 1) :
    thermalGate s = { s with su := { s.su with waitThermal := true, thermalAt := none } } := by
  simp [thermalGate, h, ht]
/-- Step 6 with the module stage's generator locked: the soft start begins (R100). -/
theorem beginStep6_locked (s : State) (hl : s.msf.lock = true) (hs : s.msf.syncLost = false) : beginStep6 s =
    { s with su := { s.su with waitThermal := false, msfGrid := true, stepNo := 6, sub := 0, stepAt := s.tb.count }
             msf := s.msf.softStart s.tb.count } := by
  simp [beginStep6, hl, hs, toStep, now]
/-- Step 6 without the lock: source 0x28 (R186). -/
theorem beginStep6_unlocked (s : State) (hl : s.msf.lock = false) : beginStep6 s =
    report { s with su := { s.su with waitThermal := false, msfGrid := true, stepNo := 6, sub := 0, stepAt := s.tb.count } } 0x28 0 .instSafe := by
  simp [beginStep6, hl, toStep, now]
/-- THERMAL_RESTART_CHECK where one is due (R99, R100). -/
theorem exec_thermalRestartCheck {s : State} {r : ShutRecord} (ha : atStep s 5 0 = true) (hw : s.su.waitThermal = true)
    (hdue : s.su.thermalAt.all (fun c => decide (c + 10000000 ≤ s.tb.count)) = true) (hlast : s.thm.lastShut = some r) :
    exec .thermalRestartCheck s = .next (if (restartTz s r).1 < 8 * s.thm.cfg.tRestart then
        beginStep6 (logOther s (.shut (clearRecord s r (restartTz s r))))
      else { s with su := { s.su with thermalAt := some s.tb.count } }) := by
  show execThermalRestartCheck s = _
  unfold execThermalRestartCheck
  cases h : s.su.thermalAt with
  | none =>
    simp only [hlast]
    rw [if_neg (by simp [ha, hw])]
    exact (apply_ite Host.Outcome.next _ _ _).symm
  | some c =>
    have hdue : c + 10000000 ≤ now s := of_decide_eq_true ((Option.all_eq_true _ _).1 hdue c h)
    simp only [hlast]
    rw [if_neg (by simp [ha, hw, hdue])]
    exact (apply_ite Host.Outcome.next _ _ _).symm

/-- Settles O12: each row by its equation, and the gate of the thermal wait. -/
theorem stepFiveSelfCalibrationAndThermalWait : Obligations.StepFiveSelfCalibrationAndThermalWait := by
  unfold Obligations.StepFiveSelfCalibrationAndThermalWait
  refine ⟨fun a b c0 s hc hn hk hh hcal hdue hr hw hA hB hlast hlock hsync => ?soft,
    fun a b c0 s hc hn hk hh hcal hdue hr hw hA hB hlast hlock => ?unlocked,
    fun a b c0 r s hc hn hk hh hcal hdue hr hw hA hB hlast htype => ?waits,
    fun a b c0 s hc hn hk hh hcal hdue hr hw hbad => ?outside,
    fun r s hc hn hk hh hw hat hlast hcool hlock hsync => ?cool, fun r s hc hn hk hh hw hat hlast hhot => ?hot,
    fun chop x => rfl, fun z c hpos => ?factors⟩
  case soft =>
    refine ⟨_, exec_tcvSelfCalDone (atStep_of hc hn hk hh) hcal hdue hr hw a b, ?_⟩
    obtain ⟨v, hv, hrun, hdone, hoA, hgA, hoB, hgB⟩ :=
      tcvStart_eq { s with tcv := storeCal s.tcv (calOf s.tcv.calChop a) (calOf s.tcv.calChop b) }
    rw [if_pos (by simp [hA, hB]), hv, thermalGate_open { s with tcv := v } hlast,
      beginStep6_locked { s with tcv := v } hlock hsync]
    exact ⟨rfl, hc, rfl, rfl, hdone, hoA, hgA, hoB, hgB, hrun, rfl⟩
  case unlocked =>
    refine ⟨_, exec_tcvSelfCalDone (atStep_of hc hn hk hh) hcal hdue hr hw a b, ?_⟩
    obtain ⟨v, hv, -, hdone, -⟩ := tcvStart_eq { s with tcv := storeCal s.tcv (calOf s.tcv.calChop a) (calOf s.tcv.calChop b) }
    rw [if_pos (by simp [hA, hB]), hv, thermalGate_open { s with tcv := v } hlast,
      beginStep6_unlocked { s with tcv := v } hlock]
    exact ⟨rfl, rfl, hdone, report_mem_inbox _ _ _ _ _ _ _⟩
  case waits =>
    refine ⟨_, exec_tcvSelfCalDone (atStep_of hc hn hk hh) hcal hdue hr hw a b, ?_⟩
    obtain ⟨v, hv, -, hdone, -⟩ := tcvStart_eq { s with tcv := storeCal s.tcv (calOf s.tcv.calChop a) (calOf s.tcv.calChop b) }
    rw [if_pos (by simp [hA, hB]), hv, thermalGate_waits { s with tcv := v } hlast htype]
    exact ⟨hn, rfl, hdone, rfl, rfl⟩
  case outside =>
    refine ⟨_, exec_tcvSelfCalDone (atStep_of hc hn hk hh) hcal hdue hr hw a b, ?_⟩
    rw [if_neg (by simp [hbad])]
    exact ⟨rfl, rfl, rfl, report_mem_inbox _ _ _ _ _ _ _, rfl⟩
  case cool =>
    refine ⟨_, exec_thermalRestartCheck (atStep_of hc hn hk hh) hw (by simp [hat]) hlast, ?_⟩
    have hlog := (logOther_logsOnly s (.shut (clearRecord s r (restartTz s r)))).frame
    have hmsf := congrArg State.msf hlog
    rw [if_pos hcool, beginStep6_locked (logOther s _) ((congrArg Msf.lock hmsf).trans hlock) ((congrArg Msf.syncLost hmsf).trans hsync)]
    exact ⟨rfl, rfl, rfl, (congrArg State.tb hlog :), (congrArg State.tcv hlog :)⟩
  case hot => rw [exec_thermalRestartCheck (atStep_of hc hn hk hh) hw hat hlast, if_neg (by omega)]
  case factors =>
    unfold calFactors
    dsimp only
    rw [if_neg (by omega), if_neg (by omega)]

end Sys2Proof.Machine
end

section
/-!
Steps 6 and 7 of a start: the module stage settles, the BIST classes follow one another, and the instances form (03 R95, 06 R197, R206,
14 R392, 16 R421, R422). The statement O13.
-/
namespace Sys2Proof.Machine

/-- A fold of an operation that keeps a view of the state keeps it. -/
theorem foldl_keeps {α β : Type} {g : State → β} {f : State → α → State} (h : ∀ s x, g (f s x) = g s) (l : List α) (s : State) :
    g (l.foldl f s) = g s := by
  induction l generalizing s with
  | nil => rfl
  | cons x xs ih => rw [List.foldl_cons, ih, h]

/-! ## What the thermal evaluation moves: the thermal state and the Snag unit alone (R338, R345) -/

/-- The state less the thermal part and the Snag unit. -/
def offThermal (s : State) : State := { s with thm := State.reset.thm, snag := State.reset.snag }
theorem eq_of_offThermal {s t : State} (h : offThermal t = offThermal s) : { t with thm := s.thm, snag := s.snag } = s :=
  (congrArg (fun x : State => { x with thm := s.thm, snag := s.snag }) h :)
theorem assertCond_offThermal (s : State) (code unit : Nat) (cls : Cls) (l : Bool) (c : Option CritRep) :
    offThermal (assertCond s code unit cls l c) = offThermal s := by
  obtain ⟨n, hn⟩ := assertCond_eq s code unit cls l c
  rw [hn]; rfl
theorem setCond_offThermal (s : State) (b : Bool) (code unit : Nat) (cls : Cls) : offThermal (setCond s b code unit cls) = offThermal s := by
  obtain ⟨n, hn⟩ := setCond_eq s b code unit cls
  rw [hn]; rfl
theorem thmLookZone_offThermal (s : State) (z : Nat) : offThermal (thmLookZone s z) = offThermal s := by
  unfold thmLookZone
  have hseen (x : State) (l : List Nat) : offThermal (l.foldl (fun s _ => note (thmSeen s 1) 0x41 z) x) = offThermal x :=
    foldl_keeps (g := offThermal) (f := fun s _ => note (thmSeen s 1) 0x41 z) (fun _ _ => rfl) l x
  dsimp only
  split
  · exact keeps_ite (f := offThermal) rfl
  · rw [setCond_offThermal, hseen]
    exact keeps_ite (f := offThermal) rfl
theorem thmLook_offThermal (s : State) : offThermal (thmLook s) = offThermal s := foldl_keeps thmLookZone_offThermal _ _
theorem evalBand_offThermal (s : State) (z : Nat) : offThermal (evalBand s z) = offThermal s := keeps_ite (f := offThermal) rfl
theorem evalBands_offThermal (s : State) : offThermal (evalBands s) = offThermal s := by
  have hraise (x : State) (before : List Nat) : offThermal (raiseBands x before) = offThermal x :=
    foldl_keeps (fun y z => assertCond_offThermal y _ _ _ _ _) _ _
  rw [evalBands, hraise, foldl_keeps evalBand_offThermal, thmLook_offThermal]
theorem firstBands_offThermal (s : State) : offThermal (firstBands s) = offThermal s := evalBands_offThermal _

/-! ## The module stage from SOFT to RUN (R197, R206) -/

theorem refTo_vims (m : Msf) (k : Nat) : (m.refTo k).stAt = m.stAt ∧ (m.refTo k).vimSetIn = m.vimSetIn ∧ (m.refTo k).slewIn = m.slewIn := by
  unfold Msf.refTo; split <;> exact ⟨rfl, rfl, rfl⟩
/-- A new target leaves the stage's state, its instant and the set-points in force (R193). -/
theorem retarget_keeps (m : Msf) (k : Nat) : (m.retarget k).st = m.st ∧ (m.retarget k).stAt = m.stAt ∧ (m.retarget k).vimSetIn = m.vimSetIn ∧
    (m.retarget k).slewIn = m.slewIn :=
  ⟨refTo_st m k, (refTo_vims m k).1, (refTo_vims m k).2.1, (refTo_vims m k).2.2⟩
theorem exec_msfBaseReached {s : State} (hst : s.msf.st = .soft) (hr : s.msf.reached = true) (hc : s.msf.capture = false)
    (hk : s.tb.count % 64 = 0) :
    exec .msfBaseReached s = .next { s with msf := { s.msf.refTo s.tb.count with st := .settle, stAt := s.tb.count } } := by
  have hk : now s % 64 = 0 := hk
  show execMsfBaseReached s = _
  rw [execMsfBaseReached, if_pos (by simp [hst, hr, hc, atSample, hk])]
  rfl
theorem exec_msfSettleEnd {s : State} (hst : s.msf.st = .settle) (hdue : s.msf.stAt + 1000000 ≤ s.tb.count) : exec .msfSettleEnd s =
    .next (if (settleEnd s).msf.st = .run && atStep s 6 0 then beginStep7 (settleEnd s) else settleEnd s) := by
  have hdue : ¬ now s < s.msf.stAt + 1000000 := Nat.not_lt.2 hdue
  show execMsfSettleEnd s = _
  rw [execMsfSettleEnd, if_neg (by simp [hst, hdue])]
/-- Within 2% of vref_q the stage runs with PG_OUT high; only the Snag unit moves with it (R197, R206). -/
theorem settleEnd_within {s : State} (h : withinPc 2 s.msf.vsns s.msf.vrefQ = true) :
    ∃ m n, settleEnd s = { s with msf := m, pins := { s.pins with pgOut := true }, snag := n } ∧ m.st = .run ∧ m.stAt = s.tb.count ∧
      m.vimSetIn = s.msf.vimSet ∧ m.slewIn = s.msf.slew := by
  rw [settleEnd, if_pos h]
  obtain ⟨n, hn⟩ := deassertCond_eq { s with
    msf := { s.msf.refTo (now s) with st := .run, stAt := now s, vimSetIn := s.msf.vimSet, slewIn := s.msf.slew }.retarget (now s)
    pins := { s.pins with pgOut := true } } 0x2B 0
  obtain ⟨hst, hat, hvim, hslew⟩ := retarget_keeps
    { s.msf.refTo (now s) with st := .run, stAt := now s, vimSetIn := s.msf.vimSet, slewIn := s.msf.slew } (now s)
  exact ⟨_, n, hn, hst, hat, hvim, hslew⟩
/-- Outside 2% the stage goes OFF and asserts 0x2A (R197). -/
theorem settleEnd_outside {s : State} (h : withinPc 2 s.msf.vsns s.msf.vrefQ = false) :
    settleEnd s = assertCond { s with msf := s.msf.stopTo .off s.tb.count } 0x2A 0 .instSafe := by
  rw [settleEnd, if_neg (by simp [h])]; rfl
/-- Step 7 begins with the LOGIC class where every zone generator is locked (R28, R422). -/
theorem beginStep7_locked {s : State} (h : (s.zones.all fun zn => zn.syncLock && !zn.syncLost) = true) :
    (beginStep7 s).su = { s.su with grid := true, stepNo := 7, sub := 0, stepAt := s.tb.count } ∧ (beginStep7 s).msf = s.msf ∧
      (beginStep7 s).pins = s.pins ∧ (beginStep7 s).bist = { s.bist with startCls := 0 } := by
  have hnone : ((List.range s.zones.length).find? fun z => !(zoneD s z).syncLock || (zoneD s z).syncLost) = none := by
    refine List.find?_eq_none.2 fun z hz => ?_
    have hzl : z < s.zones.length := List.mem_range.1 hz
    have hlock := List.all_eq_true.1 h s.zones[z] (List.getElem_mem hzl)
    have hzone : zoneD s z = s.zones[z] := by simp [zoneD, List.getD_eq_getElem?_getD, hzl]
    rw [hzone]
    simpa using hlock
  unfold beginStep7
  simp only [hnone]
  obtain ⟨zs, n, out, hlim, -⟩ := formLimits_eq (firstBands (toStep { s with
    su := { s.su with grid := true }, bist := { s.bist with startCls := 0 }, zones := s.zones.map fun zn => { zn with leaseAt := now s } } 7 0))
  rw [hlim]
  have hoff := eq_of_offThermal (firstBands_offThermal (toStep { s with
    su := { s.su with grid := true }, bist := { s.bist with startCls := 0 }, zones := s.zones.map fun zn => { zn with leaseAt := now s } } 7 0))
  exact ⟨(congrArg State.su hoff :), (congrArg State.msf hoff :), (congrArg State.pins hoff :), (congrArg State.bist hoff :)⟩

/-! ## The classes of step 7 (R421, R422) -/

/-- A class of step 7 other than TILE completes: its result is shown, and the start ends or the next class begins (R422). -/
theorem exec_startupBistClassDone {s : State} (hc : s.su.cond = .run) (hn : s.su.stepNo = 7) (hlt : s.bist.startCls < 5)
    (hh : s.snag.haltAt = none) (r : BistResult) : ∃ unit, exec (.startupBistClassDone r) s = .next
      (let x := classOutcome (setResult s r.failed.isEmpty false s.bist.startCls (b2n (!r.failed.isEmpty)) unit) s.bist.startCls r
       if x.2 then enterSafe x.1 0x20
       else { x.1 with bist := { x.1.bist with durs := x.1.bist.durs.set s.bist.startCls r.dur, startCls := s.bist.startCls + 1 } }) := by
  refine ⟨if r.failed.isEmpty then lastUnit s s.bist.startCls else r.failed.headD 0, ?_⟩
  show execStartupBistClassDone r s = _
  have hne : ¬ s.bist.startCls = 5 := by omega
  have hle : s.bist.startCls ≤ 5 := by omega
  unfold execStartupBistClassDone
  simp only [running, halted, hc, hn, hh, hle, hne]
  rfl
/-- A result moves the BIST state alone; FAIL_SEEN is set by a failure and kept else (R422). -/
theorem setResult_eq (s : State) (pass req : Bool) (cls step unit : Nat) : ∃ b, setResult s pass req cls step unit = { s with bist := b } ∧
    b.startCls = s.bist.startCls ∧ b.durs = s.bist.durs ∧ b.failSeen = (s.bist.failSeen || !pass) := by
  unfold setResult
  dsimp only
  repeat' split
  all_goals exact ⟨_, rfl, rfl, rfl, rfl⟩
/-- Of a class without a failure nothing follows, unless both lanes of a seam position were lost before (R422). -/
theorem classOutcome_pass {s : State} {r : BistResult} (hf : r.failed = []) (hl : r.lanes = []) (hs : seamLost s.lth = false) (c : Nat) :
    classOutcome s c r = (s, false) := by
  unfold classOutcome
  split
  · simp [hf, hl, hs]
  · split <;> simp [hf]
/-- A failure of LOGIC, MEM or TCV ends the start (R422). -/
theorem classOutcome_fail {r : BistResult} {c : Nat} (hc : c = 0 ∨ c = 1 ∨ c = 3) (hf : r.failed ≠ []) (s : State) :
    classOutcome s c r = (s, true) := by
  unfold classOutcome
  rw [if_neg (by omega), if_neg (by omega)]
  simp [hf]
/-- The TILE class completes once no tile is in TEST or left to test (R422). -/
theorem exec_startupBistClassDone_tile {s : State} (hc : s.su.cond = .run) (hn : s.su.stepNo = 7) (h5 : s.bist.startCls = 5)
    (hh : s.snag.haltAt = none) (ht : anyTest s = false) (hu : (s.zones.all fun zn => (untested s zn).isEmpty) = true) (r : BistResult) :
    exec (.startupBistClassDone r) s = .next { tileClassEnd s with
      bist := { (tileClassEnd s).bist with durs := (tileClassEnd s).bist.durs.set 5 r.dur, startCls := 16 } } := by
  have hleft : (s.zones.any fun zn => !(untested s zn).isEmpty) = false := by
    rw [List.any_eq_false]
    intro zn hzn
    simpa using List.all_eq_true.1 hu zn hzn
  show execStartupBistClassDone r s = _
  unfold execStartupBistClassDone
  simp only [running, halted, hc, hn, hh, h5, ht, hleft]
  rfl
/-- The end of the TILE class isolates tiles and takes a snapshot (R415, R422). -/
theorem tileClassEnd_frame (s : State) : { tileClassEnd s with zones := s.zones, snag := s.snag, nvm := s.nvm, pmb := s.pmb } = s := by
  have hsnap (x : State) : { takeSnapshot x with zones := s.zones, snag := s.snag, nvm := s.nvm, pmb := s.pmb } =
      { x with zones := s.zones, snag := s.snag, nvm := s.nvm, pmb := s.pmb } :=
    (congrArg (fun y : State => { y with zones := s.zones, snag := s.snag, nvm := s.nvm, pmb := s.pmb }) (takeSnapshot_logsOnly x).frame :)
  unfold tileClassEnd
  dsimp only
  split
  · rfl
  · rw [hsnap]; rfl

/-! ## Formation (R392) -/

theorem exec_startupBistDone {s : State} (hc : s.su.cond = .run) (hn : s.su.stepNo = 7) (h16 : s.bist.startCls = 16)
    (hh : s.snag.haltAt = none) (hf : s.csc.forming = false) (hd : s.csc.formed = false) :
    exec .startupBistDone s = .next (beginForming { s with bist := { s.bist with startCls := 15 } }) :=
  if_pos (by simp [running, halted, hc, hn, h16, hh, hf, hd])
theorem beginForming_single (s : State) (h : s.csc.cfg.ninst ≤ 1) :
    beginForming s = beginStages { s with csc := { s.csc with formed := true } } := by
  rw [beginForming, if_neg (by simpa [isConst] using h)]
theorem beginForming_constellation (s : State) (h : 1 < s.csc.cfg.ninst) : beginForming s =
    { s with csc := { s.csc with forming := true, formAt := s.tb.count, alignRow := 0, aligned := s.csc.isMaster } } := by
  rw [beginForming, if_pos (by simpa [isConst] using h)]; rfl
/-- The end of a formation begins step 8 (R392, R458). -/
theorem formDone_stages {s : State} (hf : s.csc.forming = true) (hn : s.su.stepNo = 7) : (formDone s).csc.formed = true ∧
    (formDone s).csc.forming = false ∧ (formDone s).su.stepNo = 8 ∧ (formDone s).su.stageAt = s.tb.count := by
  have htb (l : List Nat) : (l.foldl (fun s i => assertCond (modPeer s i fun p => { p with lost := true }) 0x59 i .degrade) s).tb = s.tb := by
    refine foldl_keeps (g := State.tb) (fun x i => ?_) l s
    obtain ⟨n, hn⟩ := assertCond_eq (modPeer x i fun p => { p with lost := true }) 0x59 i .degrade false none
    rw [hn]; rfl
  unfold formDone
  rw [if_neg (by simp [hf, hn])]
  exact ⟨rfl, rfl, rfl, congrArg TimeBase.count (htb _)⟩
/-- FORMATION_TIMEOUT after 1 s of formation (R392). -/
theorem exec_formationTimeout {s : State} (hc : s.su.cond = .run) (hf : s.csc.forming = true) (hdue : s.csc.formAt + 1000000000 ≤ s.tb.count) :
    exec .formationTimeout s = (if s.csc.isMaster then .next (formDone s) else if s.csc.hasMaster then .next s
      else .next (formFail s 3 s.su.cascId)) := by
  have hdue : ¬ now s < s.csc.formAt + 1000000000 := Nat.not_lt.2 hdue
  exact if_neg (by simp [running, hc, hf, hdue])

/-- Settles O13: each row by its equation, and what the operations it calls leave alone. -/
theorem stepsSixAndSeven : Obligations.StepsSixAndSeven := by
  unfold Obligations.StepsSixAndSeven
  refine ⟨fun s hst hr hc hk => exec_msfBaseReached hst hr hc hk, fun s hst hdue hin hn => ?settled,
    fun s hst hdue hin hc hn hk hh hz => ?step7, fun s hst hdue hout hnew => ?off, fun r s hc hn hlt hh hf hl hs => ?pass,
    fun r s hc hn hcls hh hf => ?fail, fun r s hc hn h5 hh ht hu => ?tile, fun s hc hn h16 hh hf hd hone => ?single,
    fun s hc hn h16 hh hf hd hmany => ?constellation, fun s hc hf hdue hn hm => ?master, fun s hc hf hdue hm hno => ?alone⟩
  case settled =>
    refine ⟨_, exec_msfSettleEnd hst hdue, ?_⟩
    obtain ⟨m, n, heq, hrun, hat, hvim, hslew⟩ := settleEnd_within hin
    rw [heq, if_neg (by simp [atStep, hn])]
    exact ⟨hrun, hat, hvim, hslew, rfl, rfl⟩
  case step7 =>
    refine ⟨_, exec_msfSettleEnd hst hdue, ?_⟩
    obtain ⟨m, n, heq, hrun, -, -, -⟩ := settleEnd_within hin
    rw [heq, if_pos (by simp [atStep_of hc hn hk hh, hrun])]
    obtain ⟨hsu, hmsf, hpins, hbist⟩ := beginStep7_locked (s := { s with msf := m, pins := { s.pins with pgOut := true }, snag := n }) hz
    rw [hsu, hmsf, hpins, hbist]
    exact ⟨hrun, rfl, rfl, hc, rfl⟩
  case off =>
    refine ⟨_, exec_msfSettleEnd hst hdue, ?_⟩
    have hnew : (0x2A, 0) ∉ s.snag.conds := by simpa using hnew
    have hmem := assertCond_mem_inbox (s := { s with msf := s.msf.stopTo .off s.tb.count }) hnew .instSafe false none
    have hcond := assertCond_conds { s with msf := s.msf.stopTo .off s.tb.count } 0x2A 0 .instSafe false none
    obtain ⟨n, hn⟩ := assertCond_eq { s with msf := s.msf.stopTo .off s.tb.count } 0x2A 0 .instSafe false none
    rw [settleEnd_outside hout]
    rw [hn] at hmem hcond ⊢
    rw [if_neg (by simp [Msf.stopTo])]
    exact ⟨rfl, rfl, rfl, hcond, hmem⟩
  case pass =>
    obtain ⟨unit, hexec⟩ := exec_startupBistClassDone hc hn hlt hh r
    refine ⟨_, hexec, ?_⟩
    obtain ⟨b, hb, -, hdurs, hseen⟩ := setResult_eq s r.failed.isEmpty false s.bist.startCls (b2n (!r.failed.isEmpty)) unit
    rw [hb, classOutcome_pass (s := { s with bist := b }) hf hl hs]
    refine ⟨rfl, rfl, ?_, ?_, rfl⟩
    · show b.failSeen = _
      simp [hseen, hf]
    · show b.durs.set _ _ = _
      rw [hdurs]
  case fail =>
    have hlt : s.bist.startCls < 5 := by omega
    obtain ⟨unit, hexec⟩ := exec_startupBistClassDone hc hn hlt hh r
    refine ⟨_, hexec, ?_⟩
    obtain ⟨b, hb, -, -, hseen⟩ := setResult_eq s r.failed.isEmpty false s.bist.startCls (b2n (!r.failed.isEmpty)) unit
    rw [hb, classOutcome_fail hcls hf]
    refine ⟨?_, rfl, rfl, rfl, rfl, rfl, rfl, rfl, rfl⟩
    show b.failSeen = true
    simp [hseen, hf]
  case tile =>
    refine ⟨_, exec_startupBistClassDone_tile hc hn h5 hh ht hu r, rfl, ?_⟩
    have hframe := tileClassEnd_frame s
    have hbist : (tileClassEnd s).bist = s.bist := (congrArg State.bist hframe :)
    exact ⟨by rw [hbist], (congrArg State.su hframe :), (congrArg State.pins hframe :)⟩
  case single =>
    refine ⟨_, exec_startupBistDone hc hn h16 hh hf hd, ?_⟩
    rw [beginForming_single { s with bist := { s.bist with startCls := 15 } } hone]
    exact ⟨rfl, rfl, rfl, rfl, rfl, rfl⟩
  case constellation =>
    refine ⟨_, exec_startupBistDone hc hn h16 hh hf hd, ?_⟩
    rw [beginForming_constellation { s with bist := { s.bist with startCls := 15 } } hmany]
    exact ⟨rfl, rfl, rfl, rfl, rfl⟩
  case master =>
    refine ⟨formDone s, ?_, formDone_stages hf hn⟩
    rw [exec_formationTimeout hc hf hdue, if_pos hm]
  case alone =>
    refine ⟨formFail s 3 s.su.cascId, ?_, rfl, rfl, rfl, report_mem_inbox _ _ _ _ _ _ _, rfl⟩
    rw [exec_formationTimeout hc hf hdue, if_neg (by simp [hm]), if_neg (by simp [hno])]

end Sys2Proof.Machine
end

section
/-!
Step 8 and the bounds of the steps: the stages in their order, the rise of READY, and what a step that overruns ends in (03 R95, R101, R102).
The statement O14.
-/
namespace Sys2Proof.Machine

/-! ## The stages and READY (R101, R102, R458) -/

/-- ZONE_STAGE_DONE where every zone of the stage has arrived and a later stage holds a zone (R101). -/
theorem exec_zoneStageDone_next {s : State} {g : Nat} (hc : s.su.cond = .run) (hn : s.su.stepNo = 8) (hh : s.snag.haltAt = none)
    (ho : stageOver s = true) (hg : ((stagesOf s).find? fun x => s.su.stage < x) = some g) :
    exec .zoneStageDone s = .next (startStage s g) := by
  show execZoneStageDone s = _
  unfold execZoneStageDone
  rw [if_neg (by simp [running, halted, hc, hn, hh, ho])]
  simp only [hg]
/-- ZONE_STAGE_DONE after the last stage: READY rises at a sample instant where nothing holds it (R102). -/
theorem exec_zoneStageDone_last {s : State} (hc : s.su.cond = .run) (hn : s.su.stepNo = 8) (hh : s.snag.haltAt = none)
    (ho : stageOver s = true) (hg : ((stagesOf s).find? fun x => s.su.stage < x) = none) :
    exec .zoneStageDone s = if atSample s && !instSafeOrWorse s then .next (readyRise s) else .next s := by
  show execZoneStageDone s = _
  unfold execZoneStageDone
  rw [if_neg (by simp [running, halted, hc, hn, hh, ho])]
  simp only [hg]
theorem startStage_zones (s : State) (g : Nat) : (startStage s g).zones = s.zones.map fun zn => if zn.cfg.stage = g ∧ zn.st = .off then
    { zn with ramp := some { r := s.tb.count, slew := s.su.startSlew, startup := true } } else zn := by
  simp [startStage, now]
/-- The thermal look after READY has risen moves none of the levels, caps and counters (R338). -/
theorem thmLook_frame (s : State) : { thmLook s with thm := s.thm, snag := s.snag } = s := eq_of_offThermal (thmLook_offThermal s)
/-- READY rises in step 9, with the throttle level that has arrived, the caps to calibrate and the counters at their start (R102, R310). -/
theorem readyRise_starts (s : State) : (readyRise s).pins.ready = true ∧ (readyRise s).su.stepNo = 9 ∧ (readyRise s).su.readyEver = true ∧
    (readyRise s).su.readyAt = some s.tb.count ∧ (readyRise s).pins.thrReq = levelIn s ∧ (readyRise s).caps.uncal = true ∧
    (readyRise s).caps.kcal = 0x4000 ∧ (readyRise s).nrg = {} ∧ (readyRise s).fce.running = true ∧ (readyRise s).tb.count = s.tb.count ∧
    (readyRise s).tb.parts = List.replicate 16 {} := by
  unfold readyRise
  dsimp only
  have hlook := thmLook_frame
  have hpins (x : State) : (thmLook x).pins = x.pins := (congrArg State.pins (hlook x) :)
  have hsu (x : State) : (thmLook x).su = x.su := (congrArg State.su (hlook x) :)
  have hcaps (x : State) : (thmLook x).caps = x.caps := (congrArg State.caps (hlook x) :)
  have hnrg (x : State) : (thmLook x).nrg = x.nrg := (congrArg State.nrg (hlook x) :)
  have hfce (x : State) : (thmLook x).fce = x.fce := (congrArg State.fce (hlook x) :)
  have htb (x : State) : (thmLook x).tb = x.tb := (congrArg State.tb (hlook x) :)
  rw [hpins, hsu, hcaps, hnrg, hfce, htb]
  exact ⟨rfl, rfl, rfl, rfl, rfl, rfl, rfl, rfl, rfl, rfl, rfl⟩

/-! ## Steps that overrun (R95) -/

section
variable {s : State} (hc : s.su.cond = .run) (hh : s.snag.haltAt = none) (hr : s.su.readyEver = false)
include hc hh hr

/-- A step that overruns is looked at before the first READY, outside HALT. -/
theorem stepTimeout_acts (ho : stepOver s = true) : ¬ (!running s || halted s || sinceReady s || !stepOver s) = true := by
  simp [running, halted, sinceReady, hc, hh, hr, ho]
theorem exec_startupStepTimeout_step2 (hn : s.su.stepNo = 2) : exec .startupStepTimeout s = .next (enterSafe s (step2Fail s)) := by
  have ho : stepOver s = true := by simp [stepOver, hn]
  show execStartupStepTimeout s = _
  rw [execStartupStepTimeout, if_neg (stepTimeout_acts hc hh hr ho)]
  simp only [hn]
theorem exec_startupStepTimeout_step3 (hn : s.su.stepNo = 3) (hk : s.su.sub < 3) (ho : stepOver s = true) :
    exec .startupStepTimeout s = .next (enterSafe s (Config.startFail 3 s.su.sub % 256)) := by
  show execStartupStepTimeout s = _
  rw [execStartupStepTimeout, if_neg (stepTimeout_acts hc hh hr ho)]
  obtain hk | hk | hk : s.su.sub = 0 ∨ s.su.sub = 1 ∨ s.su.sub = 2 := by omega
  all_goals simp only [hn, hk]
theorem exec_startupStepTimeout_history (hn : s.su.stepNo = 3) (hk : s.su.sub = 3) (ho : stepOver s = true) :
    exec .startupStepTimeout s = .next (toStep (note (takeHistory s none none) 0x68 0) 4 0) := by
  show execStartupStepTimeout s = _
  rw [execStartupStepTimeout, if_neg (stepTimeout_acts hc hh hr ho)]
  simp only [hn, hk]
  unfold execLogScanDone
  rw [if_neg (by simp [atStep_of hc hn hk hh])]
  cases s.nvm.hdr <;> rfl
theorem exec_startupStepTimeout_step5 (hn : s.su.stepNo = 5) (hw : s.su.waitThermal = false) (ho : stepOver s = true) :
    exec .startupStepTimeout s = .next (report { s with tcv := { s.tcv with calAt := none } } 0x49 0 .instSafe) := by
  show execStartupStepTimeout s = _
  rw [execStartupStepTimeout, if_neg (stepTimeout_acts hc hh hr ho)]
  simp [hn, hw]
theorem exec_startupStepTimeout_step6 (hn : s.su.stepNo = 6) (ht : s.msf.tries = 0) (hl : s.msf.loop = true) (ho : stepOver s = true) :
    exec .startupStepTimeout s = .next (report s 0x2A 0 .instSafe) := by
  show execStartupStepTimeout s = _
  rw [execStartupStepTimeout, if_neg (stepTimeout_acts hc hh hr ho)]
  simp [hn, ht, hl]
theorem exec_startupStepTimeout_step7 (hn : s.su.stepNo = 7) (hf : s.csc.forming = false) (ho : stepOver s = true) :
    exec .startupStepTimeout s = .next (enterSafe s 0x20) := by
  show execStartupStepTimeout s = _
  rw [execStartupStepTimeout, if_neg (stepTimeout_acts hc hh hr ho)]
  simp [hn, hf]
end

/-- A step with a bound overruns when the bound has passed. -/
theorem stepOver_of_bound {s : State} {n : Nat} (hb : stepBound s = some n) (h : s.su.stepAt + n < s.tb.count) : stepOver s = true := by
  have h : s.su.stepAt + n < now s := h
  simp [stepOver, hb, h]
theorem stepBound_of_history {s : State} (hn : s.su.stepNo = 3) (hk : s.su.sub = 3) : stepBound s = some 2000000 := by simp [stepBound, hn, hk]
theorem stepBound_of_step5 {s : State} (hn : s.su.stepNo = 5) : stepBound s = some 19200000 := by simp [stepBound, hn]
theorem stepBound_of_step6 {s : State} (hn : s.su.stepNo = 6) : stepBound s = some 10000000 := by simp [stepBound, hn]

/-- Settles O14: the stages and READY by the row of ZONE_STAGE_DONE, each bound by its step's last column. -/
theorem stageOrderReadyRiseAndStepTimeouts : Obligations.StageOrderReadyRiseAndStepTimeouts := by
  unfold Obligations.StageOrderReadyRiseAndStepTimeouts
  refine ⟨fun g s hc hn hh ho hg => ?next, fun s hc hn hh ho hg hk hi => ?ready, fun s hc hn hh ho hg hi => ?held,
    fun s hc hh hr hn hl => ?noLock, fun s hc hh hr hn hl => ?fuses, fun s hc hh hr hn hk ho => ?image, fun s hc hh hr hn hk ho => ?history,
    fun s hc hh hr hn hw ho => ?calibration, fun s hc hh hr hn ht hl ho => ?soft, fun s hc hh hr hn hf ho => ?bist⟩
  case next => exact ⟨_, exec_zoneStageDone_next hc hn hh ho hg, rfl, rfl, rfl, rfl, startStage_zones s g, rfl⟩
  case ready =>
    refine ⟨readyRise s, ?_, readyRise_starts s⟩
    have hk : now s % 64 = 0 := hk
    rw [exec_zoneStageDone_last hc hn hh ho hg]
    exact if_pos (by simp [atSample, instSafeOrWorse, halted, hk, hi, hh])
  case held =>
    rw [exec_zoneStageDone_last hc hn hh ho hg]
    exact if_neg (by simp [instSafeOrWorse, hi])
  case noLock =>
    refine ⟨_, exec_startupStepTimeout_step2 hc hh hr hn, rfl, rfl, ?_, rfl⟩
    show step2Fail s = 4
    simp [step2Fail, hl]
  case fuses =>
    refine ⟨_, exec_startupStepTimeout_step2 hc hh hr hn, rfl, rfl, ?_, rfl⟩
    show step2Fail s = 1 ∨ step2Fail s = 2
    rw [step2Fail, if_neg (by simp [hl])]
    split
    · exact .inl rfl
    · exact .inr rfl
  case image => exact ⟨_, exec_startupStepTimeout_step3 hc hh hr hn hk ho, rfl, rfl, rfl, rfl⟩
  case history =>
    refine ⟨_, exec_startupStepTimeout_history hc hh hr hn hk (stepOver_of_bound (stepBound_of_history hn hk) ho), hc, rfl, rfl, rfl, ?_, ?_⟩
    · exact Nat.zero_mul _
    · obtain ⟨r, hmem, hcode, -, hcls, -⟩ := note_mem_inbox (takeHistory s none none) 0x68 0 none
      exact ⟨r, hmem, hcode, hcls⟩
  case calibration => exact exec_startupStepTimeout_step5 hc hh hr hn hw (stepOver_of_bound (stepBound_of_step5 hn) ho)
  case soft => exact exec_startupStepTimeout_step6 hc hh hr hn ht hl (stepOver_of_bound (stepBound_of_step6 hn) ho)
  case bist => exact ⟨_, exec_startupStepTimeout_step7 hc hh hr hn hf ho, rfl, rfl, rfl, rfl⟩

end Sys2Proof.Machine
end

section
/-!
A zone's target and its ramps: FLT_REQ, the deferred ramp, the end of a ramp and of RUN (05 R175, R183, 03 R101). The statement O27.
-/
namespace Sys2Proof.Machine

theorem fld_zero_three (w : W32) : fld w 0 3 = w.toNat % 8 := by simp [fld, bitsOf]

/-- FLT_REQ_WRITE since READY: a TARGET above 4 is refused; OFF becomes RETAIN in a zone with arrays (R175). -/
theorem exec_fltReqWrite {s : State} {z : Nat} (hc : s.su.cond = .run ∨ s.su.cond = .safe) (hr : s.su.readyEver = true)
    (hz : z < s.zones.length) (w : W32) : exec (.fltReqWrite z w) s = .next (if 5 ≤ w.toNat % 8 then note s 0x01 0
      else if (zoneD s z).arrays ≠ [] ∧ w.toNat % 8 = 0 then
        note (modZone s z fun zn => { zn with target := 1, commit := w.getLsbD 8, gateFailed := false }) 0x01 0
      else modZone s z fun zn => { zn with target := w.toNat % 8, commit := w.getLsbD 8, gateFailed := false }) := by
  show execFltReqWrite z w s = _
  have ha := (alive_iff s).2 hc
  rw [execFltReqWrite, if_neg (by simp [ha, hasZone, hz, sinceReady, hr]), fld_zero_three]
  by_cases h5 : 5 ≤ w.toNat % 8
  · rw [if_pos h5, if_pos h5]
  · rw [if_neg h5, if_neg h5]
    by_cases hh : (zoneD s z).arrays ≠ [] ∧ w.toNat % 8 = 0
    · simp [hh.1, hh.2]
    · have hb : (!(zoneD s z).arrays.isEmpty && decide (w.toNat % 8 = 0)) = false := by
        simpa [List.isEmpty_iff] using hh
      simp [hh, hb]
/-- What the start of a ramp leaves of a zone: its state, its tiles and its configuration (R183). -/
theorem Zone.startRamp_frame (zn : Zone) (r : ZRamp) (k slew v : Nat) : ∃ law, zn.startRamp r k slew v =
    { zn with ramp := some { r with started := some k, slew }, law } := ⟨_, rfl⟩
/-- PUP_DEFER_EXPIRY where the ramp has waited 2 ms (R183). -/
theorem exec_pupDeferExpiry {s : State} {z : Nat} {r : ZRamp} (hz : z < s.zones.length) (hr : s.su.readyEver = true)
    (hramp : (zoneD s z).ramp = some r) (hs : r.started = none) (hu : r.startup = false) (hdue : r.r + 2000000 ≤ s.tb.count) :
    exec (.pupDeferExpiry z) s = .next (note14 (modZone s z fun zn =>
      { zn.startRamp r s.tb.count (max 1 (zn.cfg.pupSlew / 4)) (zoneVmax s z) with slowed := true, deferred := false }) z 7) := by
  have hdue : r.r + 2000000 ≤ now s := hdue
  show execPupDeferExpiry z s = _
  simp only [execPupDeferExpiry, hramp]
  rw [if_pos (by simp [hasZone, hz, hs, hu, sinceReady, hr, hdue])]
  rfl
/-- A zone after its NOTE and its status bit. -/
theorem zoneD_note14 {s : State} {z : Nat} (hz : z < s.zones.length) (b : Nat) :
    zoneD (note14 s z b) z = { zoneD s z with status := (zoneD s z).status ||| BitVec.ofNat 8 (2 ^ b) } := zoneD_modZone hz _
/-- ZONE_RAMP_DONE after 64 samples within 10 mV (R183). -/
theorem exec_zoneRampDone {s : State} {z : Nat} {r : ZRamp} (hz : z < s.zones.length) (hramp : (zoneD s z).ramp = some r)
    (hs : r.started ≠ none) (hw : 64 ≤ r.within) : exec (.zoneRampDone z) s =
      .next (modZone s z fun zn => { zn with nextSt := some (if r.toRetain then .retain else .mist) }) := by
  show execZoneRampDone z s = _
  simp only [execZoneRampDone, hramp]
  exact if_pos (by simp [hasZone, hz, hw, Option.isSome_iff_ne_none, hs])
/-- ZONE_RAMP_TIMEOUT, 5.0 ms after the start of the ramp, or of the stage for a start-up ramp (R101). -/
theorem exec_zoneRampTimeout {s : State} {z k : Nat} {r : ZRamp} (hz : z < s.zones.length) (hramp : (zoneD s z).ramp = some r)
    (hnext : (zoneD s z).nextSt = none) (hk : (if r.startup then some s.su.stageAt else r.started) = some k) (hdue : k + 5000000 ≤ s.tb.count) :
    exec (.zoneRampTimeout z) s = .next (report s 0x1A z .zoneSafe) := by
  have hdue : k + 5000000 ≤ now s := hdue
  show execZoneRampTimeout z s = _
  simp only [execZoneRampTimeout, hramp, hk]
  exact if_pos (by simp [hasZone, hz, hnext, hdue])
/-- ZONE_RUN_EXIT_DONE after 16 samples at issue code 0 (R175). -/
theorem exec_zoneRunExitDone {s : State} {z n : Nat} (hz : z < s.zones.length) (hst : (zoneD s z).st = .run) (he : (zoneD s z).exitCnt = some n)
    (hn : 16 ≤ n) : exec (.zoneRunExitDone z) s = .next (redrive (modZone s z fun zn => { zn with st := .mist, exitCnt := none }) z) := by
  show execZoneRunExitDone z s = _
  simp only [execZoneRunExitDone, he]
  exact if_pos (by simp [hasZone, hz, hst, hn])
/-- New outputs and STRETCH of a zone move neither its state, its tiles nor its target (R151, R175). -/
theorem Zone.updStretch_keeps (zn : Zone) (k : Nat) (b : Bool) : ∃ sft, zn.updStretch k b = { zn with sft } := by
  unfold Zone.updStretch
  dsimp only
  split
  · exact ⟨_, rfl⟩
  · exact ⟨_, rfl⟩
theorem Zone.drive_keeps (zn : Zone) (k : Nat) (r b : Bool) : ∃ ready arrays sft, zn.drive k r b = { zn with ready, arrays, sft } :=
  ⟨_, _, _, rfl⟩
theorem redrive_frame (s : State) (z : Nat) : { redrive s z with zones := s.zones } = s := by
  unfold redrive; split <;> rfl
theorem zoneD_redrive {s : State} {z : Nat} (hz : z < s.zones.length) :
    ∃ ready arrays sft, zoneD (redrive s z) z = { zoneD s z with ready, arrays, sft } := by
  unfold redrive
  split
  · exact ⟨_, _, _, rfl⟩
  · obtain ⟨ready, arrays, sft, hdrive⟩ := Zone.drive_keeps (zoneD s z) (now s) (ready s) (instSafeOrWorse s)
    obtain ⟨sft', hstretch⟩ := Zone.updStretch_keeps ((zoneD s z).drive (now s) (Machine.ready s) (instSafeOrWorse s)) s.tb.count s.su.readyEver
    refine ⟨ready, arrays, sft', ?_⟩
    rw [zoneD_updStretch (by simpa using hz), zoneD_modZone hz]
    exact hstretch.trans (by rw [hdrive])

/-- Settles O27: each row by its equation. -/
theorem zoneTargetAndRampRows : Obligations.ZoneTargetAndRampRows := by
  unfold Obligations.ZoneTargetAndRampRows
  refine ⟨fun z w s hc hr hz hlt hnot => ?target, fun z w s hc hr hz ha h0 => ?retain, fun z w s hc hr hz h5 => ?refused,
    fun z r s hz hr hramp hs hu hdue => ?deferred, fun z r s hz hramp hs hw => exec_zoneRampDone hz hramp hs hw,
    fun z k r s hz hramp hnext hk hdue => ?timeout, fun z n s hz hst he hn => ?exit⟩
  case target => rw [exec_fltReqWrite hc hr hz, if_neg (by omega), if_neg hnot]
  case retain => rw [exec_fltReqWrite hc hr hz, if_neg (by omega), if_pos ⟨ha, h0⟩]
  case refused => rw [exec_fltReqWrite hc hr hz, if_pos h5]
  case deferred =>
    refine ⟨_, exec_pupDeferExpiry hz hr hramp hs hu hdue, ?_⟩
    rw [zoneD_note14 (by simpa using hz), zoneD_modZone hz]
    exact ⟨rfl, rfl, rfl, rfl, rfl, note_mem_inbox _ _ _ _, rfl⟩
  case timeout =>
    refine exec_zoneRampTimeout hz hramp hnext ?_ hdue
    rcases hk with ⟨hu, hs⟩ | ⟨hu, hs⟩
    · rw [hu]; exact hs
    · rw [hu, if_pos rfl, hs]
  case exit =>
    refine ⟨_, exec_zoneRunExitDone hz hst he hn, ?_⟩
    obtain ⟨ready, arrays, sft, hzone⟩ :=
      zoneD_redrive (s := modZone s z fun zn => { zn with st := .mist, exitCnt := none }) (z := z) (by simpa using hz)
    rw [hzone, zoneD_modZone hz]
    refine ⟨rfl, rfl, rfl, rfl, ?_⟩
    exact (congrArg (fun x : State => { x with zones := s.zones })
      (redrive_frame (modZone s z fun zn => { zn with st := .mist, exitCnt := none }) z) :)

end Sys2Proof.Machine
end

section
/-!
Temperature results of the tiles with TSHUT, and ageing (04 R150, 12 R330, R345, 02 R109). The statement O30.
-/
namespace Sys2Proof.Machine

/-! ## One tile of a zone changed -/

theorem lt_zones_of_tile {s : State} {z t : Nat} (h : t < (zoneD s z).tiles.length) : z < s.zones.length := by
  by_contra hz
  rw [zoneD_of_not_lt hz] at h
  exact absurd h (Nat.not_lt_zero t)
/-- Tile t of zone z as a change of it leaves it. -/
theorem tileD_modTile {s : State} {z t : Nat} (h : t < (zoneD s z).tiles.length) (f : Tile → Tile) :
    tileD (modTile s z t f) z t = f (tileD s z t) := by
  rw [tileD, modTile, zoneD_modZone (lt_zones_of_tile h)]
  exact getD_modify_same h f {}

/-! ## TILE_TEMP_RESULT (R150, R345) -/

section
variable {s : State} {z t : Nat} (ht : t < (zoneD s z).tiles.length) (hc : s.su.cond = .run ∨ s.su.cond = .safe)
include ht hc

/-- A result in TEST is undefined: a free value, and no comparison (R286). -/
theorem exec_tileTempResult_test (hst : (tileD s z t).st = .test) (raw : Int) : exec (.tileTempResult z t raw) s = .next (modTile s z t fun x =>
    { x with t := Config.testTemp (gTile s z t) s.tb.count, tAt := some s.tb.count, hotBefore := false, critBefore := false }) := by
  have ha := (alive_iff s).2 hc
  have hne : s.zones ≠ [] := List.ne_nil_of_length_pos (Nat.zero_lt_of_lt (lt_zones_of_tile ht))
  show execTileTempResult z t raw s = _
  unfold execTileTempResult
  rw [if_neg (by simp [ha]), if_neg (by simpa using hne), if_neg (by simp [hasTile, ht]), if_pos hst]
  rfl
/-- A result outside TEST, off the 1 ms grid: only the second in a row at or above TSHUT acts (R150, R345). -/
theorem exec_tileTempResult (hst : (tileD s z t).st ≠ .test) (hg : s.su.grid = false) (raw : Int) : ∃ crit, exec (.tileTempResult z t raw) s =
    .next (let v := trimT (tileD s z t).fac (tileD s z t).usr raw
      let hot := decide (v ≥ 8 * (s.fus.shadow.tshut : Int))
      let s1 := modTile s z t fun x => { x with t := v, tAt := some s.tb.count, hotBefore := hot, critBefore := crit }
      if hot && (tileD s z t).hotBefore then raiseCritical s1 z t v 3 else s1) := by
  have ha := (alive_iff s).2 hc
  have hne : s.zones ≠ [] := List.ne_nil_of_length_pos (Nat.zero_lt_of_lt (lt_zones_of_tile ht))
  refine ⟨senseTile (zoneD s z) t && tempInRange (trimT (tileD s z t).fac (tileD s z t).usr raw) &&
    decide (trimT (tileD s z t).fac (tileD s z t).usr raw ≥ bandTh s.thm.cfg 4), ?_⟩
  show execTileTempResult z t raw s = _
  unfold execTileTempResult
  rw [if_neg (by simp [ha]), if_neg (by simpa using hne), if_neg (by simp [hasTile, ht]), if_neg hst]
  simp only [hg, Bool.and_false, Bool.false_and, Bool.false_eq_true, if_false]
  rfl
end

/-- A result before an image has named the tiles' registers (R345). -/
theorem exec_tileTempResult_bare {s : State} (hz : s.zones = []) (hc : s.su.cond = .run ∨ s.su.cond = .safe) (z t : Nat) (raw : Int) :
    exec (.tileTempResult z t raw) s = .next (bareTemp s z t (bareResult s z t raw)) := by
  have ha := (alive_iff s).2 hc
  show execTileTempResult z t raw s = _
  unfold execTileTempResult
  rw [if_neg (by simp [ha]), if_pos (by simp [hz])]
/-- From the end of step 2 a bare result at or above TSHUT acts where the one before was, else it is kept in mind (R345). -/
theorem bareTemp_hot {s : State} {z t : Nat} {v : Int} (hc : s.su.cond = .run ∨ s.su.cond = .safe) (hf : s.su.fusesDone = true)
    (hl : s.su.lockDone = true) (ht : t < s.su.zoneTiles.getD z 0) (hv : 8 * (s.fus.shadow.tshut : Int) ≤ v) : bareTemp s z t v =
      if (z, t) ∈ s.su.hotTiles then raiseCritical s z t v 3 else { s with su := { s.su with hotTiles := (z, t) :: s.su.hotTiles } } := by
  have ha := (alive_iff s).2 hc
  have hup : (!afterStep2 s || decide (s.su.zoneTiles.getD z 0 ≤ t)) = false := by
    rw [afterStep2, ha, hf, hl, decide_eq_false (Nat.not_le.2 ht)]; rfl
  unfold bareTemp
  rw [if_neg (by rw [hup]; exact Bool.false_ne_true), if_neg (by omega)]
  simp only [List.contains_iff_mem]
/-- The report of a CRITICAL source carries HALT and the latch (R345). -/
theorem raiseCritical_reports {s : State} {z : Nat} (h : (0x44, z) ∉ s.snag.conds) (source : Nat) (temp : Int) (cause : Nat) :
    (0x44, z) ∈ (raiseCritical s z source temp cause).snag.conds ∧
      ∃ r ∈ (raiseCritical s z source temp cause).snag.inbox,
        r.code = 0x44 ∧ r.unit = z ∧ r.cls = .halt ∧ r.latch = true ∧ r.stamp = s.tb.count := by
  refine ⟨assertCond_conds _ _ _ _ _ _, ?_⟩
  rw [raiseCritical, assertCond_of_not_mem h]
  exact ⟨_, mem_insRep _ _, rfl, rfl, rfl, rfl, rfl⟩
theorem raiseCritical_frame (s : State) (z source : Nat) (temp : Int) (cause : Nat) :
    { raiseCritical s z source temp cause with snag := s.snag } = s := assertCond_frame _ _ _ _ _ _

/-! ## Ageing (R109, R330) -/

theorem foldOne_frame (s : State) : { foldOne s with snag := s.snag, nvm := s.nvm } = s := by
  unfold foldOne; dsimp only; split <;> rfl
/-- A snapshot moves the flash's log queue and the Snag unit alone (R414). -/
theorem takeSnapshot_frame (s : State) : { takeSnapshot s with snag := s.snag, nvm := s.nvm } = s := by
  have hlog (r : LogRec) : ({ logOther s r with snag := s.snag, nvm := s.nvm } : State) = s := by
    unfold logOther
    split
    · rfl
    · split
      · exact foldOne_frame s
      · rfl
  exact hlog (.snap (snapshotOf s))
/-- The zones with the logged values of their arrays brought up to their tiles' AGE (R330). -/
def agedZones (s : State) : List Zone := s.zones.map fun zn => { zn with arrays := zn.arrays.mapIdx zn.ageArr }
/-- AGEING_UPDATE with pair 1 running (R330). -/
theorem exec_ageingUpdate {s : State} (hc : s.su.cond = .run ∨ s.su.cond = .safe) (h1 : s.cores.run1 = true) :
    ∃ snag, exec .ageingUpdate s = .next (if agedZones s = s.zones then s else takeSnapshot { s with zones := agedZones s, snag }) := by
  have ha := (alive_iff s).2 hc
  have hmap : mapZones s (fun _ zn => { zn with arrays := zn.arrays.mapIdx zn.ageArr }) = { s with zones := agedZones s } :=
    congrArg (fun zs => { s with zones := zs }) (List.ext_getElem? fun i => by simp [agedZones])
  refine ⟨{ s.snag with ageing := (agedZones s).flatMap fun zn => zn.arrays.map (·.logged) }, ?_⟩
  show execAgeingUpdate s = _
  unfold execAgeingUpdate
  rw [if_neg (by simp [ha, h1]), hmap]
  exact (apply_ite Host.Outcome.next _ _ _).symm
/-- The logged value of an array never falls, so what is left of f_eff never rises (R330). -/
theorem Zone.ageArr_mono (zn : Zone) (a : Nat) (x : Arr) : x.logged ≤ (zn.ageArr a x).logged ∧ (zn.ageArr a x).feff ≤ x.feff ∧
    (zn.ageArr a x).cfg = x.cfg := by
  have hlog : x.logged ≤ (zn.ageArr a x).logged := Nat.le_max_left _ _
  have hfeff : (zn.ageArr a x).feff = x.fused - max x.cfg.age (zn.ageArr a x).logged := rfl
  refine ⟨hlog, ?_, rfl⟩
  rw [hfeff, Arr.feff]
  omega

/-- Settles O30: a result by where the tile and the start are, and ageing by its update. -/
theorem tileTemperatureAndAgeing : Obligations.TileTemperatureAndAgeing := by
  unfold Obligations.TileTemperatureAndAgeing
  refine ⟨fun z t raw s ht hc hst hg hcool => ?cool, fun z t raw s hz ht hc hst hg hhot hb hnew => ?second,
    fun z t raw s hz ht hc hst hg hhot hb => ?first, fun z t raw s hz hc hf hl ht hmem hhot hnew => ?bareSecond,
    fun z t raw s hz hc hf hl ht hmem hhot => ?bareFirst, fun z t raw s ht hc hst => exec_tileTempResult_test ht hc hst raw,
    fun z t age s ht hage => ?age, fun s hc h1 => ?update, Zone.ageArr_mono⟩
  case cool =>
    obtain ⟨crit, hexec⟩ := exec_tileTempResult ht hc hst hg raw
    refine ⟨_, hexec, ?_⟩
    have hhot : decide (trimT (tileD s z t).fac (tileD s z t).usr raw ≥ 8 * (s.fus.shadow.tshut : Int)) = false :=
      decide_eq_false (Int.not_le.2 hcool)
    simp only [hhot, Bool.false_and, Bool.false_eq_true, if_false]
    rw [tileD_modTile ht]
    exact ⟨rfl, rfl, rfl, rfl, List.length_modify .., rfl⟩
  case second =>
    obtain ⟨crit, hexec⟩ := exec_tileTempResult ht hc hst hg raw
    refine ⟨_, hexec, ?_⟩
    have hhot : decide (trimT (tileD s z t).fac (tileD s z t).usr raw ≥ 8 * (s.fus.shadow.tshut : Int)) = true := decide_eq_true hhot
    simp only [hhot, hb, Bool.and_self, if_true]
    have hframe := raiseCritical_frame (modTile s z t fun x => { x with
      t := trimT (tileD s z t).fac (tileD s z t).usr raw, tAt := some s.tb.count, hotBefore := true, critBefore := crit }) z t
        (trimT (tileD s z t).fac (tileD s z t).usr raw) 3
    obtain ⟨hcond, hrep⟩ := raiseCritical_reports (s := modTile s z t fun x => { x with
      t := trimT (tileD s z t).fac (tileD s z t).usr raw, tAt := some s.tb.count, hotBefore := true, critBefore := crit }) hnew t
        (trimT (tileD s z t).fac (tileD s z t).usr raw) 3
    refine ⟨?_, hcond, hrep, (congrArg (fun x : State => { x with zones := s.zones, snag := s.snag }) hframe :)⟩
    have htile := tileD_modTile ht fun x => { x with
      t := trimT (tileD s z t).fac (tileD s z t).usr raw, tAt := some s.tb.count, hotBefore := true, critBefore := crit }
    exact (congrArg (fun x : State => (tileD x z t).t) hframe :).trans (congrArg Tile.t htile)
  case first =>
    obtain ⟨crit, hexec⟩ := exec_tileTempResult ht hc hst hg raw
    refine ⟨_, hexec, ?_⟩
    have hhot : decide (trimT (tileD s z t).fac (tileD s z t).usr raw ≥ 8 * (s.fus.shadow.tshut : Int)) = true := decide_eq_true hhot
    simp only [hhot, hb, Bool.and_false, Bool.false_eq_true, if_false]
    rw [tileD_modTile ht]
    exact ⟨rfl, rfl, rfl⟩
  case bareSecond =>
    refine ⟨_, exec_tileTempResult_bare hz hc z t raw, ?_⟩
    rw [bareTemp_hot hc hf hl ht hhot, if_pos hmem]
    obtain ⟨hcond, hrep⟩ := raiseCritical_reports hnew t (bareResult s z t raw) 3
    exact ⟨hcond, hrep, raiseCritical_frame _ _ _ _ _⟩
  case bareFirst => rw [exec_tileTempResult_bare hz hc, bareTemp_hot hc hf hl ht hhot, if_neg hmem]
  case age =>
    have hsat : satF 16 age = age := Nat.min_eq_right (Nat.le_of_lt_succ hage)
    show Host.Outcome.next (modTile s z t fun x => { x with age := satF 16 age }) = _
    rw [hsat]
  case update =>
    obtain ⟨snag, hexec⟩ := exec_ageingUpdate hc h1
    refine ⟨_, hexec, ?_⟩
    split
    · next hsame => exact ⟨hsame.symm, fun _ => rfl, rfl⟩
    · next hmoved =>
      have hframe := takeSnapshot_frame { s with zones := agedZones s, snag }
      have hzones := (congrArg State.zones hframe :)
      exact ⟨hzones, fun h => absurd (hzones.symm.trans h) hmoved,
        (congrArg (fun x : State => { x with zones := s.zones, snag := s.snag, nvm := s.nvm }) hframe :)⟩

end Sys2Proof.Machine
end

section
/-!
Tile tests: how one ends, the overdue tiles of a zone, and the driver's requests (16 R419 to R432). The statement O31.
-/
namespace Sys2Proof.Machine

/-! ## The end of a test (R422, R425) -/

/-- A tile that leaves TEST after a pass, or in the start, is OFF, or starts with the command it holds; it is in no test (R425). -/
theorem Tile.leaveTest_pass (x : Tile) (k v : Nat) :
    ((x.leaveTest false k v).st = .off ∨ (x.leaveTest false k v).st = .start) ∧ (x.leaveTest false k v).test = none := by
  unfold leaveTest
  dsimp only
  rw [if_neg Bool.false_ne_true]
  split
  · exact ⟨.inr rfl, rfl⟩
  · exact ⟨.inl rfl, rfl⟩
/-- A tile that fails in the field is isolated with cause 4 (R422). -/
theorem Tile.leaveTest_fail (x : Tile) (k v : Nat) : (x.leaveTest true k v).st = .isolated ∧ (x.leaveTest true k v).cause = 4 :=
  ⟨rfl, rfl⟩

/-- The duration of the TILE class of a test (R421). -/
def testTimed (s : State) : State := { s with bist := { s.bist with durs := s.bist.durs.set 5 3300 } }
/-- What every test ends with: its duration, the request it served, the zone's overdue source, and the zone's STRETCH (R419, R421, R425). -/
def endTest (s : State) (z : Nat) (req : Bool) : State := updStretch (overdueEnd (endReq (testTimed s) req) z) z
theorem endReq_frame (s : State) (req : Bool) : ∃ b, endReq s req = { s with bist := b } ∧ b.result = s.bist.result ∧
    b.done = s.bist.done ∧ b.failed = s.bist.failed ∧ b.failSeen = s.bist.failSeen ∧ (req = true → b.req = none) := by
  unfold endReq
  split
  · exact ⟨_, rfl, rfl, rfl, rfl, rfl, fun _ => rfl⟩
  · next h => exact ⟨_, rfl, rfl, rfl, rfl, rfl, fun hreq => absurd hreq h⟩
theorem overdueEnd_eq (s : State) (z : Nat) : ∃ n, overdueEnd s z = { s with snag := n } := by
  unfold overdueEnd
  split
  · exact ⟨_, rfl⟩
  · exact deassertCond_eq _ _ _
theorem Reported.overdueEnd {s : State} {code unit k : Nat} {cls : Cls} (h : Reported s code unit cls k) (z : Nat) :
    Reported (overdueEnd s z) code unit cls k := by
  unfold Machine.overdueEnd
  split
  · exact h
  · exact h.setCond false 0x60 z .degrade
/-- The end of a test leaves the counts, the result and the outputs, and takes back the request it served. -/
theorem endTest_bist (s : State) (z : Nat) (req : Bool) : (endTest s z req).bist.result = s.bist.result ∧
    (endTest s z req).bist.done = s.bist.done ∧ (endTest s z req).bist.failed = s.bist.failed ∧
    (endTest s z req).bist.failSeen = s.bist.failSeen ∧ (req = true → (endTest s z req).bist.req = none) ∧
    (endTest s z req).pins = s.pins ∧ (endTest s z req).msf = s.msf := by
  obtain ⟨b, hb, hres, hdone, hfailed, hseen, hreq⟩ := endReq_frame (testTimed s) req
  obtain ⟨n, hn⟩ := overdueEnd_eq { testTimed s with bist := b } z
  rw [endTest, hb, hn]
  exact ⟨hres, hdone, hfailed, hseen, hreq, rfl, rfl⟩
/-- Nor does it move a tile. -/
theorem tileD_endTest (s : State) (z : Nat) (req : Bool) (t : Nat) : tileD (endTest s z req) z t = tileD s z t := by
  obtain ⟨b, hb, -⟩ := endReq_frame (testTimed s) req
  obtain ⟨n, hn⟩ := overdueEnd_eq { testTimed s with bist := b } z
  rw [endTest, hb, hn, tileD, tileD]
  by_cases hz : z < s.zones.length
  · rw [zoneD_updStretch (s := { testTimed s with bist := b, snag := n }) hz]
    obtain ⟨sft, hsft⟩ := Zone.updStretch_keeps (zoneD s z) s.tb.count s.su.readyEver
    show ((zoneD s z).updStretch s.tb.count s.su.readyEver).tiles.getD t {} = _
    rw [hsft]
  · rw [zoneD_of_not_lt hz, zoneD_of_not_lt (by simpa [updStretch, testTimed] using hz)]
theorem Reported.endTest {s : State} {code unit k : Nat} {cls : Cls} (h : Reported s code unit cls k) (z : Nat) (req : Bool) :
    Reported (endTest s z req) code unit cls k := by
  have hreq : Reported (endReq (testTimed s) req) code unit cls k := by
    obtain ⟨b, hb, -⟩ := endReq_frame (testTimed s) req
    rw [hb]; exact h
  exact hreq.overdueEnd z

/-- The tile as its test leaves it: the run time in READY, the outcome, and in the start a failure's mark (R422, R425). -/
def Tile.tested (x : Tile) (startup : Bool) (f k v runNs : Nat) : Tile :=
  { x.leaveTest (!decide (f = 0) && !startup) k v with
    testRun := runNs, testLast := b2n !decide (f = 0), testStep := if f = 0 then x.testStep else f
    bistFail := if f = 0 ∨ startup = false then x.bistFail else some f }
theorem Tile.tested_pass (x : Tile) (u : Bool) (k v n : Nat) : x.tested u 0 k v n =
    { x.leaveTest false k v with testRun := n, testLast := 0, testStep := x.testStep, bistFail := x.bistFail } := rfl
theorem Tile.tested_fail (x : Tile) {f : Nat} (hf : f ≠ 0) (k v n : Nat) : x.tested false f k v n =
    { x.leaveTest true k v with testRun := n, testLast := 1, testStep := f, bistFail := x.bistFail } := by
  simp [tested, hf, b2n]
theorem Tile.tested_mark (x : Tile) {f : Nat} (hf : f ≠ 0) (k v n : Nat) : x.tested true f k v n =
    { x.leaveTest false k v with testRun := n, testLast := 1, testStep := f, bistFail := some f } := by
  simp [tested, hf, b2n]
/-- The block as a test leaves it, before the result is acted on: the tile, and BST_RESULT (R422). -/
def testShown (s : State) (z t f : Nat) (k : TileTest) : State :=
  setResult (modTile s z t fun x => x.tested k.startup f s.tb.count (zoneVmax s z) s.snag.runNs) (decide (f = 0)) k.req 5 f (gTile s z t)

section
variable {s : State} {z t : Nat} {k : TileTest} (hc : s.su.cond = .run ∨ s.su.cond = .safe) (hk : s.tb.count % 64 = 0)
  (hst : (tileD s z t).st = .test) (htest : (tileD s z t).test = some k) (hab : k.abandoned = false)
include hc hk hst htest hab

/-- TILE_TEST_DONE at a sample instant, for a test that was not abandoned (R422, R425). -/
theorem exec_tileTestDone (f : Nat) : exec (.tileTestDone z t f) s = .next (endTest
      (if k.startup then if f = 0 then testShown s z t f k else note (testShown s z t f k) 0x61 (gTile s z t)
      else if f = 0 then countDone (testShown s z t f k) true
      else takeSnapshot (failSource (countDone (testShown s z t f k) false) (gTile s z t) 0 5 f .degrade)) z k.req) := by
  have ha := (alive_iff s).2 hc
  have hk : now s % 64 = 0 := hk
  show execTileTestDone z t f s = _
  simp only [execTileTestDone, htest]
  rw [if_neg (by simp [hst, ha, atSample, hk]), if_neg (by simp [hab])]
  by_cases hf : f = 0 <;> cases hu : k.startup <;> simp [hf, hu, endTest, testTimed, testShown, Tile.tested, now]
end

/-- Besides the tile and the BIST state nothing moves before the result is acted on. -/
theorem testShown_frame (s : State) (z t f : Nat) (k : TileTest) : { testShown s z t f k with zones := s.zones, bist := s.bist } = s := by
  obtain ⟨b, hb, -⟩ := setResult_eq (modTile s z t fun x => x.tested k.startup f s.tb.count (zoneVmax s z) s.snag.runNs)
    (decide (f = 0)) k.req 5 f (gTile s z t)
  rw [testShown, hb]
  rfl
/-- BST_RESULT since READY shows the test (R422). -/
theorem testShown_bist {s : State} (hr : s.su.readyEver = true) (z t f : Nat) (k : TileTest) : (testShown s z t f k).bist = { s.bist with
    result := bistWord (decide (f = 0)) false k.req 5 f (gTile s z t), failSeen := s.bist.failSeen || !decide (f = 0) } := by
  rw [testShown, setResult, if_pos (by simp [sinceReady, hr])]
  rfl
/-- A test since READY counts as done, and as failed where it failed (R422). -/
theorem countDone_ready {s : State} (hr : s.su.readyEver = true) (pass : Bool) : countDone s pass = { s with bist := { s.bist with
    done := min 0xFFFF (s.bist.done + 1), failed := if pass then s.bist.failed else min 255 (s.bist.failed + 1) } } := by
  rw [countDone, if_neg (by simp [sinceReady, hr])]
  rfl
/-- The tile after its test. -/
theorem tileD_testShown {s : State} {z t : Nat} (ht : t < (zoneD s z).tiles.length) (f : Nat) (k : TileTest) :
    tileD (testShown s z t f k) z t = (tileD s z t).tested k.startup f s.tb.count (zoneVmax s z) s.snag.runNs := by
  obtain ⟨b, hb, -⟩ := setResult_eq (modTile s z t fun x => x.tested k.startup f s.tb.count (zoneVmax s z) s.snag.runNs)
    (decide (f = 0)) k.req 5 f (gTile s z t)
  rw [testShown, hb]
  exact tileD_modTile ht _

/-! ## Requests (R104, R431) -/

/-- BST_RUN in DEPLOYED is refused by the life cycle (R104). -/
theorem exec_bstRun_deployed {s : State} (hc : s.su.cond = .run ∨ s.su.cond = .safe) (hl : life s = some .deployed) (c g : Nat) :
    exec (.bstRun c g) s = .next (note s 0x01 0) := by
  have ha := (alive_iff s).2 hc
  show execBstRun c g s = _
  rw [execBstRun, if_neg (by simp [ha]), if_pos hl]
/-- While a request waits or runs another one is refused (R431). -/
theorem exec_bstRun_busy {s : State} (hc : s.su.cond = .run ∨ s.su.cond = .safe) (hl : life s ≠ some .deployed) (hb : s.bist.req ≠ none)
    (c g : Nat) : exec (.bstRun c g) s = .next (bistRefuse s) := by
  have ha := (alive_iff s).2 hc
  show execBstRun c g s = _
  rw [execBstRun, if_neg (by simp [ha]), if_neg hl]
  exact if_pos (by simp [Option.isSome_iff_ne_none, hb])
/-- With READY high in PROVISIONED a request for a tile or for a memory's pass is taken (R104, R431). -/
theorem exec_bstRun_provisioned {s : State} {c g : Nat} (hc : s.su.cond = .run ∨ s.su.cond = .safe) (hl : life s = some .provisioned)
    (hb : s.bist.req = none) (hr : s.pins.ready = true) (hn : s.su.stepNo = 9) (hcls : c = 5 ∧ (ofGTile s g).isSome = true ∨ c = 1 ∧ g < 5) :
    exec (.bstRun c g) s = .next { s with bist := { s.bist with
      req := some (c, g, s.tb.count), reqRun := decide (c = 1), reqSlice := 0, refused := false } } := by
  have ha := (alive_iff s).2 hc
  show execBstRun c g s = _
  rw [execBstRun, if_neg (by simp [ha]), if_neg (by simp [hl])]
  dsimp only
  rw [if_neg (by simp [hb, hn]), if_pos (by simpa [ready] using hr), if_pos (by simpa [driverTests, hl] using hcls)]
  rfl
/-- A tile request not admitted within 1 s is dropped (R431). -/
theorem exec_bstRequestDrop {s : State} {g a : Nat} (hreq : s.bist.req = some (5, g, a)) (hrun : s.bist.reqRun = false)
    (hdue : a + 1000000000 ≤ s.tb.count) : exec .bstRequestDrop s = .next { s with bist := { s.bist with req := none, refused := true } } := by
  have hdue : a + 1000000000 ≤ now s := hdue
  show execBstRequestDrop s = _
  simp only [execBstRequestDrop, hreq]
  exact if_pos (by simp [hrun, hdue])

section
variable {s : State} {z t : Nat} (ht : t < (zoneD s z).tiles.length) (hr : s.su.readyEver = true)
include ht hr

/-- A pass in the field: the tile leaves TEST, and the block counts and shows it (R422, R425). -/
theorem endTest_pass (k : TileTest) {u : State} (hu : u = endTest (countDone (testShown s z t 0 k) true) z k.req) :
    (tileD u z t).st ≠ .test ∧ (tileD u z t).st ≠ .isolated ∧ (tileD u z t).test = none ∧ (tileD u z t).testLast = 0 ∧
      (tileD u z t).testRun = s.snag.runNs ∧ u.bist.done = min 0xFFFF (s.bist.done + 1) ∧ u.bist.failed = s.bist.failed ∧
      u.bist.result = bistWord true false k.req 5 0 (gTile s z t) ∧ (k.req = true → u.bist.req = none) ∧ u.pins = s.pins ∧ u.msf = s.msf := by
  have hframe := testShown_frame s z t 0 k
  have hshown := testShown_bist hr z t 0 k
  have hcount := countDone_ready (s := testShown s z t 0 k) ((congrArg (fun x : State => x.su.readyEver) hframe :).trans hr) true
  have htile : tileD u z t = _ := (congrArg (fun x => tileD x z t) hu).trans <| (tileD_endTest _ _ _ _).trans <|
    (congrArg (fun x => tileD x z t) hcount).trans <| (tileD_testShown ht 0 k).trans (Tile.tested_pass _ _ _ _ _)
  obtain ⟨hleft, hnone⟩ := (tileD s z t).leaveTest_pass s.tb.count (zoneVmax s z)
  obtain ⟨hres, hdone, hfailed, -, hreq, hpins, hmsf⟩ := endTest_bist (countDone (testShown s z t 0 k) true) z k.req
  rw [← hu, hcount] at hres hdone hfailed hpins hmsf
  rw [← hu] at hreq
  rw [htile]
  refine ⟨fun h => ?_, fun h => ?_, hnone, rfl, rfl, hdone.trans ?_, hfailed.trans ?_, hres.trans ?_, hreq,
    hpins.trans (congrArg State.pins hframe :), hmsf.trans (congrArg State.msf hframe :)⟩
  · rcases hleft with h' | h' <;> cases h.symm.trans h'
  · rcases hleft with h' | h' <;> cases h.symm.trans h'
  · exact (congrArg (fun b : Bist => min 0xFFFF (b.done + 1)) hshown :)
  · exact (congrArg Bist.failed hshown :)
  · exact (congrArg Bist.result hshown :)
/-- A failure in the field: the tile is isolated with cause 4, counted, and reported with DEGRADE (R422). -/
theorem endTest_fail {k : TileTest} (hk : k.startup = false) {f : Nat} (hf : f ≠ 0) {u : State} (hu : u = endTest (takeSnapshot
      (failSource (countDone (testShown s z t f k) false) (gTile s z t) 0 5 f .degrade)) z k.req) :
    (tileD u z t).st = .isolated ∧ (tileD u z t).cause = 4 ∧ (tileD u z t).testLast = 1 ∧ (tileD u z t).testStep = f ∧
      u.bist.failed = min 255 (s.bist.failed + 1) ∧ u.bist.failSeen = true ∧ Reported u 0x61 (gTile s z t) .degrade s.tb.count := by
  have hframe := testShown_frame s z t f k
  have hshown := testShown_bist hr z t f k
  have hcount := countDone_ready (s := testShown s z t f k) ((congrArg (fun x : State => x.su.readyEver) hframe :).trans hr) false
  have hsnap := takeSnapshot_frame (failSource (countDone (testShown s z t f k) false) (gTile s z t) 0 5 f .degrade)
  have htb : (countDone (testShown s z t f k) false).tb.count = s.tb.count := by
    rw [hcount]; exact (congrArg (fun x : State => x.tb.count) hframe :)
  have htested := (tileD s z t).tested_fail hf s.tb.count (zoneVmax s z) s.snag.runNs
  rw [← hk] at htested
  have htile : tileD u z t = _ := (congrArg (fun x => tileD x z t) hu).trans <| (tileD_endTest _ _ _ _).trans <|
    (congrArg (fun x => tileD x z t) hsnap :).trans <| (congrArg (fun x => tileD x z t) hcount :).trans <|
    (tileD_testShown ht f k).trans htested
  obtain ⟨-, -, hfailed, hseen, -⟩ := endTest_bist
    (takeSnapshot (failSource (countDone (testShown s z t f k) false) (gTile s z t) 0 5 f .degrade)) z k.req
  have hbist : (takeSnapshot (failSource (countDone (testShown s z t f k) false) (gTile s z t) 0 5 f .degrade)).bist =
      (countDone (testShown s z t f k) false).bist := (congrArg State.bist hsnap :)
  rw [← hu, hbist, hcount] at hfailed hseen
  rw [htile]
  refine ⟨rfl, rfl, rfl, rfl, hfailed.trans ?_, hseen.trans ?_, ?_⟩
  · exact (congrArg (fun b : Bist => min 255 (b.failed + 1)) hshown :)
  · exact (congrArg Bist.failSeen hshown :).trans (by simp [hf])
  · obtain ⟨r, hr, hrep⟩ := report_mem_inbox (countDone (testShown s z t f k) false) 0x61 (gTile s z t) .degrade
      (some (word [(5, 0, 4), (0, 4, 4), (f, 8, 8)])) false none
    rw [htb] at hrep
    rw [hu]
    exact Reported.endTest ⟨r, (takeSnapshot_logsOnly (failSource _ _ 0 5 f .degrade)).inbox r hr, hrep⟩ z k.req
end
/-- A failure in the start: the tile keeps a mark, and the report is a NOTE (R422). -/
theorem endTest_mark {s : State} {z t : Nat} (ht : t < (zoneD s z).tiles.length) {k : TileTest} (hk : k.startup = true) {f : Nat} (hf : f ≠ 0)
    {u : State} (hu : u = endTest (note (testShown s z t f k) 0x61 (gTile s z t)) z k.req) :
    (tileD u z t).st ≠ .isolated ∧ (tileD u z t).bistFail = some f ∧ Reported u 0x61 (gTile s z t) .note s.tb.count := by
  have hframe := testShown_frame s z t f k
  have htb : (testShown s z t f k).tb = s.tb := (congrArg State.tb hframe :)
  have htested := (tileD s z t).tested_mark hf s.tb.count (zoneVmax s z) s.snag.runNs
  rw [← hk] at htested
  have htile : tileD u z t = _ := (congrArg (fun x => tileD x z t) hu).trans <| (tileD_endTest _ _ _ _).trans <|
    (tileD_testShown ht f k).trans htested
  obtain ⟨hleft, -⟩ := (tileD s z t).leaveTest_pass s.tb.count (zoneVmax s z)
  rw [htile]
  refine ⟨fun h => ?_, rfl, ?_⟩
  · rcases hleft with h' | h' <;> cases h.symm.trans h'
  · have hnote := note_mem_inbox (testShown s z t f k) 0x61 (gTile s z t) none
    rw [htb] at hnote
    exact hu ▸ Reported.endTest hnote z k.req

/-- Settles O31: the end of a test by its outcome and place, the requests by their rows. -/
theorem tileTestsAndTheirRequests : Obligations.TileTestsAndTheirRequests := by
  unfold Obligations.TileTestsAndTheirRequests
  refine ⟨fun z t k s hz ht hc hk hst htest hab hu hr => ?pass, fun z t f k s hz ht hc hk hst htest hab hu hr hf => ?fail,
    fun z t f k s hz ht hc hk hst htest hab hu hf => ?mark, fun z s hz hr ho => ?overdue, fun c g s hc hl hraw => ?deployed,
    fun c g s hc hl hb => exec_bstRun_busy hc hl hb c g, fun g z t s hc hl hb hr hn hg => ?tile, fun m s hc hl hb hr hn hm => ?memory,
    fun g a s hreq hrun hdue => exec_bstRequestDrop hreq hrun hdue⟩
  case pass =>
    refine ⟨_, exec_tileTestDone hc hk hst htest hab 0, endTest_pass ht hr k ?_⟩
    rw [if_neg (by simp [hu]), if_pos rfl]
  case fail =>
    have hf : f ≠ 0 := Nat.pos_iff_ne_zero.1 hf
    refine ⟨_, exec_tileTestDone hc hk hst htest hab f, endTest_fail ht hr hu hf ?_⟩
    rw [if_neg (by simp [hu]), if_neg hf]
  case mark =>
    have hf : f ≠ 0 := Nat.pos_iff_ne_zero.1 hf
    refine ⟨_, exec_tileTestDone hc hk hst htest hab f, endTest_mark ht hu hf ?_⟩
    rw [if_pos hu, if_neg hf]
  case overdue => exact if_pos (by simp [hasZone, hz, sinceReady, hr, ho])
  case deployed => exact exec_bstRun_deployed hc (by simp [life, hl, hraw, lcOf]) c g
  case tile => exact exec_bstRun_provisioned hc hl hb hr hn (.inl ⟨rfl, by simp [hg]⟩)
  case memory => exact exec_bstRun_provisioned hc hl hb hr hn (.inr ⟨rfl, hm⟩)

end Sys2Proof.Machine
end

section
/-!
The flash commands and the log (03_startup_fuses_and_image.md R104, R121 to R124): what a program leaves in the flash byte by byte, the
sector header that a renewed sector reads back, and one equation per command.
-/
namespace Sys2Proof.Machine

/-! ## The bytes of words and of little-endian numbers -/

theorem bytesOf_cons (w : W32) (ws : List W32) :
    bytesOf (w :: ws) = bitsOf w.toNat 0 8 :: bitsOf w.toNat 8 8 :: bitsOf w.toNat 16 8 :: bitsOf w.toNat 24 8 :: bytesOf ws := rfl
theorem length_bytesOf (ws : List W32) : (bytesOf ws).length = 4 * ws.length := by
  induction ws with
  | nil => rfl
  | cons w ws ih => rw [bytesOf_cons]; simp only [List.length_cons, ih]; omega
/-- A byte of a word list, as the flash takes it. -/
theorem getD_bytesOf (ws : List W32) (i : Nat) :
    BitVec.ofNat 8 ((bytesOf ws).getD i 0) = BitVec.ofNat 8 ((ws.getD (i / 4) 0).toNat / 256 ^ (i % 4)) := by
  induction ws generalizing i with
  | nil => simp [bytesOf]
  | cons w ws ih =>
    rw [bytesOf_cons]
    match i with
    | 0 | 1 | 2 | 3 => exact BitVec.eq_of_toNat_eq (by simp [bitsOf])
    | i + 4 => simpa using ih i
theorem le_four (x : Nat) : le 4 x = [bitsOf x 0 8, bitsOf x 8 8, bitsOf x 16 8, bitsOf x 24 8] := rfl
theorem leNat_le_four {x : Nat} (hx : x < 2 ^ 32) : leNat (le 4 x) = x := by
  simp only [le_four, leNat, bitsOf, List.foldr_cons, List.foldr_nil]
  omega

/-! ## A program, and a sector header read back -/

/-- A program writes its first byte, and then the rest from the next address on. -/
theorem flashProgram_cons (m : List Host.Cell) (a b : Nat) (bs : List Nat) :
    flashProgram m a (b :: bs) = flashProgram (flashPut m a (flashGet m a &&& BitVec.ofNat 8 b)) (a + 1) bs := by
  simp only [flashProgram, List.mapIdx_cons, List.foldl_cons, Nat.add_zero, Nat.add_assoc, Nat.add_comm 1]
/-- A read after a program: within its bytes only the bits that it leaves, elsewhere the old byte (R121, assumption 61). -/
theorem flashGet_program {m : List Host.Cell} (hm : Memory.wf m = true) (a : Nat) (bs : List Nat) (x : Nat) :
    flashGet (flashProgram m a bs) x =
      if a ≤ x ∧ x < a + bs.length then flashGet m x &&& BitVec.ofNat 8 (bs.getD (x - a) 0) else flashGet m x := by
  induction bs generalizing m a with
  | nil => rw [if_neg (by simp)]; rfl
  | cons b bs ih =>
    rw [flashProgram_cons, ih (flashPut_wf hm _ _), flashGet_put hm, List.length_cons]
    rcases Nat.lt_trichotomy x a with hlt | rfl | hgt
    · rw [if_neg (by omega), if_neg (by omega), if_neg (by omega)]
    · rw [if_neg (by omega), if_pos rfl, if_pos (by omega), Nat.sub_self]; rfl
    · rw [if_neg (by omega : ¬ x = a)]
      obtain ⟨k, rfl⟩ := Nat.exists_eq_add_of_lt hgt
      rw [show a + k + 1 - (a + 1) = k by omega, show a + k + 1 - a = k + 1 by omega, List.getD_cons_succ]
      exact if_congr (by omega) rfl rfl
/-- Bytes programmed into an erased sector read back (R121). -/
theorem flashBytes_program_erase {m : List Host.Cell} (hm : Memory.wf m = true) {a : Nat} (ha : a % 4096 = 0) {bs : List Nat}
    (hlen : bs.length ≤ 4096) (hbs : ∀ b ∈ bs, b < 256) : flashBytes (flashProgram (flashErase m a) a bs) a bs.length = bs := by
  refine List.ext_getElem (by simp [flashBytes]) fun i _ hi => ?_
  have hb : bs[i] < 256 := hbs _ (List.getElem_mem hi)
  have hsector : (a + i) / 4096 = a / 4096 := by omega
  have hread : flashGet (flashProgram (flashErase m a) a bs) (a + i) = BitVec.ofNat 8 bs[i] := by
    rw [flashGet_program (flashErase_wf hm a), if_pos ⟨by omega, by omega⟩, flashGet_erase, if_pos hsector, Nat.add_sub_cancel_left,
      List.getD_eq_getElem _ _ hi]
    exact BitVec.allOnes_and
  simp only [flashBytes, List.getElem_map, List.getElem_range, hread, BitVec.toNat_ofNat]
  exact Nat.mod_eq_of_lt hb
/-- A sector header byte by byte: its two marks, the region, SEQ, ERASES, and the CRC-32C of these (R123). -/
theorem secHeader_eq (r q e : Nat) :
    secHeader r q e = [0x47, 0x4C, r, 0] ++ le 4 q ++ le 4 e ++ le 4 (crc32c ([0x47, 0x4C, r, 0] ++ le 4 q ++ le 4 e)).toNat := rfl
theorem length_le (n x : Nat) : (le n x).length = n := by simp [le]
theorem lt_of_mem_le {n x b : Nat} (h : b ∈ le n x) : b < 256 := by
  obtain ⟨i, -, rfl⟩ := List.mem_map.1 h
  exact Nat.mod_lt _ (by decide)
theorem lt_of_mem_secHeader {r q e b : Nat} (hr : r < 256) (h : b ∈ secHeader r q e) : b < 256 := by
  simp only [secHeader_eq, List.mem_append, or_assoc] at h
  rcases h with h | h | h | h
  · simp only [List.mem_cons, List.not_mem_nil, or_false] at h; omega
  all_goals exact lt_of_mem_le h
/-- A renewed sector has a valid header, with the SEQ and the ERASES that it was given (R123, R124). -/
theorem secInfo_renew {m : List Host.Cell} (hm : Memory.wf m = true) {h : Header} (hh : h.logBase % 4096 = 0) {r q e : Nat} (i : Nat)
    (hr : r < 4) (hq : q < 2 ^ 32) (he : e < 2 ^ 32) : secInfo (renew m h r i q e) h r i = some (q, e) := by
  have hlen : (secHeader r q e).length = 16 := rfl
  have ha : sectorAt h r i % 4096 = 0 := by unfold sectorAt; omega
  have hbytes : flashBytes (renew m h r i q e) (sectorAt h r i) 16 = secHeader r q e := by
    have := flashBytes_program_erase hm ha (by rw [hlen]; decide) fun b hb => lt_of_mem_secHeader (by omega : r < 256) hb
    rwa [hlen] at this
  have hmark : leAt (secHeader r q e) 0 4 = 0x4C47 + 65536 * r := by
    show 0x47 + 256 * (0x4C + 256 * (r + 256 * (0 + 256 * 0))) = _
    omega
  have hseq : leAt (secHeader r q e) 4 4 = q := leNat_le_four hq
  have herases : leAt (secHeader r q e) 8 4 = e := leNat_le_four he
  have hcrc : leAt (secHeader r q e) 12 4 = (crc32c ((secHeader r q e).take 12)).toNat := leNat_le_four (BitVec.isLt _)
  unfold secInfo
  simp only [hbytes, hmark, hseq, herases, hcrc, decide_true, Bool.and_self, if_true]

/-! ## The flash commands (R121, R122) -/

theorem belowLimit_iff (n : Nvm) : belowLimit n = true ↔ n.discovered = true ∧ n.progAddr.toNat < n.logBase.getD 0x600000 := by
  cases h : n.discovered <;> simp [belowLimit, progLimit, h]
section
variable {s : State}
/-- A command starts where none runs and it is not refused. -/
theorem nvmStart_started (hc : s.su.cond = .run ∨ s.su.cond = .safe) (hb : s.nvm.busy = none) (r : NvmRun) :
    nvmStart s true r = .next { s with nvm := { s.nvm with ptr := 0, verifyDone := false, refused := false, busy := some r } } := by
  rw [nvmStart, if_neg (by simp [(alive_iff s).2 hc, hb])]; rfl
/-- A refused command clears the pointer and sets REFUSED, and nothing runs. -/
theorem nvmStart_refused (hc : s.su.cond = .run ∨ s.su.cond = .safe) (hb : s.nvm.busy = none) (r : NvmRun) :
    nvmStart s false r = .next { s with nvm := { s.nvm with ptr := 0, verifyDone := false, refused := true } } := by
  rw [nvmStart, if_neg (by simp [(alive_iff s).2 hc, hb])]; rfl
/-- While a command runs no other starts. -/
theorem nvmStart_busy (hb : s.nvm.busy ≠ none) (ok : Bool) (r : NvmRun) : nvmStart s ok r = .next s := by
  rw [nvmStart, if_pos (by simp [Option.isSome_iff_ne_none.2 hb])]

theorem exec_nvmCommandDone_erase {a : Nat} (hb : s.nvm.busy = some (.erase a)) (err : Bool) : exec (.nvmCommandDone err) s =
    .next { s with nvm := { s.nvm with busy := none, error := err, flash := if err then s.nvm.flash else flashErase s.nvm.flash a } } := by
  show execNvmCommandDone err s = _
  rw [execNvmCommandDone, hb]
theorem exec_nvmCommandDone_program {a : Nat} {p : List W32} (hb : s.nvm.busy = some (.program a p)) (err : Bool) :
    exec (.nvmCommandDone err) s = .next { s with
      nvm := { s.nvm with busy := none, error := err, flash := if err then s.nvm.flash else flashProgram s.nvm.flash a (bytesOf p) } } := by
  show execNvmCommandDone err s = _
  rw [execNvmCommandDone, hb]
theorem exec_nvmCommandDone_verify (hb : s.nvm.busy = some .verify) (err : Bool) :
    exec (.nvmCommandDone err) s = .next { s with nvm := verifyDone s { s.nvm with busy := none } } := by
  show execNvmCommandDone err s = _
  rw [execNvmCommandDone, hb]
/-- What a VERIFY leaves: its result, over the flash as it stands. -/
theorem verifyDone_spec (s : State) (n : Nvm) : (verifyDone s n).busy = n.busy ∧ (verifyDone s n).verifyDone = true ∧
    (verifyDone s n).verifyCode = verifyCode s.fus.shadow n.flash n.densityLog2 ∧ (verifyDone s n).flash = n.flash := by
  unfold verifyDone
  dsimp only
  split <;> exact ⟨rfl, rfl, rfl, rfl⟩
theorem exec_nvmProgDataWrite (hc : s.su.cond = .run ∨ s.su.cond = .safe) (w : W32) : exec (.nvmProgDataWrite w) s =
    .next { s with nvm := { s.nvm with page := s.nvm.page.set s.nvm.ptr w, ptr := (s.nvm.ptr + 1) % 64 } } := if_pos ((alive_iff s).2 hc)

/-! ## Log clears and log writes (R104, R121, R123) -/

theorem logClear_cleared (hc : s.su.cond = .run ∨ s.su.cond = .safe) (hp : logClears s = true) {h : Header} (hh : s.nvm.hdr = some h)
    (r : Nat) : logClear s r = .next (setLog s s.nvm h (clearRegion s.nvm.flash h r)) := by
  rw [logClear, if_neg (by simp [(alive_iff s).2 hc]), if_neg (by simp [hp]), hh]
theorem logClear_forbidden (hc : s.su.cond = .run ∨ s.su.cond = .safe) (hp : logClears s = false) (r : Nat) :
    logClear s r = .next (note s 0x01 0) := by
  rw [logClear, if_neg (by simp [(alive_iff s).2 hc]), if_pos (by simp [hp])]
/-- Pair 1 may write the record at the front of the log queue: no command runs, the log area is located, the batch is not used up. -/
structure LogWriter (s : State) (h : Header) : Prop where
  cond : s.su.cond = .run ∨ s.su.cond = .safe
  idle : s.nvm.busy = none
  located : s.nvm.logOk = true
  writes : logWrites s = true
  pair : s.cores.run1 = true
  batch : s.nvm.batch ≠ 0
  header : s.nvm.hdr = some h
/-- A log write that completes, or fails, with the record that was next. -/
theorem exec_logWriteDone {h : Header} (hw : LogWriter s h) {r : Nat} {payload : List Nat} {done failed : Nvm}
    (hn : nextRecord s = some (r, payload, done, failed)) (ok : Bool) : exec (.logWriteDone ok) s =
      .next (if ok then setLog s done h (append s.nvm.flash h r payload) else note { s with nvm := failed } 0x68 0) := by
  show execLogWriteDone ok s = _
  rw [execLogWriteDone,
    if_neg (by simp [(alive_iff s).2 hw.cond, hw.idle, hw.located, hw.writes, hw.pair, hw.batch]), hw.header, hn]
theorem exec_logWriteDone_busy (hb : s.nvm.busy ≠ none) (ok : Bool) : exec (.logWriteDone ok) s = .next s := by
  show execLogWriteDone ok s = _
  rw [execLogWriteDone, if_pos (by simp [Option.isSome_iff_ne_none.2 hb])]
theorem nextRecord_fh {r : FhRec} {rest : List LogRec} (hq : s.nvm.queue = .fh r :: rest) :
    nextRecord s = some (1, fhBytes r, dropEntry s.nvm, dropEntry s.nvm) := by rw [nextRecord, hq]
theorem nextRecord_shut {r : ShutRecord} {rest : List LogRec} (hq : s.nvm.queue = .shut r :: rest) :
    nextRecord s = some (2, shutBytes r, dropEntry s.nvm, dropEntry s.nvm) := by rw [nextRecord, hq]
/-- A snapshot before its last part stays at the front of the queue. -/
theorem nextRecord_snap {x : Snapshot} {rest : List LogRec} (hq : s.nvm.queue = .snap x :: rest) :
    nextRecord s = some (3, snapPart x s.nvm.snapNo s.nvm.part,
      if s.nvm.part < 98 then { s.nvm with part := s.nvm.part + 1 } else { dropEntry s.nvm with snapNo := (s.nvm.snapNo + 1) % 2 ^ 32 },
      { dropEntry s.nvm with snapNo := (s.nvm.snapNo + 1) % 2 ^ 32 }) := by
  unfold nextRecord
  dsimp only
  split <;> rename_i heq <;> rw [hq] at heq <;> cases heq
  rfl
theorem dropEntry_queue {n : Nvm} {r : LogRec} {rest : List LogRec} (hq : n.queue = r :: rest) : (dropEntry n).queue = rest := by
  simp [dropEntry, hq]
/-- A failed append drops the entry that it was part of (assumption 65). -/
theorem nextRecord_failed {r : LogRec} {rest : List LogRec} (hq : s.nvm.queue = r :: rest) : ∃ region payload done failed,
    nextRecord s = some (region, payload, done, failed) ∧ failed.queue = rest ∧ failed.flash = s.nvm.flash := by
  cases r with
  | fh r => exact ⟨_, _, _, _, nextRecord_fh hq, dropEntry_queue hq, rfl⟩
  | shut r => exact ⟨_, _, _, _, nextRecord_shut hq, dropEntry_queue hq, rfl⟩
  | snap x => exact ⟨_, _, _, _, nextRecord_snap hq, dropEntry_queue hq, rfl⟩
end

/-- Settles O52: a command starts or is refused by `belowLimit`, each completion has its equation with the byte-wise reads of the flash, and a
log write appends what `nextRecord` names. -/
theorem flashCommandsBytesAndLogs : Obligations.FlashCommandsBytesAndLogs := by
  refine ⟨fun s hc hb hd hl => ?_, fun s hc hb hl => ?_, fun s hc hb hd => ?_, fun a s hb => ?_, fun a p s hb hp hm => ?_, fun e s hb => ?_,
    fun a s hb => exec_nvmCommandDone_erase hb true, fun w s hc hp => ?_, fun h s hc hp hh => ?_,
    fun m h r i q e hm hh hr hq he => secInfo_renew hm hh i hr hq he, fun s hc hp => ?_, fun h r rest s hc hb hl hw hr1 hba hh hq => ?_,
    fun h r rest s hc hb hl hw hr1 hba hh hq => ?_, fun h x rest s hc hb hl hw hr1 hba hh hq => ?_,
    fun h r rest s hc hb hl hw hr1 hba hh hq => ?_, fun s hb => ?_⟩
  · have hok : belowLimit s.nvm = true := (belowLimit_iff _).2 ⟨hd, hl⟩
    exact ⟨by show nvmStart s (belowLimit s.nvm) _ = _; rw [hok]; exact nvmStart_started hc hb _,
      by show nvmStart s (belowLimit s.nvm) _ = _; rw [hok]; exact nvmStart_started hc hb _⟩
  · have hno : belowLimit s.nvm = false := by
      refine Bool.eq_false_iff.2 fun h => ?_
      obtain ⟨hd, hlt⟩ := (belowLimit_iff _).1 h
      rcases hl with hl | hl
      · rw [hl] at hd; cases hd
      · exact absurd hlt (Nat.not_lt.2 hl)
    exact ⟨by show nvmStart s (belowLimit s.nvm) _ = _; rw [hno]; exact nvmStart_refused hc hb _,
      by show nvmStart s (belowLimit s.nvm) _ = _; rw [hno]; exact nvmStart_refused hc hb _⟩
  · show nvmStart s s.nvm.discovered _ = _; rw [hd]; exact nvmStart_started hc hb _
  · exact ⟨_, exec_nvmCommandDone_erase hb false, rfl, rfl, rfl, flashGet_erase _ a⟩
  · have hlen : (bytesOf p).length = 256 := by rw [length_bytesOf, hp]
    refine ⟨_, exec_nvmCommandDone_program hb false, rfl, rfl, rfl, flashProgram_wf hm a _, fun x hx => ?_, fun i hi => ?_⟩
    · exact (flashGet_program hm a _ x).trans (if_neg (by omega))
    · refine (flashGet_program hm a _ _).trans ((if_pos (by omega)).trans ?_)
      rw [Nat.add_sub_cancel_left, getD_bytesOf]
  · obtain ⟨hbusy, hdone, hcode, hflash⟩ := verifyDone_spec s { s.nvm with busy := none }
    exact ⟨_, exec_nvmCommandDone_verify hb e, hbusy, hdone, hcode, hflash, rfl⟩
  · refine ⟨_, exec_nvmProgDataWrite hc w, ?_, rfl, fun i hi => ?_, rfl⟩
    · show (s.nvm.page.set s.nvm.ptr w).getD s.nvm.ptr 0 = w
      simp [List.getD_eq_getElem?_getD, hp]
    · show (s.nvm.page.set s.nvm.ptr w).getD i 0 = _
      simp [List.getD_eq_getElem?_getD, List.getElem?_set_ne (Ne.symm hi)]
  · exact ⟨⟨_, logClear_cleared hc hp hh 1, rfl, rfl, rfl⟩, ⟨_, logClear_cleared hc hp hh 2, rfl, rfl, rfl⟩,
      ⟨_, logClear_cleared hc hp hh 3, rfl, rfl, rfl⟩⟩
  · exact ⟨logClear_forbidden hc hp 1, logClear_forbidden hc hp 2, logClear_forbidden hc hp 3⟩
  · exact ⟨_, exec_logWriteDone ⟨hc, hb, hl, hw, hr1, hba, hh⟩ (nextRecord_fh hq) true, dropEntry_queue hq, rfl, rfl, rfl⟩
  · exact ⟨_, exec_logWriteDone ⟨hc, hb, hl, hw, hr1, hba, hh⟩ (nextRecord_shut hq) true, dropEntry_queue hq, rfl, rfl, rfl⟩
  · refine ⟨_, exec_logWriteDone ⟨hc, hb, hl, hw, hr1, hba, hh⟩ (nextRecord_snap hq) true, rfl, fun hpart => ?_, fun hpart => ?_, rfl⟩
    · simp only [if_true, if_pos hpart]; exact ⟨rfl, rfl⟩
    · simp only [if_true, if_neg (Nat.not_lt.2 hpart)]; exact ⟨dropEntry_queue hq, rfl, rfl⟩
  · obtain ⟨region, payload, done, failed, hn, hrest, hflash⟩ := nextRecord_failed hq
    exact ⟨_, exec_logWriteDone ⟨hc, hb, hl, hw, hr1, hba, hh⟩ hn false, hrest, hflash,
      note_mem_inbox { s with nvm := failed } 0x68 0 none, rfl⟩
  · exact ⟨nvmStart_busy hb _ _, nvmStart_busy hb _ _, exec_logWriteDone_busy hb true⟩

end Sys2Proof.Machine
end

section
/-!
PMBus writes and their refusals (17 R440 to R445): the gate of a write, what an invalid one leaves, and one equation per command.
-/
namespace Sys2Proof.Machine

/-! ## Bits -/

theorem testBit_foldl_or (l : List Nat) (a i : Nat) :
    (l.foldl (fun a k => a ||| 2 ^ k) a).testBit i = (a.testBit i || decide (i ∈ l)) := by
  induction l generalizing a with
  | nil => simp
  | cons k l ih => simp [ih, Nat.testBit_two_pow, Bool.or_assoc, eq_comm (a := k)]
theorem testBit_ofBits (l : List Nat) (i : Nat) : (ofBits l).testBit i = decide (i ∈ l) := by
  rw [ofBits, testBit_foldl_or, Nat.zero_testBit, Bool.false_or]
/-- A bit set in an 8-bit status register reads 1. -/
theorem getLsbD_or_bit_eight (x : BitVec 8) {b : Nat} (hb : b < 8) : (x ||| BitVec.ofNat 8 (2 ^ b)).getLsbD b = true := by
  rw [BitVec.getLsbD_or, BitVec.getLsbD_ofNat, Nat.testBit_two_pow_self, decide_eq_true hb, Bool.and_self, Bool.or_true]

/-! ## Writes and their gate (R440, R442) -/

section
variable {s : State}
theorem pmbWrite_served (h : pmbWrites s = true) (f : State → State) : pmbWrite s f = .next (f (pmbAck s true)) := if_pos h
/-- The state an invalid transaction leaves (R444): its bit of STATUS_CML, acknowledged, and a NOTE 0x01 reported. -/
theorem pmbBad_spec (s : State) (bit : Nat) :
    (pmbBad s bit).pmb = { s.pmb with cml := s.pmb.cml ||| BitVec.ofNat 8 (2 ^ bit), acked := true } ∧
    (∃ r ∈ (pmbBad s bit).snag.inbox, r.code = 0x01 ∧ r.unit = 0 ∧ r.cls = .note ∧ r.stamp = s.tb.count) ∧
    { pmbBad s bit with pmb := s.pmb, snag := s.snag } = s := ⟨rfl, note_mem_inbox _ 0x01 0 none, rfl⟩
/-- An invalid transaction changes its bit of STATUS_CML, the acknowledgement and the Snag unit's inbox alone (R444). -/
theorem pmbBad_marks (s : State) {b : Nat} (hb : b ∈ [7, 6, 5, 1]) : (pmbBad s b).pmb.cml.getLsbD b = true ∧
    (∃ r ∈ (pmbBad s b).snag.inbox, r.code = 0x01 ∧ r.unit = 0 ∧ r.cls = .note ∧ r.stamp = s.tb.count) ∧
    { pmbBad s b with pmb := { (pmbBad s b).pmb with cml := s.pmb.cml, acked := s.pmb.acked }, snag := s.snag } = s := by
  obtain ⟨-, hnote, -⟩ := pmbBad_spec s b
  have hlt : b < 8 := by simp only [List.mem_cons, List.not_mem_nil, or_false] at hb; omega
  exact ⟨getLsbD_or_bit_eight _ hlt, hnote, rfl⟩

theorem exec_page_served (h : pmbWrites s = true) (p : Nat) : exec (.page (some p)) s =
    .next (if p ≠ 0xFF ∧ s.su.zones ≤ p then pmbBad s 6
      else if s.pmb.wp ≠ 0x80 then { s with pmb := { s.pmb with page := p, acked := true } } else pmbAck s true) := by
  show execPage (some p) s = _
  rw [execPage, pmbWrite_served h]
  simp only [wpOper, Bool.and_eq_true, decide_eq_true_eq]
  rfl
theorem exec_operation_served (h : pmbWrites s = true) (v : Nat) (pec : Option Bool) : exec (.operation (some v) pec) s =
    .next (if pec = some false then pmbBad s 5
      else if v = 0 ∨ v = 0x40 then (if pec.isSome ∧ s.pmb.wp ≠ 0x80 then report (pmbAck s true) 0x02 0 .halt else pmbAck s true)
      else if v = 0x80 ∧ ready s = true then pmbAck s true else pmbBad s 6) := by
  show execOperation (some v) pec s = _
  rw [execOperation, pmbWrite_served h]
  simp only [wpOper, Bool.or_eq_true, Bool.and_eq_true, decide_eq_true_eq]
  rfl
theorem exec_writeProtect_served (h : pmbWrites s = true) (v : Nat) : exec (.writeProtect (some v)) s =
    .next (if v ∈ [0, 0x20, 0x40, 0x80] then { s with pmb := { s.pmb with wp := v, acked := true } } else pmbBad s 6) := by
  show execWriteProtect (some v) s = _
  rw [execWriteProtect, pmbWrite_served h]
  rfl
theorem exec_pmbusInvalid_served {write : Bool} (h : (if write then pmbWrites s else pmbUp s) = true) {b : Nat} (hb : b ∈ [7, 6, 5, 1]) :
    exec (.pmbusInvalid write b) s = .next (pmbBad s b) := by
  show execPmbusInvalid write b s = _
  rw [execPmbusInvalid, if_neg (by simp [h]), if_pos hb]
theorem exec_pmbusInvalid_not_served (h : pmbWrites s = false) (b : Nat) : exec (.pmbusInvalid true b) s = .next (pmbAck s false) := by
  show execPmbusInvalid true b s = _
  rw [execPmbusInvalid, if_pos (by simp [h])]

/-! ## CLEAR_FAULTS and the alert response (R412, R445) -/

/-- The alert bits that CLEAR_FAULTS leaves: those whose latest raise is stamped no earlier than the command. -/
def lateAlerts (s : State) : BitVec 5 := BitVec.ofNat 5 (ofBits ((List.range 5).filter fun k => now s ≤ s.snag.alertAt.getD k 0))
theorem getLsbD_lateAlerts (s : State) {k : Nat} (hk : k < 5) : (lateAlerts s).getLsbD k = decide (now s ≤ s.snag.alertAt.getD k 0) := by
  rw [lateAlerts, BitVec.getLsbD_ofNat, testBit_ofBits]
  simp [hk]
theorem lateAlerts_eq_zero (h : ∀ k < 5, s.snag.alertAt.getD k 0 < s.tb.count) : lateAlerts s = 0 := by
  refine BitVec.eq_of_getLsbD_eq fun k hk => ?_
  rw [getLsbD_lateAlerts s hk]
  exact (decide_eq_false (Nat.not_le.2 (h k hk))).trans BitVec.getLsbD_zero.symm
theorem exec_clearFaults_served (h : pmbWrites s = true) : exec .clearFaults s = .next { s with
    pmb := { s.pmb with ov := s.pmb.ov && now s ≤ s.pmb.ovAt, oc := s.pmb.oc && now s ≤ s.pmb.ocAt, inp := s.pmb.inp && now s ≤ s.pmb.inAt
                        cml := 0, clearAt := now s, acked := true }
    snag := { s.snag with alert := s.snag.alert &&& lateAlerts s } } := by
  show execClearFaults s = _
  rw [execClearFaults, pmbWrite_served h]
  rfl
theorem smbAlertLow_iff (s : State) : smbAlertLow s = true ↔ running s = true ∧ sinceReady s = true ∧ s.snag.alert &&& s.snag.mask ≠ 0 := by
  simp [smbAlertLow, and_assoc]
/-- The alert response is answered with twice the address while SMB_ALERT_N is low. -/
theorem exec_alertResponse_low (h : pmbUp s = true) (ha : smbAlertLow s = true) : exec .alertResponse s =
    .next { s with pmb := { s.pmb with resp := leBytes 1 (2 * (0x58 + s.su.cascId)), acked := true } } := by
  show execAlertResponse s = _
  rw [execAlertResponse, if_pos (by simp [h, ha]), pmbRead, if_pos h]
theorem exec_alertResponse_high (ha : smbAlertLow s = false) : exec .alertResponse s = .next (pmbAck s false) := if_neg (by simp [ha])
end

/-- Settles O56: each served write has its equation, an invalid one ends in `pmbBad`, and a write that is not served only loses its
acknowledgement. -/
theorem pmbusWritesAndTheirRefusals : Obligations.PmbusWritesAndTheirRefusals := by
  refine ⟨fun p s h hp hwp => ?_, fun p s h hff hp => ?_, fun v s h hv => ?_, fun v s h hv => ?_, fun v s h hv hwp => ?_,
    fun v s h hv => ?_, fun v p s h hbad => ?_, fun s h hr => ?_, fun v s h ⟨hwp, hv⟩ => ⟨?_, fun p hp => ?_⟩,
    fun s h ⟨hov, hoc, hin⟩ ha => ?_, fun k s h hk ha => ?_, fun b s h hb => ?_, fun b s h hb => ?_, fun v s h c hc => ?_, fun s => rfl,
    fun s hc hr hl ha => ?_, fun s ha => ?_⟩
  · rw [exec_page_served h, if_neg (by omega), if_pos hwp]
  · rw [exec_page_served h, if_pos ⟨hff, hp⟩]
    exact ⟨_, rfl, pmbBad_spec s 6⟩
  · rw [exec_writeProtect_served h, if_pos hv]
  · rw [exec_writeProtect_served h, if_neg hv]
    exact ⟨_, rfl, rfl, getLsbD_or_bit_eight _ (by decide), (pmbBad_spec s 6).2.1, rfl⟩
  · rw [exec_operation_served h, if_neg (by simp), if_pos hv, if_pos ⟨rfl, hwp⟩]
    exact ⟨_, rfl, report_mem_inbox _ 0x02 0 .halt none false none, rfl, rfl⟩
  · rw [exec_operation_served h, if_neg (by simp), if_pos hv, if_neg (by simp)]
    rfl
  · by_cases hpec : p = some false
    · rw [exec_operation_served h, if_pos hpec, if_pos hpec]
      exact ⟨_, rfl, pmbBad_spec s 5⟩
    · have hv : v ∉ [0, 0x40, 0x80] := hbad.resolve_left hpec
      simp only [List.mem_cons, List.not_mem_nil, or_false, not_or] at hv
      rw [exec_operation_served h, if_neg hpec, if_neg hpec, if_neg (by tauto), if_neg (by tauto)]
      exact ⟨_, rfl, pmbBad_spec s 6⟩
  · rw [exec_operation_served h, if_neg (by simp), if_neg (by simp), if_pos ⟨rfl, hr⟩]
    rfl
  · rw [exec_operation_served h, if_neg (by simp), if_pos hv, if_neg (by simp [hwp])]
    rfl
  · rw [exec_page_served h, if_neg (by omega), if_neg (by simp [hwp])]
    rfl
  · refine ⟨_, exec_clearFaults_served h, ?_, ?_, rfl⟩
    · have hearly {n : Nat} (hn : n < s.tb.count) (b : Bool) : (b && decide (now s ≤ n)) = false := by
        rw [decide_eq_false (Nat.not_le.2 hn : ¬ now s ≤ n), Bool.and_false]
      simp only [hearly hov, hearly hoc, hearly hin]
      rfl
    · simp only [lateAlerts_eq_zero ha]
      rw [show s.snag.alert &&& 0 = 0 from BitVec.and_zero]
  · refine ⟨_, exec_clearFaults_served h, ?_, rfl⟩
    show (s.snag.alert &&& lateAlerts s).getLsbD k = _
    rw [BitVec.getLsbD_and, getLsbD_lateAlerts s hk, decide_eq_true (show now s ≤ _ from ha), Bool.and_true]
  · exact ⟨_, exec_pmbusInvalid_served (write := true) h hb, pmbBad_marks s hb⟩
  · exact ⟨_, exec_pmbusInvalid_served (write := false) h hb, pmbBad_marks s hb⟩
  · simp only [List.mem_cons, List.not_mem_nil, or_false] at hc
    obtain rfl | rfl | rfl | rfl | rfl | rfl | rfl := hc
    case inr.inr.inr.inr.inr.inr => exact exec_pmbusInvalid_not_served h 6
    all_goals exact if_neg (by simp [h])
  · exact exec_alertResponse_low (by simp [pmbUp, alive_of_run hc, hl]) ((smbAlertLow_iff s).2 ⟨decide_eq_true hc, hr, ha⟩)
  · exact exec_alertResponse_high (Bool.eq_false_iff.2 fun hlow => ((smbAlertLow_iff s).1 hlow).2.2 ha)

end Sys2Proof.Machine
end

section
/-!
A capture at a tile: the results, the counts of the overload and short rules, the report of the slot and its flags. The statement O16.
-/
namespace Sys2Proof.Machine
namespace Tile

/-- The results a tile takes at a capture: the trimmed output, and the sum of the trimmed phase currents in 14 signed bits (R109, R150). -/
theorem capture_results (x : Tile) (r : RawTile) (k : Nat) : (x.capture r k).v = trimV x.fac x.usr r.v ∧
    (x.capture r k).i = clampI (-8192) 8191 (sumI ((List.range 4).map fun p => trimI x.fac x.usr (r.ip.getD p 0))) := ⟨rfl, rfl⟩
/-- The overload count goes up with a current above 4,000 mA or a clamp that acted under OVERLOAD, and down otherwise (R129). -/
theorem capture_overCount (x : Tile) (r : RawTile) (k : Nat) : (x.capture r k).overCount =
    if (x.capture r k).i > 4000 ∨ (x.overload = true ∧ x.clampActed = true) then min 157 (x.overCount + 1) else x.overCount - 1 := by
  have hover : (decide ((x.capture r k).i > 4000) || (x.overload && x.clampActed)) = true ↔
      (x.capture r k).i > 4000 ∨ (x.overload = true ∧ x.clampActed = true) := by simp
  exact if_congr hover rfl rfl
/-- The report shows the results and what the slot held (R156). -/
theorem capture_report (x : Tile) (r : RawTile) (k : Nat) : (x.capture r k).rep.v = (x.capture r k).v ∧
    (x.capture r k).rep.i = (x.capture r k).i ∧ (x.capture r k).rep.trips = min 15 x.tripsSlot ∧
    (x.capture r k).rep.cancelled = x.cancelled ∧ (x.capture r k).rep.taint = x.taintSlot ∧
    (x.capture r k).rep.droop = (x.droopSlot || x.droopLine) := ⟨rfl, rfl, rfl, rfl, rfl, rfl⟩
/-- The flags of the slot start afresh, DROOP at the level of the droop output (R156). -/
theorem capture_slot (x : Tile) (r : RawTile) (k : Nat) : (x.capture r k).tripsSlot = 0 ∧ (x.capture r k).cancelled = false ∧
    (x.capture r k).taintSlot = false ∧ (x.capture r k).droopSlot = x.droopLine ∧ (x.capture r k).clampActed = false :=
  ⟨rfl, rfl, rfl, rfl, rfl⟩
/-- A capture moves the reference up to its instant, and leaves the state, the phase count and the command (R135). -/
theorem capture_frame (x : Tile) (r : RawTile) (k : Nat) : (x.capture r k).st = x.st ∧ (x.capture r k).vref = (x.refTo k).vref ∧
    (x.capture r k).nact = x.nact ∧ (x.capture r k).cmd = x.cmd := ⟨rfl, rfl, rfl, rfl⟩

end Tile

/-- Settles O16: the lemmas of a capture, one for each group of registers. -/
theorem tileCaptureFormsTheReport : Obligations.TileCaptureFormsTheReport := by
  unfold Obligations.TileCaptureFormsTheReport
  intro x r k
  obtain ⟨hv, hi⟩ := x.capture_results r k
  obtain ⟨hrv, hri, hrtrips, hrcancelled, hrtaint, hrdroop⟩ := x.capture_report r k
  obtain ⟨htrips, hcancelled, htaint, hdroop, hclamp⟩ := x.capture_slot r k
  obtain ⟨hst, hvref, hnact, hcmd⟩ := x.capture_frame r k
  exact ⟨hv, hi, x.capture_overCount r k, rfl, hrv, hri, hrtrips, hrcancelled, hrtaint, hrdroop, htrips, hcancelled, htaint, hdroop,
    hclamp, hst, hvref, hnact, hcmd⟩

end Sys2Proof.Machine
end

section
/-!
Faults and local events of a tile: isolation, OVERLOAD, load steps, the entry of REG and the end of a stop, and the excursions that end
with them. The statement O21.
-/
namespace Sys2Proof.Machine

/-! ## Excursions open at tiles that stopped (R153, R293) -/

/-- The interval of an excursion begun at d that ends with its tile at k (assumption 91). -/
def stoppedTaint (t d df k : Nat) : TaintEv := { start := d, startFine := df, stop := k, stopFine := if d = k then df else 0, tile := t }

namespace Zone

/-- Tile t's part of `endTaints`. -/
def endTaint (k : Nat) (zn : Zone) (t : Nat) : Zone := match (zn.tiles.getD t {}).taintOpen with
  | some (d, df) => if (zn.tiles.getD t {}).switching then zn else zn.sendTaint t (stoppedTaint t d df k) none
  | none => zn
theorem endTaints_eq (zn : Zone) (k : Nat) : zn.endTaints k = (List.range zn.tiles.length).foldl (endTaint k) zn := rfl
/-- An excursion open at a tile that no longer regulates is sent, and closed. -/
theorem endTaint_open {zn : Zone} {t d df : Nat} (h : (zn.tiles.getD t {}).taintOpen = some (d, df))
    (hsw : (zn.tiles.getD t {}).switching = false) (k : Nat) : zn.endTaint k t = zn.sendTaint t (stoppedTaint t d df k) none := by
  rw [endTaint, h]
  exact if_neg (Bool.eq_false_iff.1 hsw)
/-- Tile t's part sends one interval of that tile, or does nothing. -/
theorem endTaint_cases (zn : Zone) (k t : Nat) : zn.endTaint k t = zn ∨ ∃ e, zn.endTaint k t = zn.sendTaint t e none := by
  unfold endTaint
  split
  · split
    · exact .inl rfl
    · exact .inr ⟨_, rfl⟩
  · exact .inl rfl
/-- Tile j's part leaves the other tiles as they are, and loses no word on its way to the Float. -/
theorem endTaint_keeps (zn : Zone) (k : Nat) {j t : Nat} (h : t ≠ j) : (zn.endTaint k j).tiles.getD t {} = zn.tiles.getD t {} ∧
    (zn.endTaint k j).tiles.length = zn.tiles.length ∧ zn.sft.inflight ⊆ (zn.endTaint k j).sft.inflight := by
  obtain hzn | ⟨e, hzn⟩ := endTaint_cases zn k j <;> rw [hzn]
  · exact ⟨rfl, rfl, List.Subset.refl _⟩
  · exact ⟨getD_modify_other _ h _ _, List.length_modify .., List.subset_append_left ..⟩
/-- So do any number of tiles, tile t not among them. -/
theorem foldl_endTaint_keeps (k : Nat) {t : Nat} (l : List Nat) (h : t ∉ l) (zn : Zone) :
    (l.foldl (endTaint k) zn).tiles.getD t {} = zn.tiles.getD t {} ∧ (l.foldl (endTaint k) zn).tiles.length = zn.tiles.length ∧
      zn.sft.inflight ⊆ (l.foldl (endTaint k) zn).sft.inflight := by
  induction l generalizing zn with
  | nil => exact ⟨rfl, rfl, List.Subset.refl _⟩
  | cons j l ih =>
    obtain ⟨hj, hl⟩ := not_or.1 (mt List.mem_cons.2 h)
    obtain ⟨htile, hlen, hsub⟩ := endTaint_keeps zn k hj
    obtain ⟨htile', hlen', hsub'⟩ := ih hl (zn.endTaint k j)
    exact ⟨htile'.trans htile, hlen'.trans hlen, List.Subset.trans hsub hsub'⟩
/-- A stopped tile's excursion is over, flagged for the slot, and on its way to the Float: the tiles before and after it leave it alone. -/
theorem endTaints_stopped {zn : Zone} {t d df : Nat} (h : (zn.tiles.getD t {}).taintOpen = some (d, df))
    (hsw : (zn.tiles.getD t {}).switching = false) (ht : t < zn.tiles.length) (k : Nat) :
    ((zn.endTaints k).tiles.getD t {}).taintOpen = none ∧ ((zn.endTaints k).tiles.getD t {}).taintSlot = true ∧
      (stoppedTaint t d df k).word ∈ (zn.endTaints k).sft.inflight := by
  obtain ⟨before, after, hsplit⟩ := List.append_of_mem (List.mem_range.2 ht)
  have hnodup : (before ++ t :: after).Nodup := hsplit ▸ List.nodup_range
  obtain ⟨hbefore, hafter⟩ := not_or.1 (mt List.mem_append.2 (List.nodup_cons.1 (List.nodup_middle.1 hnodup)).1)
  obtain ⟨htile, hlen, -⟩ := foldl_endTaint_keeps k before hbefore zn
  obtain ⟨htile', -, hsub⟩ := foldl_endTaint_keeps k after hafter ((before.foldl (endTaint k) zn).endTaint k t)
  rw [endTaints_eq, hsplit, List.foldl_append, List.foldl_cons, htile']
  rw [endTaint_open (htile ▸ h) (htile ▸ hsw)] at hsub ⊢
  have hsent := getD_modify_same (hlen ▸ ht) (fun x => { x with taintOpen := none, taintSlot := true }) ({} : Tile)
  exact ⟨(congrArg Tile.taintOpen hsent :), (congrArg Tile.taintSlot hsent :), hsub (List.mem_append_right _ (List.mem_singleton.2 rfl))⟩

end Zone

/-! ## The tile itself (R139, R141, R145, R146, R425) -/

namespace Tile

/-- ISOLATED: every switch open, nothing pending (R139, R142). -/
theorem isolate_of_ne {x : Tile} (h : x.st ≠ .isolated) (c : Nat) : x.isolate c = { x.setNact 0 with
    st := .isolated, cause := c, win := none, boost := 0, boosted := false, held := none, armed := none, watch := [], stopping := none
    test := none, droopOut := false, startCnt := 0 } := if_neg h
theorem isolate_of_isolated {x : Tile} (h : x.st = .isolated) (c : Nat) : x.isolate c = x := if_pos h
/-- The one watch of a tile, while it is open. -/
theorem watchAt_open {x : Tile} {k e n : Nat} (h : x.watch = [(e, n)]) (hk : k < e) : x.watchAt k = [(e, n)] := by
  simp [watchAt, h, hk]
theorem watchAt_over {x : Tile} {k : Nat} (h : ∀ p ∈ x.watch, p.1 ≤ k) : x.watchAt k = [] :=
  List.filter_eq_nil_iff.2 fun p hp => by simpa using h p hp
/-- A load step disarms, and counts up to the phases that the open watches restart (R145, R146). -/
theorem loadStep_fields (x : Tile) (k : Nat) : (x.loadStep k).armed = none ∧ (x.loadStep k).cancelled = true ∧
    (x.loadStep k).nact = (x.watchAt k).foldl (fun n p => max n p.2) x.nact ∧ (x.loadStep k).watch = x.watch := ⟨rfl, rfl, rfl, rfl⟩
/-- The switches of a stopped tile are open: OFF, or TEST where a test was selected (R139, R425). -/
theorem stopDone_fields {x : Tile} {b : Bool} (h : x.stopping = some b) (k : Nat) : (x.stopDone k).st = (if b then .test else .off) ∧
    (x.stopDone k).nact = 0 ∧ (x.stopDone k).stopping = none ∧ (x.stopDone k).droopOut = false := by
  rw [stopDone, h]
  exact ⟨rfl, rfl, rfl, rfl⟩

end Tile

/-! ## The events -/

section
variable {s : State} {z t : Nat} (ht : t < (zoneD s z).tiles.length)
include ht

theorem exec_tileTripShort (hst : (tileD s z t).st = .start ∨ (tileD s z t).st = .reg) (hn : 16 ≤ (tileD s z t).tripsShort) :
    exec (.tileTripShort z t) s = .next (assertCond (tileEvent s z t fun x => x.isolate 1) 0x20 (gTile s z t) .degrade) :=
  if_pos (by simp [hasTile, ht, hst, hn])
theorem exec_tileSwitchFail (hst : (tileD s z t).st ≠ .isolated) :
    exec (.tileSwitchFail z t) s = .next (assertCond (tileEvent s z t fun x => x.isolate 2) 0x21 (gTile s z t) .degrade) :=
  if_pos (by simp [hasTile, ht, hst])
theorem exec_tileOverloadSet (hn : (tileD s z t).overCount = 157) (ho : (tileD s z t).overload = false) :
    exec (.tileOverloadSet z t) s = .next (assertCond (modTile s z t fun x => { x with overload := true }) 0x22 (gTile s z t) .degrade) :=
  if_pos (by simp [hasTile, ht, hn, ho])
theorem exec_tileOverloadClear (hn : (tileD s z t).overCount = 0) (ho : (tileD s z t).overload = true) :
    exec (.tileOverloadClear z t) s = .next (deassertCond (modTile s z t fun x => { x with overload := false }) 0x22 (gTile s z t)) :=
  if_pos (by simp [hasTile, ht, hn, ho])
theorem exec_tileLoadStep {n : Nat} (hn : (tileD s z t).loadCount s.tb.count = some n) (hest : (850 * n : Nat) < (tileD s z t).est) :
    exec (.tileLoadStep z t) s = .next (modTile s z t fun x => x.loadStep s.tb.count) := by
  have hover : (tileD s z t).est > 850 * (n : Int) := by exact_mod_cast hest
  show execTileLoadStep z t s = _
  simp only [execTileLoadStep, show (tileD s z t).loadCount (now s) = some n from hn]
  exact if_pos (by simp [hasTile, ht, hover])
theorem exec_tileRegEntry (hst : (tileD s z t).st = .start) (hn : 4 ≤ (tileD s z t).startCnt) :
    exec (.tileRegEntry z t) s = .next (modTile s z t fun x => { x with st := .reg, startCnt := 0 }) :=
  if_pos (by simp [hasTile, ht, hst, hn])
theorem exec_tileStopDone {b : Bool} (hb : (tileD s z t).stopping = some b) :
    exec (.tileStopDone z t) s = .next (tileEvent s z t fun x => x.stopDone s.tb.count) :=
  if_pos (by simp [hasTile, ht, hb])
end

/-- Settles O21: each event by its equation where it acts, and what its operation does to the tile and to an open excursion. -/
theorem tileFaultsIsolateOrMarkTheTile : Obligations.TileFaultsIsolateOrMarkTheTile := by
  unfold Obligations.TileFaultsIsolateOrMarkTheTile
  refine ⟨fun z t s ht hst hn => exec_tileTripShort ht hst hn, fun z t s ht hst => exec_tileSwitchFail ht hst, fun s z t f => rfl,
    fun zn k t d df h hsw ht => ?excursion, fun x c h => ?isolate, fun x c h => Tile.isolate_of_isolated h c,
    fun z t s ht hn ho => exec_tileOverloadSet ht hn ho, fun z t s ht hn ho => exec_tileOverloadClear ht hn ho,
    fun z t n s ht hn hest => exec_tileLoadStep ht hn hest, fun x k e n h hk => ?inWatch, fun x k h => ?noWatch, fun z t s => rfl,
    fun z t s ht hst hn => exec_tileRegEntry ht hst hn, fun z t b s ht hb => exec_tileStopDone ht hb,
    fun x k b h => Tile.stopDone_fields h k⟩
  case excursion =>
    obtain ⟨hopen, hslot, hword⟩ := Zone.endTaints_stopped h hsw ht k
    exact ⟨hopen, hslot, _, hword, rfl⟩
  case isolate =>
    rw [Tile.isolate_of_ne h]
    exact ⟨rfl, rfl, rfl, rfl, rfl, rfl, rfl, rfl, rfl⟩
  case inWatch =>
    obtain ⟨harmed, hcancelled, hnact, hwatch⟩ := x.loadStep_fields k
    rw [Tile.watchAt_open h hk] at hnact
    exact ⟨harmed, hcancelled, hnact, hwatch.trans h⟩
  case noWatch =>
    obtain ⟨harmed, hcancelled, hnact, -⟩ := x.loadStep_fields k
    rw [Tile.watchAt_over h] at hnact
    exact ⟨harmed, hcancelled, hnact⟩

end Sys2Proof.Machine
end

section
/-!
Strobes and SYNC_IN at a zone, a zone's entry of SAFE, and THR_ACK. The statement O29.
-/
namespace Sys2Proof.Machine

/-! ## SAFE (R139, R174, R175) -/

/-- Two changes that agree on zone z change the state alike. -/
theorem modZone_congr {s : State} {z : Nat} {f g : Zone → Zone} (h : f (zoneD s z) = g (zoneD s z)) : modZone s z f = modZone s z g := by
  by_cases hz : z < s.zones.length
  · have hget : s.zones[z] = zoneD s z := by simp [zoneD, List.getD_eq_getElem?_getD, hz]
    rw [modZone, modZone, List.modify_eq_set_get f hz, List.modify_eq_set_get g hz, List.get_eq_getElem, hget, h]
  · rw [modZone_of_not_lt hz, modZone_of_not_lt hz]
/-- A zone that is not in SAFE is held for it, and enters it at its next sample instant (R175). -/
theorem zoneToSafe_of_live {s : State} {z : Nat} (hst : (zoneD s z).st ≠ .safe) (hh : (zoneD s z).halted = false) :
    zoneToSafe s z = modZone s z fun zn => { zn with snagSafe := true, safeDue := true } :=
  modZone_congr (by simp [hst, hh])
/-- An action that stops zone z puts the change f on it once its transitions, its commands and its tiles have stopped; a COMMIT refused
makes its NOTE (R139, R169, R175). -/
theorem zoneStop_eq (s : State) (z : Nat) (f : Zone → Zone) : ∃ (zn : Zone) (s2 : State), zoneStop s z f = updStretch s2 z ∧
    s2.zones = (modZone (abandonTests s z) z fun _ => f zn.dropAll).zones := by
  exact ⟨_, _, rfl, (apply_ite State.zones _ _ _).trans (ite_self _)⟩
/-- What such an action leaves of its zone, up to the zone's STRETCH state. -/
theorem zoneD_zoneStop {s : State} {z : Nat} (hz : z < s.zones.length) (f : Zone → Zone) :
    ∃ (zn : Zone) (sft : Sft), zoneD (zoneStop s z f) z = { f zn.dropAll with sft } := by
  obtain ⟨zn, s2, hstop, hzones⟩ := zoneStop_eq s z f
  have hlen : (abandonTests s z).zones.length = s.zones.length := congrArg OffFloat.nzones (abandonTests_offFloat s z)
  have hz2 : z < s2.zones.length := by simpa [hzones, hlen] using hz
  have hzone : zoneD s2 z = f zn.dropAll := by
    rw [zoneD, hzones]
    exact zoneD_modZone (hlen ▸ hz) _
  obtain ⟨sft, hsft⟩ := Zone.updStretch_keeps (f zn.dropAll) s2.tb.count s2.su.readyEver
  exact ⟨zn, sft, by rw [hstop, zoneD_updStretch hz2, hzone, hsft]⟩
/-- A stopped zone: no ramp, no command on its way, RUN = 0 at every tile (R139, R175). -/
theorem Zone.dropAll_stopped (zn : Zone) : zn.dropAll.law.cmds = [] ∧ zn.dropAll.ramp = none ∧ ∀ x ∈ zn.dropAll.tiles, x.cmd.run = false := by
  refine ⟨rfl, rfl, fun x hx => ?_⟩
  obtain ⟨y, -, rfl⟩ := List.mem_map.1 hx
  rfl
/-- A zone in SAFE drives ZONE_READY low and holds STRETCH_REQ (R138, R174). -/
theorem Zone.drive_safe {zn : Zone} (h : zn.st = .safe) (k : Nat) (r b : Bool) : (zn.drive k r b).ready = false ∧ (zn.drive k r b).sft.hold = true := by
  simp [drive, upNow, zCounts, h]

/-! ## Strobes, SYNC_IN and THR_ACK (R131, R134, R340, R385) -/

theorem exec_zoneStrobeLoss {s : State} {z : Nat} (hc : s.su.cond = .run) (hz : z < s.zones.length) (hg : s.su.grid = true)
    (hst : (zoneD s z).st ≠ .safe) : exec (.zoneStrobeLoss z) s = .next (assertCond (zoneToSafe s z) 0x19 z .zoneSafe) :=
  if_pos (by simp [running, hasZone, hc, hz, hg, hst])
/-- The generator's range (R131, R134). -/
theorem tileFreqOk_iff (mult per : Nat) : tileFreqOk mult per = true ↔ 60 * per ≤ mult * 1000000 ∧ mult * 1000000 ≤ 160 * per := by
  simp [tileFreqOk]
theorem exec_zoneSyncLost {s : State} {z : Nat} {i : SyncIn} (hz : z < s.zones.length) (hl : (zoneD s z).syncLock = true)
    (hs : (zoneD s z).syncLost = false) (hbad : 4 * (zoneD s z).syncPer ≤ i.since ∨ tileFreqOk (zoneD s z).cfg.mult i.period = false) :
    exec (.zoneSyncLost z i) s = .next (assertCond (modZone s z fun zn => { zn with syncLost := true, syncLostSeen := true }) 0x18 z .degrade) :=
  if_pos (by simp [hasZone, hz, hl, hs, hbad])
theorem exec_zoneSyncRelock {s : State} {z : Nat} {i : SyncIn} (hz : z < s.zones.length) (hs : i.since < 4 * i.period)
    (hok : tileFreqOk (zoneD s z).cfg.mult i.period = true) : exec (.zoneSyncRelock z i) s =
      .next (deassertCond (modZone s z fun zn => { zn with syncLock := true, syncLost := false, syncPer := i.period }) 0x18 z) :=
  if_pos (by simp [hasZone, hz, hs, hok])
theorem exec_thrAckToggle {s : State} (hc : s.su.cond = .run ∨ s.su.cond = .safe) : exec .thrAckToggle s = .next { s with
    pins := { s.pins with thrAck := !s.pins.thrAck }, thm := { s.thm with ackAt := some s.tb.count } } :=
  if_pos ((alive_iff s).2 hc)

/-- Settles O29: each event by its equation where it acts; the entry of SAFE by what a stop leaves of its zone. -/
theorem strobeSyncAndThrottleAcknowledge : Obligations.StrobeSyncAndThrottleAcknowledge := by
  unfold Obligations.StrobeSyncAndThrottleAcknowledge
  refine ⟨fun z s hc hz hg hst hh => ?strobe, fun z s hz hdue => ?safe, fun zn k r b h => Zone.drive_safe h k r b,
    fun z i s hz hl hs hbad => exec_zoneSyncLost hz hl hs ?lost,
    fun z i s hz hs hlo hhi => exec_zoneSyncRelock hz hs ((tileFreqOk_iff _ _).2 ⟨hlo, hhi⟩), fun s hc => exec_thrAckToggle hc⟩
  case strobe => rw [exec_zoneStrobeLoss hc hz hg hst, zoneToSafe_of_live hst hh]
  case safe =>
    obtain ⟨zn, sft, hzone⟩ := zoneD_zoneStop hz fun zn => { zn with st := .safe, safeDue := false }
    obtain ⟨hcmds, hramp, htiles⟩ := zn.dropAll_stopped
    rw [enterZoneSafe, if_pos hdue, hzone]
    exact ⟨rfl, hcmds, hramp, htiles⟩
  case lost =>
    refine hbad.imp_right fun hrange => Bool.eq_false_iff.2 fun hok => ?_
    have := (tileFreqOk_iff _ _).1 hok
    omega

end Sys2Proof.Machine
end

section
/-!
A zone's limits of time in the gating walk and in HOLD, GATE_ACK, the Float tables and their errors (05 R169, R170, R175, R176, 11 R317).
The statement O28.
-/
namespace Sys2Proof.Machine

/-! ## The two time limits and GATE_ACK (R175, R176, R317) -/

/-- ZONE_GATE_TIMEOUT 100 µs after the start of the gating walk (R175). -/
theorem exec_zoneGateTimeout {s : State} {z g : Nat} (hz : z < s.zones.length) (hg : (zoneD s z).gateAt = some g)
    (hdue : g + 100000 ≤ s.tb.count) : exec (.zoneGateTimeout z) s =
      .next (redrive (note14 (modZone s z fun zn => { zn with gateAt := none, gateFailed := true }) z 5) z) := by
  have hdue : g + 100000 ≤ now s := hdue
  show execZoneGateTimeout z s = _
  simp only [execZoneGateTimeout, hg]
  exact if_pos (by simp [hasZone, hz, hdue])
/-- HOLD_TIMEOUT 2 ms after the entry of HOLD (R176). -/
theorem exec_holdTimeout {s : State} {z h : Nat} (hz : z < s.zones.length) (hst : (zoneD s z).st = .hold) (hh : (zoneD s z).holdAt = some h)
    (hdue : h + 2000000 ≤ s.tb.count) : exec (.holdTimeout z) s =
      .next (redrive (note14 (modZone s z fun zn => (zn.exitHold false false).1) z 2) z) := by
  have hdue : h + 2000000 ≤ now s := hdue
  show execHoldTimeout z s = _
  simp only [execHoldTimeout, hh]
  exact if_pos (by simp [hasZone, hz, hst, hdue])
/-- A zone that leaves HOLD without a copy keeps both banks, and its COMMIT is cleared (R169, R176). -/
theorem Zone.exitHold_noCopy (zn : Zone) (abort : Bool) : (zn.exitHold false abort).1 =
    { zn with st := .mist, holdAt := none, commit := false, gateAt := none, nextSt := none } := rfl
/-- GATE_ACK_LATE 100 µs after the rise of GATE_REQ in RUN (R317). -/
theorem exec_gateAckLate {s : State} {z a : Nat} (ha : a < (zoneD s z).arrays.length) (hst : (zoneD s z).st = .run)
    (hgate : (zoneD s z).gateRun a = true) (hreq : (arrD s z a).gateReq = true) (hack : (arrD s z a).gateAck = false)
    (hdue : (arrD s z a).gateReqAt + 100000 ≤ s.tb.count) :
    exec (.gateAckLate z a) s = .next (note { s with caps := { s.caps with status := s.caps.status ||| 32 } } 0x3A 0) := by
  have hdue : (arrD s z a).gateReqAt + 100000 ≤ now s := hdue
  exact if_pos (by simp [hasArr_of_lt ha, hst, hgate, hreq, hack, hdue])

/-! ## A change of a zone with its NOTE 0x14 -/

/-- Outputs that follow their state report nothing (R174). -/
@[simp] theorem redrive_snag (s : State) (z : Nat) : (redrive s z).snag = s.snag :=
  (congrArg State.snag (redrive_frame s z) :)
/-- A NOTE 0x14 of a zone arrives, with the change it speaks of (R399, R402). -/
theorem note14_mem_inbox (s : State) (z b : Nat) :
    ∃ r ∈ (note14 s z b).snag.inbox, r.code = 0x14 ∧ r.unit = z ∧ r.cls = .note ∧ r.stamp = s.tb.count := note_mem_inbox _ _ _ _

section
variable (s : State) (z : Nat) (f : Zone → Zone) (b : Nat)

/-- Such a change with the outputs that follow it moves the zones and the reports only. -/
theorem redrive_note14_frame : { redrive (note14 (modZone s z f) z b) z with zones := s.zones, snag := s.snag } = s :=
  (congrArg (fun x : State => { x with zones := s.zones, snag := s.snag }) (redrive_frame (note14 (modZone s z f) z b) z) :)
theorem redrive_note14_mem_inbox : ∃ r ∈ (redrive (note14 (modZone s z f) z b) z).snag.inbox,
    r.code = 0x14 ∧ r.unit = z ∧ r.cls = .note ∧ r.stamp = s.tb.count := by
  rw [redrive_snag]
  exact note14_mem_inbox (modZone s z f) z b
/-- The zone itself: the change, the status bit, and the outputs. -/
theorem zoneD_redrive_note14 (hz : z < s.zones.length) : ∃ ready arrays sft, zoneD (redrive (note14 (modZone s z f) z b) z) z =
    { f (zoneD s z) with status := (f (zoneD s z)).status ||| BitVec.ofNat 8 (2 ^ b), ready, arrays, sft } := by
  have hmod : z < (modZone s z f).zones.length := by simpa using hz
  have hnote : z < (note14 (modZone s z f) z b).zones.length := by simpa [note14] using hz
  obtain ⟨ready, arrays, sft, h⟩ := zoneD_redrive hnote
  rw [zoneD_note14 hmod, zoneD_modZone hz] at h
  exact ⟨ready, arrays, sft, h⟩
end

/-! ## The Float tables (R169, R170) -/

section
variable {s : State} {z : Nat} (hc : s.su.cond = .run ∨ s.su.cond = .safe) (hr : s.su.readyEver = true) (hz : z < s.zones.length)
include hc hr hz

/-- A read since READY answers the entry and steps the index (R169). -/
theorem exec_fltTblRead : exec (.fltTblDataAccess z none) s = .next (rpData (modZone s z Zone.tblNext) (zoneD s z).tblRead) :=
  (if_neg (by simp [(alive_iff s).2 hc])).trans (if_neg (by simp [hasZone, hz, sinceReady, hr]))
/-- A write since READY: refused, taken in the shadow bank, or ignored (R169). -/
theorem exec_fltTblWrite (w : W32) : exec (.fltTblDataAccess z (some w)) s = .next (
    if (zoneD s z).tblBank && (zoneD s z).tblTable < 3 && (zoneD s z).st ≠ .hold then note14 (modZone s z Zone.tblNext) z 4
    else if (zoneD s z).tblBank then modZone s z fun zn => { zn.tblNext with
      shadow := zn.shadow.put zn.tblTable zn.tblIndex w
      shadowBad := zn.shadowBad.filter fun x => x ≠ (zn.tblTable, zn.tblIndex) }
    else modZone s z Zone.tblNext) := by
  simp only [apply_ite Host.Outcome.next]
  exact (if_neg (by simp [(alive_iff s).2 hc])).trans (if_neg (by simp [hasZone, hz, sinceReady, hr]))
/-- A write of the shadow bank in HOLD is taken; its word is no longer bad (R169, R170). -/
theorem exec_fltTblWrite_hold (hb : (zoneD s z).tblBank = true) (hst : (zoneD s z).st = .hold) (w : W32) :
    exec (.fltTblDataAccess z (some w)) s = .next (modZone s z fun zn => { zn.tblNext with
      shadow := zn.shadow.put zn.tblTable zn.tblIndex w
      shadowBad := zn.shadowBad.filter fun x => x ≠ (zn.tblTable, zn.tblIndex) }) := by
  rw [exec_fltTblWrite hc hr hz]
  exact congrArg _ ((if_neg (by simp [hst])).trans (if_pos hb))
/-- A write of the shadow bank outside HOLD is refused, with TBL_REFUSED (R169). -/
theorem exec_fltTblWrite_refused (hb : (zoneD s z).tblBank = true) (ht : (zoneD s z).tblTable < 3) (hst : (zoneD s z).st ≠ .hold) (w : W32) :
    exec (.fltTblDataAccess z (some w)) s = .next (note14 (modZone s z Zone.tblNext) z 4) := by
  rw [exec_fltTblWrite hc hr hz]
  exact congrArg _ (if_pos (by simp [hb, ht, hst]))
/-- A write that names the active bank steps the index only (R169; log 17: without a NOTE). -/
theorem exec_fltTblWrite_active (hb : (zoneD s z).tblBank = false) (w : W32) :
    exec (.fltTblDataAccess z (some w)) s = .next (modZone s z Zone.tblNext) := by
  rw [exec_fltTblWrite hc hr hz]
  exact congrArg _ ((if_neg (by simp [hb])).trans (if_neg (by simp [hb])))
end

section
variable {s : State} {z : Nat} (hz : z < s.zones.length)
include hz

theorem exec_floatTableEccError_corrected (b : Bool) :
    exec (.floatTableEccError z b true) s = .next (modZone s z fun zn => { zn with status := zn.status ||| 64 }) :=
  (if_neg (by simp [hasZone, hz])).trans (if_pos rfl)
theorem exec_floatTableEccError_active : exec (.floatTableEccError z false false) s = .next (assertCond s 0x13 z .zoneSafe) :=
  (if_neg (by simp [hasZone, hz])).trans rfl
theorem exec_floatTableEccError_shadow : exec (.floatTableEccError z true false) s =
    .next (note (modZone s z fun zn => { zn with shadowBad := zn.shadow.words }) 0x14 z) :=
  (if_neg (by simp [hasZone, hz])).trans rfl
end
/-- The words of a bank are those of its three tables (R168). -/
theorem Tables.mem_words (x : Tables) (n i : Nat) : (n, i) ∈ x.words ↔
    n = 0 ∧ i < x.gain.length ∨ n = 1 ∧ i < x.spatial.length ∨ n = 2 ∧ i < x.step.length := by
  simp only [Tables.words, List.mem_append, List.mem_map, List.mem_range, Prod.mk.injEq]
  constructor
  · rintro ((⟨_, h, rfl, rfl⟩ | ⟨_, h, rfl, rfl⟩) | ⟨_, h, rfl, rfl⟩)
    · exact .inl ⟨rfl, h⟩
    · exact .inr (.inl ⟨rfl, h⟩)
    · exact .inr (.inr ⟨rfl, h⟩)
  · rintro (⟨rfl, h⟩ | ⟨rfl, h⟩ | ⟨rfl, h⟩)
    · exact .inl (.inl ⟨i, h, rfl, rfl⟩)
    · exact .inl (.inr ⟨i, h, rfl, rfl⟩)
    · exact .inr ⟨i, h, rfl, rfl⟩

/-- Settles O28: each row by its equation; the two time limits by what the change with its NOTE leaves of the zone. A single uncorrectable
word marks the whole shadow bank (log 50), and a write that names the active bank is ignored without a NOTE (log 17). -/
theorem holdGatesAndFloatTables : Obligations.HoldGatesAndFloatTables := by
  unfold Obligations.HoldGatesAndFloatTables
  refine ⟨fun z g s hz hg hdue => ?gate, fun z h s hz hst hh hdue => ?hold, fun z a l s _ => rfl,
    fun z a s ha hst hgate hreq hack hdue => exec_gateAckLate ha hst hgate hreq hack hdue, fun z s hc hr hz => exec_fltTblRead hc hr hz,
    fun z w s hc hr hz hb hst => ?write, fun z w s hc hr hz hb ht hst => ?refused,
    fun z w s hc hr hz hb => exec_fltTblWrite_active hc hr hz hb w, fun z b s hz => exec_floatTableEccError_corrected hz b,
    fun z s hz => exec_floatTableEccError_active hz, fun z s hz => ?shadow⟩
  case gate =>
    obtain ⟨ready, arrays, sft, hzone⟩ := zoneD_redrive_note14 s z (fun zn => { zn with gateAt := none, gateFailed := true }) 5 hz
    refine ⟨_, exec_zoneGateTimeout hz hg hdue, ?_⟩
    rw [hzone]
    exact ⟨rfl, rfl, rfl, rfl, rfl, redrive_note14_mem_inbox _ _ _ _, redrive_note14_frame _ _ _ _⟩
  case hold =>
    obtain ⟨ready, arrays, sft, hzone⟩ := zoneD_redrive_note14 s z (fun zn => (zn.exitHold false false).1) 2 hz
    refine ⟨_, exec_holdTimeout hz hst hh hdue, ?_⟩
    rw [hzone, Zone.exitHold_noCopy]
    exact ⟨rfl, rfl, rfl, rfl, rfl, rfl, rfl, redrive_note14_mem_inbox _ _ _ _, redrive_note14_frame _ _ _ _⟩
  case write =>
    refine ⟨_, exec_fltTblWrite_hold hc hr hz hb hst w, ?_⟩
    rw [zoneD_modZone hz]
    exact ⟨rfl, rfl, rfl, rfl⟩
  case refused =>
    refine ⟨_, exec_fltTblWrite_refused hc hr hz hb ht hst w, ?_⟩
    rw [zoneD_note14 (by simpa using hz), zoneD_modZone hz]
    exact ⟨rfl, rfl, note14_mem_inbox (modZone s z Zone.tblNext) z 4, rfl⟩
  case shadow =>
    refine ⟨_, exec_floatTableEccError_shadow hz, ?_⟩
    have hzone : zoneD (note (modZone s z fun zn => { zn with shadowBad := zn.shadow.words }) 0x14 z) z =
        { zoneD s z with shadowBad := (zoneD s z).shadow.words } := zoneD_modZone hz _
    rw [hzone]
    exact ⟨fun i hi => (Tables.mem_words _ _ _).2 (.inl ⟨rfl, hi⟩), fun i hi => (Tables.mem_words _ _ _).2 (.inr (.inl ⟨rfl, hi⟩)),
      fun i hi => (Tables.mem_words _ _ _).2 (.inr (.inr ⟨rfl, hi⟩)), rfl, note_mem_inbox _ _ _ _, rfl⟩

end Sys2Proof.Machine
end

section
/-!
The module stage's set-point: its references and target, SYNC_IN, VSET_IN in both modes, and MSF_VSET (06 R185, R186, R191 to R196).
The statement O33.
-/
namespace Sys2Proof.Machine

/-- A value limited to its range is not limited further. -/
theorem clampN_clampN (lo hi x : Nat) : clampN lo hi (clampN lo hi x) = clampN lo hi x := by
  unfold clampN; split_ifs <;> omega
theorem clampN_of_mem {lo hi x : Nat} (hlo : lo ≤ x) (hhi : x ≤ hi) : clampN lo hi x = x :=
  (if_neg (Nat.not_lt.2 hlo)).trans (if_neg (Nat.not_lt.2 hhi))
theorem fld_zero_twelve (w : W32) : fld w 0 12 = w.toNat % 2 ^ 12 := by simp [fld, bitsOf]
theorem fld_sixteen_nine (w : W32) : fld w 16 9 = w.toNat / 2 ^ 16 % 2 ^ 9 := rfl

/-! ## References and target (R191, R194, R195) -/

namespace Msf

/-- The references move, and nothing else of the stage moves with them (R195). -/
theorem refTo_eq (m : Msf) (k : Nat) : ∃ off base, m.refTo k = { m with refAt := k, off, base } := by
  unfold refTo; split <;> exact ⟨_, _, rfl⟩
/-- A target formed anew moves the references too, and nothing else (R191, R195). -/
theorem retarget_eq (m : Msf) (k : Nat) : ∃ off base, m.retarget k = { m with refAt := k, off, base, tgt := m.tgtOf } := by
  obtain ⟨off, base, h⟩ := m.refTo_eq k
  exact ⟨off, _, by rw [retarget, h]; rfl⟩

/-- The target is VIM_SET in force after the fallback and before a first value (R191, R194). -/
theorem tgtOf_of_vimSet {m : Msf} (h : m.vsetFallen = true ∨ m.vsetVal = none) :
    m.tgtOf = clampN m.cfg.vimMin m.cfg.vimMax m.vimSetIn := by
  have hused : m.srcUsed = 0 := if_neg (by rcases h with h | h <;> simp [h])
  simp [tgtOf, hused]
/-- The target follows VSET_IN while it is not lost, from its first value on (R191, R192, R193). -/
theorem tgtOf_of_vsetIn {m : Msf} (hsrc : m.cfg.src = 1 ∨ m.cfg.src = 2) (hf : m.vsetFallen = false) (hl : m.vsetLostAt = none) :
    m.tgtOf = clampN m.cfg.vimMin m.cfg.vimMax (m.vsetVal.getD m.vimSetIn) := by
  cases hv : m.vsetVal with
  | none => exact tgtOf_of_vimSet (.inr hv)
  | some v =>
    have hused : m.srcUsed = m.cfg.src := if_pos (by simp [hsrc, hf, hv])
    have hne : m.cfg.src ≠ 0 := by omega
    simp [tgtOf, hused, hne, hl, hv]
/-- The target formed as VSET_IN is lost is held (R194). -/
theorem tgtOf_of_lost {m n : Msf} (hcfg : n.cfg = m.cfg) (hused : n.srcUsed = m.srcUsed) (hin : n.vimSetIn = m.vimSetIn)
    (hlost : n.vsetLostAt.isSome = true) (ht : n.tgt = m.tgtOf) : n.tgtOf = n.tgt := by
  by_cases h : m.srcUsed = 0
  · rw [ht]; simp [tgtOf, hused, h, hcfg, hin]
  · have hn : n.tgtOf = clampN m.cfg.vimMin m.cfg.vimMax n.tgt := by simp [tgtOf, hused, h, hcfg, hlost]
    rw [hn, ht, tgtOf, clampN_clampN]

end Msf

/-! ## SYNC_IN (R185, R186) -/

theorem syncOk_iff (per : Nat) : syncOk per = true ↔ 300000 * per ≤ 1000000000000 ∧ 1000000000000 ≤ 3000000 * per := by
  simp [syncOk]
theorem exec_msfSyncLost {s : State} {i : SyncIn} (hc : s.su.cond = .run) (hl : s.msf.lock = true) (hs : s.msf.syncLost = false)
    (h : 4 * s.msf.syncPer ≤ i.since ∨ syncOk i.period = false) : exec (.msfSyncLost i) s =
      .next (assertCond { s with msf := { s.msf with syncLost := true, status := s.msf.status ||| 2 } } 0x28 0 .degrade) :=
  if_pos (by simp [running, hc, hl, hs, h])
theorem exec_msfSyncRelock {s : State} {i : SyncIn} (hc : s.su.cond = .run) (hn : 3 ≤ s.su.stepNo) (hs : i.since < 4 * i.period)
    (hok : syncOk i.period = true) : exec (.msfSyncRelock i) s = .next (deassertCond { s with msf := { s.msf with
      lock := true, syncLost := false, syncPer := i.period
      chans := s.msf.chans.mapIdx fun k c => { c with tap := (s.msf.chanTap k + i.shift) % 1024 } } } 0x28 0) :=
  if_pos (by simp [running, hc, hn, hs, hok])

/-! ## Samples of VSET_IN (R192, R193) -/

/-- A rational rounded to the nearest natural, by its value with a half added. -/
theorem roundRat_toNat {x : Rat} {n d : Nat} (h : x + 1 / 2 = (n : Rat) / d) : (roundRat x).toNat = n / d := by
  have hfloor : ((n : Rat) / d).floor = ((n / d : Nat) : Int) := Rat.floor_natCast_div_natCast n d
  rw [roundRat, h, hfloor, Int.toNat_natCast]
/-- 1,500 mV and half of the average of 64 samples above 200 mV, rounded to 1 mV (R192). -/
theorem vsetAnalogue_of_sum (n : Nat) : vsetAnalogue ((n : Rat) / 64) = (179264 + n) / 128 :=
  roundRat_toNat (by push_cast; ring)
/-- 64 averaged samples, with or without a value (R192; log 96). -/
theorem vsetRead_analogue {mvs : List Nat} (hn : mvs.length = 64) (ps : List (Nat × Nat)) : vsetRead 1 mvs ps =
    if 6400 ≤ sumN mvs then (true, some ((179264 + sumN mvs) / 128)) else (false, none) := by
  have hiff : (100 : Rat) ≤ (sumN mvs : Rat) / 64 ↔ 6400 ≤ sumN mvs := by
    rw [le_div_iff₀ (by norm_num)]; norm_num
  have hmax : ((max 1 mvs.length : Nat) : Rat) = 64 := by rw [hn]; norm_num
  by_cases h : 6400 ≤ sumN mvs <;> simp only [vsetRead, hmax, hiff, h, vsetAnalogue_of_sum] <;> rfl
/-- Four periods, with or without a value: a duty out of range gives none (R193). -/
theorem vsetRead_pulse (mvs : List Nat) (ps : List (Nat × Nat)) : vsetRead 2 mvs ps =
    if ps.all dutyOk then (true, vsetPulse ps) else (false, none) := by
  cases h : ps.all dutyOk <;> simp [vsetRead, h]
/-- 1,500 mV and 6.25 mV per percent of duty above 10% (R193). -/
theorem dutyMv_eq {p : Nat} (hp : 0 < p) (a : Nat) : dutyMv (p, a) = 2875 / 2 + 625 * a / p := by
  have hp0 : p ≠ 0 := by omega
  rw [dutyMv, dutyOf, if_neg hp0]
  ring
/-- Two duties of a period agree within 2 mV (R193). -/
theorem dutyMv_le_iff {p : Nat} (hp : 0 < p) (a b : Nat) : dutyMv (p, a) ≤ dutyMv (p, b) + 2 ↔ 625 * a ≤ 625 * b + 2 * p := by
  have hp' : (0 : Rat) < p := by exact_mod_cast hp
  have hsum : (625 * b / p + 2 : Rat) = (625 * b + 2 * p) / p := by field_simp
  rw [dutyMv_eq hp, dutyMv_eq hp, add_assoc, add_le_add_iff_left, hsum, div_le_div_iff_of_pos_right hp']
  norm_cast
/-- Four values that agree within 2 mV pairwise give their mean (R193; log 96). -/
theorem vsetPulse_of_agree {p q r t : Nat × Nat}
    (h : ∀ x ∈ [p, q, r, t], ∀ y ∈ [p, q, r, t], dutyMv x ≤ dutyMv y + 2) :
    vsetPulse [p, q, r, t] = some (roundRat ((dutyMv p + dutyMv q + dutyMv r + dutyMv t) / 4)).toNat := by
  refine if_pos ?_
  rw [sub_le_iff_le_add']
  simp only [List.forall_mem_cons] at h
  simp [← min_add_add_right, h]

/-- VSET_IN_SAMPLE of an enabled source: the instants R194 looks back to, a value where the sample gives one, and the target. -/
theorem exec_vsetInSample {s : State} (hc : s.su.cond = .run) (hsrc : s.msf.cfg.src = 1 ∨ s.msf.cfg.src = 2) {mvs : List Nat}
    {ps : List (Nat × Nat)} {ok : Bool} {v : Option Nat} (hread : vsetRead s.msf.cfg.src mvs ps = (ok, v)) :
    ∃ off base, exec (.vsetInSample mvs ps) s = .next { s with msf := { s.msf.vsetMark s.tb.count ok with
      vsetVal := v.orElse fun _ => s.msf.vsetVal, refAt := s.tb.count, off, base
      tgt := ({ s.msf.vsetMark s.tb.count ok with vsetVal := v.orElse fun _ => s.msf.vsetVal } : Msf).tgtOf } } := by
  obtain ⟨off, base, h⟩ := Msf.retarget_eq { s.msf.vsetMark s.tb.count ok with vsetVal := v.orElse fun _ => s.msf.vsetVal } s.tb.count
  refine ⟨off, base, ?_⟩
  rw [← h]
  show execVsetInSample mvs ps s = _
  simp only [execVsetInSample, hread]
  exact if_neg (by rcases hsrc with h | h <;> simp [running, hc, h])
/-- An average below 100 mV is stamped with the first of its row (R192). -/
theorem vsetMark_low {m : Msf} (h : m.cfg.src = 1) (k : Nat) : (m.vsetMark k false).vsetLowAt = some (m.vsetLowAt.getD k) := by
  simp [Msf.vsetMark, h]
/-- A duty out of range is stamped with the first of its row (R193). -/
theorem vsetMark_bad {m : Msf} (h : m.cfg.src = 2) (k : Nat) : (m.vsetMark k false).vsetBadAt = some (m.vsetBadAt.getD k) := by
  simp [Msf.vsetMark, h]
theorem vsetMark_edge {m : Msf} (h : m.cfg.src = 2) (k : Nat) (ok : Bool) : (m.vsetMark k ok).vsetEdgeAt = some k := if_pos h

/-! ## Loss, fallback and return (R192 to R194) -/

/-- VSET_IN_LOST at or after the instant of the loss: the target is formed once more, and from there on it is held (R194). -/
theorem exec_vsetInLost {s : State} {k : Nat} (hc : s.su.cond = .run) (hloss : s.msf.vsetLoss = some k) (hdue : k ≤ s.tb.count)
    (hl : s.msf.vsetLostAt = none) : exec .vsetInLost s = .next { s with msf :=
      { s.msf.retarget s.tb.count with vsetLostAt := some s.tb.count, vsetValidAt := none } } := by
  show execVsetInLost s = _
  simp only [execVsetInLost, hloss]
  exact if_pos (by simp [running, now, hc, hdue, hl])
/-- Each of the three ways of R192 and R193 to lose VSET_IN. -/
theorem vsetLoss_due {m : Msf} {t : Nat}
    (h : m.cfg.src = 1 ∧ (∃ k, m.vsetLowAt = some k ∧ k + 1000000 ≤ t) ∨
      m.cfg.src = 2 ∧ (∃ k, m.vsetBadAt = some k ∧ k ≤ t) ∨
      m.cfg.src = 2 ∧ m.vsetBadAt = none ∧ (∃ k, m.vsetEdgeAt = some k ∧ k + 250000 ≤ t)) : ∃ k, m.vsetLoss = some k ∧ k ≤ t := by
  rcases h with ⟨hsrc, k, hk, hdue⟩ | ⟨hsrc, k, hk, hdue⟩ | ⟨hsrc, hbad, k, hk, hdue⟩
  · exact ⟨_, by simp [Msf.vsetLoss, hsrc, hk], hdue⟩
  · exact ⟨_, by simp [Msf.vsetLoss, hsrc, hk], hdue⟩
  · exact ⟨_, by simp [Msf.vsetLoss, hsrc, hbad, hk], hdue⟩
/-- VSET_FALLBACK 1 ms after the loss (R194). -/
theorem exec_vsetFallback {s : State} {k : Nat} (hl : s.msf.vsetLostAt = some k) (hdue : k + 1000000 ≤ s.tb.count)
    (hf : s.msf.vsetFallen = false) : exec .vsetFallback s = .next (note { s with msf :=
      ({ s.msf with vsetFallen := true, status := s.msf.status ||| 128 } : Msf).retarget s.tb.count } 0x29 0) := by
  show execVsetFallback s = _
  simp only [execVsetFallback, hl]
  exact if_pos (by simp [now, hdue, hf])
/-- VSET_IN_RETURN after 1 ms of valid input, in pulse mode with an edge in the latest 250 µs (R193, R194). -/
theorem exec_vsetInReturn {s : State} {k j : Nat} (hl : s.msf.vsetLostAt = some k) (hv : s.msf.vsetValidAt = some j)
    (hdue : j + 1000000 ≤ s.tb.count) (hedge : s.msf.cfg.src = 2 → ∀ e ∈ s.msf.vsetEdgeAt, s.tb.count < e + 250000) :
    exec .vsetInReturn s = .next { s with msf :=
      ({ s.msf with vsetLostAt := none, vsetFallen := false } : Msf).retarget s.tb.count } := by
  have hdue : j + 1000000 ≤ now s := hdue
  have hlate : s.msf.cfg.src = 2 → (s.msf.vsetEdgeAt.any fun e => e + 250000 ≤ now s) = false := fun hsrc => by
    cases he : s.msf.vsetEdgeAt with
    | none => rfl
    | some e =>
      have hlt : now s < e + 250000 := hedge hsrc e he
      rw [Option.any_some, decide_eq_false (Nat.not_le.2 hlt)]
  show execVsetInReturn s = _
  simp only [execVsetInReturn, hl, hv]
  refine if_pos ?_
  by_cases hsrc : s.msf.cfg.src = 2
  · simp [hdue, hlate hsrc]
  · simp [hdue, hsrc]

/-! ## MSF_VSET (R196) -/

/-- A pair of VIM_SET and SLEW taken into force at instant k: the reference has moved up to it at the old slew (R195, R196). -/
def Msf.putInForce (m : Msf) (v sl k : Nat) : Msf :=
  { m.refTo k with vimSetIn := v, slewIn := sl, base := (m.refTo k).base.retarget (sl = (m.refTo k).slewIn) }.retarget k
theorem Msf.putInForce_eq (m : Msf) (v sl k : Nat) :
    ∃ off base tgt, m.putInForce v sl k = { m with vimSetIn := v, slewIn := sl, refAt := k, off, base, tgt } := by
  obtain ⟨_, _, href⟩ := m.refTo_eq k
  obtain ⟨off, base, htgt⟩ := Msf.retarget_eq
    { m.refTo k with vimSetIn := v, slewIn := sl, base := (m.refTo k).base.retarget (sl = (m.refTo k).slewIn) } k
  exact ⟨off, base, _, htgt.trans (by rw [href])⟩

section
variable {s : State} (hc : s.su.cond = .run ∨ s.su.cond = .safe) (hr : s.su.readyEver = true) {w : W32}
include hc hr

/-- A write since READY of values within their bounds, in neither HICCUP nor LATCHED: in force at once. -/
theorem exec_msfVsetWrite_now (hh : s.msf.st ≠ .hiccup) (hl : s.msf.st ≠ .latched) (hfit : s.msf.vsetSat w = (fld w 0 12, fld w 16 9)) :
    exec (.msfVsetWrite w) s = .next { s with msf :=
      ({ s.msf with vimSet := fld w 0 12, slew := fld w 16 9 } : Msf).putInForce (fld w 0 12) (fld w 16 9) s.tb.count } := by
  show execMsfVsetWrite w s = _
  rw [execMsfVsetWrite, if_neg (by simp [(alive_iff s).2 hc, sinceReady, hr])]
  simp [hfit, hh, hl, now, Msf.putInForce]
/-- In HICCUP and LATCHED the values are stored, and those in force stand; a NOTE where one was saturated. -/
theorem exec_msfVsetWrite_stored (hst : s.msf.st = .hiccup ∨ s.msf.st = .latched) {v sl : Nat} (hsat : s.msf.vsetSat w = (v, sl)) :
    exec (.msfVsetWrite w) s = .next { (if v = fld w 0 12 ∧ sl = fld w 16 9 then s else note s 0x01 0) with
      msf := { s.msf with vimSet := v, slew := sl } } := by
  show execMsfVsetWrite w s = _
  rw [execMsfVsetWrite, if_neg (by simp [(alive_iff s).2 hc, sinceReady, hr])]
  by_cases h : v = fld w 0 12 ∧ sl = fld w 16 9 <;> simp [hsat, h, hst]
end

/-- Settles O33: each row by its equation where it acts; a sample by what it reads, and the target by the source in use. The four periods
are compared and averaged before rounding, and an average below 100 mV gives no value (log 96). -/
theorem msfSetPointSources : Obligations.MsfSetPointSources := by
  unfold Obligations.MsfSetPointSources
  refine ⟨fun i s hc hl hs hbad => exec_msfSyncLost hc hl hs ?lost,
    fun i s hc hn hs hlo hhi => exec_msfSyncRelock hc hn hs ((syncOk_iff _).2 ⟨hlo, hhi⟩),
    fun mvs ps s hc hsrc hlen hsum hf hl => ?analogue, fun mvs ps v s hc hsrc hok hv hf hl => ?pulse,
    fun p a b c d hp h => ?mean, fun mvs ps s hc hsrc hlen hsum => ?low, fun mvs ps p s hc hsrc hmem hbad => ?bad,
    fun s hc h hl => ?loss, fun k s hl hdue hf => ?fallback, fun k j s hl hv hdue hsrc => ?back,
    fun w s hc hr hh hl hvlo hvhi hslo hshi => ?write, fun w s hc hr hst => ?stored⟩
  case lost =>
    refine hbad.imp_right fun hrange => Bool.eq_false_iff.2 fun hok => ?_
    have := (syncOk_iff _).1 hok
    omega
  case analogue =>
    have hread : vsetRead s.msf.cfg.src mvs ps = (true, some ((179264 + sumN mvs) / 128)) := by
      rw [hsrc, vsetRead_analogue hlen, if_pos hsum]
    obtain ⟨off, base, hexec⟩ := exec_vsetInSample hc (.inl hsrc) hread
    exact ⟨_, hexec, rfl, Msf.tgtOf_of_vsetIn (.inl hsrc) hf hl, rfl, rfl⟩
  case pulse =>
    have hread : vsetRead s.msf.cfg.src mvs ps = (true, some v) := by
      rw [hsrc, vsetRead_pulse, if_pos (List.all_eq_true.2 hok), hv]
    obtain ⟨off, base, hexec⟩ := exec_vsetInSample hc (.inr hsrc) hread
    exact ⟨_, hexec, rfl, Msf.tgtOf_of_vsetIn (.inr hsrc) hf hl, vsetMark_edge hsrc _ true, rfl⟩
  case mean =>
    have hp0 : (p : Rat) ≠ 0 := by positivity
    have hagree : ∀ x ∈ [(p, a), (p, b), (p, c), (p, d)], ∀ y ∈ [(p, a), (p, b), (p, c), (p, d)], dutyMv x ≤ dutyMv y + 2 := by
      simpa [dutyMv_le_iff hp] using h
    have hmean : (roundRat ((dutyMv (p, a) + dutyMv (p, b) + dutyMv (p, c) + dutyMv (p, d)) / 4)).toNat =
        (1438 * (4 * p) + 625 * (a + b + c + d)) / (4 * p) := by
      refine roundRat_toNat ?_
      simp only [dutyMv_eq hp]
      push_cast
      field_simp
      ring
    rw [vsetPulse_of_agree hagree, hmean, Nat.mul_comm 1438, Nat.mul_add_div (by omega)]
  case low =>
    have hread : vsetRead s.msf.cfg.src mvs ps = (false, none) := by
      rw [hsrc, vsetRead_analogue hlen, if_neg (Nat.not_le.2 hsum)]
    obtain ⟨off, base, hexec⟩ := exec_vsetInSample hc (.inl hsrc) hread
    exact ⟨_, hexec, rfl, vsetMark_low hsrc _, rfl, rfl⟩
  case bad =>
    have hall : ps.all dutyOk = false := List.all_eq_false.2 ⟨p, hmem, by simp [hbad]⟩
    have hread : vsetRead s.msf.cfg.src mvs ps = (false, none) := by
      rw [hsrc, vsetRead_pulse, hall]; rfl
    obtain ⟨off, base, hexec⟩ := exec_vsetInSample hc (.inr hsrc) hread
    exact ⟨_, hexec, rfl, vsetMark_bad hsrc _, rfl, rfl⟩
  case loss =>
    obtain ⟨k, hloss, hdue⟩ := vsetLoss_due h
    obtain ⟨off, base, htgt⟩ := s.msf.retarget_eq s.tb.count
    refine ⟨_, exec_vsetInLost hc hloss hdue hl, rfl, rfl, ?_⟩
    rw [htgt]
    exact ⟨rfl, Msf.tgtOf_of_lost (m := s.msf) rfl rfl rfl rfl rfl, rfl⟩
  case fallback =>
    obtain ⟨off, base, htgt⟩ := Msf.retarget_eq { s.msf with vsetFallen := true, status := s.msf.status ||| 128 } s.tb.count
    refine ⟨_, exec_vsetFallback hl hdue hf, ?_⟩
    rw [htgt]
    exact ⟨rfl, Msf.tgtOf_of_vimSet (.inl rfl), rfl, note_mem_inbox _ _ _ _, rfl⟩
  case back =>
    obtain ⟨off, base, htgt⟩ := Msf.retarget_eq { s.msf with vsetLostAt := none, vsetFallen := false } s.tb.count
    refine ⟨_, exec_vsetInReturn hl hv hdue ?_, ?_⟩
    · intro h2
      rcases hsrc with h1 | ⟨-, hedge⟩
      · omega
      · exact hedge
    · rw [htgt]
      exact ⟨rfl, rfl, Msf.tgtOf_of_vsetIn (hsrc.imp_right And.left) rfl rfl, rfl⟩
  case write =>
    have hfit : s.msf.vsetSat w = (fld w 0 12, fld w 16 9) := by
      rw [Msf.vsetSat, clampN_of_mem (by rwa [fld_zero_twelve]) (by rwa [fld_zero_twelve]), 
        clampN_of_mem (by rwa [fld_sixteen_nine]) (by rwa [fld_sixteen_nine])]
    obtain ⟨off, base, tgt, hforce⟩ := Msf.putInForce_eq { s.msf with vimSet := fld w 0 12, slew := fld w 16 9 }
      (fld w 0 12) (fld w 16 9) s.tb.count
    refine ⟨_, exec_msfVsetWrite_now hc hr hh hl hfit, ?_⟩
    rw [hforce]
    exact ⟨fld_zero_twelve w, rfl, fld_zero_twelve w, rfl, rfl⟩
  case stored =>
    have hsat : s.msf.vsetSat w = (clampN s.msf.cfg.vimMin s.msf.cfg.vimMax (w.toNat % 2 ^ 12), clampN 5 50 (fld w 16 9)) := by
      rw [Msf.vsetSat, fld_zero_twelve]
    refine ⟨_, exec_msfVsetWrite_stored hc hr hst hsat, rfl, rfl, rfl, rfl, fun hcut => ?_, ?_⟩
    · rw [if_neg (by rw [fld_zero_twelve]; exact fun hfit => hcut.elim (· hfit.2) (· hfit.1))]
      exact note_mem_inbox _ _ _ _
    · split <;> rfl

end Sys2Proof.Machine
end

section
/-!
The module stage's ladder and its faults: shed and watch, shorts with HICCUP and LATCHED, overvoltage and the loss of a channel
(06 R197, R201 to R204, R207). The statement O34.
-/
namespace Sys2Proof.Machine

/-- A condition asserted joins those that hold, and none leaves them (R401). -/
theorem mem_conds_assertCond {s : State} {x : Nat × Nat} {code unit : Nat} (cls : Cls) (l : Bool) (c : Option CritRep) :
    x ∈ (assertCond s code unit cls l c).snag.conds ↔ x = (code, unit) ∨ x ∈ s.snag.conds := by
  by_cases h : (code, unit) ∈ s.snag.conds
  · rw [assertCond, if_pos (by simpa using h)]
    exact ⟨.inr, fun hx => hx.elim (· ▸ h) id⟩
  · rw [assertCond_of_not_mem h]
    exact List.mem_cons
/-- A new condition's report says whether it latches (R401, R402). -/
theorem assertCond_mem_inbox_latch {s : State} {code unit : Nat} (h : (code, unit) ∉ s.snag.conds) (cls : Cls) (l : Bool)
    (c : Option CritRep) : ∃ r ∈ (assertCond s code unit cls l c).snag.inbox,
      r.code = code ∧ r.unit = unit ∧ r.cls = cls ∧ r.latch = l ∧ r.stamp = s.tb.count := by
  rw [assertCond_of_not_mem h]
  exact ⟨_, mem_insRep _ _, rfl, rfl, rfl, rfl, rfl⟩

namespace Msf

/-! ## Changes of the running channels (R190, R200, R201, R204) -/

/-- A change of the running channels limits acc at once, and moves nothing else (R190). -/
theorem rerun_eq (m m1 : Msf) : ∃ acc, m.rerun m1 = { m1 with acc } := by
  unfold rerun; split
  · exact ⟨m1.acc, rfl⟩
  · exact ⟨_, rfl⟩
/-- The channels that the present level runs and level l does not run to the end of their cycles (R201). -/
def dropTo (m : Msf) (l : Nat) : List Chan := m.chans.mapIdx fun k c => { c with tail := c.on && m.runs k && !m.runsAt l k }
theorem shedTo_eq (m : Msf) (l : Nat) : ∃ acc, m.shedTo l = { m with level := l, chans := m.dropTo l, acc } := m.rerun_eq _
theorem dropTo_getD (m : Msf) (l : Nat) {k : Nat} (hk : k < m.chans.length) : (m.dropTo l).getD k {} =
    { m.chans.getD k {} with tail := (m.chans.getD k {}).on && m.runs k && !m.runsAt l k } := by
  simp [dropTo, List.getD_eq_getElem?_getD, hk]
/-- Where the stage stops, no switch of any channel stands on (R197). -/
theorem stopTo_chans (m : Msf) (st : MsfState) (k : Nat) : ∀ c ∈ (m.stopTo st k).chans, c.on = false ∧ c.low = false := by
  intro c hc
  obtain ⟨d, -, rfl⟩ := List.mem_map.1 hc
  exact ⟨rfl, rfl⟩
/-- The stage after a short (R202). -/
def shorted (m : Msf) (k : Nat) : Msf :=
  { (m.stopTo (if 3 ≤ satInc 3 m.tries then .latched else .hiccup) k).seen 3 with tries := satInc 3 m.tries, shortAt := k }
/-- The stage without channel k (R204). -/
def without (m : Msf) (k : Nat) : Msf := { m with chans := m.chans.modify k fun c =>
  { c with excluded := true, trip := false, on := false, tail := false, low := false } }

end Msf

/-! ## Shed and watch (R201) -/

theorem exec_msfShedArm {s : State} {k : Nat} (hst : s.msf.st = .run) (hd : s.msf.dwellAt = some k) (ha : s.msf.armed = none)
    (hl : s.msf.level < s.msf.dn) (hdue : k + 1000 * s.msf.cfg.shedDwell ≤ s.tb.count) (hp : s.msf.perAt = some s.tb.count) :
    exec .msfShedArm s = .next { s with msf := { s.msf with armed := some (s.msf.dn, s.msf.per) } } := by
  show execMsfShedArm s = _
  simp only [execMsfShedArm, hd]
  exact if_pos (by simp [now, hst, ha, hl, hdue, hp])
theorem exec_msfShedCommit {s : State} {l p : Nat} (hst : s.msf.st = .run) (ha : s.msf.armed = some (l, p)) (hdue : p + 2 ≤ s.msf.per)
    (hp : s.msf.perAt = some s.tb.count) : exec .msfShedCommit s = .next { s with msf := { s.msf.shedTo l with
      armed := none, watch := (s.msf.level, l, s.msf.per + 32) :: s.msf.watch.filter (fun x => s.msf.per < x.2.2), dwellAt := none } } := by
  show execMsfShedCommit s = _
  simp only [execMsfShedCommit, ha]
  exact if_pos (by simp [now, hst, hdue, hp])

/-! ## Shorts (R202, R207) -/

/-- The state after a short, before it is reported. -/
def shortStop (s : State) : State := pgLow { s with msf := s.msf.shorted s.tb.count }
/-- The short as reported: since READY it is a condition (R207). -/
def shortReport (s : State) : State := if s.su.readyEver then assertCond (shortStop s) 0x2B 0 .instSafe else shortStop s
/-- The third detection latches (R202). -/
theorem three_le_satInc {n : Nat} : 3 ≤ satInc 3 n ↔ 2 ≤ n := by
  unfold satInc satAdd; omega
theorem Msf.shorted_st (m : Msf) (k : Nat) : (m.shorted k).st = if m.tries < 2 then .hiccup else .latched := by
  show (if 3 ≤ satInc 3 m.tries then MsfState.latched else .hiccup) = _
  rw [← ite_not]
  exact if_congr (by rw [three_le_satInc, Nat.not_le]) rfl rfl
theorem Msf.shorted_chans (m : Msf) (k : Nat) : ∀ c ∈ (m.shorted k).chans, c.on = false ∧ c.low = false :=
  m.stopTo_chans (if 3 ≤ satInc 3 m.tries then .latched else .hiccup) k
/-- MSF_SHORT after 64 counting periods; the detection that latches reports 0x2C besides (R202, R207). -/
theorem exec_msfShort {s : State} (hl : s.msf.loop = true) (hn : 64 ≤ s.msf.shortCnt) : exec .msfShort s =
    .next (if 3 ≤ satInc 3 s.msf.tries then assertCond (shortReport s) 0x2C 0 .instSafe true else shortReport s) :=
  if_pos (by simp [hl, hn])
/-- The reports of a short move the Snag unit only. -/
theorem shortReport_eq (s : State) : ∃ n, shortReport s = { shortStop s with snag := n } := by
  unfold shortReport; split
  · exact assertCond_eq _ _ _ _ _ _
  · exact ⟨_, rfl⟩
theorem mem_conds_shortReport {s : State} (hr : s.su.readyEver = true) : (0x2B, 0) ∈ (shortReport s).snag.conds := by
  rw [shortReport, if_pos hr]
  exact assertCond_conds _ _ _ _ _ _
theorem not_mem_conds_shortReport {s : State} (h : (0x2C, 0) ∉ s.snag.conds) : (0x2C, 0) ∉ (shortReport s).snag.conds := by
  unfold shortReport; split
  · rw [mem_conds_assertCond]
    exact fun hx => hx.elim (by simp) h
  · exact h
/-- Every report of a short moves the Snag unit only; the condition 0x2B stands. -/
theorem exec_msfShort_eq {s : State} (hl : s.msf.loop = true) (hn : 64 ≤ s.msf.shortCnt) :
    ∃ n, exec .msfShort s = .next { shortStop s with snag := n } ∧ (s.su.readyEver = true → (0x2B, 0) ∈ n.conds) := by
  obtain ⟨n, hrep⟩ := shortReport_eq s
  obtain ⟨n', hlatch⟩ := assertCond_eq (shortReport s) 0x2C 0 .instSafe true none
  rw [exec_msfShort hl hn]
  split
  · refine ⟨n', by rw [hlatch, hrep], fun hr => ?_⟩
    have hmem : (0x2B, 0) ∈ (assertCond (shortReport s) 0x2C 0 .instSafe true).snag.conds :=
      (mem_conds_assertCond _ _ _).2 (.inr (mem_conds_shortReport hr))
    rwa [hlatch] at hmem
  · refine ⟨n, by rw [hrep], fun hr => ?_⟩
    have hmem := mem_conds_shortReport hr
    rwa [hrep] at hmem

/-! ## HICCUP, TRIES and overvoltage (R197, R202, R203) -/

theorem exec_msfHiccupEnd {s : State} (hst : s.msf.st = .hiccup) (hdue : s.msf.shortAt + 50000000 ≤ s.tb.count) :
    exec .msfHiccupEnd s = .next { s with msf := s.msf.softStart s.tb.count } := by
  have hdue : s.msf.shortAt + 50000000 ≤ now s := hdue
  exact if_pos (by simp [hst, hdue])
theorem exec_msfTriesReset {s : State} (hst : s.msf.st = .run) (hdue : max s.msf.stAt s.msf.shortAt + 1000000000 ≤ s.tb.count) :
    exec .msfTriesReset s = .next { s with msf := { s.msf with tries := 0 } } := by
  have hdue : max s.msf.stAt s.msf.shortAt + 1000000000 ≤ now s := hdue
  exact if_pos (by simp [hst, hdue])
theorem exec_msfOvervoltage {s : State} (hc : s.su.cond = .run) (hn : 2 ≤ s.msf.ovCnt) : exec .msfOvervoltage s =
    .next (assertCond (pgLow { s with msf := (s.msf.stopTo .off s.tb.count).seen 2 }) 0x2D 0 .instSafe) :=
  if_pos (by simp [running, hc, hn])

/-! ## The loss of a channel (R204) -/

/-- The state without channel k, before its loss is reported. -/
def chanLost (s : State) (k : Nat) : State := { s with msf := (s.msf.rerun (s.msf.without k)).seen 6 }
theorem chanLost_excluded {s : State} {k : Nat} (hk : k < s.msf.chans.length) : ((chanLost s k).msf.chans.getD k {}).excluded = true := by
  obtain ⟨acc, hrun⟩ := s.msf.rerun_eq (s.msf.without k)
  rw [chanLost, hrun]
  show ((s.msf.without k).chans.getD k {}).excluded = true
  rw [Msf.without, getD_modify_same hk]
/-- An excluded channel runs at no level (R200). -/
theorem Msf.runsAt_of_excluded {m : Msf} {k : Nat} (h : (m.chans.getD k {}).excluded = true) (i : Nat) : m.runsAt i k = false := by
  rw [runsAt, h, Bool.not_true, Bool.and_false]

section
variable {s : State} {k : Nat} (hx : (s.msf.chans.getD k {}).excluded = false) (hk : k < s.msf.cfg.nch)
include hx hk

/-- A channel lost reports 0x2E, and more than NCH ÷ 4 lost report 0x2F besides (R204, R207). -/
theorem excludeChan_of_in : excludeChan s k =
    if (chanLost s k).msf.cfg.nch < 4 * ((chanLost s k).msf.chans.filter (·.excluded)).length
    then assertCond (assertCond (chanLost s k) 0x2E k .degrade) 0x2F 0 .instSafe else assertCond (chanLost s k) 0x2E k .degrade := by
  rw [excludeChan, if_neg (by rw [hx]; simpa using hk)]
  rfl
/-- The reports move the Snag unit only; 0x2E stands, and its report is on its way. -/
theorem excludeChan_eq (hnew : (0x2E, k) ∉ s.snag.conds) : ∃ n, excludeChan s k = { chanLost s k with snag := n } ∧
    (0x2E, k) ∈ n.conds ∧ Reported { s with snag := n } 0x2E k .degrade s.tb.count := by
  have hmem := assertCond_conds (chanLost s k) 0x2E k .degrade false none
  have hrep : Reported (assertCond (chanLost s k) 0x2E k .degrade) 0x2E k .degrade s.tb.count :=
    assertCond_mem_inbox (s := chanLost s k) hnew .degrade false none
  obtain ⟨n, heq⟩ := assertCond_eq (chanLost s k) 0x2E k .degrade false none
  rw [excludeChan_of_in hx hk]
  split
  · have hmem' := (mem_conds_assertCond (code := 0x2F) (unit := 0) .instSafe false none).2 (.inr hmem)
    have hrep' := hrep.assertCond 0x2F 0 .instSafe
    obtain ⟨n', heq'⟩ := assertCond_eq (assertCond (chanLost s k) 0x2E k .degrade) 0x2F 0 .instSafe false none
    rw [heq'] at hmem' hrep' ⊢
    rw [heq] at hmem' hrep' ⊢
    exact ⟨n', rfl, hmem', hrep'⟩
  · rw [heq] at hmem hrep ⊢
    exact ⟨n, rfl, hmem, hrep⟩
end
theorem exec_msfChannelExclude {s : State} {k : Nat} (hc : s.su.cond = .run)
    (h : 16 ≤ (s.msf.chans.getD k {}).bad ∨ 1024 ≤ (s.msf.chans.getD k {}).trips) :
    exec (.msfChannelExclude k) s = .next (excludeChan s k) :=
  if_pos (by simpa [running, hc] using h)

/-- Settles O34: each row by its equation where it acts; a shed by what it leaves of each channel, and a short by its stop and the reports
that move the Snag unit only. -/
theorem msfLadderShortsAndProtection : Obligations.MsfLadderShortsAndProtection := by
  unfold Obligations.MsfLadderShortsAndProtection
  refine ⟨fun k s hst hd ha hl hdue hp => exec_msfShedArm hst hd ha hl hdue hp, fun l p s hst ha hdue hp => ?commit, fun s => rfl,
    fun s hl hn ht hr => ?silent, fun s hl hn hr => ?short, fun s hl hn ht hnew => ?third, fun s hst hdue => ?hiccup,
    fun s hst hdue => exec_msfTriesReset hst hdue, fun m v => ⟨rfl, rfl, rfl⟩, fun s hc hn hnew => ?overvoltage,
    fun k s hc hk hlen h hx hnew => ?lost⟩
  case commit =>
    obtain ⟨acc, hshed⟩ := s.msf.shedTo_eq l
    refine ⟨_, exec_msfShedCommit hst ha hdue hp, ?_⟩
    rw [hshed]
    refine ⟨rfl, rfl, rfl, List.mem_cons_self, fun k hk => ?_, rfl⟩
    show ((s.msf.dropTo l).getD k {}).tail = _ ∧ ((s.msf.dropTo l).getD k {}).on = _
    rw [Msf.dropTo_getD _ _ hk]
    exact ⟨rfl, rfl⟩
  case silent =>
    have hlow : ¬ 3 ≤ satInc 3 s.msf.tries := fun h => Nat.not_le.2 ht (three_le_satInc.1 h)
    have hstop : shortReport s = shortStop s := if_neg (by simp [hr])
    refine ⟨_, exec_msfShort hl hn, ?_⟩
    rw [if_neg hlow, hstop]
    exact ⟨(Msf.shorted_st _ _).trans (if_pos ht), min_eq_right (by omega), rfl, rfl, Msf.shorted_chans s.msf s.tb.count, rfl, rfl, rfl⟩
  case short =>
    obtain ⟨n, hexec, hcond⟩ := exec_msfShort_eq hl hn
    exact ⟨_, hexec, Msf.shorted_st _ _, rfl, Msf.shorted_chans s.msf s.tb.count, hcond hr⟩
  case third =>
    have hthird : 3 ≤ satInc 3 s.msf.tries := three_le_satInc.2 ht.ge
    obtain ⟨n, hrep⟩ := shortReport_eq s
    obtain ⟨n', hlatch⟩ := assertCond_eq (shortReport s) 0x2C 0 .instSafe true none
    obtain ⟨r, hr, hcode, hunit, hcls, hl', hstamp⟩ := assertCond_mem_inbox_latch (not_mem_conds_shortReport hnew) .instSafe true none
    refine ⟨_, (exec_msfShort hl hn).trans (by rw [if_pos hthird]), ?_, ?_, ?_, r, hr, hcode, hunit, hcls, hl', ?_⟩
    · rw [hlatch, hrep]
      exact (Msf.shorted_st _ _).trans (if_neg (by omega))
    · rw [hlatch, hrep]
      show satInc 3 s.msf.tries = 3
      rw [ht]; rfl
    · rw [hlatch, hrep]
      rfl
    · rw [hstamp, hrep]
      rfl
  case hiccup => exact ⟨_, exec_msfHiccupEnd hst hdue, rfl, rfl, rfl, rfl, rfl⟩
  case overvoltage =>
    obtain ⟨n, hover⟩ := assertCond_eq (pgLow { s with msf := (s.msf.stopTo .off s.tb.count).seen 2 }) 0x2D 0 .instSafe false none
    have hrep := assertCond_mem_inbox (s := pgLow { s with msf := (s.msf.stopTo .off s.tb.count).seen 2 }) hnew .instSafe false none
    refine ⟨_, exec_msfOvervoltage hc hn, ?_, ?_, assertCond_conds _ _ _ _ _ _, hrep, ?_, ?_⟩ <;> rw [hover] <;> rfl
  case lost =>
    obtain ⟨n, heq, hcond, hrep⟩ := excludeChan_eq hx hk hnew
    have hchan := chanLost_excluded hlen
    exact ⟨_, (exec_msfChannelExclude hc h).trans (congrArg _ heq), hchan, Msf.runsAt_of_excluded hchan _, hcond, hrep, rfl⟩

end Sys2Proof.Machine
end

section
/-!
The module stage's channel cycle, the limits of its outer loop, and PG_OUT (06 R187, R188, R190, R202, R204, R206). The statement O35.
-/
namespace Sys2Proof.Machine

namespace Msf

/-! ## A turn-on (R187, R202) -/

/-- Channel 0's turn-on also ends a period of a stage that loops (R202). -/
def endPeriod (m : Msf) (k t : Nat) : Msf := if k = 0 && m.loop && !m.capture then m.boundary t else m
/-- A channel's cycle, or its idle period (R187, R204). -/
def cycleOf (m : Msf) (k : Nat) (c : ChanInput) : Msf :=
  if m.loop && !m.capture && 0 < m.per && m.runsAt m.level k then m.chanCycle k c else m.idleCycle k c
/-- What a turn-on looks at does not move with the references. -/
theorem refTo_turnOn (m : Msf) (t : Nat) : (m.refTo t).loop = m.loop ∧ (m.refTo t).capture = m.capture ∧ (m.refTo t).per = m.per ∧
    (m.refTo t).shortPeriod = m.shortPeriod ∧ (m.refTo t).shortCnt = m.shortCnt ∧
    ∀ k, (m.refTo t).runsAt (m.refTo t).level k = m.runsAt m.level k := by
  obtain ⟨off, base, h⟩ := m.refTo_eq t
  rw [h]
  exact ⟨rfl, rfl, rfl, rfl, rfl, fun _ => rfl⟩
/-- A cycle moves the channels only. -/
theorem cycleOf_eq (m : Msf) (k : Nat) (c : ChanInput) : ∃ chans, m.cycleOf k c = { m with chans } := by
  unfold cycleOf; split <;> exact ⟨_, rfl⟩
/-- Consecutive counting periods, up to the 64 of a short (R202). -/
theorem boundary_shortCnt (m : Msf) (t : Nat) :
    (m.boundary t).shortCnt = if 0 < m.per ∧ m.shortPeriod = true then min 64 (m.shortCnt + 1) else 0 :=
  if_congr (by simp) rfl rfl
/-- The period that ends counts where VIM was low throughout and more than half of the running channels tripped (R202). -/
theorem shortPeriod_iff (m : Msf) : m.shortPeriod = true ↔ m.lowAll = true ∧ 5 * m.vsns < 4 * m.tgt ∧
    ((List.range m.cfg.nch).filter m.runs).length <
      2 * (((List.range m.cfg.nch).filter m.runs).filter fun k => (m.chans.getD k {}).trip).length := by
  simp only [shortPeriod, vLow, Bool.and_eq_true, decide_eq_true_eq, and_assoc]

/-! ## A stage that does not loop (R197) -/

section
variable {m : Msf} (h : m.loop = false)
include h

/-- Where the loop does not run, no channel runs, and no reference moves. -/
theorem running_of_not_loop : m.running = 0 := by
  have hruns : ∀ k, m.runs k = false := fun k => by rw [runs, h, Bool.false_and]
  simp [running, hruns]
theorem refTo_of_not_loop (k : Nat) : m.refTo k = { m with refAt := k } := by
  unfold refTo
  split
  case h_1 hst => simp [loop, hst] at h
  case h_2 hst => simp [loop, hst] at h
  case h_3 hst => simp [loop, hst] at h
  all_goals rfl
/-- No turn-on ends a period of a stage that does not loop, and none begins a pulse. -/
theorem endPeriod_of_not_loop (k t : Nat) : m.endPeriod k t = m := if_neg (by simp [h])
theorem cycleOf_of_not_loop (k : Nat) (c : ChanInput) : m.cycleOf k c = m.idleCycle k c := if_neg (by simp [h])
theorem rerun_idleCycle (k : Nat) (c : ChanInput) : m.rerun (m.idleCycle k c) = m.idleCycle k c := by
  have hidle : (m.idleCycle k c).loop = false := h
  exact if_pos (by rw [running_of_not_loop h, running_of_not_loop hidle])
end

/-! ## The cycle of a channel (R187, R188, R204) -/

section
variable {m : Msf} {k : Nat} (hk : k < m.chans.length) (c : ChanInput)
include hk

theorem idleCycle_getD : ((m.idleCycle k c).chans.getD k {}).on = false ∧ ((m.idleCycle k c).chans.getD k {}).low = false := by
  rw [idleCycle, getD_modify_same hk]
  exact ⟨rfl, rfl⟩
/-- A pulse: its on-time, the current at mid on-time, and its trip where ILIMC ended it. -/
theorem chanCycle_pulse (h : imonAt c 0 * 100 < m.ilimcV) :
    ((m.chanCycle k c).chans.getD k {}).onT = (m.onTime c m.ipk).1 ∧
    ((m.chanCycle k c).chans.getD k {}).im = m.imonCur (imonAt c ((m.onTime c m.ipk).1 / 2)) ∧
    ((m.chanCycle k c).chans.getD k {}).trip = (m.onTime c m.ipk).2 ∧
    ((m.chanCycle k c).chans.getD k {}).trips = (if (m.onTime c m.ipk).2 then min 1024 ((m.chans.getD k {}).trips + 1) else 0) ∧
    ((m.chanCycle k c).chans.getD k {}).bad =
      if imonBad (imonAt c ((m.onTime c m.ipk).1 / 2)) then min 16 ((m.chans.getD k {}).bad + 1) else 0 := by
  have hskip : ¬ m.ilimcV ≤ imonAt c 0 * 100 := Nat.not_le.2 h
  simp [chanCycle, hk, hskip, satInc, satAdd]
/-- A pulse skipped at ILIMC: a trip without an on-time, which leaves the measured current. -/
theorem chanCycle_skip (h : m.ilimcV ≤ imonAt c 0 * 100) :
    ((m.chanCycle k c).chans.getD k {}).onT = 0 ∧ ((m.chanCycle k c).chans.getD k {}).trip = true ∧
    ((m.chanCycle k c).chans.getD k {}).im = (m.chans.getD k {}).im ∧
    ((m.chanCycle k c).chans.getD k {}).trips = min 1024 ((m.chans.getD k {}).trips + 1) := by
  simp [chanCycle, hk, h, satInc, satAdd]
end
theorem imonBad_iff (v : Nat) : imonBad v = true ↔ v < 3000 ∨ 15000 < v := by simp [imonBad]
/-- DMAX bounds the on-time, and TON_MIN too unless ILIMC or DMAX ends it (R187). -/
theorem onTime_bounds (m : Msf) (c : ChanInput) (p : Int) : (m.onTime c p).1 ≤ m.cfg.dmax * m.syncPer / 100000 ∧
    ((m.onTime c p).2 = false → min m.cfg.tonMin (m.cfg.dmax * m.syncPer / 100000) ≤ (m.onTime c p).1) := by
  simp only [onTime, decide_eq_false_iff_not]
  generalize m.cfg.dmax * m.syncPer / 100000 = d
  generalize firstFrom _ d 0 = byPeak
  generalize firstFrom _ d 0 = byLim
  omega

/-! ## The outer loop (R190) -/

/-- A value limited to a range that is not empty lies in it. -/
theorem satTo_mem {site : Nat} {hi : Int} (h : 0 ≤ hi) (x : Int) : 0 ≤ satTo site hi x ∧ satTo site hi x ≤ hi := by
  rw [satTo, if_neg (Int.not_lt.2 h), clampI]
  split_ifs <;> omega
/-- The peak lies within ILIMC, and the demand within its limit (R190). -/
theorem law_bounds (m : Msf) (k : Nat) : (m.law k).ipkNext ≤ m.cfg.ilimc ∧ (0 ≤ m.lim → ((m.law k).dm : Int) ≤ m.lim) := by
  refine ⟨min_le_left _ _, fun h => ?_⟩
  obtain ⟨hlo, hhi⟩ := satTo_mem (site := 190) h _
  exact (Int.toNat_of_nonneg hlo).trans_le hhi

end Msf

/-! ## The commands (R187, R206) -/

/-- MSF_CHANNEL_CYCLE from the start of step 6. -/
theorem exec_msfChannelCycle {s : State} (hc : s.su.cond = .run) (hg : s.su.msfGrid = true) (k : Nat) (c : ChanInput) :
    exec (.msfChannelCycle k c) s = .next { s with
      msf := (s.msf.refTo s.tb.count).rerun (((s.msf.refTo s.tb.count).endPeriod k s.tb.count).cycleOf k c) } :=
  if_neg (by simp [running, hc, hg])
theorem exec_pgFault {s : State} {k : Nat} (ho : s.msf.outAt = some k) (hpg : s.pins.pgOut = true) (hdue : k + 10000 ≤ s.tb.count) :
    exec .pgFault s = .next { s with pins := { s.pins with pgOut := false } } := by
  show execPgFault s = _
  simp only [execPgFault, ho]
  exact if_pos (by simp [now, hpg, hdue])
theorem exec_pgRestore {s : State} {k : Nat} (hi : s.msf.inAt = some k) (hst : s.msf.st = .run) (hpg : s.pins.pgOut = false)
    (hdue : k + 1000000 ≤ s.tb.count) : exec .pgRestore s = .next { s with pins := { s.pins with pgOut := true } } := by
  show execPgRestore s = _
  simp only [execPgRestore, hi]
  exact if_pos (by simp [now, hst, hpg, hdue])

/-- Settles O35: a turn-on by the period it ends and the cycle it begins, a cycle by what it leaves of its channel, and the bounds of the
on-time and of the loop. IMON is taken at mid on-time, or at the turn-on of a pulse that is skipped (logs 22, 97), on a grid of 1 ns
(log 90); trips fall to 0 at a sample below 80% of tgt, not here (log 22). -/
theorem msfChannelCycleAndPowerGood : Obligations.MsfChannelCycleAndPowerGood := by
  unfold Obligations.MsfChannelCycleAndPowerGood
  refine ⟨fun k c s hc hg hl hcap hk hp hrun => ?cycle, fun k c s hc hg hl => ?idle, fun m k c hk => ?still, fun c s hc hg hl hcap => ?period,
    Msf.shortPeriod_iff, fun m k c hk h => ?pulse, fun m k c hk h => Msf.chanCycle_skip hk c h, Msf.onTime_bounds, fun m k => ?law,
    fun k s ho hpg hdue => exec_pgFault ho hpg hdue, fun k s hi hst hpg hdue => exec_pgRestore hi hst hpg hdue⟩
  case cycle =>
    obtain ⟨hloop, hcapture, hper, -, -, hruns⟩ := s.msf.refTo_turnOn s.tb.count
    have hend : (s.msf.refTo s.tb.count).endPeriod k s.tb.count = s.msf.refTo s.tb.count := if_neg (by simp [hk.ne'])
    have hcyc : (s.msf.refTo s.tb.count).cycleOf k c = (s.msf.refTo s.tb.count).chanCycle k c :=
      if_pos (by simp [hloop, hl, hcapture, hcap, hper, hp, hruns, hrun])
    rw [exec_msfChannelCycle hc hg, hend, hcyc]
  case idle =>
    have href : ({ s.msf with refAt := s.tb.count } : Msf).loop = false := hl
    rw [exec_msfChannelCycle hc hg, Msf.refTo_of_not_loop hl, Msf.endPeriod_of_not_loop href, Msf.cycleOf_of_not_loop href,
      Msf.rerun_idleCycle href]
  case still =>
    obtain ⟨hon, hlow⟩ := Msf.idleCycle_getD hk c
    exact ⟨hon, hlow, rfl⟩
  case period =>
    obtain ⟨hloop, hcapture, hper, hshort, hcnt, -⟩ := s.msf.refTo_turnOn s.tb.count
    have hend : (s.msf.refTo s.tb.count).endPeriod 0 s.tb.count = (s.msf.refTo s.tb.count).boundary s.tb.count :=
      if_pos (by simp [hloop, hl, hcapture, hcap])
    obtain ⟨chans, hcyc⟩ := ((s.msf.refTo s.tb.count).boundary s.tb.count).cycleOf_eq 0 c
    obtain ⟨acc, hrun⟩ := (s.msf.refTo s.tb.count).rerun_eq { (s.msf.refTo s.tb.count).boundary s.tb.count with chans }
    refine ⟨_, exec_msfChannelCycle hc hg 0 c, ?_⟩
    rw [hend, hcyc, hrun]
    refine ⟨congrArg (· + 1) hper, rfl, refTo_st _ _, (Msf.boundary_shortCnt _ s.tb.count).trans ?_, rfl⟩
    rw [hper, hshort, hcnt]
  case pulse =>
    obtain ⟨hon, him, htrip, htrips, hbad⟩ := Msf.chanCycle_pulse hk c h
    exact ⟨hon, him, htrip, htrips, hbad.trans (if_congr (Msf.imonBad_iff _) rfl rfl), rfl, rfl⟩
  case law =>
    obtain ⟨hpeak, hdm⟩ := m.law_bounds k
    exact ⟨hpeak, hdm, rfl, rfl⟩

end Sys2Proof.Machine
end

section
/-!
Model sets of the forecast engine: staging, commit, clearing, copy and loss of a slot, and the adaptation run. The statement O40.
-/
namespace Sys2Proof.Machine

/-! ## Slots (R217, R219) -/

/-- What a slot put anew holds (R222). -/
theorem Fce.slot_putSlot {f : Fce} {n : Nat} (h : n < f.slots.length) (k : Nat) (m : List W32) : (f.putSlot n k m).slot n = m :=
  getD_set_same h m []
/-- A list whose entry i was set is the one whose entry i is set to what it then reads. -/
theorem set_getD_set {α : Type} (l : List α) (i : Nat) (x d : α) : l.set i ((l.set i x).getD i d) = l.set i x := by
  by_cases h : i < l.length
  · rw [getD_set_same h]
  · have hout := not_lt.1 h
    rw [List.set_eq_of_length_le hout, List.set_eq_of_length_le hout]

/-! ## The load registers (R220, R221) -/

/-- Since READY and with no copy under way the load registers act (R220). -/
theorem fceOpen_of {s : State} (hc : s.su.cond = .run ∨ s.su.cond = .safe) (hr : s.su.readyEver = true) (hn : s.fce.copy = none) :
    fceOpen s = true := by
  simp [fceOpen, (alive_iff s).2 hc, sinceReady, hr, hn]
/-- A word is staged until there are 1,024 of them, whether or not a copy runs (R220). -/
theorem exec_fceLoadData {s : State} (hc : s.su.cond = .run ∨ s.su.cond = .safe) (hr : s.su.readyEver = true)
    (hl : s.fce.staged.length < 1024) (w : W32) :
    exec (.fceLoadData w) s = .next { s with fce := { s.fce with staged := w :: s.fce.staged } } :=
  if_pos (by simp [(alive_iff s).2 hc, sinceReady, hr, hl])
/-- A set of another length fails before any other check (R221). -/
theorem setCheck_of_length_ne {m : List W32} (h : m.length ≠ 1024) : setCheck m = 4 := if_pos h

section
variable {s : State} {n : Nat} (ho : fceOpen s = true) (hn : n < 64)
include ho hn

/-- A reset of the staging pointer takes the slot with it (R220). -/
theorem exec_fceStagingReset : exec (.fceStagingReset n) s =
    .next { s with fce := { s.fce with staged := [], slotSel := n, done := true } } := by
  show execFceStagingReset n s = _
  rw [execFceStagingReset, if_pos ho, Nat.mod_eq_of_lt hn]
/-- A commit that the checks pass starts the copy; else its code shows (R221). -/
theorem exec_fceCommit : exec (.fceCommit n) s =
    if setCheck s.fce.staged.reverse = 0 then
      .next { s with fce := { s.fce with slotSel := n, fail := 0, done := false, copy := some (n, s.fce.staged.reverse) } }
    else .next { s with fce := { s.fce with slotSel := n, fail := setCheck s.fce.staged.reverse, done := true } } := by
  show execFceCommit n s = _
  rw [execFceCommit, if_neg (by simp [ho]), Nat.mod_eq_of_lt hn]
/-- A clear is refused where a zone has the slot as its DEFSET (R221). -/
theorem exec_fceClear : exec (.fceClear n) s =
    if s.zones.any fun zn => zn.cfg.defset = n then .next { s with fce := { s.fce with slotSel := n, fail := 5, done := true } }
    else .next { s with fce := { s.fce with slotSel := n, fail := 0, done := false, copy := some (n, []) } } := by
  show execFceClear n s = _
  rw [execFceClear, if_neg (by simp [ho]), Nat.mod_eq_of_lt hn]

end

/-- The end of a copy puts its words into the slot (R220). -/
theorem exec_fceCopyDone {s : State} {n : Nat} {m : List W32} (h : s.fce.copy = some (n, m)) : exec .fceCopyDone s =
    .next { s with fce := { s.fce.putSlot n s.tb.count m with copy := none, done := true } } := by
  show execFceCopyDone s = _
  simp only [execFceCopyDone, h]; rfl
/-- A slot that was not empty and is lost is put empty (R219). -/
theorem exec_fceSlotLost {s : State} {n : Nat} (h : s.fce.slot n ≠ []) : exec (.fceSlotLost n) s =
    .next (note { s with fce := { s.fce.putSlot n s.tb.count [] with status := s.fce.status ||| 8 } } 0x0E 0) :=
  if_neg (by simp [h])

/-! ## The adaptation run (R230 to R232) -/

/-- With no zone eligible a run does nothing, whatever else stands (R230). -/
theorem exec_adaptationRun_none {s : State} (h : nextAdapt s = none) : exec .adaptationRun s = .next s := by
  show execAdaptationRun s = _
  simp only [execAdaptationRun, h, ite_self]

section
variable {s : State} (hrun : s.fce.running = true) (hwin : s.tb.count % 20000 = 0) (hlate : 20736 ≤ s.tb.count)
  (hfree : s.fce.freeze = false) (h1 : s.cores.run1 = true)
include hrun hwin hlate hfree h1

/-- Pair 1 runs at the start of an adaptation window that has a round to look back to, and FREEZE is 0 (R230). -/
theorem adaptationRun_acts : ¬ (!s.fce.running || now s % 20000 ≠ 0 || s.fce.freeze || now s < 20736 || !s.cores.run1) = true := by
  simp [now, hrun, hwin, not_lt.2 hlate, hfree, h1]

variable {z : Nat} (hz : nextAdapt s = some z)
include hz

/-- A zone without kept values of the window's first round: its turn passes and is counted (R230). -/
theorem exec_adaptationRun_skipped
    (hk : ((s.fce.zones.getD z {}).kept.find? fun k => k.1 = (s.tb.count - 20736) / 256 * 256) = none) :
    exec .adaptationRun s =
      .next { s with fce := { s.fce with nextZone := z + 1, skipped := min 0xFFFF (s.fce.skipped + 1) } } := by
  have hk' : ((s.fce.zones.getD z {}).kept.find? fun k => k.1 = floorTo 256 (now s - 20736)) = none := hk
  show execAdaptationRun s = _
  simp only [execAdaptationRun, if_neg (adaptationRun_acts hrun hwin hlate hfree h1), hz, hk']
  rfl
/-- A zone that adapts: its set is written back to its slot and the run is counted (R230, R232). -/
theorem exec_adaptationRun_adapts {k : Nat × Nat × List Int}
    (hk : ((s.fce.zones.getD z {}).kept.find? fun x => x.1 = (s.tb.count - 20736) / 256 * 256) = some k)
    (hset : k.2.1 = (s.fce.zones.getD z {}).set) (hthrough : runThrough (zoneD s z) ((s.tb.count - 20736) / 256 * 256) = true)
    (hload : s.fce.slotAt.getD k.2.1 0 < (s.tb.count - 20736) / 256 * 256) :
    ∃ (c : Cores) (ws : List W32) (ad : List Adapt) (zs : List FceZone), exec .adaptationRun s = .next { s with
      cores := c
      fce := { s.fce with nextZone := z + 1, runs := min 0xFFFF (s.fce.runs + 1), slots := s.fce.slots.set k.2.1 ws
                          adapt := ad, zones := zs } } := by
  obtain ⟨r, n, h⟩ := k
  have hk' : ((s.fce.zones.getD z {}).kept.find? fun x => x.1 = floorTo 256 (now s - 20736)) = some (r, n, h) := hk
  have hgo : ¬ (!runThrough (zoneD s z) (floorTo 256 (now s - 20736)) || n ≠ (s.fce.zones.getD z {}).set ||
      floorTo 256 (now s - 20736) ≤ s.fce.slotAt.getD n 0) = true := by
    simpa [floorTo, now] using ⟨⟨hthrough, hset⟩, hload⟩
  show ∃ c ws ad zs, execAdaptationRun s = _
  simp only [execAdaptationRun, if_neg (adaptationRun_acts hrun hwin hlate hfree h1), hz, hk', if_neg hgo]
  exact ⟨_, _, _, _, rfl⟩

end

/-- Settles O40: each command by its equation where it acts; a slot that is set reads what was put there. -/
theorem modelSetSlotsAndAdaptation : Obligations.ModelSetSlotsAndAdaptation := by
  unfold Obligations.ModelSetSlotsAndAdaptation
  refine ⟨fun n s hc hr hi hn => exec_fceStagingReset (fceOpen_of hc hr hi) hn, fun w s hc hr hl => exec_fceLoadData hc hr hl w,
    fun n s hc hr hi hn hok => ?commit, fun n s hc hr hi hn hbad => ?fails, fun m => setCheck_of_length_ne,
    fun n s hc hr hi hn hdef => ?defset, fun n s hc hr hi hn hdef => ?clear, fun n m s hcopy hlen => ?copied, fun n s hlen hfull => ?lost,
    fun s => exec_adaptationRun_none, fun z s hrun hwin hlate hfree h1 hz hk => exec_adaptationRun_skipped hrun hwin hlate hfree h1 hz hk,
    fun z k s hrun hwin hlate hfree h1 hz hk hset hthrough hload => ?adapts⟩
  case commit => rw [exec_fceCommit (fceOpen_of hc hr hi) hn, if_pos hok]
  case fails => rw [exec_fceCommit (fceOpen_of hc hr hi) hn, if_neg hbad]
  case defset => rw [exec_fceClear (fceOpen_of hc hr hi) hn, if_pos hdef]
  case clear => rw [exec_fceClear (fceOpen_of hc hr hi) hn, if_neg (ne_true_of_eq_false hdef)]
  case copied => exact ⟨_, exec_fceCopyDone hcopy, Fce.slot_putSlot hlen s.tb.count m, rfl, rfl, rfl, rfl, rfl⟩
  case lost =>
    obtain ⟨r, hr, hcode, -, hcls, hstamp⟩ := note_mem_inbox
      { s with fce := { s.fce.putSlot n s.tb.count [] with status := s.fce.status ||| 8 } } 0x0E 0 none
    exact ⟨_, exec_fceSlotLost hfull, Fce.slot_putSlot hlen s.tb.count [], rfl, ⟨r, hr, hcode, hcls, hstamp⟩, rfl⟩
  case adapts =>
    obtain ⟨c, ws, ad, zs, hexec⟩ := exec_adaptationRun_adapts hrun hwin hlate hfree h1 hz hk hset hthrough hload
    exact ⟨_, hexec, rfl, rfl, rfl, (set_getD_set s.fce.slots k.2.1 ws []).symm, rfl⟩

end Sys2Proof.Machine
end

section
/-!
The forecast port's records that end claims, leases and hints: DONE, DONE_LAST, PREEMPT, RESUME, the end of a hint, and malformed records.
The statement O37.
-/
namespace Sys2Proof.Machine

/-! ## The leases of a queue (R249, R261, R264) -/

/-- A change of expiries, whatever each is, moves the claims alone. -/
theorem foldl_setExpiry_eq (e : PcxStore → Lease → Option Nat) (ls : List Lease) (x : PcxStore) :
    ∃ c, ls.foldl (fun x l => x.setExpiry l (e x l)) x = { x with claims := c } := by
  induction ls generalizing x with
  | nil => exact ⟨_, rfl⟩
  | cons l ls ih =>
    obtain ⟨c, hc⟩ := ih (x.setExpiry l (e x l))
    exact ⟨c, hc⟩
/-- The suspended leases that a discard names go; beside them it moves the claims alone (R264). -/
theorem discard_eq (x : PcxStore) (q k : Nat) (drop : Lease → Bool) : ∃ c, x.discard q k drop =
    { x with claims := c, leases := x.leases.filter fun l => !(l.queue = q && l.susp.isSome && drop l) } := by
  obtain ⟨c, hc⟩ := foldl_setExpiry_eq (fun x _ => some (k + x.claimMax)) (x.leases.filter fun l => l.queue = q && l.susp.isSome && drop l) x
  refine ⟨c, ?_⟩
  unfold PcxStore.discard
  simp only [hc]
/-- A lease of the queue suspended at k with the time it has left, where it is active (R261). -/
def Lease.suspendAt (q k : Nat) (l : Lease) : Lease := if l.queue = q ∧ l.active k then { l with susp := some (k, l.stop - k) } else l
/-- A PREEMPT suspends the active leases of its queue; beside them it moves the claims alone (R261). -/
theorem suspend_eq (x : PcxStore) (q k : Nat) : ∃ c, x.suspend q k = { x with claims := c, leases := x.leases.map (Lease.suspendAt q k) } := by
  obtain ⟨c, hc⟩ := foldl_setExpiry_eq (fun _ _ => none) (x.leases.filter fun l => l.queue = q && l.active k) x
  refine ⟨c, ?_⟩
  unfold PcxStore.suspend
  simp only [hc, Bool.and_eq_true, decide_eq_true_eq]
  rfl
/-- A suspended lease of the queue issued again at k for the time it had left (R264). -/
def Lease.reissueAt (q k : Nat) (l : Lease) : Lease :=
  match l.susp with
  | some (_, t) => if l.queue = q then { l with start := k, stop := k + t, susp := none } else l
  | none => l
theorem susp_reissueAt {l : Lease} {q : Nat} (h : l.queue = q) (k : Nat) : (l.reissueAt q k).susp = none := by
  unfold Lease.reissueAt
  split
  · rw [if_pos h]
  · assumption
/-- A RESUME issues again what its discard leaves of the queue's suspended leases, and lets the others stand; beside them it moves the
claims alone (R264). -/
theorem reissue_eq (x : PcxStore) (q k : Nat) : ∃ (c : List Claim) (ls : List Lease), x.reissue q k = { x with
    claims := c
    leases := (ls.filter fun l => !(l.queue = q && l.susp.isSome)) ++
      (ls.filter fun l => l.queue = q && l.susp.isSome).map (Lease.reissueAt q k) } := by
  unfold PcxStore.reissue
  extract_lets x1 re hit x2
  obtain ⟨c1, h1⟩ : ∃ c, x1 = { x with claims := c, leases := _ } := discard_eq x q k _
  obtain ⟨c2, h2⟩ : ∃ c, x2 = { x1 with claims := c } := foldl_setExpiry_eq (fun _ l => some (re l).stop) hit x1
  refine ⟨c2, x1.leases, ?_⟩
  clear_value x1
  subst h1
  rw [h2]
  rfl
theorem reissue_susp (x : PcxStore) (q k : Nat) : ∀ l ∈ (x.reissue q k).leases, l.queue = q → l.susp = none := by
  obtain ⟨c, ls, h⟩ := reissue_eq x q k
  intro l hl hq
  rw [h] at hl
  rcases List.mem_append.1 hl with hl | hl
  · simpa [hq] using (List.mem_filter.1 hl).2
  · obtain ⟨l', hl', rfl⟩ := List.mem_map.1 hl
    have hq' : l'.queue = q := by simpa using (Bool.and_eq_true_iff.1 (List.mem_filter.1 hl').2).1
    exact susp_reissueAt hq' k
theorem reissue_dir (x : PcxStore) (q k : Nat) : (x.reissue q k).dir = x.dir := by
  obtain ⟨c, ls, h⟩ := reissue_eq x q k
  rw [h]

/-! ## Hints and floors (R261, R262) -/

/-- The hint of queue q pending until e in its partition, instead of an earlier one (R261). -/
def Part.hint (q e : Nat) (p : Part) : Part := { p with hints := (q, e) :: p.hints.filter fun h => h.1 ≠ q }
/-- Floors move the forecast engine alone. -/
theorem foldl_setFloor_eq (ma : State → Nat) (e : Nat) (zs : List Nat) (s : State) :
    ∃ f, zs.foldl (fun s z => setFloor s z (ma s) e) s = { s with fce := f } := by
  induction zs generalizing s with
  | nil => exact ⟨_, rfl⟩
  | cons z zs ih =>
    obtain ⟨f, hf⟩ := ih (setFloor s z (ma s) e)
    exact ⟨f, hf⟩
/-- A PREEMPT suspends the leases of its queue, makes its hint pending, and sets floors where the hint lasts (R261). -/
theorem preemptRecord_eq (s : State) (p q : Nat) : ∃ f, preemptRecord s p q =
    { modPart { s with pcx := s.pcx.suspend q s.tb.count } p (Part.hint q (s.tb.count + 1000 * s.pcx.cfg.spillDur.getD p 0)) with fce := f } := by
  unfold preemptRecord
  extract_lets dur e s1
  split
  · exact ⟨_, rfl⟩
  · exact foldl_setFloor_eq (fun s => 1000 * s.pcx.cfg.spillFloor.getD p 0) e _ s1
/-- After a queue's hints end, none is left in any partition (R262). -/
theorem endHints_none (s : State) (q : Nat) : ∀ p ∈ (endHints s q).tb.parts, ∀ h ∈ p.hints, h.1 ≠ q := by
  intro p hp h hh
  obtain ⟨p', -, rfl⟩ := List.mem_map.1 hp
  simpa using (List.mem_filter.1 hh).2

/-! ## The commands -/

section
variable {s : State} (hr : s.pins.ready = true) (hroom : fcpQueued s < 64)
include hr hroom

/-- With READY high and room among the records that wait, the port takes the record (R60, R61). -/
theorem port_takes {α : Type} (a b c : α) : (if !ready s then a else if 64 ≤ fcpQueued s then b else c) = c := by
  rw [if_neg (by simp [ready, hr]), if_neg (Nat.not_le.2 hroom)]
theorem exec_done (b0 : W64) : exec (.done b0) s = .next (doneRecord s b0) := port_takes hr hroom ..
theorem exec_doneLast (b0 : W64) : exec (.doneLast b0) s = .next (endHints (doneRecord s b0) (beatQueue b0)) := port_takes hr hroom ..
theorem exec_preempt (b0 : W64) : exec (.preempt b0) s = .next (preemptRecord s (beatPart b0) (beatQueue b0)) := port_takes hr hroom ..
theorem exec_resume (b0 : W64) : exec (.resume b0) s =
    if hasHint s (beatQueue b0) || hasSuspended s (beatQueue b0) then
      .next (endHints { s with pcx := s.pcx.reissue (beatQueue b0) s.tb.count } (beatQueue b0))
    else .next (note s 0x0C 0) := by
  refine (port_takes hr hroom ..).trans ?_
  cases hasHint s (beatQueue b0) <;> cases hasSuspended s (beatQueue b0) <;> rfl

end

/-- A record that no type and beat count of R242 fits is counted and seen, with a NOTE (R242). -/
theorem exec_malformedRecord {s : State} {bs : List W64} (hr : s.pins.ready = true)
    (hb : beatsOk (bitsOf (bs.headD 0).toNat 0 4) bs.length = false) : exec (.malformedRecord bs) s =
    .next (note { s with pcx := { s.pcx with malformed := satInc 0xFFFF s.pcx.malformed }.seen 0 } 0x0C 0) :=
  if_neg (by rw [hb]; simp [ready, hr])

/-- Settles O37: each record by its equation where the port takes it, and by what it leaves of the leases and hints. -/
theorem forecastPortDonePreemptResume : Obligations.ForecastPortDonePreemptResume := by
  unfold Obligations.ForecastPortDonePreemptResume
  refine ⟨fun b0 s hr hroom => ⟨_, exec_done hr hroom b0, rfl, rfl, rfl⟩,
    fun b0 s hr hroom => ⟨_, exec_doneLast hr hroom b0, rfl, rfl, rfl, rfl⟩, fun b0 s hr hroom hp => ?preempt,
    fun b0 s hr hroom hq => ?resume, fun b0 s hr hroom hq => ?nothing, fun p s hp => rfl, fun bs s hr hb => ?malformed⟩
  case preempt =>
    obtain ⟨f, hf⟩ := preemptRecord_eq s (beatPart b0) (beatQueue b0)
    obtain ⟨c, hc⟩ := suspend_eq s.pcx (beatQueue b0) s.tb.count
    refine ⟨_, exec_preempt hr hroom b0, ?_, ?_, ?_, ?_, ?_⟩ <;> rw [hf]
    · exact congrArg Part.hints (partD_modPart hp (Part.hint _ _))
    · exact congrArg PcxStore.leases hc
    · rfl
    · rfl
    · rfl
  case resume =>
    exact ⟨_, (exec_resume hr hroom b0).trans (if_pos hq), reissue_susp s.pcx (beatQueue b0) s.tb.count, endHints_none _ (beatQueue b0),
      reissue_dir s.pcx (beatQueue b0) s.tb.count, rfl, rfl⟩
  case nothing => exact (exec_resume hr hroom b0).trans (if_neg (ne_true_of_eq_false hq))
  case malformed =>
    have hb' : beatsOk (bitsOf (bs.headD 0).toNat 0 4) bs.length = false := by simpa [bitsOf] using hb
    obtain ⟨r, hmem, hcode, -, hcls, hstamp⟩ :=
      note_mem_inbox { s with pcx := { s.pcx with malformed := satInc 0xFFFF s.pcx.malformed }.seen 0 } 0x0C 0 none
    exact ⟨_, exec_malformedRecord hr hb', rfl, rfl, rfl, ⟨r, hmem, hcode, hcls, hstamp⟩, rfl⟩

end Sys2Proof.Machine
end

section
/-!
The context store: staging, commit, the directory switch, the move home, retirement and drop. The statement O39.
-/
namespace Sys2Proof.Machine

/-! ## The directory (R250) -/

/-- The entry put is the one found, where it holds a generation. -/
theorem entry_put {x : PcxStore} {e : Pcx} {n : Nat} (hd : x.dead = false) (hn : e.no = n) (hg : e.gens ≠ []) : (x.put e).entry n = e := by
  have hdir : (x.put e).dir = e :: x.dir.filter fun y => y.no ≠ e.no := if_neg (by simpa using hg)
  rw [PcxStore.entry, if_neg (by simp [PcxStore.put, hd]), hdir, List.find?_cons_of_pos (by simp [hn])]
  rfl
/-- A PCX whose entry is put without a generation is empty (R256). -/
theorem gens_entry_put_empty (x : PcxStore) (n : Nat) : ((x.put { no := n }).entry n).gens = [] := by
  cases hd : x.dead
  · exact gens_entry_put x { no := n } hd
  · exact entry_gens_of_dead (x := x.put { no := n }) hd n

/-! ## Retirement (R250, R255) -/

/-- The pool entry of a generation freed; one in the home slot has none. -/
def PcxStore.freed (x : PcxStore) (g : Gen) : PcxStore :=
  { x with pool := match g.pool with
      | some i => x.pool.erase i
      | none => x.pool }

/-- A lone generation does not retire. -/
theorem retire_of_lone {x : PcxStore} {n : Nat} {g : Gen} (h : (x.entry n).gens = [g]) (k : Nat) : x.retire n k = x := by
  simp only [PcxStore.retire, h]

section
variable {x : PcxStore} {n : Nat} {a b : Gen} (hg : (x.entry n).gens = [a, b])
include hg

/-- An older generation in flight stays. -/
theorem retire_of_inFlight {k : Nat} (hf : x.inFlight n a k = true) : x.retire n k = x := by
  simp only [PcxStore.retire, hg, if_pos hf]
/-- An older generation that is not in flight goes, and a newer one in the pool starts its way home. -/
theorem retire_of_not_inFlight {k : Nat} (hf : x.inFlight n a k = false) : x.retire n k =
    (x.freed a).put { x.entry n with gens := [b], homing := if b.pool.isSome then some (k + 20000) else none } := by
  simp only [PcxStore.retire, hg, if_neg (ne_true_of_eq_false hf)]
  rfl

end

/-- PCX_HOME_MOVE at a round-start tick (R255). -/
theorem exec_pcxHomeMove {s : State} {n h : Nat} {g : Gen} (hh : (s.pcx.entry n).homing = some h) (hg : (s.pcx.entry n).gens = [g])
    (ht : s.tb.count % 256 = 0) : exec (.pcxHomeMove n) s =
      .next { s with pcx := (s.pcx.freed g).put { s.pcx.entry n with gens := [{ g with pool := none }], homing := none } } := by
  show execPcxHomeMove n s = _
  simp only [execPcxHomeMove, hh, hg, now, ht]
  rfl

/-! ## The directory switch (R254, R255) -/

/-- The store after a copy: the directory holds the new generation of PCX n last (R254). -/
def PcxStore.switched (x : PcxStore) (n : Nat) (c : List W32) (pl : Option Nat) : PcxStore :=
  ({ x with copy := none, done := true } : PcxStore).put { x.entry n with gens := (x.entry n).gens ++ [{ words := c, pool := pl }] }

theorem gens_entry_switched {x : PcxStore} (hd : x.dead = false) (n : Nat) (c : List W32) (pl : Option Nat) :
    ((x.switched n c pl).entry n).gens = (x.entry n).gens ++ [{ words := c, pool := pl }] := by
  rw [PcxStore.switched, entry_put]
  · exact hd
  · exact entry_no x n
  · simp
/-- PCX_DIR_SWITCH at a round-start tick: an older generation not in flight retires with it (R255). -/
theorem exec_pcxDirSwitch {s : State} {n k : Nat} {c : List W32} {pl : Option Nat} (hc : s.pcx.copy = some (n, c, pl, k))
    (ht : s.tb.count % 256 = 0) : exec .pcxDirSwitch s = .next { s with pcx := (s.pcx.switched n c pl).retire n s.tb.count } := by
  show execPcxDirSwitch s = _
  simp only [execPcxDirSwitch, hc, now, ht]
  rfl

/-! ## The PCX registers (R253, R254, R256) -/

/-- A record of another length fails before any other check (R253). -/
theorem ctxCheck_of_length_ne (s : State) {c : List W32} (h : c.length ≠ 144) (p : Nat) : ctxCheck s c p = 4 := if_pos h
/-- The staging pointer stops at 144 words (R253). -/
theorem exec_pcxStageWrite_full {s : State} (h : 144 ≤ s.pcx.staged.length) (w : W32) : exec (.pcxStageWrite w) s = .next s :=
  if_neg (by simp [h])

section
variable {s : State} (hc : s.su.cond = .run ∨ s.su.cond = .safe) (hr : s.su.readyEver = true)
include hc hr

theorem pcxOpen_of : pcxOpen s = true := by simp [pcxOpen, (alive_iff s).2 hc, sinceReady, hr]
theorem exec_pcxStageWrite (h : s.pcx.staged.length < 144) (w : W32) :
    exec (.pcxStageWrite w) s = .next { s with pcx := { s.pcx with staged := w :: s.pcx.staged } } :=
  if_pos (by simp [pcxOpen_of hc hr, h])

variable (hn : s.pcx.copy = none)
include hn

theorem exec_pcxStagingReset : exec .pcxStagingReset s = .next { s with pcx := { s.pcx with staged := [], done := true } } :=
  if_pos (by simp [pcxOpen_of hc hr, hn])

variable {p : Nat} (hp : p < 4096)
include hp

/-- A commit whose check fails shows its code (R253). -/
theorem exec_pcxCommit_fails (h : ctxCheck s s.pcx.staged.reverse p ≠ 0) : exec (.pcxCommit p) s =
    .next { s with pcx := { s.pcx with fail := ctxCheck s s.pcx.staged.reverse p, done := true } } := by
  show execPcxCommit p s = _
  rw [execPcxCommit, if_neg (by simp [pcxOpen_of hc hr, hn]), Nat.mod_eq_of_lt hp]
  exact if_pos h
/-- A commit whose check passes starts the copy: to the home slot, or, where the PCX has a generation, to a pool entry (R254). -/
theorem exec_pcxCommit_passes (h : ctxCheck s s.pcx.staged.reverse p = 0) : ∃ pool, exec (.pcxCommit p) s =
    .next { s with pcx := { s.pcx with
      fail := 0, done := false, pool
      copy := some (p, s.pcx.staged.reverse, if (s.pcx.entry p).gens = [] then none else some (freePool s.pcx.pool), s.tb.count) } } := by
  show ∃ pool, execPcxCommit p s = _
  rw [execPcxCommit, if_neg (by simp [pcxOpen_of hc hr, hn]), Nat.mod_eq_of_lt hp]
  simp only [h, List.isEmpty_iff]
  exact ⟨_, rfl⟩
/-- A PCX with a generation in flight is not dropped (R256). -/
theorem exec_pcxDrop_inFlight (h : ((s.pcx.entry p).gens.any fun g => s.pcx.inFlight p g s.tb.count) = true) :
    exec (.pcxDrop p) s = .next { s with pcx := { s.pcx with fail := 8, done := true } } := by
  show execPcxDrop p s = _
  rw [execPcxDrop, if_neg (by simp [pcxOpen_of hc hr, hn]), Nat.mod_eq_of_lt hp]
  exact if_pos h
/-- With none in flight every generation goes, and its pool entry is free (R256). -/
theorem exec_pcxDrop_empties (h : ((s.pcx.entry p).gens.any fun g => s.pcx.inFlight p g s.tb.count) = false) : ∃ pool,
    exec (.pcxDrop p) s = .next { s with pcx := { s.pcx with fail := 0, done := true, pool }.put { no := p } } := by
  show ∃ pool, execPcxDrop p s = _
  rw [execPcxDrop, if_neg (by simp [pcxOpen_of hc hr, hn]), Nat.mod_eq_of_lt hp]
  exact ⟨_, if_neg (ne_true_of_eq_false h)⟩

end

/-- Settles O39: each command by its equation where it acts, and the directory by the entry that was put. -/
theorem contextStoreCommands : Obligations.ContextStoreCommands := by
  unfold Obligations.ContextStoreCommands
  refine ⟨fun s hc hr hn => exec_pcxStagingReset hc hr hn, fun w s hc hr hl => exec_pcxStageWrite hc hr hl w,
    fun w s hl => exec_pcxStageWrite_full hl w, fun p s hc hr hn hp hbad => exec_pcxCommit_fails hc hr hn hp hbad,
    fun p s hc hr hn hp hok => ?commit, fun s c p hl => ctxCheck_of_length_ne s hl p, fun n k c pl s hcopy ht hd hg => ?first,
    fun n k a c pl s hcopy ht hd hg hf => ?second, fun n g h s hd hh hg hno ht => ?home, fun n a b s hd hg hno hf => ?retire,
    fun p s hc hr hn hp hf => exec_pcxDrop_inFlight hc hr hn hp hf, fun p s hc hr hn hp hf => ?drop⟩
  case commit =>
    obtain ⟨pool, hexec⟩ := exec_pcxCommit_passes hc hr hn hp hok
    exact ⟨_, hexec, rfl, rfl, rfl, rfl, rfl, rfl⟩
  case first =>
    have hgens := gens_entry_switched hd n c pl
    rw [hg] at hgens
    have hexec := exec_pcxDirSwitch hcopy ht
    rw [retire_of_lone hgens] at hexec
    exact ⟨_, hexec, rfl, rfl, hgens, rfl, rfl⟩
  case second =>
    have hgens := gens_entry_switched hd n c pl
    rw [hg] at hgens
    have hexec := exec_pcxDirSwitch hcopy ht
    rw [retire_of_inFlight hgens hf] at hexec
    exact ⟨_, hexec, rfl, rfl, hgens, rfl, rfl⟩
  case home =>
    have hentry := entry_put (x := s.pcx.freed g) (e := { s.pcx.entry n with gens := [{ g with pool := none }], homing := none }) hd hno
      (List.cons_ne_nil _ _)
    exact ⟨_, exec_pcxHomeMove hh hg ht, congrArg Pcx.gens hentry, congrArg Pcx.homing hentry, rfl, rfl⟩
  case retire =>
    have hentry := entry_put (x := s.pcx.freed a)
      (e := { s.pcx.entry n with gens := [b], homing := if b.pool.isSome then some (s.tb.count + 20000) else none }) hd hno
      (List.cons_ne_nil _ _)
    have hexec : exec (.genRetire n) s = .next { s with pcx := s.pcx.retire n s.tb.count } := rfl
    rw [retire_of_not_inFlight hg hf] at hexec
    exact ⟨_, hexec, congrArg Pcx.gens hentry, congrArg Pcx.homing hentry, rfl, rfl⟩
  case drop =>
    obtain ⟨pool, hexec⟩ := exec_pcxDrop_empties hc hr hn hp hf
    exact ⟨_, hexec, gens_entry_put_empty _ p, rfl, rfl, rfl, rfl⟩

end Sys2Proof.Machine
end

section
/-!
Requests to the telemetry converter: self-calibration, urgent conversions and captures, their admission and refusal, and the loss of the
converter (13 R358 to R362, R371). The statement O46.
-/
namespace Sys2Proof.Machine

/-- The next multiple of p stands on the grid, not before x and less than p after it. -/
theorem ceilTo_spec {p : Nat} (hp : 0 < p) (x : Nat) : ceilTo p x % p = 0 ∧ x ≤ ceilTo p x ∧ ceilTo p x < x + p := by
  have hdiv := Nat.div_add_mod' (x + p - 1) p
  have hmod := Nat.mod_lt (x + p - 1) hp
  rw [ceilTo, if_neg (by omega)]
  exact ⟨Nat.mul_mod_left _ _, by omega, by omega⟩

/-- A refused request sets REFUSED_SEEN, is a NOTE 0x49, and changes nothing else (R358, R359, R362). -/
theorem tcvRefuse_spec (s : State) (unit : Nat) :
    (tcvRefuse s unit).tcv = { s.tcv with status := s.tcv.status ||| BitVec.ofNat 9 (2 ^ 7) } ∧
      Reported (tcvRefuse s unit) 0x49 unit .note s.tb.count ∧ { tcvRefuse s unit with tcv := s.tcv, snag := s.snag } = s :=
  ⟨rfl, note_mem_inbox _ 0x49 unit none, rfl⟩

/-! ## The requests (R358, R360, R362) -/

section
variable {s : State} (hc : s.su.cond = .run ∨ s.su.cond = .safe) (hr : s.su.readyEver = true)
include hc hr

/-- Since READY, requests of the converter are looked at. -/
theorem asksConverter : (!alive s || !sinceReady s) = false := by
  rw [(alive_iff s).2 hc, sinceReady, hr]; rfl

theorem exec_tcvSelfCal : exec .tcvSelfCal s = .next
    (if s.tcv.calAt ≠ none ∨ tcvBusy s = true ∨ ¬ (s.zones.all fun zn => !zCounts zn.st) then tcvRefuse s 0 else beginCal s) := by
  show execTcvSelfCal s = _
  rw [execTcvSelfCal, if_neg (by simp [asksConverter hc hr]), apply_ite Host.Outcome.next]
  exact if_congr (by simp [Option.isSome_iff_ne_none, or_assoc]) rfl rfl

/-- What a taken urgent request leaves of the converter: it rides on the running conversion of its channel and method, or waits (R358). -/
def urgentTaken (s : State) (c : Nat) : Tcv :=
  let t := { s.tcv with uValid := false, uRefused := false, uCh := c }
  if c = 1 then { t with rideA := true }
  else if s.tcv.calAt = none ∧ s.tcv.b.ch = c ∧ s.tcv.b.method = methodOf s c then { t with rideB := true }
  else { t with waiting := some (some c) }
theorem exec_tcvUrgent_taken (hbusy : tcvBusy s = false) {c : Nat} (h : c < 23) :
    exec (.tcvUrgent c) s = .next { s with tcv := urgentTaken s c } := by
  have hmod : c % 32 = c := Nat.mod_eq_of_lt (by omega)
  show execTcvUrgent c s = _
  rw [execTcvUrgent, if_neg (by simp [asksConverter hc hr])]
  simp only [hmod, urgentTaken]
  rw [if_neg (by simp [hbusy, h])]
  by_cases h1 : c = 1
  · simp [h1]
  · by_cases hride : s.tcv.calAt = none ∧ s.tcv.b.ch = c ∧ s.tcv.b.method = methodOf s c
    · simp [h1, hride]
    · rw [if_neg h1, if_neg h1, if_neg hride, if_neg (by simpa [and_assoc] using hride)]
theorem exec_tcvUrgent_refused {c : Nat} (hlt : c < 32) (h : tcvBusy s = true ∨ 23 ≤ c) : exec (.tcvUrgent c) s =
    .next (tcvRefuse { s with tcv := { s.tcv with uValid := false, uRefused := true } } c) := by
  show execTcvUrgent c s = _
  rw [execTcvUrgent, if_neg (by simp [asksConverter hc hr])]
  simp only [Nat.mod_eq_of_lt hlt]
  exact if_pos (by simpa [or_comm] using h)

theorem exec_tcvCapture : exec .tcvCapture s = .next
    (if tcvBusy s = true then tcvRefuse s 1 else { s with tcv := { s.tcv with waiting := some none } }) := by
  show execTcvCapture s = _
  rw [execTcvCapture, if_neg (by simp [asksConverter hc hr]), apply_ite Host.Outcome.next]
end

/-! ## Admission (R359, R360) -/

section
variable {s : State}

/-- No request is admitted less than 20 ms after the one before (R359). -/
theorem exec_tcvAdmission_early {a : Nat} (ha : s.tcv.admitAt = some a) (h : s.tb.count < a + 20000000) :
    exec .tcvAdmission s = .next s := by
  have h : now s < a + 20000000 := h
  show execTcvAdmission s = _
  simp only [execTcvAdmission, ha]
  exact if_pos (by simp [h])

variable (hrun : s.tcv.run = true) (hfree : s.tcv.running = false) (hcal : s.tcv.calAt = none)
  (hlast : ∀ a ∈ s.tcv.admitAt, a + 20000000 ≤ s.tb.count)
include hrun hfree hcal hlast

/-- An urgent conversion admitted takes B from the running conversion at the next grid instant (R358, R359). -/
theorem exec_tcvAdmission_urgent {c : Nat} (hw : s.tcv.waiting = some (some c)) (hdue : s.tcv.b.due ≠ ceilTo 400000 s.tb.count) :
    exec .tcvAdmission s = .next { s with tcv := { s.tcv with
      running := true, admitAt := some s.tb.count, waiting := none, aborted := some s.tcv.b
      b := urgentConv s c (ceilTo 400000 s.tb.count) } } := by
  show execTcvAdmission s = _
  unfold execTcvAdmission
  dsimp only
  rw [if_neg (by cases h : s.tcv.admitAt <;> simp_all [count_eq_now]), hw]
  exact if_neg hdue
/-- A capture is admitted at a result of B, which moves to AIN1 (R360). -/
theorem exec_tcvAdmission_capture (hw : s.tcv.waiting = some none) (hb : s.tcv.bAt = some s.tb.count) (hdue : s.tcv.b.due ≠ s.tb.count) :
    exec .tcvAdmission s = .next { s with tcv := { s.tcv with
      running := false, admitAt := some s.tb.count, waiting := none, aborted := some s.tcv.b, capture := some (s.tb.count, 0)
      b := captureConv s s.tb.count } } := by
  show execTcvAdmission s = _
  unfold execTcvAdmission
  dsimp only
  rw [if_neg (by cases h : s.tcv.admitAt <;> simp_all [count_eq_now]), hw]
  exact (if_neg hdue).trans (if_pos hb)
end

/-! ## The loss of the converter (R371) -/

theorem lateBy_iff (s : State) (a : Option Nat) (n : Nat) : lateBy s a n = true ↔ ∃ x ∈ a, x + n ≤ s.tb.count := by
  cases a <;> simp [lateBy, count_eq_now]
/-- A converter taken as lost shows LOST and asserts 0x48 (R371). -/
theorem tcvLost_eq_assertCond (s : State) : ∃ v : Tcv, v.lost = true ∧ tcvLost s = assertCond { s with tcv := v } 0x48 0 .degrade := by
  refine ⟨if s.tcv.lost then s.tcv else { s.tcv with lost := true }.seen 5, ?_, rfl⟩
  split
  · assumption
  · rfl
/-- The loss moves the converter and the Snag unit alone, which reports a condition that is new (R371). -/
theorem tcvLost_spec (s : State) : (tcvLost s).tcv.lost = true ∧ (0x48, 0) ∈ (tcvLost s).snag.conds ∧
    ((0x48, 0) ∉ s.snag.conds → Reported (tcvLost s) 0x48 0 .degrade s.tb.count) ∧ { tcvLost s with tcv := s.tcv, snag := s.snag } = s := by
  obtain ⟨v, hlost, heq⟩ := tcvLost_eq_assertCond s
  have hframe := assertCond_frame { s with tcv := v } 0x48 0 .degrade false none
  rw [heq]
  refine ⟨(congrArg (·.tcv.lost) hframe).trans hlost, assertCond_conds _ _ _ _ _ _, fun h => ?_,
    congrArg (fun x : State => { x with tcv := s.tcv }) hframe⟩
  exact assertCond_mem_inbox (s := { s with tcv := v }) h .degrade false none
theorem exec_tcvStopped {s : State} (hc : s.su.cond = .run) (hrun : s.tcv.run = true) (hcal : calRuns s = false)
    (h : (∃ a ∈ s.tcv.aAt, a + 2000000 ≤ s.tb.count) ∨ ∃ b ∈ s.tcv.bAt, b + 6000000 ≤ s.tb.count) :
    exec .tcvStopped s = .next (tcvLost { s with tcv := { s.tcv with pmGap := true } }) :=
  if_pos (by simpa [running, hc, hrun, hcal, lateBy_iff] using h)

/-- Settles O46: each request by the equation of its command, a refusal by the one rule of refusals. -/
theorem converterRequestsAndItsLoss : Obligations.ConverterRequestsAndItsLoss := by
  unfold Obligations.ConverterRequestsAndItsLoss
  refine ⟨fun s hc hr hcal hbusy hz => ?selfCal, fun s hc hr h => ?selfCalRefused, fun s hc hr hbusy => ?rideA,
    fun c s hc hr hbusy hlt h1 hcal hch hm => ?rideB, fun c s hc hr hbusy hlt h1 hch => ?waits, fun c s hc hr hlt h => ?urgentRefused,
    fun s hc hr hbusy => ?captureRefused, fun s hc hr hbusy => ?capture, fun c s hrun hfree hcal hlast hw hdue => ?admitUrgent,
    fun s hrun hfree hcal hlast hw hb hdue => ?admitCapture, fun a s ha h => exec_tcvAdmission_early ha h,
    fun s hc hrun hcal h => ?stopped⟩
  case selfCal =>
    refine ⟨_, exec_tcvSelfCal hc hr, ?_⟩
    rw [if_neg (by simpa [hcal, hbusy] using hz)]
    exact ⟨rfl, rfl, ceilTo_spec (by decide) _⟩
  case selfCalRefused =>
    refine ⟨_, exec_tcvSelfCal hc hr, ?_⟩
    rw [if_pos h]
    exact tcvRefuse_spec s 0
  case rideA => exact ⟨_, exec_tcvUrgent_taken hc hr hbusy (by decide), rfl, rfl⟩
  case rideB => exact ⟨_, exec_tcvUrgent_taken hc hr hbusy hlt, (if_neg h1).trans (if_pos ⟨hcal, hch, hm⟩), rfl⟩
  case waits => exact ⟨_, exec_tcvUrgent_taken hc hr hbusy hlt, (if_neg h1).trans (if_neg fun h => hch h.2.1), rfl⟩
  case urgentRefused =>
    obtain ⟨-, hnote, -⟩ := tcvRefuse_spec { s with tcv := { s.tcv with uValid := false, uRefused := true } } c
    exact ⟨_, exec_tcvUrgent_refused hc hr hlt h, rfl, hnote, rfl⟩
  case captureRefused =>
    refine ⟨_, exec_tcvCapture hc hr, ?_⟩
    rw [if_pos hbusy]
    exact tcvRefuse_spec s 1
  case capture => rw [exec_tcvCapture hc hr, if_neg (by simp [hbusy])]
  case admitUrgent =>
    exact ⟨_, exec_tcvAdmission_urgent hrun hfree hcal hlast hw hdue, rfl, rfl, rfl, rfl, rfl, rfl, rfl, rfl, rfl⟩
  case admitCapture =>
    exact ⟨_, exec_tcvAdmission_capture hrun hfree hcal hlast hw hb hdue, rfl, rfl, rfl, rfl, rfl, rfl, rfl⟩
  case stopped =>
    obtain ⟨hlost, hcond, hrep, hframe⟩ := tcvLost_spec { s with tcv := { s.tcv with pmGap := true } }
    refine ⟨_, exec_tcvStopped hc hrun hcal h, hlost, hcond, hrep, (congrArg State.caps hframe :), ?_⟩
    exact congrArg (fun x : State => { x with tcv := s.tcv }) hframe

end Sys2Proof.Machine
end

section
/-!
PMBus reads: what the target answers, the LINEAR11 word, and the bits of STATUS_WORD (17 R439 to R444). The statement O55.
-/
namespace Sys2Proof.Machine

/-- A read where the target answers its address puts its bytes, and touches nothing else (R440, R441). -/
theorem pmbRead_served {s : State} (h : pmbUp s = true) (bytes : List Byte) :
    pmbRead s bytes = .next { s with pmb := { s.pmb with resp := bytes, acked := true } } := if_pos h
theorem pmbRead_not_served {s : State} (h : pmbUp s = false) (bytes : List Byte) :
    pmbRead s bytes = .next { s with pmb := { s.pmb with acked := false } } := if_neg (by simp [h])

/-! ## The readings that depend on PAGE (R442) -/

section
variable {s : State}

theorem readVoutMant_block (h : s.pmb.page = 0xFF) : readVoutMant s = nearest (4096 * (fld (regValue s 0x6030) 0 13 : Nat)) 4000 := if_pos h
theorem readVoutMant_zone (h : s.pmb.page ≠ 0xFF) : readVoutMant s =
    nearest (4096 * ((fld (zoneReg s s.pmb.page 0x010) 16 13 : Nat) - signed 13 (fld (zoneReg s s.pmb.page 0x01C) 0 13))) 4000 := if_neg h
theorem readIoutWord_block (h : s.pmb.page = 0xFF) : readIoutWord s = linear11 1 (nearest (fld (regValue s 0x8024) 0 12 : Nat) 2) := if_pos h
theorem readIoutWord_zone (h : s.pmb.page ≠ 0xFF) :
    readIoutWord s = linear11 (-1) (nearest (2 * signed 16 (fld (zoneReg s s.pmb.page 0x01C) 16 16)) 10) := if_neg h
/-- The temperature that READ_TEMPERATURE_1 shows, 0.125 °C. -/
def readTemp1 (s : State) : Int := if s.pmb.page = 0xFF then highest ((List.range s.su.zones).map (tzReg s)) else tzReg s s.pmb.page
theorem exec_readTemperature1 (s : State) :
    exec .readTemperature1 s = pmbRead s (leBytes 2 (linear11 (-2) (nearest (4 * readTemp1 s) 8))) := rfl
theorem readTemp1_block (h : s.pmb.page = 0xFF) : readTemp1 s = highest ((List.range s.su.zones).map (tzReg s)) := if_pos h
theorem readTemp1_zone (h : s.pmb.page ≠ 0xFF) : readTemp1 s = tzReg s s.pmb.page := if_neg h
end

/-! ## Number forms (R441) -/

/-- The quotient of `nearest` lies within half a step of n ÷ d, a tie going upward. -/
theorem nearest_spec (n : Int) {d : Nat} (hd : 0 < d) : 2 * d * nearest n d - d ≤ 2 * n ∧ 2 * n < 2 * d * nearest n d + d := by
  have hpos : (0 : Int) < 2 * d := by omega
  have hdiv := Int.mul_ediv_add_emod (2 * n + d) (2 * d)
  have hnonneg := Int.emod_nonneg (2 * n + d) hpos.ne'
  have hlt := Int.emod_lt_of_pos (2 * n + d) hpos
  rw [nearest]
  constructor <;> omega
theorem clampI_eq_max_min {lo hi : Int} (h : lo ≤ hi) (x : Int) : clampI lo hi x = max lo (min hi x) := by
  unfold clampI; split
  · omega
  · split <;> omega
theorem twos_lt (w : Nat) (x : Int) : twos w x < 2 ^ w := by
  have hpos : (0 : Int) < (2 ^ w : Nat) := by exact_mod_cast Nat.two_pow_pos w
  have hlt := Int.emod_lt_of_pos x hpos
  have hnonneg := Int.emod_nonneg x hpos.ne'
  rw [twos]; omega
/-- Two's complement of 5 bits gives an exponent back. -/
theorem signed_twos_five {e : Int} (hlo : -16 ≤ e) (hhi : e ≤ 15) : signed 5 (twos 5 e) = e := by
  unfold signed twos
  dsimp only
  split <;> omega
theorem linear11_fields (e m : Int) : linear11 e m % 2048 = twos 11 (max (-1024) (min 1023 m)) ∧ linear11 e m / 2048 = twos 5 e := by
  have hlt := twos_lt 11 (max (-1024) (min 1023 m))
  rw [linear11, clampI_eq_max_min (by decide)]
  omega

/-! ## STATUS_WORD (table "Status bits") -/

/-- The six live conditions of STATUS_BYTE at their bits, and no other. -/
theorem testBit_statusLow_fields : ∀ r v c t m i : Bool,
    let x := fields [(b2n r, 6, 1), (b2n v, 5, 1), (b2n c, 4, 1), (b2n t, 2, 1), (b2n m, 1, 1), (b2n i, 0, 1)]
    x.testBit 6 = r ∧ x.testBit 5 = v ∧ x.testBit 4 = c ∧ x.testBit 2 = t ∧ x.testBit 1 = m ∧ x.testBit 0 = i ∧ x.testBit 3 = false ∧
      x.testBit 7 = false ∧ x < 256 := by decide
/-- The latches of the upper byte at their bits, and no other. -/
theorem testBit_statusHigh_fields : ∀ v c i a p : Bool,
    let y := fields [(b2n v, 15, 1), (b2n c, 14, 1), (b2n i, 13, 1), (b2n a, 12, 1), (b2n p, 11, 1)]
    y.testBit 15 = v ∧ y.testBit 14 = c ∧ y.testBit 13 = i ∧ y.testBit 12 = a ∧ y.testBit 11 = p ∧ y.testBit 8 = false ∧
      y.testBit 9 = false ∧ y.testBit 10 = false ∧ y % 256 = 0 := by decide
/-- A number of whole bytes above the lowest adds its bits above those of the lowest byte. -/
theorem testBit_add_of_byte {l h : Nat} (hl : l < 256) (hh : h % 256 = 0) (i : Nat) :
    (l + h).testBit i = if i < 8 then l.testBit i else h.testBit i := by
  obtain ⟨k, rfl⟩ : ∃ k, h = 2 ^ 8 * k := ⟨h / 256, by omega⟩
  rw [Nat.add_comm, Nat.testBit_two_pow_mul_add k hl]
  split
  · rfl
  · rename_i hi
    rw [Nat.testBit_two_pow_mul, decide_eq_true (Nat.le_of_not_lt hi), Bool.true_and]
theorem add_mod_of_byte {l h : Nat} (hl : l < 256) (hh : h % 256 = 0) : (l + h) % 256 = l := by omega
theorem decide_toNat_ne_zero {n : Nat} (x : BitVec n) : decide (x.toNat ≠ 0) = decide (x ≠ 0) :=
  decide_eq_decide.2 (not_congr (by simp [BitVec.toNat_eq]))

/-- Settles O55: every read by the one rule of reads, the readings of a page by its two cases, and STATUS_WORD by its two bytes. -/
theorem pmbusReadsAnswerTheirBytes : Obligations.PmbusReadsAnswerTheirBytes := by
  unfold Obligations.PmbusReadsAnswerTheirBytes
  refine ⟨fun s h => ?fixed, fun s h => ?status, fun s h => ?inputs, fun s h hp => ?block, fun z s h hp hz => ?zone, fun s h => ?registers,
    fun s h hr => ?energy, fun n d hd => nearest_spec n hd, fun e m hlo hhi => ?linear, fun s => ?word, fun s h c hc => ?silent⟩
  case fixed => refine ⟨?_, ?_, ?_, ?_, ?_, ?_⟩ <;> exact pmbRead_served h _
  case status => refine ⟨?_, ?_, ?_, ?_, ?_, ?_, ?_, ?_⟩ <;> exact pmbRead_served h _
  case inputs => refine ⟨?_, ?_, ?_⟩ <;> exact pmbRead_served h _
  case block =>
    refine ⟨?vout, ?iout, ?temperature1, pmbRead_served h _⟩
    case vout => rw [← readVoutMant_block hp]; exact pmbRead_served h _
    case iout => rw [← readIoutWord_block hp]; exact pmbRead_served h _
    case temperature1 => rw [exec_readTemperature1, readTemp1_block hp]; exact pmbRead_served h _
  case zone =>
    subst hp
    refine ⟨?vout, ?iout, ?temperature1⟩
    case vout => rw [← readVoutMant_zone hz]; exact pmbRead_served h _
    case iout => rw [← readIoutWord_zone hz]; exact pmbRead_served h _
    case temperature1 => rw [exec_readTemperature1, readTemp1_zone hz]; exact pmbRead_served h _
  case registers => refine ⟨?_, ?_, ?_, ?_, ?_, ?_⟩ <;> exact pmbRead_served h _
  case energy =>
    show execMfrReadEnergy s = _
    rw [execMfrReadEnergy, pmbRead_served h, if_pos (show sinceReady s = true from hr)]
    rfl
  case linear =>
    obtain ⟨hmant, hexp⟩ := linear11_fields e m
    have hlt := twos_lt 5 e
    refine ⟨by exact_mod_cast hmant, ?_, by omega⟩
    rw [hexp, signed_twos_five hlo hhi]
  case word =>
    obtain ⟨h6, h5, h4, h2, h1, h0, h3, h7, hlow⟩ := testBit_statusLow_fields (!ready s) s.pmb.ov s.pmb.oc (statusTemp s ≠ 0)
      (s.pmb.cml ≠ 0) (s.pmb.inp || statusMfr s ≠ 0)
    obtain ⟨h15, h14, h13, h12, h11, h8, h9, h10, hhigh⟩ := testBit_statusHigh_fields s.pmb.ov s.pmb.oc s.pmb.inp (statusMfr s ≠ 0)
      (!s.pins.pgOut)
    have hbit (i : Nat) := testBit_add_of_byte hlow hhigh i
    have halert : decide (statusMfr s ≠ 0) = decide (s.snag.alert ≠ 0) := decide_toNat_ne_zero _
    refine ⟨(hbit 6).trans h6, (hbit 5).trans h5, (hbit 4).trans h4, (hbit 2).trans h2, (hbit 1).trans h1,
      ((hbit 0).trans h0).trans (by rw [halert]), (hbit 15).trans h15, (hbit 14).trans h14, (hbit 13).trans h13,
      ((hbit 12).trans h12).trans halert, (hbit 11).trans h11, add_mod_of_byte hlow hhigh, fun i hi => ?_⟩
    simp only [List.mem_cons, List.not_mem_nil, or_false] at hi
    obtain rfl | rfl | rfl | rfl | rfl := hi
    exacts [(hbit 3).trans h3, (hbit 7).trans h7, (hbit 8).trans h8, (hbit 9).trans h9, (hbit 10).trans h10]
  case silent =>
    simp only [List.mem_cons, List.not_mem_nil, or_false] at hc
    obtain rfl | rfl | rfl | rfl | rfl | rfl := hc <;> exact pmbRead_not_served h _

end Sys2Proof.Machine
end

section
/-!
Results of the telemetry converter: correction, where a result of either modulator goes, the cross-check, the queue and the window comparator
(13 R352 to R369). The statement O45.
-/
namespace Sys2Proof.Machine

/-! ## Correction (R361) -/

theorem sat24_bounds (x : Int) : -8388608 ≤ sat24 x ∧ sat24 x ≤ 8388607 := by
  rw [sat24, clampI_eq_max_min (by decide)]
  omega
theorem sat24_of_mem {x : Int} (hlo : -8388608 ≤ x) (hhi : x ≤ 8388607) : sat24 x = x := by
  rw [sat24, clampI_eq_max_min (by decide)]
  omega
/-- Offset 0 and gain 1 leave a result as it is. -/
theorem rnd_unit_gain (x : Int) : rnd ((x - 0) * (0x400000 : Nat)) 22 = x := by
  rw [rnd]; omega

/-! ## The queue (R366) -/

theorem tcvPush_room {s : State} (h : s.tcv.queue.length < 64) (e : TcvQ) :
    tcvPush s e = { s with tcv := { s.tcv with queue := s.tcv.queue ++ [e] } } := if_pos h
theorem tcvPush_full {s : State} (h : 64 ≤ s.tcv.queue.length) (e : TcvQ) :
    tcvPush s e = note { s with tcv := { s.tcv with ovf := satInc 0xFFFF s.tcv.ovf }.seen 8 } 0x49 e.ch := if_neg (Nat.not_lt.2 h)
/-- What joins or misses the queue moves its registers alone, and loses no report (R366, R403). -/
theorem tcvQueue_eq (s : State) (e : TcvQ) : ∃ n q o st, tcvQueue s e =
    { s with snag := n, tcv := { s.tcv with queue := q, ovf := o, status := st } } ∧ ∀ x ∈ s.snag.inbox, x ∈ n.inbox := by
  unfold tcvQueue
  split
  · rcases Nat.lt_or_ge s.tcv.queue.length 64 with h | h
    · exact ⟨_, _, _, _, tcvPush_room h e, fun _ hx => hx⟩
    · exact ⟨_, _, _, _, tcvPush_full h e, fun _ hx => mem_insRep_of_mem _ _ _ hx⟩
  · exact ⟨_, _, _, _, rfl, fun _ hx => hx⟩

section
variable {s : State} (hc : s.su.cond = .run ∨ s.su.cond = .safe) (hr : s.su.readyEver = true)
include hc hr

theorem exec_tcvQLoRead_head {e : TcvQ} {rest : List TcvQ} (hq : s.tcv.queue = e :: rest) : exec .tcvQLoRead s =
    .next (rpData { s with tcv := { s.tcv with queue := rest, qHi := word [(e.stamp / 1024, 0, 31), (b2n e.xchk, 31, 1)] } }
      (word [(twos 24 e.r, 0, 24), (e.ch, 24, 5), (b2n e.modB, 29, 1), (b2n e.spec, 30, 1), (1, 31, 1)])) := by
  show execTcvQLoRead s = _
  rw [execTcvQLoRead, if_neg (by simp [(alive_iff s).2 hc]), if_neg (by simp [sinceReady, hr])]
  simp only [hq]
theorem exec_tcvQLoRead_empty (hq : s.tcv.queue = []) : exec .tcvQLoRead s = .next (rpData s 0) := by
  show execTcvQLoRead s = _
  rw [execTcvQLoRead, if_neg (by simp [(alive_iff s).2 hc]), if_neg (by simp [sinceReady, hr])]
  simp only [hq]
end

/-! ## The window comparator (R367) -/

/-- An element's part that a change of one element keeps is kept at every index. -/
theorem getD_modify_keeps {α β : Type} {f : α → α} {g : α → β} (h : ∀ x, g (f x) = g x) (l : List α) (i j : Nat) (d : α) :
    g ((l.modify i f).getD j d) = g (l.getD j d) := by
  rw [List.getD_eq_getElem?_getD, List.getD_eq_getElem?_getD, List.getElem?_modify]
  cases l[j]? with
  | none => rfl
  | some x => by_cases hij : i = j <;> simp [hij, h]
/-- A result's register less the comparator's mark. -/
def TcvRes.reading (x : TcvRes) : TcvRes := { x with outside := false }
theorem reading_modify_outside (l : List TcvRes) (ch : Nat) (o : Bool) (j : Nat) :
    ((l.modify ch fun x => { x with outside := o }).getD j {}).reading = (l.getD j {}).reading :=
  getD_modify_keeps (f := fun x => { x with outside := o }) (g := TcvRes.reading) (fun _ => rfl) l ch j {}
/-- The comparator moves WSTAT, the `outside` marks and the Snag unit alone. -/
theorem compareWin_eq (s : State) (ch : Nat) (r : Int) : ∃ n w l, compareWin s ch r =
    { s with snag := n, tcv := { s.tcv with wstat := w, res := l } } ∧
      ∀ j, (l.getD j {}).reading = (s.tcv.res.getD j {}).reading := by
  unfold compareWin
  dsimp only
  split
  · exact ⟨_, _, _, rfl, fun _ => rfl⟩
  · split <;> exact ⟨_, _, _, rfl, reading_modify_outside _ _ _⟩
/-- A result outside its window marks its channel; a channel that leaves its window shows in WSTAT and is a NOTE 0x4A. -/
theorem compareWin_outside {s : State} {ch : Nat} {r : Int} (hr : s.su.readyEver = true)
    (hwin : (s.tcv.winLo.getD ch 0).toInt ≤ (s.tcv.winHi.getD ch 0).toInt)
    (hout : r / 256 < (s.tcv.winLo.getD ch 0).toInt ∨ (s.tcv.winHi.getD ch 0).toInt < r / 256) :
    ∃ l, l = s.tcv.res.modify ch (fun x => { x with outside := true }) ∧ compareWin s ch r =
      if (s.tcv.res.getD ch {}).outside then { s with tcv := { s.tcv with res := l } }
      else note { s with tcv := { s.tcv with res := l, wstat := s.tcv.wstat ||| w32 (2 ^ ch) } } 0x4A ch := by
  refine ⟨_, rfl, ?_⟩
  have hout' : (decide (r / 256 < (s.tcv.winLo.getD ch 0).toInt) || decide ((s.tcv.winHi.getD ch 0).toInt < r / 256)) = true := by
    simpa using hout
  unfold compareWin
  dsimp only
  rw [if_neg (by simpa [sinceReady, hr] using hwin), hout']
  cases (s.tcv.res.getD ch {}).outside <;> rfl

/-! ## Open wires (R363, R364) -/

theorem getLsbD_ofNat_two_pow {n b : Nat} (h : b < n) : (BitVec.ofNat n (2 ^ b)).getLsbD b = true := by
  rw [BitVec.getLsbD_ofNat, Nat.testBit_two_pow_self, decide_eq_true h]; rfl
/-- OWSTAT with the bit of one channel set to its OPEN state. -/
def owstatWith (w : BitVec 16) (ch : Nat) (o : Bool) : BitVec 16 := if o then w ||| BitVec.ofNat 16 (2 ^ ch) else w &&& ~~~BitVec.ofNat 16 (2 ^ ch)
theorem getLsbD_owstatWith (w : BitVec 16) {ch : Nat} (h : ch < 16) (o : Bool) : (owstatWith w ch o).getLsbD ch = o := by
  have hbit := getLsbD_ofNat_two_pow h
  cases o
  · rw [owstatWith, if_neg Bool.false_ne_true, BitVec.getLsbD_and, BitVec.getLsbD_not, hbit, Bool.not_true, Bool.and_false, Bool.and_false]
  · rw [owstatWith, if_pos rfl, BitVec.getLsbD_or, hbit, Bool.or_true]
theorem setOpen_eq (s : State) (ch : Nat) (o : Bool) : ∃ n, setOpen s ch o =
    { s with snag := n, tcv := { s.tcv with owstat := owstatWith s.tcv.owstat ch o } } := by
  unfold setOpen
  dsimp only
  split <;> exact ⟨_, rfl⟩

/-! ## Stage groups (R205, R207) -/

/-- The state less the module stage and the Snag unit. -/
def offStage (s : State) : State := { s with msf := State.reset.msf, snag := State.reset.snag }
theorem eq_of_offStage {s t : State} (h : offStage t = offStage s) : t = { s with msf := t.msf, snag := t.snag } :=
  (congrArg (fun x : State => { x with msf := t.msf, snag := t.snag }) h :)
theorem assertCond_offStage (s : State) (code unit : Nat) (cls : Cls) : offStage (assertCond s code unit cls) = offStage s := by
  obtain ⟨n, hn⟩ := assertCond_eq s code unit cls false none
  rw [hn]; rfl
theorem setCond_offStage (s : State) (b : Bool) (code unit : Nat) (cls : Cls) : offStage (setCond s b code unit cls) = offStage s := by
  obtain ⟨n, hn⟩ := setCond_eq s b code unit cls
  rw [hn]; rfl
theorem excludeChan_offStage (s : State) (k : Nat) : offStage (excludeChan s k) = offStage s := by
  unfold excludeChan
  split
  · rfl
  · dsimp only
    split
    · rw [assertCond_offStage, assertCond_offStage]; rfl
    · rw [assertCond_offStage]; rfl
theorem stageTake_offStage (s : State) (g : Nat) (t : Int) : offStage (stageTake s g t) = offStage s := by
  unfold stageTake
  dsimp only
  split
  · rw [foldl_keeps (g := offStage) fun x j => excludeChan_offStage x _, assertCond_offStage]
    exact setCond_offStage _ _ _ _ _
  · exact setCond_offStage _ _ _ _ _

/-! ## Diodes (R331, R345, R363) -/

/-- A look at a zone's sources moves the thermal part and the Snag unit, and keeps the diodes' readings. -/
theorem thmLookZone_diodes (s : State) (z : Nat) : (thmLookZone s z).thm.diodes = s.thm.diodes := by
  have hcond (x : State) (b : Bool) (code unit : Nat) (cls : Cls) : (setCond x b code unit cls).thm.diodes = x.thm.diodes := by
    obtain ⟨n, hn⟩ := setCond_eq x b code unit cls
    rw [hn]
  have hseen (x : State) (l : List Nat) : (l.foldl (fun s _ => note (thmSeen s 1) 0x41 z) x).thm.diodes = x.thm.diodes :=
    foldl_keeps (g := fun x : State => x.thm.diodes) (f := fun s _ => note (thmSeen s 1) 0x41 z) (fun _ _ => rfl) l x
  unfold thmLookZone
  dsimp only
  split
  · exact keeps_ite (f := fun x : State => x.thm.diodes) rfl
  · rw [hcond, hseen]
    exact keeps_ite (f := fun x : State => x.thm.diodes) rfl
/-- The state less the thermal part, the Snag unit and OWSTAT, beside the diodes' readings. -/
def diodeView (s : State) : State × List Diode :=
  ({ s with thm := State.reset.thm, snag := State.reset.snag, tcv := { s.tcv with owstat := 0 } }, s.thm.diodes)
theorem thmLookZone_diodeView (s : State) (z : Nat) : diodeView (thmLookZone s z) = diodeView s :=
  Prod.ext (congrArg (fun x : State => { x with tcv := { x.tcv with owstat := 0 } }) (thmLookZone_offThermal s z)) (thmLookZone_diodes s z)
theorem raiseCritical_diodeView (s : State) (z source : Nat) (temp : Int) (cause : Nat) :
    diodeView (raiseCritical s z source temp cause) = diodeView s := by
  obtain ⟨n, hn⟩ := assertCond_eq s 0x44 z .halt true (some { source, temp, cause, bandmap := bandMap s })
  rw [raiseCritical, hn]; rfl
theorem setOpen_diodeView (s : State) (ch : Nat) (o : Bool) : diodeView (setOpen s ch o) = diodeView s := by
  obtain ⟨n, hn⟩ := setOpen_eq s ch o
  rw [hn]; rfl
/-- The state with diode k's reading taken from its result (R363). -/
def diodeRead (s : State) (k : Nat) (rd : Int) : State :=
  let x : Diode := { t := diodeTemp rd (s.thm.cfg.diodes.getD k {}).nf, at_ := some s.tb.count, open_ := diodeOpen rd }
  { s with thm := { s.thm with diodes := s.thm.diodes.set k x } }
/-- Besides the reading, a diode's result moves OWSTAT, the thermal part's view of its sources and the Snag unit (R331, R345). -/
theorem diodeResult_diodeView (s : State) (k : Nat) (rd : Int) : diodeView (diodeResult s k rd) = diodeView (diodeRead s k rd) :=
  (keeps_ite ((keeps_ite (raiseCritical_diodeView _ _ _ _ _)).trans (keeps_ite (thmLookZone_diodeView _ _)))).trans
    (setOpen_diodeView _ (8 + k) (diodeOpen rd))

/-! ## Where a result goes (R363 to R367) -/

theorem setRes_getD {s : State} {ch : Nat} (h : ch < s.tcv.res.length) (modB : Bool) (v : Int) :
    ((setRes s ch modB v).tcv.res.getD ch {}).r = v ∧ ((setRes s ch modB v).tcv.res.getD ch {}).modB = modB ∧
      ((setRes s ch modB v).tcv.res.getD ch {}).at_ = s.tb.count := by
  have hget := getD_modify_same h (fun x => { x with
    valid := sinceReady s, modB, open_ := ch < 16 && s.tcv.owstat.getLsbD ch, r := v, at_ := now s }) {}
  exact ⟨congrArg TcvRes.r hget, congrArg TcvRes.modB hget, congrArg TcvRes.at_ hget⟩
/-- An ordinary result moves its channel's register, the comparator, the Snag unit and, on a stage channel, the module stage (R205, R365). -/
theorem useResult_ordinary (s : State) (ch : Nat) (modB : Bool) (r : Int) : ∃ m n w l, useResult s ch 0 modB r =
    { s with msf := m, snag := n, tcv := { s.tcv with wstat := w, res := l } } ∧ (ch < 2 ∨ 8 ≤ ch → m = s.msf) ∧
      (ch < s.tcv.res.length → (l.getD ch {}).r = r ∧ (l.getD ch {}).modB = modB ∧ (l.getD ch {}).at_ = s.tb.count) := by
  have hstage : ∃ m n, (if 2 ≤ ch ∧ ch < 2 + s.msf.cfg.ngroup ∧ ch ≤ 7
      then stageResult (setRes s ch modB r) (ch - 2) r else setRes s ch modB r) = { setRes s ch modB r with msf := m, snag := n } ∧
      (ch < 2 ∨ 8 ≤ ch → m = s.msf) := by
    split
    · exact ⟨_, _, eq_of_offStage (stageTake_offStage _ _ _), fun h => by omega⟩
    · exact ⟨_, _, rfl, fun _ => rfl⟩
  obtain ⟨m, n, hs2, hm⟩ := hstage
  obtain ⟨n', w, l, hwin, hread⟩ := compareWin_eq { setRes s ch modB r with msf := m, snag := n } ch r
  refine ⟨m, n', w, l, ?_, hm, fun h => ?_⟩
  · refine Eq.trans (congrArg (compareWin · ch r) (Eq.trans ?_ hs2)) hwin
    exact if_congr (by simp [and_assoc]) rfl rfl
  · obtain ⟨hr, hmod, hat⟩ := setRes_getD h modB r
    exact ⟨(congrArg TcvRes.r (hread ch)).trans hr, (congrArg TcvRes.modB (hread ch)).trans hmod, (congrArg TcvRes.at_ (hread ch)).trans hat⟩
theorem useResult_diode (s : State) (ch : Nat) (modB : Bool) (r : Int) : ∃ n v, useResult s ch 1 modB r =
    { diodeResult s (ch - 8) (blanked r) with snag := n, tcv := v } := by
  obtain ⟨n, w, l, hwin, -⟩ := compareWin_eq (setRes (diodeResult s (ch - 8) (blanked r)) ch modB (blanked r)) ch r
  exact ⟨n, _, hwin⟩
theorem useResult_openWire (s : State) (ch : Nat) (modB : Bool) (r : Int) : useResult s ch 2 modB r =
    setOpen s ch (decide (1000 * 8388608 * (s.tcv.cfg.owLim : Int) ≤ blanked r * 1250000)) := if_pos rfl

/-! ## The cross-check (R368, R369) -/

theorem agree_comm (xtol p q : Nat) : agree xtol p q = agree xtol q p := by
  rw [agree, agree, Nat.max_comm, Nat.min_comm]
/-- The outcome by the three agreements of R369. -/
theorem slotOut_spec (xtol ia ib ie : Nat) (ref : Bool) :
    (slotOut xtol ia ib ie ref = .all ↔ agree xtol ia ib = true ∧ (agree xtol ia ie = true ∨ agree xtol ib ie = true)) ∧
    (slotOut xtol ia ib ie ref = .aOut ↔ agree xtol ia ib = false ∧ agree xtol ia ie = false ∧ agree xtol ib ie = true) ∧
    (slotOut xtol ia ib ie ref = .noneE ↔
      agree xtol ia ib = false ∧ agree xtol ia ie = false ∧ agree xtol ib ie = false ∧ ref = false) := by
  unfold slotOut
  generalize agree xtol ia ib = ab, agree xtol ia ie = ae, agree xtol ib ie = be
  revert ab ae be ref
  decide
/-- The slot of a cross-check since READY shows both currents and the outcome, counts, and is a NOTE 0x49 unless all agree (R369). -/
theorem crossCheck_spec {s : State} (hr : s.su.readyEver = true) (r : Int) :
    (crossCheck s r).tcv.xIa = iinOf s.tcv.cfg s.tcv.aR ∧ (crossCheck s r).tcv.xIb = iinOf s.tcv.cfg r ∧
    (crossCheck s r).tcv.xOut = slotOut s.tcv.cfg.xtol (iinOf s.tcv.cfg s.tcv.aR) (iinOf s.tcv.cfg r) (ieOf s) (refOk s) ∧
    (crossCheck s r).tcv.xchks = satInc 0xFFFF s.tcv.xchks ∧
    ((crossCheck s r).tcv.xOut ≠ .all → Reported (crossCheck s r) 0x49 1 .note s.tb.count) ∧
    { crossCheck s r with tcv := s.tcv, snag := s.snag } = s := by
  unfold crossCheck
  rw [if_neg (by simp [sinceReady, hr])]
  dsimp only
  split
  · rename_i hall
    exact ⟨rfl, rfl, rfl, rfl, fun h => absurd hall h, rfl⟩
  · exact ⟨rfl, rfl, rfl, rfl, fun _ => note_mem_inbox _ 0x49 1 none, rfl⟩

/-! ## What a result leaves to the bookkeeping of B (R356, R358, R366) -/

/-- The converter less its schedule of B, its urgent answer and its queue: what its results have shown. -/
def Tcv.shown (v : Tcv) : Tcv := { v with
  b := {}, slot := 0, scanIdx := 0, rotIdx := 0, rotUse := [], aborted := none, waiting := none, running := false, capture := none
  rideB := false, bAt := none, pmSum := 0, uValid := false, uCh := 0, uR := 0, urgent := 0, queue := [], ovf := 0, status := 0 }
/-- From s to t nothing moves but the bookkeeping of the converter, and no report is lost. -/
def Booked (s t : State) : Prop :=
  { t with tcv := s.tcv, snag := s.snag } = s ∧ t.tcv.shown = s.tcv.shown ∧ ∀ x ∈ s.snag.inbox, x ∈ t.snag.inbox
theorem Booked.refl (s : State) : Booked s s := ⟨rfl, rfl, fun _ h => h⟩
theorem Booked.trans {s t u : State} (h : Booked s t) (h' : Booked t u) : Booked s u := by
  obtain ⟨hf, hv, hi⟩ := h
  obtain ⟨hf', hv', hi'⟩ := h'
  exact ⟨(congrArg (fun x : State => { x with tcv := s.tcv, snag := s.snag }) hf').trans hf, hv'.trans hv, fun x hx => hi' x (hi x hx)⟩
theorem Booked.ite {s t u : State} (ht : Booked s t) (hu : Booked s u) (p : Prop) [Decidable p] : Booked s (if p then t else u) := by
  split
  · exact ht
  · exact hu
theorem Booked.reported {s t : State} (h : Booked s t) {code unit k : Nat} {cls : Cls} (hr : Reported s code unit cls k) :
    Reported t code unit cls k := by
  obtain ⟨x, hx, hrest⟩ := hr
  exact ⟨x, h.2.2 x hx, hrest⟩
theorem booked_urgentDone (s : State) (ch : Nat) (r : Int) : Booked s (urgentDone s ch r) := ⟨rfl, rfl, fun _ h => h⟩
theorem booked_tcvQueue (s : State) (e : TcvQ) : Booked s (tcvQueue s e) := by
  obtain ⟨n, q, o, st, heq, hin⟩ := tcvQueue_eq s e
  rw [heq]
  exact ⟨rfl, rfl, hin⟩
theorem nextSlot_shown (s : State) (prev : Conv) (start : Nat) :
    (nextSlot s prev start).shown = s.tcv.shown ∧ (nextSlot s prev start).bAt = s.tcv.bAt := by
  unfold nextSlot
  dsimp only
  repeat' split
  all_goals exact ⟨rfl, rfl⟩
/-- B's next conversion is a matter of its schedule alone. -/
theorem afterB_eq (s : State) : ∃ v, afterB s = { s with tcv := v } ∧ v.shown = s.tcv.shown ∧ v.bAt = s.tcv.bAt := by
  unfold afterB
  dsimp only
  split
  · exact ⟨_, rfl, rfl, rfl⟩
  · exact ⟨_, rfl, rfl, rfl⟩
  · split
    · split
      · exact ⟨_, rfl, rfl, rfl⟩
      · split
        · exact ⟨_, rfl, rfl, rfl⟩
        · exact ⟨_, rfl, nextSlot_shown _ _ _⟩
    · split
      · exact ⟨_, rfl, rfl, rfl⟩
      · exact ⟨_, rfl, nextSlot_shown _ _ _⟩
    · exact ⟨_, rfl, nextSlot_shown _ _ _⟩
theorem booked_afterB (s : State) : Booked s (afterB s) ∧ (afterB s).tcv.bAt = s.tcv.bAt := by
  obtain ⟨v, heq, hshown, hat⟩ := afterB_eq s
  rw [heq]
  exact ⟨⟨rfl, hshown, fun _ h => h⟩, hat⟩

/-! ## The results of A and B (R352) -/

/-- B's corrected result (R361): a conversion with currents has no offset. -/
def correctedB (s : State) (bits : BitVec 10240) : Int :=
  correct (if s.tcv.b.method = 1 || s.tcv.b.method = 2 then 0 else s.tcv.ofsB) s.tcv.gainB (rawOf s.tcv.b.method s.tcv.b.chop bits)
/-- The state in which B's result r has reached those that use it. -/
def usedB (s : State) (r : Int) : State :=
  if s.tcv.b.kind = 1 then crossCheck s r
  else if s.tcv.b.kind = 3 then setRes s 1 true r
  else useResult s s.tcv.b.ch s.tcv.b.method true r
/-- Once its result is used, only bookkeeping is left of B's instant, which it stamps. -/
theorem resultB_booked (s : State) (bits : BitVec 10240) :
    Booked (usedB s (correctedB s bits)) (resultB s bits) ∧ (resultB s bits).tcv.bAt = some s.tb.count := by
  refine ⟨Booked.trans ?_ (booked_afterB _).1, (booked_afterB _).2⟩
  have hurgent := (booked_urgentDone (usedB s (correctedB s bits)) s.tcv.b.ch (correctedB s bits)).ite (.refl _)
    ((s.tcv.rideB || s.tcv.b.kind = 2) = true)
  refine (hurgent.trans ((Booked.refl _).ite (booked_tcvQueue _ _) (s.tcv.b.method = 2))).trans ⟨rfl, rfl, fun _ h => h⟩

/-- The next conversion lasts 400 µs or more (R352). -/
theorem convAfter_due (prev : Conv) (ch method kind chop start : Nat) : start + 400000 ≤ (convAfter prev ch method kind chop start).due := by
  show start + 400000 ≤ start + if _ then 400000 else 1600000
  split <;> omega
/-- A's corrected result (R361). -/
def correctedA (s : State) (bits : BitVec 10240) : Int := correct s.tcv.ofsA s.tcv.gainA (rawOf s.tcv.a.method s.tcv.a.chop bits)
/-- Once A's result is used, bookkeeping is left, and A's stamp and next conversion; B's conversion goes on. -/
theorem resultA_eq (s : State) (bits : BitVec 10240) : ∃ x ps pc, resultA s bits = { x with tcv := { x.tcv with
      rideA := false, aR := correctedA s bits, aAt := some s.tb.count, a := convAfter s.tcv.a 1 0 0 (chopNow s) s.tb.count
      pmSum := ps, pmCnt := pc } } ∧
    Booked (useResult s 1 0 false (correctedA s bits)) x ∧ x.tcv.b = (useResult s 1 0 false (correctedA s bits)).tcv.b := by
  have hurgent := (booked_urgentDone (useResult s 1 0 false (correctedA s bits)) 1 (correctedA s bits)).ite (.refl _) (s.tcv.rideA = true)
  have hqueue (y : State) (e : TcvQ) : (tcvQueue y e).tcv.b = y.tcv.b := by
    obtain ⟨n, q, o, st, heq, -⟩ := tcvQueue_eq y e
    rw [heq]
  exact ⟨_, _, _, rfl, hurgent.trans (booked_tcvQueue _ _), (hqueue _ _).trans (keeps_ite (f := fun y : State => y.tcv.b) rfl)⟩

section
variable {s : State} (hc : s.su.cond = .run) (hrun : s.tcv.run = true) (hcal : calRuns s = false)
include hc hrun hcal

theorem exec_tcvResult_A (hdue : s.tcv.a.due ≤ s.tb.count) (hk : s.tb.count % 400000 = 0) (bits : BitVec 10240) :
    exec (.tcvResult false bits) s = .next (resultA s bits) := by
  have hdue : s.tcv.a.due ≤ now s := hdue
  have hk : now s % 400000 = 0 := hk
  show execTcvResult false bits s = _
  rw [execTcvResult, if_neg (by simp [running, hc, hrun, hcal]), if_neg Bool.false_ne_true]
  exact if_pos (by simp [hdue, hk])
theorem exec_tcvResult_B (hdue : s.tcv.b.due ≤ s.tb.count) (hk : s.tb.count % 400000 = 0) (bits : BitVec 10240) :
    exec (.tcvResult true bits) s = .next (resultB s bits) := by
  have hdue : s.tcv.b.due ≤ now s := hdue
  have hk : now s % 400000 = 0 := hk
  show execTcvResult true bits s = _
  rw [execTcvResult, if_neg (by simp [running, hc, hrun, hcal]), if_pos rfl]
  exact if_pos (by simp [hdue, hk])
end
/-- Off the grid A has no result (R352). -/
theorem exec_tcvResult_off_grid {s : State} (hk : s.tb.count % 400000 ≠ 0) (bits : BitVec 10240) : exec (.tcvResult false bits) s = .next s := by
  have hk : now s % 400000 ≠ 0 := hk
  show execTcvResult false bits s = _
  unfold execTcvResult
  dsimp only
  split
  · rfl
  · rw [if_neg Bool.false_ne_true, if_neg (by simp [hk])]

/-- Settles O45: a result by the operation that uses it and the bookkeeping after it, the other clauses by the rules of their operations. -/
theorem converterResultsAreCorrectedAndDelivered : Obligations.ConverterResultsAreCorrectedAndDelivered := by
  unfold Obligations.ConverterResultsAreCorrectedAndDelivered
  refine ⟨fun x ofs gain => ?correction, fun bits s hc hrun hcal hdue hk hl => ?ofA, fun bits s hk => exec_tcvResult_off_grid hk bits,
    fun bits r s hc hrun hcal hdue hk hkind hmeth hl hr => ?ordinary, fun bits r s hc hrun hcal hdue hk hkind hmeth h8 h16 hl hr => ?diode,
    fun bits r s hc hrun hcal hdue hk hkind hmeth h16 hr => ?openWire, fun bits r s hready hc hrun hcal hdue hk hkind hmeth hr => ?slot,
    fun xtol ia ib ie ref => ?outcome, fun e rest s hc hr hq => ⟨_, exec_tcvQLoRead_head hc hr hq, rfl, rfl, rfl⟩,
    fun s hc hr hq => exec_tcvQLoRead_empty hc hr hq, fun e s => ⟨fun h => tcvPush_room h e, fun h => ?full⟩,
    fun ch r s hr hwin hl h32 hout => ?window⟩
  case correction =>
    refine ⟨(sat24_bounds _).1, (sat24_bounds _).2, fun hlo hhi => ?_⟩
    rw [correct, rnd_unit_gain, sat24_of_mem hlo hhi]
  case ofA =>
    obtain ⟨x, ps, pc, heq, ⟨hframe, hshown, -⟩, hb⟩ := resultA_eq s bits
    obtain ⟨m, n, w, l, huse, hm, hread⟩ := useResult_ordinary s 1 false (correctedA s bits)
    obtain ⟨hr, -, hat⟩ := hread hl
    rw [huse] at hframe hshown hb
    have hres : x.tcv.res = l := congrArg Tcv.res hshown
    rw [exec_tcvResult_A hc hrun hcal hdue hk, heq]
    refine ⟨_, rfl, by rw [← correctedA], rfl, ?_, ?_, rfl, convAfter_due _ _ _ _ _ _, hb, ?_⟩
    · show (x.tcv.res.getD 1 {}).r = _
      rw [hres, hr]
    · show (x.tcv.res.getD 1 {}).at_ = _
      rw [hres, hat]
    · refine (congrArg (fun y : State => { y with tcv := s.tcv, snag := s.snag }) hframe).trans ?_
      rw [hm (.inl (by decide))]
  case ordinary =>
    obtain ⟨⟨hframe, hshown, -⟩, hat⟩ := resultB_booked s bits
    obtain ⟨m, n, w, l, huse, hm, hread⟩ := useResult_ordinary s s.tcv.b.ch true r
    obtain ⟨hval, hmod, -⟩ := hread hl
    have hused : usedB s (correctedB s bits) = useResult s s.tcv.b.ch 0 true r := by
      simp [usedB, correctedB, hkind, hmeth, hr]
    rw [hused, huse] at hframe hshown
    have hres : (resultB s bits).tcv.res = l := congrArg Tcv.res hshown
    refine ⟨_, exec_tcvResult_B hc hrun hcal hdue hk bits, hat, ?_, ?_, (congrArg Tcv.a hshown :), (congrArg Tcv.aR hshown :), fun h => ?_, ?_⟩
    · rw [hres, hval]
    · rw [hres, hmod]
    · exact (congrArg State.msf hframe).trans (hm h)
    · exact congrArg (fun y : State => { y with tcv := s.tcv, msf := s.msf, snag := s.snag }) hframe
  case diode =>
    obtain ⟨⟨hframe, -, -⟩, hat⟩ := resultB_booked s bits
    obtain ⟨n, v, huse⟩ := useResult_diode s s.tcv.b.ch true (correct 0 s.tcv.gainB (rawOf 1 s.tcv.b.chop bits))
    have hused : usedB s (correctedB s bits) = useResult s s.tcv.b.ch 1 true (correct 0 s.tcv.gainB (rawOf 1 s.tcv.b.chop bits)) := by
      simp [usedB, correctedB, hkind, hmeth]
    rw [hused, huse, ← hr] at hframe
    have hview := diodeResult_diodeView s (s.tcv.b.ch - 8) r
    have hdiodes : (resultB s bits).thm.diodes = (diodeRead s (s.tcv.b.ch - 8) r).thm.diodes :=
      (congrArg (·.thm.diodes) hframe).trans (congrArg Prod.snd hview)
    refine ⟨_, exec_tcvResult_B hc hrun hcal hdue hk bits, hat, ?_, ?_, ?_, (congrArg State.zones hframe).trans (congrArg (·.1.zones) hview)⟩
    all_goals
      rw [hdiodes, diodeRead]
      dsimp only
      rw [getD_set_same hl]
  case openWire =>
    obtain ⟨⟨hframe, hshown, -⟩, hat⟩ := resultB_booked s bits
    have hused : usedB s (correctedB s bits) =
        setOpen s s.tcv.b.ch (decide (1000 * 8388608 * (s.tcv.cfg.owLim : Int) ≤ r * 1250000)) := by
      rw [hr, ← useResult_openWire s s.tcv.b.ch true]
      simp [usedB, correctedB, hkind, hmeth]
    obtain ⟨n, hopen⟩ := setOpen_eq s s.tcv.b.ch (decide (1000 * 8388608 * (s.tcv.cfg.owLim : Int) ≤ r * 1250000))
    rw [hused, hopen] at hframe hshown
    refine ⟨_, exec_tcvResult_B hc hrun hcal hdue hk bits, hat, ?_, (congrArg Tcv.res hshown :), ?_⟩
    · exact (congrArg (·.owstat.getLsbD s.tcv.b.ch) hshown).trans (getLsbD_owstatWith _ h16 _)
    · exact congrArg (fun y : State => { y with tcv := s.tcv, snag := s.snag }) hframe
  case slot =>
    obtain ⟨hbooked, -⟩ := resultB_booked s bits
    have hused : usedB s (correctedB s bits) = crossCheck s r := by simp [usedB, correctedB, hkind, hmeth, hr]
    obtain ⟨hxa, hxb, hxo, hxc, hnote, hxf⟩ := crossCheck_spec hready r
    rw [hused] at hbooked
    obtain ⟨hframe, hshown, -⟩ := id hbooked
    have hia : (resultB s bits).tcv.xIa = iinOf s.tcv.cfg s.tcv.aR := (congrArg Tcv.xIa hshown).trans hxa
    have hib : (resultB s bits).tcv.xIb = iinOf s.tcv.cfg r := (congrArg Tcv.xIb hshown).trans hxb
    have hout : (resultB s bits).tcv.xOut = (crossCheck s r).tcv.xOut := (congrArg Tcv.xOut hshown :)
    refine ⟨_, exec_tcvResult_B hc hrun hcal hdue hk bits, hia, hib, ?_, (congrArg Tcv.xchks hshown).trans hxc, fun h => ?_, ?_⟩
    · rw [hia, hib, hout, hxo]
    · exact hbooked.reported (hnote (hout ▸ h))
    · exact (congrArg (fun y : State => { y with tcv := s.tcv, snag := s.snag }) hframe).trans hxf
  case outcome =>
    obtain ⟨hall, hA, hnone⟩ := slotOut_spec xtol ia ib ie ref
    exact ⟨hall, hA, hnone, agree_comm xtol ia ib⟩
  case full => rw [tcvPush_full h]; rfl
  case window =>
    obtain ⟨l, hlst, heq⟩ := compareWin_outside hr hwin hout
    have hmark : (l.getD ch {}).outside = true := by rw [hlst, getD_modify_same hl]
    rw [heq]
    cases hwas : (s.tcv.res.getD ch {}).outside with
    | true => exact ⟨hmark, fun _ => rfl, nofun⟩
    | false =>
      obtain ⟨x, hx, hcode, hunit, hcls, -⟩ :=
        note_mem_inbox { s with tcv := { s.tcv with res := l, wstat := s.tcv.wstat ||| w32 (2 ^ ch) } } 0x4A ch none
      exact ⟨hmark, nofun, fun _ => ⟨getLsbD_or_bit _ h32, x, hx, hcode, hunit, hcls⟩⟩

end Sys2Proof.Machine
end

section
/-!
The SC4 codes: arithmetic of GF(16), words and their symbols, code words and their syndrome, and the decoder's answer to one symbol in
error. The statement O47.
-/
namespace Sys2Proof.Machine

/-! ## GF(16) -/

theorem xor_lt_sixteen {a b : Nat} (ha : a < 16) (hb : b < 16) : a ^^^ b < 16 := Nat.xor_lt_two_pow (n := 4) ha hb
/-- A product distributes over a sum of symbols. -/
theorem gfMul_xor (a b c : Nat) : gfMul a (b ^^^ c) = gfMul a b ^^^ gfMul a c := by
  have hterm (i t : Nat) : (if (b ^^^ c).testBit i then t else 0) = (if b.testBit i then t else 0) ^^^ (if c.testBit i then t else 0) := by
    rw [Nat.testBit_xor]
    cases b.testBit i <;> cases c.testBit i <;> simp
  simp only [gfMul, hterm]
  ac_rfl
@[simp] theorem gfMul_zero_left (b : Nat) : gfMul 0 b = 0 := by simp [gfMul, gfX]
theorem gfMul_lt {a b : Nat} : a < 16 → b < 16 → gfMul a b < 16 := by
  have h : ∀ a < 16, ∀ b < 16, gfMul a b < 16 := by decide
  exact fun ha hb => h a ha b hb
theorem gfMul_one_left {b : Nat} : b < 16 → gfMul 1 b = b := by
  have h : ∀ b < 16, gfMul 1 b = b := by decide
  exact h b
/-- A quotient by a non-zero symbol undoes the product with it. -/
theorem gfDiv_gfMul {c e : Nat} (hc : c < 16) (h0 : 0 < e) (he : e < 16) : gfDiv (gfMul c e) e = c := by
  have h : ∀ c < 16, ∀ e < 16, 0 < e → gfDiv (gfMul c e) e = c := by decide
  exact h c hc e he h0

/-! ## Words and symbols (R375) -/

theorem two_pow_four_mul (n : Nat) : 2 ^ (4 * n) = 16 ^ n := pow_mul 2 4 n
theorem mem_symbols_lt {n x a : Nat} (h : a ∈ symbols n x) : a < 16 := by
  obtain ⟨k, -, rfl⟩ := List.mem_map.1 h
  exact Nat.mod_lt _ (by decide)
@[simp] theorem length_symbols (n x : Nat) : (symbols n x).length = n := by simp [symbols]
/-- The lowest symbol of a word, and the rest of it. -/
theorem symbols_succ (n x : Nat) : symbols (n + 1) x = x % 16 :: symbols n (x / 16) := by
  simp only [symbols, List.range_succ_eq_map, List.map_cons, List.map_map]
  congr 1
  · simp [bitsOf]
  · refine List.map_congr_left fun k _ => ?_
    have hpow : 2 ^ (4 * (k + 1)) = 16 * 2 ^ (4 * k) := by ring
    simp only [Function.comp, Nat.succ_eq_add_one, bitsOf, hpow, Nat.div_div_eq_div_mul]
theorem ofSymbols_cons (a : Nat) (L : List Nat) : ofSymbols (a :: L) = a % 16 + 16 * ofSymbols L := rfl
/-- The symbols of a word spell its low bits. -/
theorem ofSymbols_symbols (n x : Nat) : ofSymbols (symbols n x) = x % 16 ^ n := by
  induction n generalizing x with
  | zero => simp [symbols, ofSymbols, Nat.mod_one]
  | succ n ih =>
    rw [symbols_succ, pow_succ', Nat.mod_mul, ← ih, ofSymbols_cons, Nat.mod_mod]
/-- A list of symbols is read back from the number it spells. -/
theorem symbols_ofSymbols {L : List Nat} (h : ∀ a ∈ L, a < 16) : symbols L.length (ofSymbols L) = L := by
  induction L with
  | nil => rfl
  | cons a L ih =>
    have ha : a % 16 = a := Nat.mod_eq_of_lt (h a List.mem_cons_self)
    have hrest := ih fun b hb => h b (List.mem_cons_of_mem _ hb)
    rw [List.length_cons, symbols_succ, ofSymbols_cons, Nat.add_mul_mod_self_left, Nat.add_mul_div_left _ _ (by decide), ha, ha,
      Nat.div_eq_of_lt (ha ▸ Nat.mod_lt a (by decide)), Nat.zero_add, hrest]
theorem ofSymbols_lt (L : List Nat) : ofSymbols L < 16 ^ L.length := by
  induction L with
  | nil => decide
  | cons a L ih =>
    rw [ofSymbols_cons, List.length_cons, pow_succ]
    omega
/-- The first symbols of a list stand in the low bits of the number it spells. -/
theorem ofSymbols_append_mod (L M : List Nat) : ofSymbols (L ++ M) % 16 ^ L.length = ofSymbols L := by
  induction L with
  | nil => simp [ofSymbols, Nat.mod_one]
  | cons a L ih =>
    rw [List.cons_append, ofSymbols_cons, ofSymbols_cons, List.length_cons, pow_succ', Nat.mod_mul, Nat.add_mul_mod_self_left,
      Nat.add_mul_div_left _ _ (by decide), Nat.div_eq_of_lt (Nat.mod_lt a (by decide)), Nat.zero_add, ih, Nat.mod_mod]

/-- A symbol at place k of a word of n symbols. -/
theorem symbol_lt {e k n : Nat} (he : e < 16) (hk : k < n) : e * 16 ^ k < 16 ^ n := by
  calc e * 16 ^ k < 16 * 16 ^ k := by gcongr
    _ = 16 ^ (k + 1) := (pow_succ' ..).symm
    _ ≤ 16 ^ n := Nat.pow_le_pow_right (by decide) hk
/-- The number with symbol e at place k has e there and 0 elsewhere. -/
theorem bitsOf_symbol {e : Nat} (he : e < 16) (k i : Nat) : bitsOf (e * 16 ^ k) (4 * i) 4 = if k = i then e else 0 := by
  rw [bitsOf, two_pow_four_mul]
  rcases Nat.lt_trichotomy k i with h | rfl | h
  · rw [Nat.div_eq_of_lt (symbol_lt he h), if_neg (by omega), Nat.zero_mod]
  · rw [Nat.mul_div_cancel _ (by positivity), if_pos rfl]
    exact Nat.mod_eq_of_lt he
  · obtain ⟨j, rfl⟩ := Nat.exists_eq_add_of_lt h
    have hfactor : e * 16 ^ (i + j + 1) = 16 ^ i * (e * 16 ^ j * 16) := by ring
    rw [hfactor, Nat.mul_div_cancel_left _ (by positivity), if_neg (by omega)]
    exact Nat.mul_mod_left ..
theorem bitsOf_xor (x y lo w : Nat) : bitsOf (x ^^^ y) lo w = bitsOf x lo w ^^^ bitsOf y lo w := by
  rw [bitsOf, Nat.xor_div_two_pow, Nat.xor_mod_two_pow]; rfl
/-- An error added to a word is that error added to its symbol. -/
theorem symbols_xor {e : Nat} (he : e < 16) (n k x : Nat) : symbols n (x ^^^ e * 16 ^ k) = addSym (symbols n x) k e := by
  refine List.ext_getElem (by simp [addSym]) fun i h1 h2 => ?_
  simp only [symbols, addSym, List.getElem_map, List.getElem_range, List.getElem_modify, bitsOf_xor, bitsOf_symbol he]
  split <;> simp

/-! ## Code words (R376, R377) -/

/-- The sum of the products of a row with the symbols. -/
def dot (r ss : List Nat) : Nat := (List.zipWith gfMul r ss).foldr (· ^^^ ·) 0
theorem syndrome_eq (rows : List (List Nat)) (ss : List Nat) : syndrome rows ss = rows.map (dot · ss) := by
  simp only [syndrome, dot, List.foldl_eq_foldr]
@[simp] theorem dot_nil_right (r : List Nat) : dot r [] = 0 := by simp [dot]
@[simp] theorem dot_cons (a : Nat) (r : List Nat) (b : Nat) (ss : List Nat) : dot (a :: r) (b :: ss) = gfMul a b ^^^ dot r ss := rfl
theorem dot_append (r ss cs : List Nat) : dot r (ss ++ cs) = dot r ss ^^^ dot (r.drop ss.length) cs := by
  induction ss generalizing r with
  | nil => simp
  | cons b ss ih =>
    cases r with
    | nil => simp [dot]
    | cons a r => simp [ih, Nat.xor_assoc]
/-- An error adds its product with the row's entry. -/
theorem dot_addSym (r : List Nat) {ss : List Nat} {k : Nat} (hk : k < ss.length) (e : Nat) :
    dot r (addSym ss k e) = dot r ss ^^^ gfMul (r.getD k 0) e := by
  unfold addSym
  induction ss generalizing r k with
  | nil => simp at hk
  | cons b ss ih =>
    cases r with
    | nil => simp [dot]
    | cons a r =>
      cases k with
      | zero => simp [gfMul_xor, Nat.xor_comm, Nat.xor_left_comm]
      | succ k => simp [ih r (Nat.lt_of_succ_lt_succ hk), Nat.xor_assoc]
theorem dot_lt {r ss : List Nat} (hr : ∀ a ∈ r, a < 16) (hs : ∀ a ∈ ss, a < 16) : dot r ss < 16 := by
  induction ss generalizing r with
  | nil => simp
  | cons b ss ih =>
    cases r with
    | nil => simp [dot]
    | cons a r =>
      rw [List.forall_mem_cons] at hr hs
      exact xor_lt_sixteen (gfMul_lt hr.1 hs.1) (ih hr.2 hs.2)

/-- The symbols of a code word: the check matrix times them is 0 (R376). -/
def Codeword (rows : List (List Nat)) (L : List Nat) : Prop := (∀ a ∈ L, a < 16) ∧ ∀ x ∈ syndrome rows L, x = 0
/-- The syndrome of a code word with one symbol in error is the symbol's column times the error. -/
theorem Codeword.syndrome_addSym {rows : List (List Nat)} {L : List Nat} (h : Codeword rows L) {k : Nat} (hk : k < L.length) (e : Nat) :
    syndrome rows (addSym L k e) = (colOf rows k).map (gfMul · e) := by
  obtain ⟨-, hzero⟩ := h
  simp only [syndrome_eq, List.forall_mem_map] at hzero
  simp only [syndrome_eq, colOf, List.map_map]
  refine List.map_congr_left fun r hr => ?_
  rw [Function.comp_apply, dot_addSym r hk, hzero r hr, Nat.zero_xor]

/-- The columns of the four check symbols of SC4-80 and SC4-144. -/
def checkCols : List (List Nat) := [[1, 1, 1, 0], [0, 1, 0, 0], [0, 0, 1, 0], [0, 1, 8, 1]]
/-- The check symbols of R377 have the syndrome they are made from. -/
theorem syndrome_sc4Checks {s : List Nat} (hlen : s.length = 4) (hlt : ∀ a ∈ s, a < 16) : syndrome checkCols (sc4Checks s) = s := by
  obtain ⟨s0, s1, s2, s3, rfl⟩ := List.length_eq_four.1 hlen
  simp only [List.forall_mem_cons] at hlt
  obtain ⟨h0, h1, h2, h3, -⟩ := hlt
  have hc0 : s0 ^^^ s1 ^^^ s2 < 16 := xor_lt_sixteen (xor_lt_sixteen h0 h1) h2
  have hc3 : s3 ^^^ s1 ^^^ gfMul 8 s2 < 16 := xor_lt_sixteen (xor_lt_sixteen h3 h1) (gfMul_lt (by decide) h2)
  simp only [syndrome_eq, checkCols, sc4Checks, List.map_cons, List.map_nil, List.getD_cons_zero, List.getD_cons_succ, dot_cons,
    dot_nil_right, gfMul_zero_left, gfMul_one_left h1, gfMul_one_left h2, gfMul_one_left hc0, gfMul_one_left hc3, Nat.zero_xor, Nat.xor_zero]
  have hfirst : s0 ^^^ s1 ^^^ s2 ^^^ (s1 ^^^ s2) = s0 := by
    rw [Nat.xor_assoc s0, Nat.xor_assoc, Nat.xor_self, Nat.xor_zero]
  have hlast : s1 ^^^ (gfMul 8 s2 ^^^ (s3 ^^^ s1 ^^^ gfMul 8 s2)) = s3 := by
    rw [Nat.xor_comm _ (gfMul 8 s2), Nat.xor_xor_cancel_left, Nat.xor_comm s3, Nat.xor_xor_cancel_left]
  rw [hfirst, hlast]
/-- The syndrome of symbols followed by others. -/
theorem syndrome_append (rows : List (List Nat)) (ss cs : List Nat) :
    syndrome rows (ss ++ cs) = List.zipWith (· ^^^ ·) (syndrome rows ss) (syndrome (rows.map (·.drop ss.length)) cs) := by
  simp [syndrome_eq, dot_append, List.zipWith_map, List.map_map, Function.comp_def]
/-- Symbols whose syndrome the check symbols repeat make a code word with them. -/
theorem codeword_append {rows : List (List Nat)} {ss cs : List Nat} (hs : ∀ a ∈ ss, a < 16) (hc : ∀ a ∈ cs, a < 16)
    (h : syndrome (rows.map (·.drop ss.length)) cs = syndrome rows ss) : Codeword rows (ss ++ cs) := by
  refine ⟨fun a ha => (List.mem_append.1 ha).elim (hs a) (hc a), ?_⟩
  simp [syndrome_append, h]
theorem mem_syndrome_lt {rows : List (List Nat)} {ss : List Nat} (hrows : ∀ r ∈ rows, ∀ a ∈ r, a < 16) (hs : ∀ a ∈ ss, a < 16) {x : Nat}
    (hx : x ∈ syndrome rows ss) : x < 16 := by
  rw [syndrome_eq] at hx
  obtain ⟨r, hr, rfl⟩ := List.mem_map.1 hx
  exact dot_lt (hrows r hr) hs
/-- What holds of every entry and of 0 holds of an entry looked up. -/
theorem getD_zero_of_forall {P : Nat → Prop} {s : List Nat} (hs : ∀ a ∈ s, P a) (h0 : P 0) (i : Nat) : P (s.getD i 0) := by
  rcases Nat.lt_or_ge i s.length with h | h
  · rw [List.getD_eq_getElem _ _ h]; exact hs _ (List.getElem_mem h)
  · rw [List.getD_eq_default _ _ h]; exact h0
theorem mem_sc4Checks_lt {s : List Nat} (hs : ∀ a ∈ s, a < 16) {x : Nat} (hx : x ∈ sc4Checks s) : x < 16 := by
  have hget := getD_zero_of_forall hs (by decide)
  simp only [sc4Checks, List.mem_cons, List.not_mem_nil, or_false] at hx
  rcases hx with rfl | rfl | rfl | rfl
  · exact xor_lt_sixteen (xor_lt_sixteen (hget 0) (hget 1)) (hget 2)
  · exact hget 1
  · exact hget 2
  · exact xor_lt_sixteen (xor_lt_sixteen (hget 3) (hget 1)) (gfMul_lt (by decide) (hget 2))
/-- Data symbols with the check symbols of R377 are a code word of SC4-80 or SC4-144. -/
theorem codeword_sc4Checks {rows : List (List Nat)} {ss : List Nat} (hlen : rows.length = 4) (hrows : ∀ r ∈ rows, ∀ a ∈ r, a < 16)
    (hcols : rows.map (·.drop ss.length) = checkCols) (hs : ∀ a ∈ ss, a < 16) : Codeword rows (ss ++ sc4Checks (syndrome rows ss)) := by
  have hlt : ∀ x ∈ syndrome rows ss, x < 16 := fun x => mem_syndrome_lt hrows hs
  refine codeword_append hs (fun x => mem_sc4Checks_lt hlt) ?_
  rw [hcols, syndrome_sc4Checks (by simp [syndrome, hlen]) hlt]
/-- A route header's data symbols with their syndrome as check symbols are a code word. -/
theorem codeword_header {ss : List Nat} (hlen : ss.length = 8) (hs : ∀ a ∈ ss, a < 16) : Codeword hdrRows (ss ++ syndrome hdrRows ss) := by
  have hlt : ∀ x ∈ syndrome hdrRows ss, x < 16 := fun x => mem_syndrome_lt (by decide) hs
  refine codeword_append hs hlt ?_
  obtain ⟨s0, s1, s2, hsyn⟩ := List.length_eq_three.1 (show (syndrome hdrRows ss).length = 3 from rfl)
  rw [hsyn] at hlt ⊢
  simp only [List.forall_mem_cons] at hlt
  obtain ⟨h0, h1, h2, -⟩ := hlt
  have hcols : hdrRows.map (·.drop ss.length) = [[1, 0, 0], [0, 1, 0], [0, 0, 1]] := by rw [hlen]; rfl
  simp [hcols, syndrome_eq, gfMul_one_left, h0, h1, h2]

/-! ## Decoding (R378) -/

/-- An error added twice is gone. -/
theorem addSym_addSym (L : List Nat) (k e : Nat) : addSym (addSym L k e) k e = L := by
  have hid : (fun a : Nat => a ^^^ e) ∘ (fun a => a ^^^ e) = id := by funext a; simp
  rw [addSym, addSym, List.modify_modify_eq, hid, List.modify_id]
section
variable {rows : List (List Nat)} {L : List Nat} {k e : Nat}
/-- A code word is taken as it is. -/
theorem Codeword.decodes (h : Codeword rows L) (hdr : Bool) : sc4Decode rows hdr L = some (L, false) := by
  have hget := getD_zero_of_forall (P := (· = 0)) h.2 rfl
  simp [sc4Decode, hget, -List.getD_eq_getElem?_getD]
/-- The column of symbol k begins with 1, and no earlier column equals it. -/
def columnFound (rows : List (List Nat)) (k : Nat) : Bool :=
  (colOf rows k).head? == some 1 && (colOf rows k).all (· < 16) && findCol rows (colOf rows k) == some k
/-- An error in a symbol whose column begins with 1 is the first syndrome symbol, and the syndrome divided by it is the column. -/
theorem Codeword.corrects_found (h : Codeword rows L) (hdr : Bool) (hk : k < L.length) (h0 : 0 < e) (he : e < 16)
    (hfound : columnFound rows k = true) : sc4Decode rows hdr (addSym L k e) = some (L, true) := by
  simp only [columnFound, Bool.and_eq_true, beq_iff_eq, List.head?_eq_some_iff, List.all_eq_true, decide_eq_true_eq] at hfound
  obtain ⟨⟨⟨cs, hcol⟩, hlt⟩, hfind⟩ := hfound
  have hhead : (syndrome rows (addSym L k e)).getD 0 0 = e := by
    rw [h.syndrome_addSym hk, hcol]; exact gfMul_one_left he
  have hquot : (syndrome rows (addSym L k e)).map (gfDiv · e) = colOf rows k := by
    rw [h.syndrome_addSym hk, List.map_map]
    exact (List.map_congr_left fun c hc => gfDiv_gfMul (hlt c hc) h0 he).trans (List.map_id _)
  have hne : e ≠ 0 := Nat.ne_of_gt h0
  simp [sc4Decode, hhead, hne, hquot, hfind, addSym_addSym, -List.getD_eq_getElem?_getD]
/-- An error in the last symbol of SC4-80 or SC4-144 shows in the last syndrome symbol alone. -/
theorem Codeword.corrects_last (h : Codeword rows L) (h0 : 0 < e) (he : e < 16) (hk : L.length = k + 1)
    (hcol : colOf rows k = [0, 0, 0, 1]) : sc4Decode rows false (addSym L k e) = some (L, true) := by
  have hsyn : syndrome rows (addSym L k e) = [0, 0, 0, e] := by
    rw [h.syndrome_addSym (by omega), hcol]; simp [gfMul_one_left he]
  have hlast : (addSym L k e).length - 1 = k := by simp [addSym, hk]
  have hne : e ≠ 0 := Nat.ne_of_gt h0
  simp [sc4Decode, hsyn, hlast, hne, addSym_addSym]
/-- An error in one of a header's last two symbols shows in that check's syndrome symbol alone. -/
theorem Codeword.corrects_header (h : Codeword hdrRows L) (h0 : 0 < e) (he : e < 16) (hlen : L.length = 11) (hk : k = 9 ∨ k = 10) :
    sc4Decode hdrRows true (addSym L k e) = some (L, true) := by
  have hsyn := h.syndrome_addSym (k := k) (by omega) e
  have hne : e ≠ 0 := Nat.ne_of_gt h0
  have hone : gfMul 1 e = e := gfMul_one_left he
  rcases hk with rfl | rfl
  · replace hsyn : syndrome hdrRows (addSym L 9 e) = [0, e, 0] := by simpa [colOf, hdrRows, hone] using hsyn
    simp [sc4Decode, hsyn, hne, addSym_addSym]
  · replace hsyn : syndrome hdrRows (addSym L 10 e) = [0, 0, e] := by simpa [colOf, hdrRows, hone] using hsyn
    simp [sc4Decode, hsyn, hne, addSym_addSym]
end

/-! ## Words as encoded and decoded -/

/-- Data bits and check symbols laid into a word of n symbols. -/
def encodeWith (n m : Nat) (cs : List Nat) (d : BitVec (4 * m)) : BitVec (4 * n) := BitVec.ofNat (4 * n) (ofSymbols (symbols m d.toNat ++ cs))
/-- A word of n symbols, m of them data, decoded. -/
def decodeWith (rows : List (List Nat)) (hdr : Bool) (n m : Nat) (w : BitVec (4 * n)) : Option (BitVec (4 * m) × Bool) :=
  (sc4Decode rows hdr (symbols n w.toNat)).map fun p => (BitVec.ofNat (4 * m) (ofSymbols (p.1.take m)), p.2)
section
variable {n m : Nat} {cs : List Nat} {d : BitVec (4 * m)}
theorem ofSymbols_data (d : BitVec (4 * m)) : ofSymbols (symbols m d.toNat) = d.toNat := by
  rw [ofSymbols_symbols, ← two_pow_four_mul, Nat.mod_eq_of_lt d.isLt]
theorem toNat_encodeWith (hn : n = m + cs.length) : (encodeWith n m cs d).toNat = ofSymbols (symbols m d.toNat ++ cs) := by
  have hlt := ofSymbols_lt (symbols m d.toNat ++ cs)
  rw [List.length_append, length_symbols, ← hn, ← two_pow_four_mul] at hlt
  exact Nat.mod_eq_of_lt hlt
/-- The data bits stand in the low bits of the word as encoded. -/
theorem encodeWith_setWidth (hn : n = m + cs.length) : (encodeWith n m cs d).setWidth (4 * m) = d := by
  apply BitVec.eq_of_toNat_eq
  have h := ofSymbols_append_mod (symbols m d.toNat) cs
  rw [length_symbols, ← two_pow_four_mul, ofSymbols_data] at h
  rw [BitVec.toNat_setWidth, toNat_encodeWith hn, h]
variable {rows : List (List Nat)}
theorem symbols_encodeWith (hn : n = m + cs.length) (h : Codeword rows (symbols m d.toNat ++ cs)) :
    symbols n (encodeWith n m cs d).toNat = symbols m d.toNat ++ cs := by
  rw [toNat_encodeWith hn]
  have hlen : n = (symbols m d.toNat ++ cs).length := by simpa using hn
  rw (occs := [1]) [hlen]
  exact symbols_ofSymbols h.1
/-- Symbols that decode to the data and check symbols of a word give back its data bits. -/
theorem decodeWith_of_sc4Decode {hdr c : Bool} {w : BitVec (4 * n)}
    (h : sc4Decode rows hdr (symbols n w.toNat) = some (symbols m d.toNat ++ cs, c)) : decodeWith rows hdr n m w = some (d, c) := by
  rw [decodeWith, h, Option.map_some, List.take_left' (length_symbols ..), ofSymbols_data, BitVec.ofNat_toNat, BitVec.setWidth_eq]
/-- A code word decodes uncorrected, and its data stand in its low bits (R378). -/
theorem Codeword.word_decodes (hn : n = m + cs.length) (h : Codeword rows (symbols m d.toNat ++ cs)) (hdr : Bool) :
    decodeWith rows hdr n m (encodeWith n m cs d) = some (d, false) ∧ (encodeWith n m cs d).setWidth (4 * m) = d := by
  refine ⟨decodeWith_of_sc4Decode (cs := cs) ?_, encodeWith_setWidth hn⟩
  rw [symbols_encodeWith hn h, h.decodes]
/-- A code word with one symbol in error decodes as its symbols with that error do. -/
theorem Codeword.word_corrects (hn : n = m + cs.length) (h : Codeword rows (symbols m d.toNat ++ cs)) {hdr : Bool} {k e : Nat} (hk : k < n)
    (he : e < 16) (hdec : sc4Decode rows hdr (addSym (symbols m d.toNat ++ cs) k e) = some (symbols m d.toNat ++ cs, true)) :
    decodeWith rows hdr n m (encodeWith n m cs d ^^^ BitVec.ofNat (4 * n) (e * 16 ^ k)) = some (d, true) := by
  have hlt : e * 16 ^ k < 2 ^ (4 * n) := by rw [two_pow_four_mul]; exact symbol_lt he hk
  refine decodeWith_of_sc4Decode (cs := cs) ?_
  rw [BitVec.toNat_xor, BitVec.toNat_ofNat, Nat.mod_eq_of_lt hlt, symbols_xor he, symbols_encodeWith hn h, hdec]
end

/-! ## O47 -/

theorem sc80_codeword (d : W64) : Codeword sc80Rows (symbols 16 d.toNat ++ sc4Checks (syndrome sc80Rows (symbols 16 d.toNat))) :=
  codeword_sc4Checks rfl (by decide) (by rw [length_symbols]; decide) fun _ => mem_symbols_lt
theorem sc144_codeword (d : BitVec 128) : Codeword sc144Rows (symbols 32 d.toNat ++ sc4Checks (syndrome sc144Rows (symbols 32 d.toNat))) :=
  codeword_sc4Checks rfl (by decide) (by rw [length_symbols]; decide) fun _ => mem_symbols_lt
theorem hdr_codeword (h : W32) : Codeword hdrRows (symbols 8 h.toNat ++ syndrome hdrRows (symbols 8 h.toNat)) :=
  codeword_header (length_symbols ..) fun _ => mem_symbols_lt
/-- Every column but the last of SC4-80 and SC4-144, and but the last two of the header code, begins with 1, and no two are equal (R376). -/
theorem sc80_found : ∀ k < 19, columnFound sc80Rows k = true := by decide +kernel
theorem sc144_found : ∀ k < 35, columnFound sc144Rows k = true := by decide +kernel
theorem hdr_found : ∀ k < 9, columnFound hdrRows k = true := by decide +kernel

/-- Settles O47: an encoded word is a code word, and an error's syndrome is its symbol's column times the error, which names the symbol. -/
theorem sc4CodesCorrectEverySingleSymbolError : Obligations.Sc4CodesCorrectEverySingleSymbolError := by
  unfold Obligations.Sc4CodesCorrectEverySingleSymbolError
  refine ⟨fun d => (sc80_codeword d).word_decodes (n := 20) rfl false, fun d k e hk h0 he => ?packet,
    fun d => (sc144_codeword d).word_decodes (n := 36) rfl false, fun d k e hk h0 he => ?memory,
    fun h => (hdr_codeword h).word_decodes (n := 11) rfl true, fun h k e hk h0 he => ?header⟩
  case packet =>
    have hcode := sc80_codeword d
    refine hcode.word_corrects (n := 20) rfl hk he ?_
    rcases Nat.lt_or_ge k 19 with hdata | hlast
    · exact hcode.corrects_found false hk h0 he (sc80_found k hdata)
    · obtain rfl : k = 19 := by omega
      exact hcode.corrects_last h0 he rfl rfl
  case memory =>
    have hcode := sc144_codeword d
    refine hcode.word_corrects (n := 36) rfl hk he ?_
    rcases Nat.lt_or_ge k 35 with hdata | hlast
    · exact hcode.corrects_found false hk h0 he (sc144_found k hdata)
    · obtain rfl : k = 35 := by omega
      exact hcode.corrects_last h0 he rfl rfl
  case header =>
    have hcode := hdr_codeword h
    refine hcode.word_corrects (n := 11) rfl hk he ?_
    rcases Nat.lt_or_ge k 9 with hdata | hcheck
    · exact hcode.corrects_found true hk h0 he (hdr_found k hdata)
    · exact hcode.corrects_header h0 he rfl (by omega)

end Sys2Proof.Machine
end

section
/-!
The cascade: links and frames, heartbeats, time alignment, loss of a peer, succession, and shared caps. The statement O49.
-/
namespace Sys2Proof.Machine

/-! ## Peers -/

/-- Peer i as a change of it leaves it. -/
theorem peerD_modPeer {s : State} {i : Nat} (h : i < s.csc.peers.length) (f : Peer → Peer) : peerD (modPeer s i f) i = f (peerD s i) :=
  getD_modify_same h f {}

section
variable {s : State}

/-! ## Links (R388) and frames (R389, R390) -/

/-- Links of a declared constellation train from the end of step 2 (R388, R391). -/
theorem cxActive_of_const (hc : s.su.cond = .run) (hstep : 3 ≤ s.su.stepNo) (hn : 1 < s.csc.cfg.ninst) : cxActive s = true := by
  simp [cxActive, running, isConst, hc, hstep, hn]
/-- The links once CXA or CXB has come up. -/
def linkUp (c : Csc) (b : Bool) : Csc := if b then { c with cxbUp := true, cxbDown := false } else { c with cxaUp := true, cxaDown := false }
/-- The links once CXA or CXB has gone down. -/
def linkDown (c : Csc) (b : Bool) : Csc := if b then { c with cxbUp := false, cxbDown := true } else { c with cxaUp := false, cxaDown := true }
theorem linkUp_spec (c : Csc) (b : Bool) : (if b then (linkUp c b).cxbUp else (linkUp c b).cxaUp) = true ∧
    (if b then (linkUp c b).cxaUp = c.cxaUp else (linkUp c b).cxbUp = c.cxbUp) := by
  cases b <;> exact ⟨rfl, rfl⟩
theorem linkWasDown_linkDown (c : Csc) (b : Bool) : linkWasDown (linkDown c b) = true := by
  cases b <;> simp [linkWasDown, linkDown]
theorem execCxLinkUp_active (h : cxActive s = true) (b : Bool) : execCxLinkUp b s = .next
    (if linkWasDown (linkUp s.csc b) then { s with csc := linkUp s.csc b } else deassertCond { s with csc := linkUp s.csc b } 0x58 0) := by
  simp only [execCxLinkUp, h]; rfl
theorem execCxLinkDown_active (h : cxActive s = true) (hn : 1 < s.csc.cfg.ninst) {b : Bool}
    (hup : (if b then s.csc.cxbUp else s.csc.cxaUp) = true) :
    execCxLinkDown b s = .next (assertCond { s with csc := linkDown s.csc b } 0x58 0 .degrade) := by
  have hconst : isConst s = true := decide_eq_true hn
  have hact : ¬(!cxActive s || !(if b then s.csc.cxbUp else s.csc.cxaUp)) = true := by simp only [h, hup]; decide
  rw [execCxLinkDown, if_neg hact, hconst]; rfl

/-- A frame as the Lath here receives it (R389). -/
abbrev frameRx (b : Bool) (kind : Nat) (f : BitVec 144) : LathRx :=
  { rx := 128 + b2n b, net := none, cx := some (bitsOf f.toNat 4 3), kind, header := BitVec.ofNat 44 (bitsOf f.toNat 16 44)
    word := BitVec.ofNat 80 (bitsOf f.toNat 60 80), frame := f }
/-- A frame with a wrong XCHK has no effect (R389). -/
theorem execCxLathFrameRx_wrong {f : BitVec 144} (h : bitsOf f.toNat 12 4 ≠ frameXchk f) (b : Bool) (kind : Nat) (s : State) :
    execCxLathFrameRx b kind f s = .next s :=
  if_pos (by simp [h])
/-- A TYPE 0 frame whose header decodes, with no injection armed or held, is delivered here and passed on as it is addressed (R390). -/
theorem execCxLathFrameRx_taken (hact : cxActive s = true) (hn : 1 < s.csc.cfg.ninst) {f : BitVec 144} (hx : bitsOf f.toNat 12 4 = frameXchk f)
    (htype : bitsOf f.toNat 10 2 = 0) (hheld : s.lth.injHeld = none) (hoff : s.lth.injCtl.getLsbD 31 = false) {h : W32} {c : Bool}
    (hh : hdrDecode (BitVec.ofNat 44 (bitsOf f.toNat 16 44)) = some (h, c)) (b : Bool) (kind : Nat) {r : State}
    (hr : r = if frameHere s f then lathReceive s (frameRx b kind f) else s) :
    execCxLathFrameRx b kind f s = .next (if frameForward s f then { r with csc := { r.csc with fwd := some (!b, frameHop f) } } else r) := by
  have htake : ¬(!cxActive s || !isConst s || decide (bitsOf f.toNat 12 4 ≠ frameXchk f) || decide (bitsOf f.toNat 10 2 ≠ 0)) = true := by
    simp [hact, isConst, hn, hx, htype]
  have hsome : ¬(hdrDecode (frameRx b kind f).header).isNone = true := by simp [hh]
  rw [execCxLathFrameRx, if_neg htake]
  simp only [inject_idle hheld hoff, List.foldl_cons, List.foldl_nil, if_neg hsome, ← hr]

/-! ## Heartbeats (R391, R392, R394) -/

/-- HEARTBEAT_SEND at its tick, once a link is up. -/
theorem execHeartbeatSend_due (hact : cxActive s = true) (hn : 1 < s.csc.cfg.ninst) (hup : s.csc.cxaUp = true ∨ s.csc.cxbUp = true)
    (hdue : s.tb.count % 10000 = 1000 * s.su.cascId) : execHeartbeatSend s = .next (cxSend s [.heartbeat (hbWord s)]) :=
  if_pos (by simp [hact, isConst, hn, now, hdue, hup])
/-- A heartbeat names the constellation declared here by its KEY, NINST and SUCCESSION (R391). -/
def sameConst (s : State) (hb : W64) : Prop :=
  hbFld hb 32 32 = s.csc.cfg.key.toNat ∧ hbFld hb 8 4 = s.csc.cfg.ninst ∧ hb.getLsbD 7 = s.fus.shadow.succession
/-- After formation a heartbeat of the same constellation under another number tells of that peer. -/
theorem execHeartbeatRx_peer (hc : s.su.cond = .run) (hn : 1 < s.csc.cfg.ninst) (hform : s.csc.forming = false) {hb : W64} (hsame : sameConst s hb)
    (hid : hbFld hb 0 3 ≠ s.su.cascId) : execHeartbeatRx hb s = .next (hbPeer s hb) := by
  obtain ⟨hkey, hinst, hsucc⟩ := hsame
  simp [execHeartbeatRx, running, isConst, hc, hn, hform, hkey, hinst, hsucc, hid, -BitVec.getLsbD_eq_getElem]
/-- After READY a heartbeat with the own number and another NONCE is a duplicate (R392). -/
theorem execHeartbeatRx_duplicate (hc : s.su.cond = .run) (hn : 1 < s.csc.cfg.ninst) (hr : s.su.readyEver = true) (hform : s.csc.forming = false)
    {hb : W64} (hsame : sameConst s hb) (hid : hbFld hb 0 3 = s.su.cascId) (hnonce : hbFld hb 16 16 ≠ s.csc.nonce.toNat) :
    execHeartbeatRx hb s = .next (report s 0x5A s.su.cascId .instSafe) := by
  obtain ⟨hkey, hinst, hsucc⟩ := hsame
  simp [execHeartbeatRx, running, isConst, sinceReady, hc, hn, hr, hform, hkey, hinst, hsucc, hid, hnonce,
    -BitVec.getLsbD_eq_getElem]
/-- What a heartbeat tells of its peer (R391, R394). -/
def Peer.heard (p : Peer) (hb : W64) (t : Nat) (back : Bool) : Peer :=
  { p with seen := true, nonce := BitVec.ofNat 16 (hbFld hb 16 16), term := hbFld hb 12 4, master := hb.getLsbD 3, state := hbFld hb 4 3
           at_ := t, lost := p.lost && !back }
/-- A lost peer comes back with a new NONCE, or with the first heartbeat it is seen by (R394). -/
def comesBack (p : Peer) (hb : W64) : Bool :=
  p.lost && p.seen && BitVec.ofNat 16 (hbFld hb 16 16) ≠ p.nonce || p.lost && !p.seen
/-- The peer of a heartbeat, and the condition of its loss, which ends when it comes back. -/
def peerHeard (s : State) (hb : W64) : State :=
  modPeer (if comesBack (peerD s (hbFld hb 0 3)) hb then deassertCond s 0x59 (hbFld hb 0 3) else s) (hbFld hb 0 3) fun p =>
    p.heard hb s.tb.count (comesBack (peerD s (hbFld hb 0 3)) hb)
theorem peerHeard_eq (s : State) (hb : W64) : ∃ n, peerHeard s hb =
    modPeer { s with snag := n } (hbFld hb 0 3) fun p => p.heard hb s.tb.count (comesBack (peerD s (hbFld hb 0 3)) hb) := by
  unfold peerHeard
  split
  · obtain ⟨n, hn⟩ := deassertCond_eq s 0x59 (hbFld hb 0 3)
    exact ⟨n, by rw [hn]⟩
  · exact ⟨_, rfl⟩
/-- After formation a heartbeat of a follower in STATE 0 or 1 does nothing but that. -/
theorem hbPeer_follower (hform : s.csc.forming = false) {hb : W64} (hst : hbFld hb 4 3 = 0 ∨ hbFld hb 4 3 = 1) (hm : hb.getLsbD 3 = false) :
    hbPeer s hb = peerHeard s hb := by
  have hlive : (decide (hbFld hb 4 3 = 2) || decide (hbFld hb 4 3 = 3)) = false := by rcases hst with h | h <;> simp [h]
  have hno : (peerHeard s hb).csc.forming = false := by
    obtain ⟨n, heq⟩ := peerHeard_eq s hb
    rw [heq]; exact hform
  have hends : hbPeer s hb = if (peerHeard s hb).csc.forming && (peerHeard s hb).csc.isMaster && allSeen (peerHeard s hb)
      then formDone (peerHeard s hb) else peerHeard s hb := by
    simp only [hbPeer, hm, hlive, peerHeard, Peer.heard, Bool.false_and, Bool.false_eq_true, if_false]
    rfl
  rw [hends, if_neg (by simp [hno])]
theorem hbFld_lt (hb : W64) (lo n : Nat) : hbFld hb lo n < 2 ^ n := Nat.mod_lt _ (by positivity)

/-! ## Loss of a peer, and succession (R394, R395) -/

/-- The loss of a peer reports at most one thing more: INSTANCE-SAFE for an acting master that nobody succeeds (R395). -/
theorem masterLost_eq (s : State) (i : Nat) : masterLost s i = s ∨ masterLost s i = report s 0x5A i .instSafe := by
  unfold masterLost
  split
  · exact .inr rfl
  · exact .inl rfl
/-- PEER_LOST of a peer of this constellation that is silent or has stopped. -/
theorem execPeerLost_due {i : Nat} (hc : s.su.cond = .run) (hn : 1 < s.csc.cfg.ninst) (hi : i < s.csc.cfg.ninst) (hown : i ≠ s.su.cascId)
    (hseen : (peerD s i).seen = true)
    (hgone : (peerD s i).at_ + 30000 ≤ s.tb.count ∨ (peerD s i).state = 2 ∨ (peerD s i).state = 3) (hlost : (peerD s i).lost = false) :
    execPeerLost i s = .next (masterLost (assertCond (modPeer s i fun p => { p with lost := true }) 0x59 i .degrade) i) := by
  have hact : (running s && isConst s && decide (i < s.csc.cfg.ninst) && decide (i ≠ s.su.cascId) && (peerD s i).seen &&
      (decide ((peerD s i).at_ + 30000 ≤ now s) || decide ((peerD s i).state = 2) || decide ((peerD s i).state = 3))) = true := by
    simp only [Bool.and_eq_true, Bool.or_eq_true, decide_eq_true_eq, or_assoc]
    exact ⟨⟨⟨⟨⟨decide_eq_true hc, decide_eq_true hn⟩, hi⟩, hown⟩, hseen⟩, hgone⟩
  rw [execPeerLost, if_pos hact, losePeer, if_neg (by simp [hlost])]
/-- MASTER_SUCCESSION of the heir at a boundary. -/
theorem execMasterSuccession_heir (hc : s.su.cond = .run) (hn : 1 < s.csc.cfg.ninst) (hm : s.csc.hasMaster = true) (hf : s.csc.isMaster = false)
    (hlost : (peerD s s.csc.masterId).lost = true) (hsucc : s.fus.shadow.succession = true) (hb : s.tb.count % 10000 = 0) (hheir : heir s = true) :
    execMasterSuccession s = .next { s with csc := { s.csc with
      isMaster := true, masterId := s.su.cascId, term := (s.csc.term + 1) % 16, aligned := true, slew := 0 } } :=
  if_pos (by simp [running, isConst, now, hc, hn, hm, hf, hlost, hsucc, hb, hheir])

/-! ## Alignment (R393) -/

/-- TIME_EXCHANGE_START of a follower since READY, 1 ms after its last request. -/
theorem execTimeExchangeStart_due (hc : s.su.cond = .run) (hn : 1 < s.csc.cfg.ninst) (hr : s.su.readyEver = true) (hf : s.csc.isMaster = false)
    (hm : s.csc.hasMaster = true) (hform : s.csc.forming = false) (hdue : ∀ a ∈ s.csc.reqAt, a + 1000000 ≤ s.tb.count) :
    execTimeExchangeStart s = .next (cxSend { s with csc := { s.csc with reqAt := some s.tb.count } } [.timeRequest s.tb.count]) := by
  refine if_pos ?_
  have hfollows : (running s && isConst s && !s.csc.isMaster && s.csc.hasMaster && (s.csc.forming || sinceReady s)) = true := by
    simp [running, isConst, sinceReady, hc, hn, hr, hf, hm]
  rw [hfollows, Bool.true_and]
  split
  · rename_i a ha
    simpa [hform, now] using hdue a ha
  · rfl
/-- TIME_REQUEST_RX of the master. -/
theorem execTimeRequestRx_master (hc : s.su.cond = .run) (hn : 1 < s.csc.cfg.ninst) (hm : s.csc.isMaster = true) {src : Nat} (hs : src < 8) :
    execTimeRequestRx src s = .next (cxSend s [.timeAnswer src s.tb.count s.tb.count]) :=
  if_pos (by simp [running, isConst, hc, hn, hm, hs])
/-- TIME_ANSWER_RX of a follower since READY: θ is slewed. -/
theorem execTimeAnswerRx_ready (hc : s.su.cond = .run) (hn : 1 < s.csc.cfg.ninst) (hr : s.su.readyEver = true) (hf : s.csc.isMaster = false)
    (hreq : s.csc.reqAt ≠ none) (hform : s.csc.forming = false) (t1 t2 t3 t4 : Int) :
    execTimeAnswerRx t1 t2 t3 t4 s = .next { s with csc := { s.csc with
      theta := clampI (-32767) 32767 (thetaOf t1 t2 t3 t4), slew := thetaOf t1 t2 t3 t4, exchanges := satInc 0xFFFF s.csc.exchanges } } := by
  have htake : ¬(!running s || !isConst s || s.csc.isMaster || s.csc.reqAt.isNone) = true := by simp [running, isConst, hc, hn, hf, hreq]
  have hnoform : ¬ s.csc.forming = true := by simp [hform]
  rw [execTimeAnswerRx, if_neg htake]
  exact (if_neg hnoform).trans (if_pos hr)

/-! ## Shared caps (R396) -/

/-- The master's answer leaves what it knows of the peers alone. -/
theorem answerShares_peers (s : State) : (answerShares s).csc.peers = s.csc.peers := by
  have hsend (t : State) (ms : List CxMsg) : (cxSend t ms).csc.peers = t.csc.peers := by unfold cxSend; split <;> rfl
  unfold answerShares
  dsimp only
  split
  · rfl
  · split
    · rw [hsend]; split <;> rfl
    · rfl
/-- Without a shared cap the master answers nothing. -/
theorem answerShares_uncapped (h : s.csc.cfg.cap = 0) : answerShares s = s :=
  if_pos (by simp [h])
/-- SHARE_REPORT_RX of the master. -/
theorem execShareReportRx_master (hc : s.su.cond = .run) (hn : 1 < s.csc.cfg.ninst) (hm : s.csc.isMaster = true) {src : Nat}
    (hsrc : src < s.csc.cfg.ninst) (hown : src ≠ s.su.cascId) (p f m : Nat) :
    execShareReportRx src p f m s = .next (answerShares (modPeer s src fun x => { x with report := some (p, f, m) })) :=
  if_pos (by simp [running, isConst, hc, hn, hm, hsrc, hown])
/-- SHARE_RX of a follower. -/
theorem execShareRx_follower (hc : s.su.cond = .run) (hn : 1 < s.csc.cfg.ninst) (hf : s.csc.isMaster = false) {w : Nat} (hw : w < 65536) :
    execShareRx w s = .next { s with csc := { s.csc with share := some w, shareAt := some s.tb.count } } := by
  have htake : (running s && isConst s && !s.csc.isMaster) = true := by simp [running, isConst, hc, hn, hf]
  rw [execShareRx, if_pos htake, Nat.mod_eq_of_lt hw]; rfl

theorem sumN_eq_sum (l : List Nat) : sumN l = l.sum := sumN_eq_foldr l
/-- Quotients rounded down sum to no more than the quotient of the sum. -/
theorem sum_map_div_le {α : Type} (xs : List α) (f : α → Nat) (d : Nat) : (xs.map fun x => f x / d).sum ≤ (xs.map f).sum / d := by
  induction xs with
  | nil => simp
  | cons x xs ih =>
    simp only [List.map_cons, List.sum_cons]
    exact (Nat.add_le_add_left ih _).trans Nat.div_add_div_le_add_div
/-- An amount dealt out in proportion to parts of d, each rounded down, is not exceeded. -/
theorem sum_proportion_le {α : Type} (xs : List α) (f : α → Nat) (c : Nat) {d : Nat} (h : (xs.map f).sum = d) :
    (xs.map fun x => c * f x / d).sum ≤ c := by
  have hsum : (xs.map fun x => c * f x).sum = c * d := by rw [List.sum_map_mul_left, h]
  calc (xs.map fun x => c * f x / d).sum ≤ (xs.map fun x => c * f x).sum / d := sum_map_div_le xs _ d
    _ = c * d / d := by rw [hsum]
    _ ≤ c := Nat.div_le_of_le_mul (Nat.mul_comm c d).le
/-- What may be taken above the floors is the set-points less the floors. -/
theorem sum_map_sub {α : Type} {xs : List α} {p f : α → Nat} (h : ∀ x ∈ xs, f x ≤ p x) :
    (xs.map fun x => p x - f x).sum = (xs.map p).sum - (xs.map f).sum := by
  have hadd : (xs.map f).sum + (xs.map fun x => p x - f x).sum = (xs.map p).sum := by
    rw [← List.sum_map_add]
    exact congrArg List.sum (List.map_congr_left fun x hx => Nat.add_sub_cancel' (h x hx))
  omega
/-- The shares never exceed the cap (R396). -/
theorem sum_sharesOf_le {cap : Nat} {xs : List (Nat × Nat × Nat)} (hpos : 0 < cap) (hcap : cap < sumN (xs.map fun x => x.2.1))
    (hfloor : ∀ x ∈ xs, x.2.2 ≤ x.2.1) : sumN ((sharesOf cap xs).map (·.2)) ≤ cap := by
  rw [sumN_eq_sum] at hcap
  simp only [sharesOf, sumN_eq_sum, List.map_map, Function.comp_def, if_neg (Nat.not_le.2 hcap)]
  generalize hps : (xs.map fun x => x.2.1).sum = ps at hcap ⊢
  generalize hfs : (xs.map fun x => x.2.2).sum = fs
  rcases Nat.lt_or_ge fs cap with habove | hbelow
  · have hne : ps - fs ≠ 0 := by omega
    have hparts : (xs.map fun x => x.2.1 - x.2.2).sum = ps - fs := by rw [sum_map_sub hfloor, hps, hfs]
    have hdealt := sum_proportion_le xs (fun x => x.2.1 - x.2.2) (cap - fs) hparts
    simp only [if_neg (Nat.not_le.2 habove), qdivN, if_neg hne, List.sum_map_add, hfs]
    omega
  · have hne : fs ≠ 0 := by omega
    simp only [if_pos hbelow, qdivN, if_neg hne, Nat.mul_comm _ cap]
    exact sum_proportion_le xs _ cap hfs

end

/-! ## O49 -/

/-- Settles O49: each command by its equation where it acts, and the shares by the sum of quotients rounded down. -/
theorem cascadeLinksHeartbeatsTimeAndShares : Obligations.CascadeLinksHeartbeatsTimeAndShares := by
  unfold Obligations.CascadeLinksHeartbeatsTimeAndShares
  refine ⟨fun b s hc hstep hn => ?up, fun b s hc hstep hn hup hcond => ?down, fun b kind f s hx => execCxLathFrameRx_wrong hx b kind s,
    fun b kind f h s hc hstep hn hx htype hheld hoff hh hhere => ?elsewhere,
    fun b kind f h r s hc hstep hn hx htype hheld hoff hh hhere hr => ?here,
    fun s hc hstep hn hup hdue => ⟨_, execHeartbeatSend_due (cxActive_of_const hc hstep hn) hn hup hdue, rfl, rfl⟩,
    fun hb s hc hn hr hform hkey hinst hsucc hid hlen hst hm => ?heard,
    fun hb s hc hn hr hform hkey hinst hsucc hid hnonce => ?duplicate,
    fun s hc hn hr hf hm hform hdue => ⟨_, execTimeExchangeStart_due hc hn hr hf hm hform hdue, rfl, rfl, rfl⟩,
    fun src s hc hn hm hsrc => ⟨_, execTimeRequestRx_master hc hn hm hsrc, rfl, rfl⟩,
    fun t1 t2 t3 t4 s hc hn hr hf hreq hform => ⟨_, execTimeAnswerRx_ready hc hn hr hf hreq hform t1 t2 t3 t4, rfl, rfl, rfl, rfl⟩,
    fun i s hc hn hi hown hlen hseen hgone hlost hcond => ?lost,
    fun s hc hn hm hf hlost hsucc hb hheir => ⟨_, execMasterSuccession_heir hc hn hm hf hlost hsucc hb hheir, rfl, rfl, rfl, rfl, rfl⟩,
    fun src p f m s hc hn hm hsrc hown hlen => ?report, fun w s hc hn hf hw => execShareRx_follower hc hn hf hw,
    fun cap xs hpos hcap hfloor => sum_sharesOf_le hpos hcap hfloor⟩
  case up =>
    have hexec := execCxLinkUp_active (cxActive_of_const hc hstep hn) b
    obtain ⟨hup, hother⟩ := linkUp_spec s.csc b
    cases hwas : linkWasDown (linkUp s.csc b) with
    | true =>
      rw [hwas, if_pos rfl] at hexec
      exact ⟨_, hexec, hup, hother, fun h => absurd (hwas.symm.trans h) (by decide), fun _ => rfl, rfl⟩
    | false =>
      rw [hwas, if_neg Bool.false_ne_true] at hexec
      have hframe := deassertCond_frame { s with csc := linkUp s.csc b } 0x58 0
      have hcsc : (deassertCond { s with csc := linkUp s.csc b } 0x58 0).csc = linkUp s.csc b := congrArg State.csc hframe
      refine ⟨_, hexec, ?_⟩
      rw [hcsc]
      exact ⟨hup, hother, fun _ h => (congrArg State.snag (deassertCond_of_not_mem (s := { s with csc := linkUp s.csc b }) h) :),
        fun h => absurd (hwas.symm.trans h) (by decide), congrArg (fun y : State => { y with csc := s.csc, snag := s.snag }) hframe⟩
  case down =>
    refine ⟨_, execCxLinkDown_active (cxActive_of_const hc hstep hn) hn hup, ?_⟩
    rw [assertCond_of_not_mem (s := { s with csc := linkDown s.csc b }) hcond]
    refine ⟨by cases b <;> rfl, linkWasDown_linkDown s.csc b, report_mem_inbox { s with csc := linkDown s.csc b } 0x58 0 .degrade none false none,
      List.mem_cons_self, rfl⟩
  case elsewhere =>
    refine ⟨_, execCxLathFrameRx_taken (r := s) (cxActive_of_const hc hstep hn) hn hx htype hheld hoff hh b kind
      (if_neg (by simp [hhere])).symm, ?_⟩
    cases frameForward s f <;> exact ⟨rfl, rfl, rfl⟩
  case here =>
    exact execCxLathFrameRx_taken (cxActive_of_const hc hstep hn) hn hx htype hheld hoff hh b kind (hr.trans (if_pos hhere).symm)
  case heard =>
    obtain ⟨n, heq⟩ := peerHeard_eq s hb
    refine ⟨_, execHeartbeatRx_peer hc hn hform ⟨hkey, hinst, hsucc⟩ hid, ?_⟩
    rw [hbPeer_follower hform hst hm, heq, peerD_modPeer (s := { s with snag := n }) hlen]
    exact ⟨rfl, rfl, rfl, Nat.mod_eq_of_lt (hbFld_lt hb 16 16), rfl, rfl, rfl⟩
  case duplicate =>
    exact ⟨_, execHeartbeatRx_duplicate hc hn hr hform ⟨hkey, hinst, hsucc⟩ hid hnonce, report_mem_inbox _ _ _ _ _ _ _, rfl⟩
  case lost =>
    have hpeer := peerD_modPeer hlen fun p => { p with lost := true }
    have hsent := assertCond_mem_inbox (s := modPeer s i fun p => { p with lost := true }) hcond .degrade false none
    obtain ⟨n, hn'⟩ := assertCond_eq (modPeer s i fun p => { p with lost := true }) 0x59 i .degrade false none
    refine ⟨_, execPeerLost_due hc hn hi hown hseen hgone hlost, ?_⟩
    rw [hn'] at hsent ⊢
    obtain ⟨r, hr, hcode⟩ := hsent
    rcases masterLost_eq { modPeer s i fun p => { p with lost := true } with snag := n } i with h | h <;> rw [h]
    · exact ⟨congrArg Peer.lost hpeer, ⟨r, hr, hcode⟩, rfl, rfl⟩
    · exact ⟨congrArg Peer.lost hpeer, ⟨r, mem_inbox_report hr _ _ _ _ _ _, hcode⟩, rfl, rfl⟩
  case report =>
    have hpeer := peerD_modPeer hlen fun x => { x with report := some (p, f, m) }
    refine ⟨_, execShareReportRx_master hc hn hm hsrc hown p f m, ?_, fun hcap => ?_, ?_⟩
    · rw [peerD, answerShares_peers]
      exact congrArg Peer.report hpeer
    · rw [answerShares_uncapped (s := modPeer s src _) hcap]; rfl
    · obtain ⟨c, hc'⟩ := answerShares_eq (modPeer s src fun x => { x with report := some (p, f, m) })
      rw [hc']; rfl

end Sys2Proof.Machine
end

section
/-!
The queue of commands, and reports and conditions of the Snag unit (15_faults_and_snag_unit.md R399 to R404): the order of the reports on
their way, and what the beginning and the end of a condition leave alone. The statements O1 and O18.
-/
namespace Sys2Proof.Machine

/-- Settles O1: a step takes the head of the queue by definition. -/
theorem stepTakesFrontCommand : Obligations.StepTakesFrontCommand := fun _ _ _ => rfl

/-! ## The processing order (R403) -/

theorem FaultRep.before_iff (a b : FaultRep) :
    a.before b = true ↔ a.stamp < b.stamp ∨ (a.stamp = b.stamp ∧ (a.code < b.code ∨ (a.code = b.code ∧ a.unit < b.unit))) := by
  simp [FaultRep.before]
theorem FaultRep.before_asymm {a b : FaultRep} (h : a.before b = true) : b.before a = false := by
  rw [FaultRep.before_iff] at h
  rw [Bool.eq_false_iff, Ne, FaultRep.before_iff]
  omega
/-- The order is a strict weak one: what does not precede a report does not precede an earlier one either. -/
theorem FaultRep.before_eq_false_trans {a b c : FaultRep} (h : a.before b = true) (h' : c.before b = false) : c.before a = false := by
  rw [Bool.eq_false_iff, Ne, FaultRep.before_iff] at h' ⊢
  rw [FaultRep.before_iff] at h
  omega
theorem mem_insRep_iff {r x : FaultRep} {l : List FaultRep} : x ∈ insRep r l ↔ x = r ∨ x ∈ l := by
  induction l with
  | nil => simp [insRep]
  | cons y ys ih =>
    unfold insRep
    split
    · simp
    · simp [ih, or_left_comm]
/-- A report takes its place in the order (R403). -/
theorem insRep_pairwise (r : FaultRep) {l : List FaultRep} (h : l.Pairwise fun a b => b.before a = false) :
    (insRep r l).Pairwise fun a b => b.before a = false := by
  induction l with
  | nil => simp [insRep]
  | cons x xs ih =>
    obtain ⟨hx, hxs⟩ := List.pairwise_cons.1 h
    by_cases hr : r.before x = true
    · rw [insRep, if_pos hr]
      refine List.pairwise_cons.2 ⟨fun y hy => ?_, h⟩
      rcases List.mem_cons.1 hy with rfl | hy
      · exact FaultRep.before_asymm hr
      · exact FaultRep.before_eq_false_trans hr (hx y hy)
    · rw [insRep, if_neg hr]
      refine List.pairwise_cons.2 ⟨fun y hy => ?_, ih hxs⟩
      rcases mem_insRep_iff.1 hy with rfl | hy
      · exact Bool.eq_false_iff.2 hr
      · exact hx y hy

/-! ## The end of a condition (R404) -/

/-- The instant that ends a condition becomes the last assertion of its held pair and of its report on the way. -/
theorem deassertCond_of_mem {s : State} {code unit : Nat} (h : (code, unit) ∈ s.snag.conds) : deassertCond s code unit =
    { s with snag := { s.snag with
      conds := s.snag.conds.erase (code, unit)
      held := s.snag.held.map fun h => if h.code = code ∧ h.unit = unit then { h with l := s.tb.count } else h
      inbox := s.snag.inbox.map fun r => if r.code = code ∧ r.unit = unit then { r with l := s.tb.count } else r } } := by
  rw [deassertCond, if_pos (by simpa using h)]
  simp only [Bool.and_eq_true, decide_eq_true_eq, now]

/-- Settles O18: a report by its place in the order, a condition by the equations of its beginning and its end. -/
theorem snagReportsAndConditions : Obligations.SnagReportsAndConditions := by
  unfold Obligations.SnagReportsAndConditions
  refine ⟨fun s code unit c d l k => ⟨⟨_, mem_insRep _ _, rfl, rfl, rfl, rfl, rfl, rfl, fun w hw => hw ▸ rfl⟩,
      fun x hx => mem_inbox_report hx code unit c d l k, insRep_length _ _, rfl⟩,
    fun s code unit c hnew => ⟨assertCond_conds .., ?_, assertCond_mem_inbox hnew c false none, assertCond_frame ..⟩,
    fun s code unit c hheld => if_pos (by simpa using hheld), fun s code unit hheld => ?_,
    fun s code unit hnot => deassertCond_of_not_mem hnot, fun r l hl => insRep_pairwise r hl, FaultRep.before_iff⟩
  · rw [assertCond_of_not_mem hnew]; rfl
  · rw [deassertCond_of_mem hheld]; exact ⟨rfl, rfl, rfl, rfl⟩

end Sys2Proof.Machine
end

section
/-!
The memory slice tests (16_self_test.md R422, R426, R431, R432): the start of a slice, and the end of one of the scheduled pass. The
statement O32.
-/
namespace Sys2Proof.Machine

/-! ## The start of a slice (R426, R431) -/

/-- A scheduled slice begins MGAP ms after the one before. -/
theorem exec_memSliceTest_scheduled {s : State} (hc : s.su.cond = .run) (hrun : s.bist.sliceRun = false) (hreq : memReq s = none)
    (hr : s.pins.ready = true) (hdue : s.bist.sliceAt + 1000000 * max 1 s.bist.cfg.mgap ≤ s.tb.count) :
    exec .memSliceTest s = .next { s with bist := { s.bist with sliceRun := true, sliceAt := s.tb.count } } := by
  have hdue : s.bist.sliceAt + 1000000 * max 1 s.bist.cfg.mgap ≤ now s := hdue
  show execMemSliceTest s = _
  rw [execMemSliceTest, if_neg (by simp [alive_of_run hc, hrun]), if_neg (by simp [hreq]), if_pos (by simp [ready, hr, hdue])]
  rfl
/-- A slice of a requested pass begins at once. -/
theorem exec_memSliceTest_requested {s : State} {m : Nat} (hc : s.su.cond = .run) (hrun : s.bist.sliceRun = false)
    (hreq : memReq s = some m) : exec .memSliceTest s = .next { s with bist := { s.bist with sliceRun := true } } := by
  show execMemSliceTest s = _
  rw [execMemSliceTest, if_neg (by simp [alive_of_run hc, hrun]), if_pos (by simp [hreq])]

/-! ## The end of a slice (R422, R426, R432) -/

/-- The place of the scheduled pass after memory m and slice i (R426). -/
def placeAfter (b : Bist) : Nat × Nat :=
  if b.slice + 1 < b.cfg.memSlices.getD b.memNo 0 then (b.memNo, b.slice + 1)
  else if b.memNo + 1 < b.cfg.memSlices.length then (b.memNo + 1, 0) else (0, 0)
/-- The pass moves on: beside its place only the count of full passes may change. -/
theorem nextSlice_eq (s : State) : ∃ passes, nextSlice s =
    { s with bist := { s.bist with memNo := (placeAfter s.bist).1, slice := (placeAfter s.bist).2, passes } } := by
  unfold nextSlice placeAfter
  dsimp only
  split
  · exact ⟨_, rfl⟩
  · split <;> exact ⟨_, rfl⟩
/-- Since READY the result of a test is shown, and a failure is seen (R422). -/
theorem setResult_ready {s : State} (hr : s.su.readyEver = true) (pass req : Bool) (cls step unit : Nat) :
    setResult s pass req cls step unit = { s with bist := { s.bist with
      result := bistWord pass false req cls step unit, failSeen := s.bist.failSeen || !pass } } := if_pos (by simp [sinceReady, hr])
/-- The slice under test is written back, and its failure acted on, before the pass counts it. -/
def sliceEnded (s : State) (one two : Bool) : State :=
  let s0 := { s with bist := { s.bist with sliceRun := false } }
  if one || two then sliceFail s0 s.bist.memNo s.bist.slice two else s0
theorem exec_memSliceDone_scheduled {s : State} (hrun : s.bist.sliceRun = true) (hreq : memReq s = none) (one two : Bool) :
    exec (.memSliceDone one two) s = .next (nextSlice (setResult (countDone (sliceEnded s one two) (!one && !two)) (!one && !two) false 1
      (b2n (one || two)) (sliceNo s s.bist.memNo s.bist.slice))) := by
  show execMemSliceDone one two s = _
  rw [execMemSliceDone, if_neg (by simp [hrun])]
  simp only [curSlice, hreq]
  cases one <;> cases two <;> rfl
/-- A failing slice moves its count, and the Snag unit with its report; in memory 2 the unit is the slice's zone (R432, assumption 47). -/
theorem sliceFail_spec {s : State} (hr : s.su.readyEver = true) (m i : Nat) (two : Bool) :
    (sliceFail s m i two).bist = { s.bist with fails := min 255 (s.bist.fails + 1) } ∧
    Reported (sliceFail s m i two) 0x61 (if m = 2 then i else 0) (if !two then .degrade else if m = 2 then .zoneSafe else .instSafe)
      s.tb.count ∧
    { sliceFail s m i two with bist := s.bist, snag := s.snag } = s :=
  ⟨congrArg (fun n => { s.bist with fails := n }) (if_pos hr), report_mem_inbox .., rfl⟩

/-- What the count, the result and the move of the pass leave of a slice that ended since READY (R422, R426). -/
theorem sliceCounted_eq {s : State} (hr : s.su.readyEver = true) (pass : Bool) (step unit : Nat) : ∃ b,
    nextSlice (setResult (countDone s pass) pass false 1 step unit) = { s with bist := b } ∧ b.sliceRun = s.bist.sliceRun ∧
    b.done = min 0xFFFF (s.bist.done + 1) ∧ b.failed = (if pass then s.bist.failed else min 255 (s.bist.failed + 1)) ∧
    b.failSeen = (s.bist.failSeen || !pass) ∧ b.fails = s.bist.fails ∧ (b.memNo, b.slice) = placeAfter s.bist := by
  rw [setResult_ready (s := countDone s pass) (by rw [countDone_ready hr]; exact hr), countDone_ready hr]
  obtain ⟨p, hp⟩ := nextSlice_eq { s with bist := { s.bist with
    done := min 0xFFFF (s.bist.done + 1), failed := if pass then s.bist.failed else min 255 (s.bist.failed + 1)
    result := bistWord pass false false 1 step unit, failSeen := s.bist.failSeen || !pass } }
  exact ⟨_, hp, rfl, rfl, rfl, rfl, rfl, rfl⟩

/-- Settles O32: a slice's start by its equations; its end by the counts and the place of the pass, and a failure by its report. -/
theorem memorySliceTests : Obligations.MemorySliceTests := by
  unfold Obligations.MemorySliceTests
  refine ⟨fun s hc hrun hreq hr hdue => exec_memSliceTest_scheduled hc hrun hreq hr hdue,
    fun m s hc hrun hreq => exec_memSliceTest_requested hc hrun hreq, fun s hrun hreq hr => ?pass, fun one two s hrun hreq hr hbad => ?fail⟩
  case pass =>
    obtain ⟨b, hb, hover, hdone, hfailed, -, hfails, hplace⟩ := sliceCounted_eq (s := { s with bist := { s.bist with sliceRun := false } })
      hr true 0 (sliceNo s s.bist.memNo s.bist.slice)
    exact ⟨_, (exec_memSliceDone_scheduled hrun hreq false false).trans (congrArg _ hb), hover, hdone, hfailed, hfails, hplace, rfl⟩
  case fail =>
    have hpass : (!one && !two) = false := by rw [← Bool.not_or, hbad]; rfl
    have hexec := exec_memSliceDone_scheduled hrun hreq one two
    rw [hpass, sliceEnded, if_pos hbad] at hexec
    obtain ⟨hfails, hrep, hframe⟩ := sliceFail_spec (s := { s with bist := { s.bist with sliceRun := false } }) hr s.bist.memNo s.bist.slice two
    obtain ⟨b, hb, hover, -, hfailed, hseen, hsame, -⟩ := sliceCounted_eq
      (s := sliceFail { s with bist := { s.bist with sliceRun := false } } s.bist.memNo s.bist.slice two)
      ((congrArg (fun x : State => x.su.readyEver) hframe :).trans hr) false (b2n (one || two)) (sliceNo s s.bist.memNo s.bist.slice)
    rw [hfails] at hover hfailed hseen hsame
    obtain ⟨r, hmem, hcode, hunit, hcls, hstamp⟩ := hrep
    exact ⟨_, hexec.trans (congrArg _ hb), hover, hseen.trans (Bool.or_true _), hsame, hfailed, ⟨r, hmem, hcode, hstamp, hunit, hcls⟩,
      (congrArg (fun x : State => { x with bist := s.bist }) hframe :)⟩

end Sys2Proof.Machine
end

section
/-!
The caps of the driver and of the board (17 R443): one field of CAP_SW written over PMBus, and a field read back. The statement O57.
-/
namespace Sys2Proof.Machine

/-! ## Writes (R305, R443) -/

/-- A write of CAP_SW changes the fields it names, saturated, and its stamp; what is in force stays. -/
theorem setCapSw_fields (s : State) (p e : Option Nat) : ∃ g a b, setCapSw s p e = { s with snag := g, caps := { s.caps with
    swPowerIn := a, swEnergyIn := b, swPower := capField s.caps.cfg s.caps.swPower p, swEnergy := capField s.caps.cfg s.caps.swEnergy e
    swAt := some s.tb.count } } := by
  by_cases hsat : (capSaturates s.caps.cfg p || capSaturates s.caps.cfg e) = true
  · exact ⟨(note s 0x01 0).snag, _, _, by unfold setCapSw; simp only [if_pos hsat]; rfl⟩
  · exact ⟨s.snag, _, _, by unfold setCapSw; simp only [if_neg hsat]; rfl⟩

section
variable {s : State} {w : Nat} (h : pmbWrites s = true) (hwp : s.pmb.wp = 0) (hw : w < 65536)
include h hwp hw

theorem exec_mfrPowerCap_served : exec (.mfrPowerCap (some w)) s = .next (setCapSw (pmbAck s true) (some w) none) := by
  refine (pmbWrite_served h _).trans ?_
  rw [if_pos (by simp [wpOther, pmbAck, hwp]), Nat.mod_eq_of_lt hw]
theorem exec_mfrEnergyCap_served : exec (.mfrEnergyCap (some w)) s = .next (setCapSw (pmbAck s true) none (some w)) := by
  refine (pmbWrite_served h _).trans ?_
  rw [if_pos (by simp [wpOther, pmbAck, hwp]), Nat.mod_eq_of_lt hw]
end

/-- A word of two 16-bit fields keeps them apart. -/
theorem toNat_ofNat_two_halves {p e : Nat} (hp : p < 65536) (he : e < 65536) :
    (BitVec.ofNat 32 (p + 65536 * e)).toNat % 2 ^ 16 = p ∧ (BitVec.ofNat 32 (p + 65536 * e)).toNat / 2 ^ 16 = e := by
  rw [BitVec.toNat_ofNat]
  omega
/-- The write that waits takes effect at a boundary strictly after its stamp (R305). -/
theorem Caps.swDue_later {c : Caps} {a b : Nat} (ha : c.swAt = some a) (hlt : a < b) :
    c.swDue b = { c with swPowerIn := c.swPower, swEnergyIn := c.swEnergy, swAt := none } := by
  simp only [Caps.swDue, ha, if_pos hlt]
theorem Caps.swDue_not_later {c : Caps} {a b : Nat} (ha : c.swAt = some a) (hle : b ≤ a) : c.swDue b = c := by
  simp only [Caps.swDue, ha, if_neg (Nat.not_lt.2 hle)]

/-! ## Reads (R443) -/

/-- CAP_SW reads back its two fields, each of 16 bits. -/
theorem regValue_capSw {s : State} (hr : s.su.readyEver = true) :
    fld (regValue s 0x8004) 0 16 = s.caps.swPower % 65536 ∧ fld (regValue s 0x8004) 16 16 = s.caps.swEnergy % 65536 := by
  have hpeek : regPeek s 0x8004 = some (word [(s.caps.swPower, 0, 16), (s.caps.swEnergy, 16, 16)]) := rfl
  rw [regValue, if_pos (regOpen_of_ready hr _), hpeek, Option.getD_some, fld_zero_sixteen, fld_sixteen_sixteen, word, BitVec.toNat_ofNat]
  simp only [fields_cons, fields_nil]
  omega

/-- Settles O57: a write by the fields it names, and a read by the word of CAP_SW. -/
theorem powerAndEnergyCapsKeepTheOtherField : Obligations.PowerAndEnergyCapsKeepTheOtherField := by
  unfold Obligations.PowerAndEnergyCapsKeepTheOtherField
  refine ⟨fun w s h hwp hw => ⟨_, exec_mfrPowerCap_served h hwp hw, ?power⟩, fun w s h hwp hw => ⟨_, exec_mfrEnergyCap_served h hwp hw, ?energy⟩,
    fun p e s hc hr hp he => ⟨_, exec_capSwWrite ((alive_iff s).2 hc) hr _, ?both⟩,
    fun c a b ha => ⟨fun hlt => ?later, Caps.swDue_not_later ha⟩, fun s h hr hlt => ⟨_, pmbRead_served h _, ?readPower, rfl⟩,
    fun s h hr hlt => ⟨_, pmbRead_served h _, ?readEnergy, rfl⟩⟩
  case power =>
    obtain ⟨g, a, b, heq⟩ := setCapSw_fields (pmbAck s true) (some w) none
    rw [heq]
    exact ⟨rfl, rfl, rfl, rfl, rfl, rfl⟩
  case energy =>
    obtain ⟨g, a, b, heq⟩ := setCapSw_fields (pmbAck s true) none (some w)
    rw [heq]
    exact ⟨rfl, rfl, rfl, rfl, rfl, rfl⟩
  case both =>
    obtain ⟨hlow, hhigh⟩ := toNat_ofNat_two_halves hp he
    rw [hlow, hhigh]
    obtain ⟨g, a, b, heq⟩ := setCapSw_eq s p e
    rw [heq]
    exact ⟨rfl, rfl, rfl⟩
  case later =>
    rw [Caps.swDue_later ha hlt]
    exact ⟨rfl, rfl, rfl⟩
  case readPower => exact congrArg (leBytes 2) ((regValue_capSw hr).1.trans (Nat.mod_eq_of_lt hlt))
  case readEnergy => exact congrArg (leBytes 2) ((regValue_capSw hr).2.trans (Nat.mod_eq_of_lt hlt))

end Sys2Proof.Machine
end

section
/-!
The recovery of a held pair (15_faults_and_snag_unit.md R403 to R408): when it may recover, and what its recovery leaves of the pairs, the
recovery counters and the zones.
-/
namespace Sys2Proof.Machine

/-! ## The pairs held -/

theorem heldOf_spec {s : State} {c u : Nat} {h : Held} (hh : heldOf s c u = some h) : h.code = c ∧ h.unit = u := by
  simpa using List.find?_some hh
section
variable {s t : State} {c u : Nat} (ht : t.snag.held = s.snag.held.filter fun x => !(x.code = c && x.unit = u))
include ht

/-- Of the pairs less one, that one is no longer held. -/
theorem isHeld_less_self : isHeld t c u = false := by
  rw [isHeld, ht, List.any_filter, List.any_eq_false]
  simp only [Bool.and_eq_true, Bool.not_eq_true', Bool.and_eq_false_iff, decide_eq_true_eq, decide_eq_false_iff_not]
  exact fun x _ => by omega
/-- Of the pairs less one, every other is held as before. -/
theorem isHeld_less_other {c2 u2 : Nat} (hne : c2 ≠ c ∨ u2 ≠ u) : isHeld t c2 u2 = isHeld s c2 u2 := by
  rw [isHeld, isHeld, ht, List.any_filter]
  refine congrArg s.snag.held.any (funext fun x => Bool.eq_iff_iff.2 ?_)
  simp only [Bool.and_eq_true, Bool.not_eq_true', Bool.and_eq_false_iff, decide_eq_true_eq, decide_eq_false_iff_not]
  omega
end

/-! ## When a pair recovers (R404, R405) -/

theorem exec_faultRecovery {s : State} {c u : Nat} {h : Held} (hh : heldOf s c u = some h) :
    exec (.faultRecovery c u) s = .next (if alive s && recovers s h then recoverPair s h else s) := by
  show execFaultRecovery c u s = _
  simp only [execFaultRecovery, hh]
  exact (apply_ite Host.Outcome.next _ _ _).symm
/-- A latched pair, a HALT, a pair raised before READY, one still asserted and one inside its quiet time do not recover. -/
theorem recovers_eq_false {s : State} {h : Held} (hno : h.latched = true ∨ h.cls = .halt ∨ h.preReady = true ∨
    (h.code, h.unit) ∈ s.snag.conds ∨ s.tb.count < h.l + quietOf s.snag.cfg h.cls) : recovers s h = false := by
  rw [Bool.eq_false_iff]
  intro hrec
  simp only [recovers, stillAsserted, now, Bool.and_eq_true, Bool.not_eq_true', decide_eq_true_eq, Bool.or_eq_false_iff] at hrec
  obtain ⟨⟨⟨⟨⟨hpre, hcls⟩, hlatch⟩, -⟩, ⟨hcond, -⟩, -⟩, hquiet⟩ := hrec
  rcases hno with h' | h' | h' | h' | h'
  · simp [h'] at hlatch
  · exact hcls h'
  · simp [h'] at hpre
  · simp [h'] at hcond
  · exact Nat.not_le.2 h' (of_decide_eq_true hquiet)

/-! ## What a recovery leaves (R403, R404, R408) -/

theorem ramLog_recov (s : State) (e : LogEnt) : (ramLog s e).snag.recov = s.snag.recov := by
  unfold ramLog; split <;> rfl
theorem foldOne_recov (s : State) : (foldOne s).snag.recov = s.snag.recov := by
  unfold foldOne; dsimp only; split <;> rfl
theorem logFh_recov (s : State) (r : FhRec) : (logFh s r).snag.recov = s.snag.recov := by
  unfold logFh
  split
  · rfl
  · dsimp only
    split
    · exact foldOne_recov _
    · rfl
/-- The pair is no longer held, and its recovery is counted and stamped. -/
def pairRecovered (s : State) (h : Held) : State :=
  let stamps := match s.snag.recLog.find? fun x => x.1 = h.code && x.2.1 = h.unit with
    | some x => x.2.2
    | none => []
  { s with snag := { s.snag with
    held := s.snag.held.filter fun x => !(x.code = h.code && x.unit = h.unit)
    recov := s.snag.recov.modify h.code (satInc 0xFFFF)
    recLog := (h.code, h.unit, (now s :: stamps).take 8) :: s.snag.recLog.filter fun x => !(x.1 = h.code && x.2.1 = h.unit) } }
/-- The recovery with its log entries, before its action ends. -/
def recoveryLogged (s : State) (h : Held) : State := logBoth (pairRecovered s h) h.code h.unit h.cls h.forced false true (now s) 0
theorem recoverPair_eq (s : State) (h : Held) : recoverPair s h =
    if h.cls = .zoneSafe || h.cls = .instSafe then releaseZones (recoveryLogged s h) else recoveryLogged s h := rfl
theorem recoveryLogged_logsOnly (s : State) (h : Held) : LogsOnly (pairRecovered s h) (recoveryLogged s h) := logBoth_logsOnly ..
theorem recoveryLogged_recov (s : State) (h : Held) : (recoveryLogged s h).snag.recov = s.snag.recov.modify h.code (satInc 0xFFFF) :=
  (logFh_recov _ _).trans (ramLog_recov _ _)
/-- A release moves the zones alone (R403). -/
theorem releaseZones_frame (s : State) : { releaseZones s with zones := s.zones } = s := by
  unfold releaseZones; split <;> rfl
theorem zoneD_mapZones {s : State} {z : Nat} (hz : z < s.zones.length) (f : Nat → Zone → Zone) :
    zoneD (mapZones s f) z = f z (zoneD s z) := by
  simp [zoneD, mapZones, List.getD_eq_getElem?_getD, hz]
/-- A zone that no pair keeps in SAFE is released (R403). -/
theorem releaseZones_releases {s : State} {z : Nat} (hz : z < s.zones.length) (hi : instSafeHeld s = false) (hh : halted s = false)
    (hzs : zoneSafeHeld s z = false) : (zoneD (releaseZones s) z).snagSafe = false := by
  rw [releaseZones, if_neg (by simp [hi, hh]), zoneD_mapZones hz, if_neg (by simp [hzs])]
/-- Beyond the zones, a recovery leaves what its log entries leave. -/
theorem recoverPair_frame (s : State) (h : Held) : { recoverPair s h with zones := s.zones } = { recoveryLogged s h with zones := s.zones } := by
  rw [recoverPair_eq]
  split
  · exact (congrArg (fun x : State => { x with zones := s.zones }) (releaseZones_frame (recoveryLogged s h)) :)
  · rfl
/-- The recovery of a pair, clause by clause (R404, R408). -/
theorem recoverPair_spec {s : State} {h : Held} (hlen : h.code < s.snag.recov.length) :
    (recoverPair s h).snag.held = (s.snag.held.filter fun x => !(x.code = h.code && x.unit = h.unit)) ∧
    (recoverPair s h).snag.recov.getD h.code 0 = satInc 0xFFFF (s.snag.recov.getD h.code 0) ∧
    (recoverPair s h).pins = s.pins ∧ (recoverPair s h).su = s.su ∧ (recoverPair s h).msf = s.msf := by
  have hsnag : (recoverPair s h).snag = (recoveryLogged s h).snag := (congrArg State.snag (recoverPair_frame s h) :)
  have hlogs := recoveryLogged_logsOnly s h
  have hrest {β : Type} (f : State → β) := congrArg f ((congrArg (fun x : State => { x with snag := s.snag, nvm := s.nvm, pmb := s.pmb })
    (recoverPair_frame s h) :).trans (congrArg (fun x : State => { x with snag := s.snag, zones := s.zones }) hlogs.frame :))
  refine ⟨hsnag ▸ hlogs.held, ?_, (hrest State.pins :), (hrest State.su :), (hrest State.msf :)⟩
  rw [hsnag, recoveryLogged_recov, getD_modify_same hlen]
/-- A recovery of DEGRADE leaves the zones; one of ZONE-SAFE or INSTANCE-SAFE releases those that no pair keeps in SAFE (R403). -/
theorem recoverPair_zones_of_degrade {s : State} {h : Held} (hcls : h.cls = .degrade) : (recoverPair s h).zones = s.zones := by
  rw [recoverPair_eq, if_neg (by simp [hcls])]
  exact (congrArg State.zones (recoveryLogged_logsOnly s h).frame :)
theorem recoverPair_releases {s : State} {h : Held} (hcls : h.cls = .zoneSafe ∨ h.cls = .instSafe) (hi : instSafeHeld (recoverPair s h) = false)
    (hh : halted s = false) {z : Nat} (hz : z < s.zones.length) (hzs : zoneSafeHeld (recoverPair s h) z = false) :
    (zoneD (recoverPair s h) z).snagSafe = false := by
  have hsnag : (recoverPair s h).snag = (recoveryLogged s h).snag := (congrArg State.snag (recoverPair_frame s h) :)
  have hlogs := recoveryLogged_logsOnly s h
  have hzones : (recoveryLogged s h).zones = s.zones := (congrArg State.zones hlogs.frame :)
  rw [instSafeHeld, hsnag] at hi
  rw [zoneSafeHeld, hsnag] at hzs
  rw [recoverPair_eq, if_pos (by simpa using hcls)]
  exact releaseZones_releases (hzones ▸ hz) hi ((congrArg Option.isSome hlogs.haltAt :).trans hh) hzs

end Sys2Proof.Machine
end

section
/-!
The orderly power-down (15_faults_and_snag_unit.md R409): the zones of a stage enter OFF together, then the MSF turns off.
-/
namespace Sys2Proof.Machine

/-! ## One zone (R139, R409) -/

theorem zoneD_modZone_other {j z : Nat} (h : j ≠ z) (s : State) (f : Zone → Zone) : zoneD (modZone s z f) j = zoneD s j :=
  getD_modify_other _ h _ _
theorem zoneD_abandonTests_other {j z : Nat} (h : j ≠ z) (s : State) : zoneD (abandonTests s z) j = zoneD s j := by
  refine foldl_keeps (g := fun s => zoneD s j) (fun s t => ?_) _ s
  show zoneD (abandonTile s z t) j = zoneD s j
  unfold abandonTile
  split
  · split
    · rfl
    · exact zoneD_modZone_other h s _
  · rfl
/-- An action that stops a zone leaves the others. -/
theorem zoneD_zoneStop_other {j z : Nat} (h : j ≠ z) (s : State) (f : Zone → Zone) : zoneD (zoneStop s z f) j = zoneD s j := by
  obtain ⟨zn, s2, hstop, hzones⟩ := zoneStop_eq s z f
  calc zoneD (zoneStop s z f) j = zoneD s2 j := by rw [hstop, updStretch, zoneD_modZone_other h]
    _ = zoneD (modZone (abandonTests s z) z fun _ => f zn.dropAll) j := by rw [zoneD, hzones]; rfl
    _ = zoneD s j := by rw [zoneD_modZone_other h, zoneD_abandonTests_other h]
theorem zoneToOff_of_zone {s : State} {z : Nat} (hz : z < s.zones.length) :
    zoneToOff s z = zoneStop s z fun zn => { zn with st := .off, halted := true, safeDue := false } := if_pos (by simp [hasZone, hz])
theorem zoneToOff_of_not_lt {s : State} {z : Nat} (hz : ¬z < s.zones.length) : zoneToOff s z = s := if_neg (by simpa [hasZone] using hz)
theorem zoneToOff_offFloat (s : State) (z : Nat) : offFloat (zoneToOff s z) = offFloat s := by
  simp only [zoneToOff, apply_ite offFloat, zoneStop_offFloat, ite_self]
theorem length_zoneToOff (s : State) (z : Nat) : (zoneToOff s z).zones.length = s.zones.length :=
  congrArg OffFloat.nzones (zoneToOff_offFloat s z)
theorem zoneD_zoneToOff_other {j z : Nat} (h : j ≠ z) (s : State) : zoneD (zoneToOff s z) j = zoneD s j := by
  by_cases hz : z < s.zones.length
  · rw [zoneToOff_of_zone hz, zoneD_zoneStop_other h]
  · rw [zoneToOff_of_not_lt hz]
/-- Zone j, where there is one, is in OFF for good. -/
def haltedOff (s : State) (j : Nat) : Prop := j < s.zones.length → (zoneD s j).st = .off ∧ (zoneD s j).halted = true
theorem zoneToOff_haltedOff (s : State) (z : Nat) : haltedOff (zoneToOff s z) z := by
  intro hz
  rw [length_zoneToOff] at hz
  rw [zoneToOff_of_zone hz]
  obtain ⟨zn, sft, heq⟩ := zoneD_zoneStop hz fun zn => { zn with st := .off, halted := true, safeDue := false }
  rw [heq]
  exact ⟨rfl, rfl⟩
theorem zoneToOff_keeps_haltedOff (s : State) (z j : Nat) (h : haltedOff s j) : haltedOff (zoneToOff s z) j := by
  by_cases hj : j = z
  · rw [hj]; exact zoneToOff_haltedOff s z
  · intro hz
    rw [zoneD_zoneToOff_other hj]
    exact h (length_zoneToOff s z ▸ hz)

/-! ## A stage, and the MSF (R409) -/

/-- The zones of stage g enter OFF. -/
def stageToOff (s : State) (g : Nat) : State := ((List.range s.zones.length).filter fun z => (zoneD s z).cfg.stage = g).foldl zoneToOff s
theorem exec_haltStageOff {s : State} {h : Nat} (hh : s.snag.haltAt = some h) (hj : s.snag.haltStep < (stagesOf s).length)
    (hdue : h + 100000 + 500000 * s.snag.haltStep ≤ s.tb.count) : exec .haltStageOff s =
      let t := stageToOff s ((stagesOf s).reverse.getD s.snag.haltStep 0)
      .next { t with snag := { t.snag with haltStep := s.snag.haltStep + 1 } } := by
  have hdue : h + 100000 + 500000 * s.snag.haltStep ≤ now s := hdue
  show execHaltStageOff s = _
  simp only [execHaltStageOff, hh]
  exact if_pos (by simp [hj, hdue])
theorem stageToOff_offFloat (s : State) (g : Nat) : offFloat (stageToOff s g) = offFloat s := foldl_offFloat _ zoneToOff_offFloat _ s
/-- The zones of the stage are in OFF, the others as before. -/
theorem stageToOff_stage {s : State} {g z : Nat} (hz : z < s.zones.length) (hg : (zoneD s z).cfg.stage = g) :
    (zoneD (stageToOff s g) z).st = .off ∧ (zoneD (stageToOff s g) z).halted = true := by
  have hlen : (stageToOff s g).zones.length = s.zones.length := congrArg OffFloat.nzones (stageToOff_offFloat s g)
  exact foldl_reaches zoneToOff_haltedOff zoneToOff_keeps_haltedOff _ s z (.inl (by simp [hz, hg])) (hz.trans_eq hlen.symm)
theorem zoneD_stageToOff_other {s : State} {g z : Nat} (hg : (zoneD s z).cfg.stage ≠ g) : zoneD (stageToOff s g) z = zoneD s z := by
  have hout : z ∉ (List.range s.zones.length).filter fun z => (zoneD s z).cfg.stage = g := by simp [hg]
  unfold stageToOff
  generalize (List.range s.zones.length).filter _ = zs at hout
  clear hg
  induction zs generalizing s with
  | nil => rfl
  | cons y ys ih =>
    rw [List.mem_cons, not_or] at hout
    obtain ⟨hy, hys⟩ := hout
    exact (ih hys).trans (zoneD_zoneToOff_other hy s)
theorem exec_haltMsfOff {s : State} {h : Nat} (hh : s.snag.haltAt = some h) (hm : s.snag.haltMsf = false)
    (hj : (stagesOf s).length ≤ s.snag.haltStep) (hdue : h + 100000 + 500000 * (stagesOf s).length ≤ s.tb.count) : exec .haltMsfOff s =
      .next (pgLow { s with msf := s.msf.stopTo .off s.tb.count, snag := { s.snag with haltMsf := true } }) := by
  have hdue : h + 100000 + 500000 * (stagesOf s).length ≤ now s := hdue
  show execHaltMsfOff s = _
  simp only [execHaltMsfOff, hh]
  exact if_pos (by simp [hm, hj, hdue])

end Sys2Proof.Machine
end

section
/-!
The force bits (15_faults_and_snag_unit.md R411): what a write of SNG_FORCE clears, what it sets, and what neither touches.
-/
namespace Sys2Proof.Machine

/-! ## Force bits cleared -/

/-- The state less all of the Snag unit but the unit that a force bit takes. -/
def offForce (s : State) : State := { s with snag := { State.reset.snag with forceUnit := s.snag.forceUnit } }
theorem eq_of_offForce {s t : State} (h : offForce t = offForce s) :
    { t with snag := s.snag } = s ∧ t.snag.forceUnit = s.snag.forceUnit ∧ t.tb.count = s.tb.count :=
  ⟨(congrArg (fun x : State => { x with snag := s.snag }) h :), (congrArg (fun x : State => x.snag.forceUnit) h :),
    (congrArg (fun x : State => x.tb.count) h :)⟩
theorem forceClear_offForce (s : State) (code : Nat) : offForce (forceClear s code) = offForce s := by
  unfold forceClear; split <;> rfl
theorem forceClear_forced (s : State) (code : Nat) : (forceClear s code).snag.forced = s.snag.forced.filter fun x => x.1 ≠ code := by
  unfold forceClear
  split
  · next h => exact (List.filter_eq_self.2 fun x hx => by simpa using List.find?_eq_none.1 h x hx).symm
  · rfl
/-- Bit i of word k stays where w sets it, and is cleared elsewhere. -/
def clearForce (k : Nat) (w : W32) (s : State) (i : Nat) : State := if w.getLsbD i then s else forceClear s (32 * k + i)
/-- The force bits of word k that read 0 in w are cleared. -/
def clearForces (k : Nat) (w : W32) (s : State) : State := (List.range 32).foldl (clearForce k w) s
theorem clearForces_offForce (k : Nat) (w : W32) (s : State) : offForce (clearForces k w s) = offForce s :=
  foldl_keeps (fun s i => by simp only [clearForce, apply_ite offForce, forceClear_offForce, ite_self]) _ s
theorem mem_clearForce {k i : Nat} {w : W32} {s : State} {f : Nat × Nat} (h : f ∈ (clearForce k w s i).snag.forced) :
    f ∈ s.snag.forced ∧ (w.getLsbD i = false → f.1 ≠ 32 * k + i) := by
  by_cases hi : w.getLsbD i = true
  · rw [clearForce, if_pos hi] at h
    exact ⟨h, fun h0 => absurd (hi.symm.trans h0) (by decide)⟩
  · rw [clearForce, if_neg hi, forceClear_forced, List.mem_filter, decide_eq_true_eq] at h
    exact ⟨h.1, fun _ => h.2⟩
/-- Clears bring no force bit about, and remove those they name. -/
theorem mem_foldl_clearForce {k : Nat} {w : W32} {l : List Nat} {s : State} {f : Nat × Nat}
    (h : f ∈ (l.foldl (clearForce k w) s).snag.forced) : f ∈ s.snag.forced ∧ ∀ i ∈ l, w.getLsbD i = false → f.1 ≠ 32 * k + i := by
  induction l generalizing s with
  | nil => exact ⟨h, by simp⟩
  | cons j js ih =>
    obtain ⟨hmem, hrest⟩ := ih h
    obtain ⟨hold, hj⟩ := mem_clearForce hmem
    exact ⟨hold, List.forall_mem_cons.2 ⟨hj, hrest⟩⟩
theorem mem_clearForces {k : Nat} {w : W32} {s : State} {f : Nat × Nat} (h : f ∈ (clearForces k w s).snag.forced) :
    f ∈ s.snag.forced ∧ ∀ i < 32, w.getLsbD i = false → f.1 ≠ 32 * k + i := by
  simpa only [List.mem_range] using mem_foldl_clearForce h

/-! ## Force bits set -/

/-- The report of a forced source. -/
def forceRep (s : State) (code : Nat) (cls : Cls) : FaultRep :=
  { stamp := now s, code, unit := s.snag.forceUnit, cls, forced := true, l := now s, latch := code = 0x44
    detail := Config.faultDetail code s.snag.forceUnit (now s) }
/-- A source forced: its bit and the unit it takes, and its report (R411). -/
def forcedWith (s : State) (code : Nat) (cls : Cls) : State :=
  { s with snag := { s.snag with forced := (code, s.snag.forceUnit) :: s.snag.forced, inbox := insRep (forceRep s code cls) s.snag.inbox } }
theorem forceSet_new {s : State} {code : Nat} {cls : Cls} (hc : baseCls code = some cls) (hnew : ∀ f ∈ s.snag.forced, f.1 ≠ code) :
    forceSet s code = forcedWith s code cls := by
  simp only [forceSet, hc]
  exact if_neg (by simpa using fun u hu => hnew (code, u) hu rfl)
theorem forceSet_eq (s : State) (code : Nat) : forceSet s code = s ∨ ∃ cls, forceSet s code = forcedWith s code cls := by
  unfold forceSet
  split
  · exact .inl rfl
  · split
    · exact .inl rfl
    · exact .inr ⟨_, rfl⟩
theorem forceSet_offForce (s : State) (code : Nat) : offForce (forceSet s code) = offForce s := by
  rcases forceSet_eq s code with h | ⟨cls, h⟩
  · rw [h]
  · rw [h]; rfl
/-- The force bits of word k that read 1 in w are set. -/
def setForces (k : Nat) (w : W32) (s : State) : State := (setBits w.toNat 32).foldl (fun s i => forceSet s (32 * k + i)) s
theorem setForces_offForce (k : Nat) (w : W32) (s : State) : offForce (setForces k w s) = offForce s :=
  foldl_keeps (fun s _ => forceSet_offForce s _) _ s
/-- A force bit is set for unit u, and its report is on its way. -/
def Forced (s : State) (code u : Nat) (cls : Cls) (k : Nat) : Prop :=
  (code, u) ∈ s.snag.forced ∧ ∃ r ∈ s.snag.inbox, r.code = code ∧ r.unit = u ∧ r.cls = cls ∧ r.forced = true ∧ r.stamp = k
theorem Forced.after_forceSet {s : State} {code u k : Nat} {cls : Cls} (h : Forced s code u cls k) (code' : Nat) :
    Forced (forceSet s code') code u cls k := by
  obtain ⟨hf, r, hr, hrest⟩ := h
  rcases forceSet_eq s code' with h | ⟨cls', h⟩ <;> rw [h]
  · exact ⟨hf, r, hr, hrest⟩
  · exact ⟨List.mem_cons_of_mem _ hf, r, mem_insRep_of_mem _ _ _ hr, hrest⟩
theorem Forced.after_forceSets {s : State} {code u k : Nat} {cls : Cls} (h : Forced s code u cls k) (n : Nat) (l : List Nat) :
    Forced (l.foldl (fun s i => forceSet s (32 * n + i)) s) code u cls k := by
  induction l generalizing s with
  | nil => exact h
  | cons i l ih => exact ih (h.after_forceSet _)
/-- A force bit that was clear and is among those set asserts its source (R411). -/
theorem forced_setForces {k i : Nat} {w : W32} {s : State} {cls : Cls} (hi : i < 32) (hw : w.getLsbD i = true)
    (hc : baseCls (32 * k + i) = some cls) (hnew : ∀ f ∈ s.snag.forced, f.1 ≠ 32 * k + i) :
    Forced (setForces k w s) (32 * k + i) s.snag.forceUnit cls s.tb.count := by
  have hmem : i ∈ setBits w.toNat 32 := List.mem_filter.2 ⟨List.mem_range.2 hi, hw⟩
  unfold setForces
  generalize setBits w.toNat 32 = l at hmem
  induction l generalizing s with
  | nil => simp at hmem
  | cons j js ih =>
    rw [List.foldl_cons]
    by_cases hj : j = i
    · rw [hj, forceSet_new hc hnew]
      have hset : Forced (forcedWith s (32 * k + i) cls) (32 * k + i) s.snag.forceUnit cls s.tb.count :=
        ⟨List.mem_cons_self, _, mem_insRep _ _, rfl, rfl, rfl, rfl, rfl⟩
      exact hset.after_forceSets k js
    · obtain ⟨-, hunit, hcount⟩ := eq_of_offForce (forceSet_offForce s (32 * k + j))
      rw [← hunit, ← hcount]
      refine ih (fun f hf => ?_) (List.mem_of_ne_of_mem (Ne.symm hj) hmem)
      rcases forceSet_eq s (32 * k + j) with h | ⟨cls', h⟩ <;> rw [h] at hf
      · exact hnew f hf
      · rcases List.mem_cons.1 hf with rfl | hf
        · show 32 * k + j ≠ 32 * k + i; omega
        · exact hnew f hf

/-! ## SNG_FORCE_WRITE (R411) -/

theorem exec_sngForceWrite {k : Nat} {s : State} (hc : s.su.cond = .run ∨ s.su.cond = .safe) (hr : s.su.readyEver = true) (hk : k < 8)
    (w : W32) : exec (.sngForceWrite k w) s = .next (if w = 0 then clearForces k w s
      else if injectPermitted s then setForces k w (clearForces k w s) else note (clearForces k w s) 0x01 0) := by
  show execSngForceWrite k w s = _
  rw [execSngForceWrite, if_neg (by simp [(alive_iff s).2 hc, sinceReady, hr, hk]), apply_ite Host.Outcome.next, apply_ite Host.Outcome.next]
  rfl

end Sys2Proof.Machine
end

section
/-!
ALIVE, snapshots, log reads and the periods of 24 h (15_faults_and_snag_unit.md R410, R412, R414, R415), and the statement O51.
-/
namespace Sys2Proof.Machine

/-! ## ALIVE, the HALT command and snapshots (R409, R410, R414) -/

theorem exec_aliveToggle {s : State} (hr : s.pins.ready = true) (hi : instSafeOrWorse s = false)
    (hdone : ((s.caps.taskDone.take 4).any id) = true) (hk : s.tb.count % (1000 * max 1 s.snag.cfg.aliveHalf) = 0) :
    exec .aliveToggle s = .next { s with pins := { s.pins with alive := !s.pins.alive } } := by
  have hk : now s % (1000 * max 1 s.snag.cfg.aliveHalf) = 0 := hk
  show execAliveToggle s = _
  rw [execAliveToggle, if_pos (by simp [aliveRuns, ready, hr, hi, hdone, hk])]
theorem exec_aliveToggle_still {s : State} (h : s.pins.ready = false ∨ instSafeOrWorse s = true) : exec .aliveToggle s = .next s := by
  have hruns : aliveRuns s = false := by rcases h with h | h <;> simp [aliveRuns, ready, h]
  show execAliveToggle s = _
  rw [execAliveToggle, if_neg (by simp [hruns])]

section
variable {s : State} (hc : s.su.cond = .run ∨ s.su.cond = .safe) (hr : s.su.readyEver = true)
include hc hr

theorem exec_sngCmdHalt (c : Nat) :
    exec (.sngCmdHalt c) s = .next (if c = 0x5A then report s 0x02 0 .halt else note s 0x01 0) := by
  show execSngCmdHalt c s = _
  rw [execSngCmdHalt, if_neg (by simp [(alive_iff s).2 hc, sinceReady, hr]), apply_ite Host.Outcome.next]
theorem exec_sngCmdSnapshot : exec .sngCmdSnapshot s = .next (takeSnapshot s) :=
  if_pos (by simp [(alive_iff s).2 hc, sinceReady, hr])
theorem exec_snapshotTimer (hdue : s.snag.snapAt + 600000000000 ≤ s.tb.count) : exec .snapshotTimer s = .next (takeSnapshot s) :=
  if_pos (by simp [(alive_iff s).2 hc, sinceReady, hr, now, hdue])
end
theorem exec_snapshotTimer_early {s : State} (h : s.tb.count < s.snag.snapAt + 600000000000) : exec .snapshotTimer s = .next s :=
  if_neg (by simp [now, Nat.not_le.2 h])
/-- A snapshot joins the log queue where the life cycle permits log writes and the queue has room (R104, R414). -/
theorem takeSnapshot_queued {s : State} (hp : logWrites s = true) (hroom : s.nvm.queue.length < 32) : takeSnapshot s =
    { s with nvm := { s.nvm with queue := s.nvm.queue ++ [.snap (snapshotOf s)] }, snag := { s.snag with snapAt := s.tb.count } } := by
  rw [takeSnapshot, logOther, if_neg (by simp [hp]), if_neg (Nat.not_le.2 hroom)]
  rfl

/-! ## SNG_LOG_LO_READ (R412) -/

/-- SNG_LOG_LO of an entry. -/
def LogEnt.loWord (e : LogEnt) : W32 :=
  word [(e.unit, 0, 11), (e.code, 16, 8), (e.cls, 24, 3), (b2n e.recov, 28, 1), (b2n e.latched, 29, 1), (b2n e.forced, 30, 1), (1, 31, 1)]
theorem exec_sngLogLoRead_entry {s : State} {e : LogEnt} {rest : List LogEnt} (hc : s.su.cond = .run ∨ s.su.cond = .safe)
    (hlog : s.snag.log = e :: rest) : exec .sngLogLoRead s =
      .next (rpData { s with snag := { s.snag with log := rest, logHi := w32 (e.stamp / 1024) } } e.loWord) := by
  show execSngLogLoRead s = _
  rw [execSngLogLoRead, if_neg (by simp [(alive_iff s).2 hc]), hlog]
  rfl
theorem exec_sngLogLoRead_empty {s : State} (hc : s.su.cond = .run ∨ s.su.cond = .safe) (hlog : s.snag.log = []) :
    exec .sngLogLoRead s = .next (rpData s 0) := by
  show execSngLogLoRead s = _
  rw [execSngLogLoRead, if_neg (by simp [(alive_iff s).2 hc]), hlog]

/-! ## CLEAN_PERIOD (R415) -/

/-- A tile at CLEAN_PERIOD, n ns of run time in READY. -/
def Tile.cleaned (n : Nat) (t : Tile) : Tile :=
  if t.cleanRun + 86400000000000 ≤ n then { t with summary := sumClean t.summary, cleanRun := t.cleanRun + 86400000000000 } else t
theorem exec_cleanPeriod (s : State) : exec .cleanPeriod s =
    .next (mapZones s fun _ zn => { zn with tiles := zn.tiles.map (Tile.cleaned s.snag.runNs) }) := by
  show execCleanPeriod s = _
  unfold execCleanPeriod Tile.cleaned
  rfl
theorem getD_map_of_lt {α β : Type} {l : List α} {i : Nat} (h : i < l.length) (f : α → β) {b : β} (a : α) :
    (l.map f).getD i b = f (l.getD i a) := by
  rw [List.getD_eq_getElem _ _ (by simpa using h), List.getD_eq_getElem _ _ h, List.getElem_map]
theorem tileD_cleaned {s : State} {z i : Nat} (hi : i < (zoneD s z).tiles.length) :
    tileD (mapZones s fun _ zn => { zn with tiles := zn.tiles.map (Tile.cleaned s.snag.runNs) }) z i =
      (tileD s z i).cleaned s.snag.runNs := by
  rw [tileD, zoneD_mapZones (lt_zones_of_tile hi)]
  exact getD_map_of_lt hi _ {}
/-- CLEAN and ISO_N of a tile's summary after a clean period; the field between them stays. -/
theorem sumClean_toNat (x : BitVec 16) : (sumClean x).toNat =
    (if 29 ≤ bitsOf x.toNat 8 8 then bitsOf x.toNat 0 4 - 1 else bitsOf x.toNat 0 4) + bitsOf x.toNat 4 4 * 16 +
      (if 29 ≤ bitsOf x.toNat 8 8 then 0 else bitsOf x.toNat 8 8 + 1) * 256 := by
  have hx := x.isLt
  simp only [sumClean, BitVec.toNat_ofNat, fields_cons, fields_nil]
  by_cases h : 29 ≤ bitsOf x.toNat 8 8
  · simp only [if_pos h, if_pos (show 30 ≤ bitsOf x.toNat 8 8 + 1 by omega)]
    simp only [bitsOf] at h ⊢
    omega
  · simp only [if_neg h, if_neg (show ¬30 ≤ bitsOf x.toNat 8 8 + 1 by omega)]
    simp only [bitsOf] at h ⊢
    omega
theorem sumClean_of_few {x : BitVec 16} (h : bitsOf x.toNat 8 8 < 29) :
    bitsOf (sumClean x).toNat 8 8 = bitsOf x.toNat 8 8 + 1 ∧ bitsOf (sumClean x).toNat 0 8 = bitsOf x.toNat 0 8 := by
  rw [sumClean_toNat, if_neg (by omega), if_neg (by omega)]
  simp only [bitsOf] at h ⊢
  omega
theorem sumClean_of_thirtieth {x : BitVec 16} (h : bitsOf x.toNat 8 8 = 29) :
    bitsOf (sumClean x).toNat 8 8 = 0 ∧ bitsOf (sumClean x).toNat 0 4 = bitsOf x.toNat 0 4 - 1 := by
  rw [sumClean_toNat, if_pos (by omega), if_pos (by omega)]
  simp only [bitsOf]
  omega

/-! ## O51 -/

/-- Settles O51: a recovery and a power-down by what they leave of the zones, the force bits by what is cleared and set, and each other
command by its equation where it acts. -/
theorem recoveryPowerDownAliveSnapshotsAndForces : Obligations.RecoveryPowerDownAliveSnapshotsAndForces := by
  unfold Obligations.RecoveryPowerDownAliveSnapshotsAndForces
  refine ⟨fun c u h s hc hh hrec hlen => ?recovery, fun c u h s hh hno => ?held, fun h s hh hj hdue => ?stage,
    fun h s hh hm hj hdue => ⟨_, exec_haltMsfOff hh hm hj hdue, rfl, rfl, rfl, rfl⟩,
    fun s hr hi hdone hk => exec_aliveToggle hr hi hdone hk, fun s h => exec_aliveToggle_still h,
    fun s hc hr => ⟨_, exec_sngCmdHalt hc hr 0x5A, report_mem_inbox .., rfl⟩,
    fun c s hc hr hne => (exec_sngCmdHalt hc hr c).trans (congrArg _ (if_neg hne)),
    fun s hc hr hp hroom => (exec_sngCmdSnapshot hc hr).trans (congrArg _ (takeSnapshot_queued hp hroom)),
    fun s hc hr hp hroom hdue => (exec_snapshotTimer hc hr hdue).trans (congrArg _ (takeSnapshot_queued hp hroom)),
    fun s h => exec_snapshotTimer_early h, fun k i c w s hc hr hk hi hw hp hbase hnew => ?set, fun k w s hc hr hk hw hp => ?forbidden,
    fun k s hc hr hk => ?clear, fun e rest s hc hlog => ⟨_, exec_sngLogLoRead_entry hc hlog, rfl, rfl, rfl⟩,
    fun s hc hlog => exec_sngLogLoRead_empty hc hlog, fun z i s hi => ⟨_, exec_cleanPeriod s, rfl, ?clean⟩,
    fun x => ⟨sumClean_of_few, sumClean_of_thirtieth⟩⟩
  case recovery =>
    obtain ⟨rfl, rfl⟩ := heldOf_spec hh
    obtain ⟨hheld, hrecov, hpins, hsu, hmsf⟩ := recoverPair_spec hlen
    refine ⟨_, (exec_faultRecovery hh).trans (congrArg _ (if_pos (by simp [(alive_iff s).2 hc, hrec]))), isHeld_less_self hheld, hrecov,
      fun c2 u2 hne => isHeld_less_other hheld hne, recoverPair_zones_of_degrade, fun hd hn hi hhalt z hz hzs => ?_, hpins, hsu, hmsf⟩
    have hcls : h.cls = .zoneSafe ∨ h.cls = .instSafe := by
      have hhalt : h.cls ≠ .halt := fun h' => absurd (recovers_eq_false (s := s) (.inr (.inl h'))) (by simp [hrec])
      cases hc : h.cls with
      | note => exact absurd hc hn
      | degrade => exact absurd hc hd
      | zoneSafe => exact .inl rfl
      | instSafe => exact .inr rfl
      | halt => exact absurd hc hhalt
    exact recoverPair_releases hcls hi hhalt hz hzs
  case held =>
    obtain ⟨rfl, rfl⟩ := heldOf_spec hh
    rw [exec_faultRecovery hh, recovers_eq_false hno, Bool.and_false, if_neg Bool.false_ne_true]
  case stage =>
    have hoff := stageToOff_offFloat s ((stagesOf s).reverse.getD s.snag.haltStep 0)
    exact ⟨_, exec_haltStageOff hh hj hdue, rfl, fun z hz hg => stageToOff_stage hz hg, fun z hg => zoneD_stageToOff_other hg,
      (congrArg OffFloat.msf hoff :), (congrArg OffFloat.pins hoff :)⟩
  case set =>
    have hne : w ≠ 0 := fun h0 => by simp [h0] at hw
    obtain ⟨-, hunit, hcount⟩ := eq_of_offForce (clearForces_offForce k w s)
    have hset := forced_setForces hi hw hbase fun f hf => hnew f (mem_clearForces (k := k) (w := w) hf).1
    rw [hunit, hcount] at hset
    obtain ⟨hmem, hrep⟩ := hset
    exact ⟨_, (exec_sngForceWrite hc hr hk w).trans (congrArg _ ((if_neg hne).trans (if_pos hp))), hmem, hrep,
      (eq_of_offForce ((setForces_offForce k w _).trans (clearForces_offForce k w s))).1⟩
  case forbidden =>
    obtain ⟨hframe, -, hcount⟩ := eq_of_offForce (clearForces_offForce k w s)
    have hnote := note_mem_inbox (clearForces k w s) 0x01 0 none
    rw [hcount] at hnote
    exact ⟨_, (exec_sngForceWrite hc hr hk w).trans (congrArg _ ((if_neg hw).trans (if_neg (by simp [hp])))),
      fun f hf => (mem_clearForces hf).1, hnote, hframe⟩
  case clear =>
    refine ⟨_, (exec_sngForceWrite hc hr hk 0).trans (congrArg _ (if_pos rfl)), fun f hf => ?_, (eq_of_offForce (clearForces_offForce k 0 s)).1⟩
    obtain ⟨hold, hgone⟩ := mem_clearForces hf
    refine ⟨hold, fun hk => hgone (f.1 % 32) (Nat.mod_lt _ (by decide)) (by simp) ?_⟩
    omega
  case clean =>
    rw [tileD_cleaned hi]
    refine ⟨fun hdue => ?_, fun hearly => if_neg (Nat.not_le.2 hearly)⟩
    rw [Tile.cleaned, if_pos hdue]
    exact ⟨rfl, rfl⟩

end Sys2Proof.Machine
end
